-- ==== Sys2Proof/Word.lean ====
section
/-! DEFINITION. The word types of the KE512 register file and the small enumerations that commands and
state share (R4, R10, R15, R70, R219). -/

namespace Sys2Proof

/-- A register or a table word: 64 bits (R4). -/
abbrev Word := BitVec 64

/-- One byte. -/
abbrev Byte := BitVec 8

/-- One protected line of device memory: 128 bytes, byte 0 in bits 7..0 (scope, Terms). -/
abbrev Line := BitVec 1024

/-- The byte enables of a line, bit i for byte i (chapter 16, WDAT_BE). -/
abbrev ByteMask := BitVec 128

/-- A 256-bit key (R147, R347). -/
abbrev Key := BitVec 256

/-- The writer's path of an access or of a change set (R70, R71): BAR0, the Steward, or FM_. -/
inductive Path where
  | host
  | steward
  | fm
  deriving DecidableEq, Repr

/-- The access types of R10, and the two read-write variants RWS and LK. -/
inductive Access where
  | ro | rw | wo | w1c | w1s | rws | st | lk
  deriving DecidableEq, Repr

/-- The reset domains of R15. -/
inductive ResetDomain where
  | por | sys | epoch
  deriving DecidableEq, Repr

/-- The classes of an event record (R410). -/
inductive EventClass where
  | alarm | error | log | trace
  deriving DecidableEq, Repr

/-- The three kinds of station (R19). -/
inductive StationKind where
  | cluster | memory | link
  deriving DecidableEq, Repr

/-- The four engines of a core (R237, R420). -/
inductive Engine where
  | matrix | vector | scalar | dma
  deriving DecidableEq, Repr

/-- The three kinds of access the Hedge and the translation tell apart (R54, R102). -/
inductive AccessKind where
  | read | write | atomic
  deriving DecidableEq, Repr

/-- The verdict of a verify token (R160). -/
inductive Verdict where
  | pass | replay | fail
  deriving DecidableEq, Repr

/-- How a host DMA or an AtomicOp ended, as HP_MC_STATUS codes it (chapter 16, R426). -/
inductive DmaStatus where
  | success | unsupportedRequest | completerAbort | timeout
  deriving DecidableEq, Repr

end Sys2Proof
end

