-- ==== Sys2Proof/Syntax.lean ====
section
/-! DEFINITION. The commands and events of the KE512 as syntax: one constructor of `Instr` per row of
spec/opcode_table.json, in the table's order. The structures before it are the payloads several rows share. An operand is what comes from
outside the block with the command (a bus access, a message, read data, a measured value); everything else an effect
needs stands in the state. -/

namespace Sys2Proof

/-- One access to a BAR as HP_T_ presents it, with the PASID of its prefix, or the Steward's access to an offset of BAR0 (R5,
R42, R71, R279, chapter 16). -/
structure Bar0Access where
  path   : Path
  /-- 0, 2 or 4. -/
  bar    : Nat
  pasid  : Option Nat
  write  : Bool
  offset : Nat
  bytes  : Nat
  value  : Word
  tag    : Nat
  deriving DecidableEq, Repr

/-- One request transferred on CPk_REQ (R420): port, control word, transaction ID, address word. -/
structure Req where
  port : Nat
  ctl  : BitVec 32
  txn  : Nat
  addr : Word
  deriving DecidableEq, Repr

/-- The physical readings one PUF attempt gives: 64 blocks of 255 bits (R339). -/
abbrev PufReading := List (BitVec 255)

/-- What the silicon gives a run of the start-up sequence (R433): the readings of up to four PUF attempts (R340), the
result of the entropy test (R345), a domain that does not come up at STEP 2 (R435), and the time it takes. -/
structure StartUp where
  puf       : List PufReading
  entropyOk : Bool
  dead      : Option Nat
  elapsedNs : Nat
  deriving DecidableEq, Repr

/-- A firmware image as its DMA brought it: its bytes (R437). -/
abbrev ImageBytes := List Byte

/-- A fetched ring command: the eight words W0–W7 (R283). -/
abbrev CmdWords := List Word

/-- A Kumen attestation statement as received from a peer: its bytes (R358). -/
abbrev PeerStatement := List Byte

/-- A KLF flit as LPk_RX presents it: the header fields of R324 and the body bytes. -/
structure Flit where
  cls     : Nat
  last    : Bool
  index   : Nat
  phase   : Bool
  credits : Nat
  wireTag : Nat
  fsn     : Nat
  body    : List Byte
  deriving DecidableEq, Repr

/-- One expert-map entry as the planner reads it (R192), four words. -/
abbrev ExpertWords := List Word

/-- What a monitor sample reads (R396): 48 temperatures in 1/8 °C (two's complement, 16 bits), 32 voltages in mV and
16 ring-oscillator counts. -/
structure MonitorSample where
  temps    : List (BitVec 16)
  volts    : List Nat
  counts   : List Nat
  deriving DecidableEq, Repr

/-- Where a DMA or table read of a page migration found its answer (R136). -/
inductive CasResult where
  | swapped | differs | unsupported
  deriving DecidableEq, Repr

/-- Which SRAM the patrol met an error in (R394, R395, R348, R173). -/
inductive PatrolTarget where
  | keySlot (slot : Nat)
  | counterNode (port level index : Nat)
  | tagLine (port tagLine : Nat)
  | journalStore (station : Nat)
  | otherRow (sram row : Nat)
  /-- A word of OTP outside the state area, uncorrectable at read (R384). -/
  | otpWord (w : Nat)
  deriving DecidableEq, Repr

/-- A JOURNAL record of an image (R316): context, tag, remaining lifetime, routes (token, rank, kind, expert, slot, weight),
dispatch command and map entries. -/
structure JournalImage where
  ctx     : Nat
  jtag    : Nat
  ttlNs   : Nat
  routes  : List (List Nat)
  words   : CmdWords
  experts : List (Nat × ExpertWords)
  deriving DecidableEq, Repr

/-- What the records of an image hold that CONTINUE writes (R316, R321): data lines and pound lines of granules (granule
offset in the window, source KeyID, line), object records (kind, index, words), heap maps (context, heap, granule, code),
journals, and mailbox words. -/
structure RestoreImage where
  lines    : List (Nat × Nat × Nat × Line)
  pounds   : List (Nat × Nat)
  records  : List (Nat × Nat × List Word)
  heaps    : List (Nat × Nat × Nat × Nat)
  journals : List JournalImage
  mailbox  : List (Nat × Word)
  deriving DecidableEq, Repr

/-- The commands and events of the KE512. The number in each docstring's end is the rule the table gives the row. -/
inductive Instr where
  /-- RST_POR_N is asserted (R15). -/
  | porAssert
  /-- RST_SYS_N is asserted and released, with what the restart meets (R431). -/
  | sysReset (x : StartUp)
  /-- RST_POR_N is released (R433). -/
  | porRelease (x : StartUp)
  /-- A write of STW_IMG_CTL.GO with a PASID (R436). -/
  | go (path : Path) (pasid : Nat)
  /-- Both images have arrived (R437); `deadDomain` names a domain that did not come up in time (R435). -/
  | imageFetchDone (opgar policy : ImageBytes) (deadDomain : Option Nat) (elapsedNs : Nat)
  /-- A write of STW_STATUS.READY (R433). -/
  | ready (path : Path)
  /-- A BAR0 access to a register (R10), or an access to a doorbell page or a mailbox that is no write of one of their own rows
  (R42, R279). -/
  | registerWrite (a : Bar0Access)
  /-- A write to a register with ST fields (R13). -/
  | stFieldWrite (path : Path) (offset : Nat) (value : Word)
  /-- Setting bit `n` of GLB_PD_REQ (R30). -/
  | pdOnRequest (path : Path) (n : Nat)
  /-- Clearing bit `n` of GLB_PD_REQ (R26). -/
  | pdOffRequest (path : Path) (n : Nat)
  /-- Domain `n` finishes switching on (R30). -/
  | pdOn (n : Nat)
  /-- Domain `n` finishes switching off (R29). -/
  | pdOffComplete (n : Nat)
  /-- The supply of the non-switchable domains is removed (R25). -/
  | supplyRemoved
  /-- CK_ACLK stops (R87). -/
  | aclkStopped
  /-- CK_ACLK runs again (R87). -/
  | aclkRestored
  /-- A station's GTB copy locks; `skewPs` is its measured offset (R88). -/
  | gtbCopyLocked (kind : StationKind) (k : Nat) (skewPs : Nat)
  /-- OPEN of a change set (R69); `seq` is the FM message's SEQ. -/
  | csOpen (path : Path) (seq : Nat)
  /-- SELECT (R71). -/
  | csSelect (path : Path) (ticket : Nat)
  /-- An STG_ENTRY_W1 write with the path's W0, or an FM CS_STAGE (R75). -/
  | csStage (path : Path) (ticket : Nat) (w0 w1 : Word) (seq : Nat)
  /-- CHECK (R77). -/
  | csCheck (path : Path) (ticket : Nat) (seq : Nat)
  /-- ABANDON (R74). -/
  | csAbandon (path : Path) (ticket : Nat) (seq : Nat)
  /-- A read of STG_CS_REFUSE[slot] (R74). -/
  | csRefuseRead (path : Path) (slot : Nat)
  /-- An FM_ message of unknown TYPE (R67). -/
  | messageInvalid (type seq : Nat)
  /-- An FM_ METER_POLL (R67). -/
  | meterPoll (tag seq : Nat)
  /-- The GTB reaches a multiple of the metering interval (R68). -/
  | meterReport
  /-- The idle Moot takes the next set (R77). -/
  | checkBegin
  /-- The running check ends (R79). -/
  | checkEnd
  /-- A station acknowledges the staged state (R85). -/
  | stationAck (kind : StationKind) (k : Nat)
  /-- T − 2 µs with an acknowledgement missing (R85). -/
  | distributionTimeout
  /-- A set is still PENDING_SCRUB after 2 ms (R84). -/
  | scrubOverrun (slot : Nat)
  /-- The commit instant T (R86). -/
  | commitInstant
  /-- A station's drain count is 0 (R63). -/
  | stubRelease (kind : StationKind) (k : Nat)
  /-- T + 50 µs at a station that still drains (R64). -/
  | drainTimeout (kind : StationKind) (k : Nat)
  /-- The teardown of a disabled slice ends (R39). -/
  | sliceTeardownDone (slice : Nat)
  /-- The flush of the changed granules completes (R258). -/
  | flushComplete
  /-- The scrub of a granule completes (R159). -/
  | scrubDone (granule : Nat)
  /-- The SRAM of a core unbound at T is zero (R60). -/
  | coreSramZeroDone (core : Nat)
  /-- A PM_UPD pulse (R92, R400). -/
  | pmUpd (floorMhz capW : Nat)
  /-- The audit after a fall of the floor (R401). -/
  | audit
  /-- A 1 µs measurement of FCLK (R400). -/
  | clockMeasurement (mhz : Nat)
  /-- The 100 µs slack hint (R402). -/
  | slackHint
  /-- The 1 ms energy report (R403). -/
  | sliceEnergyReport
  /-- A droop detected in domain `n`, or PM_DROOP_WARN when none is named (R398). -/
  | droop (domain : Option Nat) (monitor : Nat)
  /-- A tamper condition at monitor `monitor` (R399). -/
  | tamper (monitor : Nat) (millivolts : Nat) (cold : Bool)
  /-- A sample of all monitors (R396). -/
  | tempSample (m : MonitorSample)
  /-- The PD0 comparator sees more than 125 °C (R397). -/
  | tempTrip (sensor : Nat)
  /-- READ on a cluster port (R256). -/
  | read (r : Req)
  /-- READ_UNIQUE on a cluster port (R256). -/
  | readUnique (r : Req)
  /-- WRITE on a cluster port with its WDAT beats (R162). -/
  | write (r : Req) (beats : List (Line × ByteMask))
  /-- ATOMIC on a cluster port with its operands (R242). -/
  | atomic (r : Req) (operand compare : Word)
  /-- FENCE on a cluster port (R248). -/
  | fence (r : Req)
  /-- An allocator request with OP ALLOC (R292). -/
  | alloc (r : Req)
  /-- An allocator request with OP FREE (R292). -/
  | free (r : Req)
  /-- A held-write buffer is full for core `core`'s next write (R163). -/
  | checkpoint (core : Nat)
  /-- The walk for a deferred request ends, and the request is judged again (R104). -/
  | walkComplete (port txn : Nat)
  /-- A table read of a walk took over 100 µs (R104). -/
  | walkReadTimeout (port txn : Nat)
  /-- The compare-and-swap of a migration ends (R136). -/
  | migrationCasResult (core : Nat) (result : CasResult)
  /-- A DMA engine needs the rest of its descriptor, from byte `pos` of its length on, translated (R121). -/
  | extentRetranslate (core pos : Nat)
  /-- A completion on HP_MC (R426). -/
  | hostDmaCompletion (tag : Nat) (status : DmaStatus) (data : List Word)
  /-- A ring read or record write exceeds 100 µs (R299). -/
  | ringDmaTimeout (queue : Nat)
  /-- XLT_INV_CMD scope 1 (R123). -/
  | invDvaRange (path : Path) (context pagesM1 : Nat)
  /-- XLT_INV_CMD scope 2 (R123). -/
  | invHvaRange (path : Path) (pasid pagesM1 : Nat)
  /-- XLT_INV_CMD scope 3 (R123). -/
  | invContext (path : Path) (context : Nat)
  /-- XLT_INV_CMD scope 4 (R123). -/
  | invSlice (path : Path) (slice : Nat)
  /-- An acknowledger acknowledges invalidation `seq` (R124). -/
  | invAck (seq : Nat) (acknowledger : Nat)
  /-- XLT_CTL.CACHE_FLUSH (R113). -/
  | cacheFlush (path : Path)
  /-- The cache flush ends (R113). -/
  | cacheFlushDone
  /-- XLT_FAULT_RESOLVE RETRY (R133). -/
  | retry (path : Path) (context seq : Nat)
  /-- XLT_FAULT_RESOLVE KILL (R133). -/
  | kill (path : Path) (context seq : Nat)
  /-- A write of XLT_FR_TAIL (R131). -/
  | faultRingTail (path : Path) (index : Nat)
  /-- 10 µs after the first record of a batch (R132). -/
  | faultBatchTimer
  /-- Memory station `port` accepts the waiting operation `op` (R160). -/
  | memoryOpAccept (port op : Nat)
  /-- Read data for command `tag` return on MPk_RD (R160). -/
  | dramReadReturn (port tag : Nat) (data : Line) (poison : Bool)
  /-- The line MAC of the operation in `slot` is complete (R160). -/
  | macVerdict (port slot : Nat)
  /-- 1 µs without an atomic to a buffered line of a memory station (R179). -/
  | atomicBufferIdle (port line : Nat)
  /-- 1 µs without an atomic to a buffered line of a cluster station (R244). -/
  | clusterAtomicBufferIdle (station line : Nat)
  /-- A verdict reaches cluster station `port` for transaction `txn` (R162). -/
  | verifyVerdict (port txn : Nat) (v : Verdict) (code : Nat)
  /-- The RSP for released write `id` arrives; `code` is 0 or its bus error (R162). -/
  | releasedWriteRsp (port id code : Nat)
  /-- A raw master's read (R180). -/
  | rawRead (jtag : Bool) (pa : Nat)
  /-- A raw master's write (R181). -/
  | rawWrite (jtag : Bool) (pa : Nat) (data : Line) (be : ByteMask)
  /-- A write of CTR_POUND_CLEAR (R177). -/
  | poundClear (path : Path) (port level line : Nat)
  /-- The pound clear completes (R177). -/
  | poundClearDone
  /-- A write of MIL_RETIRE (R183). -/
  | keyidRetire (path : Path) (keyid : Nat)
  /-- The retirement completes (R183). -/
  | retirementDone
  /-- HDG_CTL.CNT_CLEAR (R56). -/
  | hdgCntClear (path : Path)
  /-- MIL_CTL.CNT_CLEAR (R171). -/
  | milCntClear (path : Path)
  /-- CTR_CTL.CNT_CLEAR (R173). -/
  | ctrCntClear (path : Path)
  /-- DRV_CTL.CNT_CLEAR (R195). -/
  | drvCntClear (path : Path)
  /-- SCH_CTL.CNT_CLEAR (R222). -/
  | schCntClear (path : Path)
  /-- COH_CTL.CNT_CLEAR (R253). -/
  | cohCntClear (path : Path)
  /-- The planner, which has read the expert map and whose routing table the home cores have sent, places the routes (R194). -/
  | planDone (queue : Nat) (routing : List (List Word))
  /-- Transfer `index` of a Drover phase ends with the row it carried (R200); `code` is 0, or the code that stopped it.
  The transfers are the journal's routes in order, and after them the fill-count sectors (R193). -/
  | droverTransferRsp (context jtag index : Nat) (row : List Byte) (code : Nat)
  /-- A journal's lifetime ends (R205). -/
  | journalExpired (context jtag : Nat)
  /-- Both copies of a journal are lost (R208). -/
  | journalLost (context jtag : Nat)
  /-- The engines of core `core` end their tile, `ns` after its start (R219). -/
  | tileEnd (core ns : Nat)
  /-- 4 × DECL after the tile's start (R220). -/
  | tileWatchdog (core : Nat)
  /-- A preload ends: every read of it has (R228). -/
  | preloadDone (slot : Nat)
  /-- The share of a leaving context is zero (R229). -/
  | shareZeroDone (slot : Nat)
  /-- A CPk_UE pulse (R384). -/
  | coreUe (port core : Nat)
  /-- No CPk_HB toggle for 1 µs (R384). -/
  | coreHeartbeatTimeout (port core : Nat)
  /-- The SRAM copy of a core substitution ends; the share units an uncorrectable word was met in (R233, R234). -/
  | coreSubstitutionDone (core : Nat) (badUnits : List Nat)
  /-- WRITEBACK on WDAT (R261). -/
  | writeback (port core line : Nat) (data : Line)
  /-- EVICT on WDAT (R256). -/
  | evict (port core line : Nat)
  /-- ACK_I on SRSP (R259). -/
  | ackI (port core sid : Nat)
  /-- ACK_S on SRSP (R259). -/
  | ackS (port core sid : Nat)
  /-- DATA_DIRTY on SRSP with its WDAT beat (R259). -/
  | dataDirty (port core sid : Nat) (data : Line)
  /-- WB_PENDING on SRSP (R261). -/
  | wbPending (port core sid : Nat)
  /-- A snoop is unanswered at 10 µs (R257). -/
  | snoopTimeout (sid : Nat)
  /-- OBJ_CMD CREATE (R274). -/
  | objCreate (path : Path) (kind index : Nat)
  /-- OBJ_CMD ACTIVATE (R275). -/
  | objActivate (path : Path) (kind index : Nat)
  /-- OBJ_CMD DEACTIVATE (R272). -/
  | objDeactivate (path : Path) (kind index : Nat)
  /-- OBJ_CMD DESTROY (R294); `fences` are the fences that the queued commands name, as HIF reads them from the rings
  it discards. -/
  | objDestroy (path : Path) (kind index slice : Nat) (fences : List Nat)
  /-- OBJ_CMD SIGNAL (R286). -/
  | objSignal (path : Path) (kind index code : Nat)
  /-- OBJ_CMD RESET (R272). -/
  | objReset (path : Path) (kind index : Nat)
  /-- A write of OBJ_REC_DATA[i] (R267). -/
  | objRecordWrite (path : Path) (w : Nat) (value : Word)
  /-- A write of OBJ_CTL.ENABLE (R266). -/
  | objEnable (path : Path) (enable : Bool)
  /-- A context's teardown finishes (R294). -/
  | contextTeardownDone (context : Nat)
  /-- A RELEASING memory object may go (R290). -/
  | memoryObjectFreed (index : Nat)
  /-- A doorbell write of SQ_TAIL (R280). -/
  | sqTail (queue value : Nat) (pasid : Option Nat) (bytes : Nat)
  /-- A doorbell write of CQ_HEAD (R280). -/
  | cqHead (queue value : Nat) (pasid : Option Nat) (bytes : Nat)
  /-- A waiting queue receives a slot (R282). -/
  | queueSlotGrant (queue : Nat)
  /-- A fetched NOP (R283). -/
  | nop (queue : Nat) (w : CmdWords)
  /-- A fetched TILE (R218). -/
  | tile (queue : Nat) (w : CmdWords)
  /-- A fetched DMA_COPY (R284). -/
  | dmaCopy (queue : Nat) (w : CmdWords)
  /-- A fetched DMA_FILL (R284). -/
  | dmaFill (queue : Nat) (w : CmdWords)
  /-- A fetched DISPATCH (R187). -/
  | dispatch (queue : Nat) (w : CmdWords)
  /-- A fetched COMBINE (R188). -/
  | combine (queue : Nat) (w : CmdWords)
  /-- A fetched FENCE_SIGNAL (R286). -/
  | fenceSignal (queue : Nat) (w : CmdWords)
  /-- A fetched FENCE_WAIT (R287). -/
  | fenceWait (queue : Nat) (w : CmdWords)
  /-- The waiter of queue `queue` wakes (R287). -/
  | fenceWaitWake (queue : Nat)
  /-- A fetched FENCE_RESET (R272). -/
  | fenceReset (queue : Nat) (w : CmdWords)
  /-- A fetched OBJ_REF (R289). -/
  | objRef (queue : Nat) (w : CmdWords)
  /-- A write of OBJ_NR_TAIL (R277). -/
  | noticeRingTail (path : Path) (index : Nat)
  /-- A tenant's write of `bytes` bytes to T2M_TAIL, after its writes of the mailbox words `slots` (R300–R302). -/
  | t2mTail (slice value : Nat) (pasid : Option Nat) (bytes : Nat) (slots : List (Nat × Word))
  /-- A tenant's write of `bytes` bytes to M2T_HEAD (R302). -/
  | m2tHead (slice value : Nat) (pasid : Option Nat) (bytes : Nat)
  /-- The manager's write of T2M_HEAD (R304). -/
  | t2mHead (path : Path) (slice value : Nat)
  /-- The manager's write of M2T_TAIL (R305). -/
  | m2tTail (path : Path) (slice value : Nat)
  /-- TEN serves a QUERY (R303). -/
  | query (slice : Nat)
  /-- TEN serves an ATTEST; `bufferCode` is 0, or the code the buffer's translation met; `pages` are the PA and the leaf's
  KeyID of the buffer's two 4 KiB pages (R305). -/
  | tenAttest (slice bufferCode : Nat) (pages : List (Nat × Nat))
  /-- TEN meets a manager message (R304). -/
  | managerMessage (slice : Nat)
  /-- TEN meets an unserved TYPE (R304). -/
  | t2mTypeInvalid (slice : Nat)
  /-- TEN_CMD FREEZE (R312). -/
  | freeze (path : Path) (slice : Nat)
  /-- A FREEZING slice has come to rest (R312). -/
  | sliceFrozen (slice : Nat)
  /-- TEN_CMD THAW (R313). -/
  | thaw (path : Path) (slice : Nat)
  /-- TEN_CMD SAVE with the offer read at TEN_MIG_OFFER (R315). -/
  | save (path : Path) (slice : Nat) (offer : PeerStatement) (pubKeys : List Byte)
  /-- The last image record is written (R316), or a host write of the image failed with `code` 0x140E (R318). -/
  | saveDone (code : Nat)
  /-- TEN_CMD OFFER (R314). -/
  | offer (path : Path)
  /-- TEN_CMD RESTORE with what the image's HEAD and records say (R319). -/
  | restore (path : Path) (slice : Nat) (tagsOk : Bool) (cores channels links : Nat) (commons : List Nat)
      (granules : List Nat) (objects : List (Nat × Nat)) (shares : List Nat)
  /-- The image's keys are unwrapped: source KeyID and key each (R320). -/
  | restoreKeysReady (keys : List (Nat × Key))
  /-- TEN_CMD CONTINUE (R321). -/
  | restoreContinue (path : Path) (slice : Nat)
  /-- The restore finishes, with what the image's records hold, or stops with `code` (R318, R321). -/
  | restoreDone (records code : Nat) (image : RestoreImage)
  /-- TEN_CMD DISCARD (R322); `fences` are the fences that the queued commands name. -/
  | discard (path : Path) (slice : Nat) (fences : List Nat)
  /-- TEN_CMD CANCEL (R321). -/
  | tenCancel (path : Path) (slice : Nat)
  /-- A write of TEN_MIG_LEN (R318). -/
  | migBufferHandover (path : Path) (pages : Nat)
  /-- A flit on LPk_RX (R326). -/
  | klfFlit (port : Nat) (f : Flit)
  /-- A peer's replay request names an FSN (R326). -/
  | linkReplayRequest (port fsn : Nat)
  /-- A write of LNK_KX_CMD (R328); `up` is LPk_UP as the station samples it then (R337). -/
  | kxStart (path : Path) (port slotTx slotRx : Nat) (up : Bool)
  /-- A received KX_HELLO (R329). -/
  | kxHello (port : Nat) (st : PeerStatement) (pubKeys : List Byte)
  /-- A received KX_FINISH (R330). -/
  | kxFinish (port : Nat) (ciphertext : List Byte)
  /-- A received KX_CONFIRM (R330). -/
  | kxConfirm (port : Nat) (mac : List Byte)
  /-- 10 ms after KX_START (R329). -/
  | kxTimeout (port : Nat)
  /-- A write of LNK_RETIRE (R331). -/
  | linkRetire (path : Path) (port : Nat) (phase : Bool)
  /-- The retire's conditions hold (R331). -/
  | linkRetireDone (port : Nat)
  /-- 2^39 groups under a phase (R327). -/
  | rekeyDue (port : Nat)
  /-- 2^40 groups under a phase (R327). -/
  | sealLimit (port : Nat)
  /-- LPk_UP falls (R337). -/
  | linkDown (port : Nat)
  /-- A corrected-symbol pulse on lane `lane` (R338). -/
  | laneCe (port lane : Nat)
  /-- A lane-lost report (R338). -/
  | laneLost (port lane : Nat)
  /-- A peer's LANE_MAP message (R338). -/
  | laneMap (port lane : Nat)
  /-- The retraining window opens (R338). -/
  | retrainingWindow (port : Nat)
  /-- LPk_RETRAIN_ACK (R338). -/
  | retrainAck (port : Nat)
  /-- KEY_CMD GENERATE (R349). -/
  | generate (path : Path) (attr target : Nat)
  /-- KEY_CMD DERIVE (R349). -/
  | derive (path : Path) (attr parent target : Nat)
  /-- KEY_CMD UNWRAP (R349). -/
  | unwrap (path : Path) (attr parent target : Nat)
  /-- KEY_CMD SEAL (R349). -/
  | seal (path : Path) (parent : Nat)
  /-- KEY_CMD UNSEAL (R349). -/
  | unseal (path : Path) (target : Nat)
  /-- KEY_CMD ESTABLISH (R351). -/
  | establish (path : Path) (slice target : Nat)
  /-- KEY_CMD ACCEPT (R351). -/
  | accept (path : Path) (target : Nat)
  /-- KEY_CMD DESTROY (R357). -/
  | keyDestroy (path : Path) (target : Nat)
  /-- KEY_CMD ATTEST (R349). -/
  | keyAttest (path : Path) (slice : Nat)
  /-- KEY_CMD ENDORSE (R362). -/
  | endorse (path : Path)
  /-- KEY_CMD ENROLL; the eight readings of the array (R342). -/
  | enroll (path : Path) (readings : List PufReading)
  /-- The running KEY_CMD command ends (R349). -/
  | keyCmdDone
  /-- An entropy health test fails (R345). -/
  | entropyFail
  /-- 2^20 requests since the last seeding (R345). -/
  | reseed
  /-- One patrol period: the symbols it corrected in all, those of each memory station's SRAM (R173), SRAM macros with the symbols
  corrected in one of their rows within 1 s (R384), and the uncorrectable words it met (R395). -/
  | patrol (corrected : Nat) (mills worn : List (Nat × Nat)) (uncorrectable : List PatrolTarget)
  /-- A write of LCS_XCMD from the Steward path, JT_ or the host (R376). -/
  | lcTransition (fromJtag : Bool) (path : Path) (targetLc : Nat)
  /-- DONE of the running transition is programmed (R376). -/
  | lcTransitionReset (x : StartUp)
  /-- An OTP word fails read-back after three attempts (R376). -/
  | programFail
  /-- LCS_DBG_CMD CHALLENGE (R378). -/
  | challenge (fromJtag : Bool) (path : Path) (level : Nat)
  /-- LCS_DBG_CMD RESPOND (R380). -/
  | respond (fromJtag : Bool) (path : Path)
  /-- A write of LCS_GATE.CLOSE (R381). -/
  | gateClose (path : Path)
  /-- A JT_ instruction is selected (R429). -/
  | jtagInstruction (code : Nat)
  /-- The duplicated check logic disagrees three times in 1 ms (R388). -/
  | checkLogicDisagree (station : Nat)
  /-- The SRAM copy into the spare cluster completes (R388). -/
  | clusterSubstitutionDone (station : Nat)
  /-- An MPk_CE pulse (R384). -/
  | memoryCe (port : Nat)
  /-- One leaf of the rebuilding channel is moved: lines lost to MAC failure and to poison (R391, R392). -/
  | rebuildLeaf (macLost poisonLost : List Nat)
  /-- A parity failure in an AES pipeline (R384). -/
  | aesPipelineFail (kind : StationKind) (k pipeline : Nat)
  /-- A Steward core without heartbeat for 1 ms (R384). -/
  | stewardHeartbeatTimeout (core : Nat)
  /-- A write of IRQ_TEST (R408). -/
  | irqTest (path : Path) (set : Bool)
  /-- Writing 1 to an alarm latch's PENDING (R412). -/
  | alarmAck (path : Path) (latch : Nat)
  /-- The Crier writes the next record of ring `ring` (R411). -/
  | crierRecordWrite (ring : Nat)
  /-- The oldest held ERROR record has waited HOLD_US (R414). -/
  | errorHoldExpired
  /-- IRQ_TIMER_US after the first record of ring `ring` (R416). -/
  | ringIrqTimer (ring : Nat)
  /-- A write of TRC_RING_TAIL (R411). -/
  | crierRingTail (path : Path) (ring index : Nat)
  /-- ENTDAA assigns a dynamic address (R428). -/
  | i3cEntdaa (address : Nat)
  /-- An I3C read of a register (R428). -/
  | i3cRead (offset : Nat)
  /-- An I3C write (R428). -/
  | i3cWrite (offset : Nat) (value : Word)
  /-- A mover unit fails its self-check (R384). -/
  | moverSelfCheckFail (station : Nat)
  /-- A fetched command with an unassigned OPCODE (R283). -/
  | commandInvalid (queue : Nat) (w : CmdWords)
  /-- An OBJ_CMD write with OP 0 or 7–15 (R273). -/
  | objCmdOpInvalid (path : Path) (op : Nat)
  /-- A firmware image read takes over 100 µs (R437). -/
  | imageDmaTimeout
  /-- A tile of an aborting context has run its DECL (R294). -/
  | tileKilledAtDecl (core : Nat)
  /-- The last beat of posted write `id` is taken on HP_MW (R426). -/
  | postedWriteTaken (id : Nat)
  deriving DecidableEq, Repr

end Sys2Proof
end

