-- ==== Sys2Proof/Config.lean ====
section
/-! DEFINITION. What the spec leaves to the silicon or to a published standard, as constants without a body: the
cryptographic functions the spec names and does not define (their standards do), the constants of the boot ROM, the
draws of the random source, and the free values. Nothing can compute them, so whatever is proved holds for all of
them. -/

namespace Sys2Proof.Config

open Sys2Proof

/-! ## Free values -/

/-- The `i`-th free 64-bit value taken. -/
opaque freeWord : Nat → Word

/-- The `i`-th free line taken: what a memory reads as where the spec states no value. -/
opaque freeLine : Nat → Line

/-- Sign and payload of the NaN an FADD of two FP32 operands gives where the sum is no number. -/
opaque nanBits : Nat → Nat → BitVec 23

/-- The messages that a verified flit group's bodies carry (R324): the spec states no layout of them. Each is a number
list: 0 REQ read [0, txn, pa, beats, keyid], 1 REQ write [1, txn, pa, keyid, data, byte enables], 2 atomic
[2, txn, pa, keyid, op, eight, operand, compare], 3 data [3, txn, beat, spec, line, data], 4 RSP [4, txn, code, value],
5 verdict [5, txn, verdict, code], 6 acknowledgement of groups below an FSN [6, fsn], 7 a Drover's read of a core's SRAM
[7, core, offset, bytes], 8 its write [8, core, offset, bytes, data]. In 3 to 5 a transaction of this chip is (id × 2 + 1 for a write)
× 68 + cluster station, with the number of the access or of the released write as its id. -/
opaque linkMessages : List Byte → List (List Nat)

/-- The peer's port number of link port `p`, which the IV of a received group holds (R325) and no register names. -/
opaque peerPort : Nat → Nat

/-- Which of the codes that fit a partly written OTP generation is meant (R372), from its first two copies. -/
opaque partialTarget : Word → Word → Nat

/-! ## The migration image: what R316 names without a layout -/

/-- HEAD's payload: IMAGE_ID, the P-384 key, the ML-KEM ciphertext, the counts (version 1, cores, channels, link ports,
records) and the slice's commons membership words. -/
opaque imageHead : List Byte → List Byte → List Byte → List Nat → List Word → List Byte

/-- KEYS' payload: source KeyIDs and keys. -/
opaque imageKeys : List (Nat × List Byte) → List Byte

/-- INDEX of an object (kind and index) and of a share (resident slot and position). -/
opaque imageIndex : Nat → Nat → BitVec 64

/-- A context's heaps in its OBJECTS record: heap, granule and code of R291. -/
opaque imageHeaps : List (Nat × Nat × Nat) → List Byte

/-- JOURNAL's payload: context, remaining lifetime in ns, routes (token, rank, kind, expert, slot, weight), dispatch command,
expert map entries. -/
opaque imageJournal : Nat → Nat → List (List Nat) → List Word → List (Nat × List Word) → List Byte

/-- The bytes of a share as a SAVE reads them from a core, which no part of the block holds: image, resident slot,
position. -/
opaque shareBytes : Nat → Nat → Nat → List Byte

/-! ## The random source (R345) -/

/-- 32 bytes of draw `i`. -/
opaque random : Nat → Key

/-! ## Constants of the boot ROM -/

/-- M_ROM, the measurement of the boot ROM (R343). -/
opaque measRom : List Byte

/-- Lasaholt's firmware keys, endorsement keys and debug keys (R437, R362, R379): P-384 and ML-DSA-87. -/
opaque firmwareKeys : List Byte × List Byte
opaque endorsementKeys : List Byte × List Byte
opaque debugKeys : List Byte × List Byte

/-! ## Primitives their standards define -/

/-- AES-256 on one block (FIPS 197). -/
opaque aes256 : Key → BitVec 128 → BitVec 128

/-- SHA-384 (FIPS 180-4): 48 bytes as a number, first byte most significant. -/
opaque sha384Nat : List Byte → BitVec 384

/-- HMAC-SHA-384 of a message under a key. -/
opaque hmac384Nat : List Byte → List Byte → BitVec 384

/-- AES-256-CMAC (NIST SP 800-38B). -/
opaque cmac : Key → List Byte → BitVec 128

/-- AES-256-KW wrap and unwrap (NIST SP 800-38F). -/
opaque kwWrap : Key → List Byte → List Byte
opaque kwUnwrap : Key → List Byte → Option (List Byte)

/-- AES-256-GCM tag and ciphertext (NIST SP 800-38D): key, IV, associated data, plaintext. -/
opaque gcm : Key → List Byte → List Byte → List Byte → List Byte × BitVec 128

/-- Opening: key, IV, associated data, ciphertext, tag; none where the tag does not verify. -/
opaque gcmOpen : Key → List Byte → List Byte → List Byte → BitVec 128 → Option (List Byte)

/-- BCH(255,131) decoding of a block to its codeword, where it has at most 18 errors (R339), and the codeword of a
message. -/
opaque bchDecode : BitVec 255 → Option (BitVec 255)
opaque bchEncode : BitVec 131 → BitVec 255

/-- P-384: the public key of a scalar's bytes (97 bytes), and the ECDH secret; none where the point check fails. -/
opaque p384Public : List Byte → List Byte
opaque p384Ecdh : List Byte → List Byte → Option (List Byte)

/-- ML-KEM-1024 (FIPS 203): encapsulation key of a seed, encapsulation (ciphertext and secret) with a seed, and
decapsulation with the seed of the key pair; none where the input check fails. -/
opaque mlkemPublic : List Byte → List Byte
opaque mlkemEncaps : List Byte → List Byte → Option (List Byte × List Byte)
opaque mlkemDecaps : List Byte → List Byte → Option (List Byte)

/-- ML-DSA-87 (FIPS 204): public key of ξ, hedged signature (none after 256 iterations), verification. -/
opaque mldsaPublic : List Byte → List Byte
opaque mldsaSign : List Byte → Key → List Byte → List Byte → Option (List Byte)
opaque mldsaVerify : List Byte → List Byte → List Byte → List Byte → Bool

/-- ECDSA P-384 over a digest (RFC 6979 nonce); none after 256 iterations. -/
opaque ecdsaSign : List Byte → List Byte → Option (List Byte)
opaque ecdsaVerify : List Byte → List Byte → List Byte → Bool

end Sys2Proof.Config
end

