-- ==== Sys2Proof/Machine/Bits.lean ====
section
/-! DEFINITION. Bit fields of words, byte order, saturation, and the canonical tables: lists of (key, value) pairs with
keys strictly rising and no entry equal to what an unlisted key stands for. -/

namespace Sys2Proof.Machine

open Sys2Proof

/-- Bits [hi:lo] of a number. -/
def bits (hi lo n : Nat) : Nat := (n >>> lo) % 2 ^ (hi + 1 - lo)

/-- Bits [hi:lo] of a word, as a number. -/
def getBits (hi lo : Nat) (w : Word) : Nat := bits hi lo w.toNat

/-- The word with ones exactly at [hi:lo]. -/
def maskBits (hi lo : Nat) : Word := BitVec.ofNat 64 ((2 ^ (hi + 1 - lo) - 1) <<< lo)

/-- The word with bits [hi:lo] replaced by the low bits of `v`. -/
def setBits (hi lo v : Nat) (w : Word) : Word :=
  (w &&& ~~~ maskBits hi lo) ||| (BitVec.ofNat 64 (v <<< lo) &&& maskBits hi lo)

/-- Bit `i` of a word. -/
def bitOf (i : Nat) (w : Word) : Bool := w.toNat.testBit i

/-- A number that stays at the greatest value of `n` bits (the counters called saturating). -/
def saturate (n v : Nat) : Nat := min v (2 ^ n - 1)

/-- A value as a word. -/
def word (n : Nat) : Word := BitVec.ofNat 64 n

/-- A Boolean as a bit. -/
def bit01 (b : Bool) : Nat := if b then 1 else 0

/-- The little-endian number of a byte list (R4). -/
def leNat : List Byte → Nat
  | [] => 0
  | b :: bs => b.toNat + 256 * leNat bs

/-- `n` bytes of a number, least significant first (R4). -/
def leBytes : Nat → Nat → List Byte
  | 0, _ => []
  | n + 1, v => BitVec.ofNat 8 v :: leBytes n (v / 256)

/-- `n` bytes of a number, most significant first. -/
def beBytes (n v : Nat) : List Byte := (leBytes n v).reverse

/-- The number whose big-endian bytes these are. -/
def beNat (bs : List Byte) : Nat := leNat bs.reverse

/-- How many bits of a word are set. -/
def popCount (w : Word) : Nat := ((List.range 64).filter (fun i => w.toNat.testBit i)).length

/-! ## Canonical tables -/

/-- What `m` holds at `k`; `d` where nothing is listed. -/
def mapGet {α : Type} (d : α) (m : List (Nat × α)) (k : Nat) : α :=
  match m with
  | [] => d
  | (j, v) :: t => if j = k then v else mapGet d t k

/-- `m` without key `k`. -/
def mapErase {α : Type} (m : List (Nat × α)) (k : Nat) : List (Nat × α) :=
  match m with
  | [] => []
  | (j, v) :: t => if j = k then mapErase t k else (j, v) :: mapErase t k

/-- `m` with `v` at `k`, keys still rising. -/
def mapPut {α : Type} (m : List (Nat × α)) (k : Nat) (v : α) : List (Nat × α) :=
  match m with
  | [] => [(k, v)]
  | (j, w) :: t =>
    if k < j then (k, v) :: (j, w) :: t
    else if k = j then (k, v) :: t
    else (j, w) :: mapPut t k v

/-- `m` with `v` at `k`; the entry goes when `v` is what an unlisted key stands for. -/
def mapSet {α : Type} [DecidableEq α] (d : α) (m : List (Nat × α)) (k : Nat) (v : α) : List (Nat × α) :=
  if v = d then mapErase m k else mapPut m k v

/-- `m` with the value at `k` changed by `f`. -/
def mapModify {α : Type} [DecidableEq α] (d : α) (m : List (Nat × α)) (k : Nat) (f : α → α) : List (Nat × α) :=
  mapSet d m k (f (mapGet d m k))

/-- The keys are strictly rising. -/
def keysRising {α : Type} : List (Nat × α) → Bool
  | [] => true
  | [_] => true
  | (j, _) :: (k, w) :: t => decide (j < k) && keysRising ((k, w) :: t)

/-- The canonical form of a table whose unlisted keys stand for `d k`. -/
def mapWf {α : Type} [DecidableEq α] (d : Nat → α) (m : List (Nat × α)) : Bool :=
  keysRising m && m.all (fun e => decide (e.2 ≠ d e.1))

/-! ## Lists -/

/-- The list with element `i` changed. -/
def modifyAt {α : Type} (l : List α) (i : Nat) (f : α → α) : List α :=
  match l, i with
  | [], _ => []
  | a :: t, 0 => f a :: t
  | a :: t, n + 1 => a :: modifyAt t n f

/-- The list without the first element that satisfies `p`. -/
def eraseFirst {α : Type} (p : α → Bool) : List α → List α
  | [] => []
  | a :: t => if p a then t else a :: eraseFirst p t

/-- Change the first element that satisfies `p`. -/
def modifyFirst {α : Type} (p : α → Bool) (f : α → α) : List α → List α
  | [] => []
  | a :: t => if p a then f a :: t else a :: modifyFirst p f t

/-- Apply a state change for each element, first to last. -/
def forEach {α σ : Type} (l : List α) (s : σ) (f : α → σ → σ) : σ := l.foldl (fun s a => f a s) s

/-- The element of `cands` that follows `last` in cyclic order, the rule of every rotating pointer (C: R70, R223, R282):
the least element above `last`, or the least of all. -/
def rotate (last : Nat) (cands : List Nat) : Option Nat :=
  let least := fun (l : List Nat) => l.foldl (fun (m : Option Nat) x =>
    match m with
    | none => some x
    | some y => some (min x y)) none
  match least (cands.filter (fun x => decide (last < x))) with
  | some x => some x
  | none => least cands

end Sys2Proof.Machine
end

