-- ==== Sys2Proof/Machine/Registers.lean ====
section
/-! DEFINITION. The register map: every register of R447 with its offset, stride, index range, reset domain and fields
(R8, R9, R10, R15), as the chapters' register tables give them. A register array is one name with an index; the
two-index arrays are numbered row by row (ADM_CONTRACT[c][w] is index 8c + w, KEY_MEAS[m][w] 6m + w, the two
allow lists 8i + w, where words 6 and 7 of a row do not exist). -/

namespace Sys2Proof.Machine

open Sys2Proof

/-- One field of a register table (R9). -/
structure Field where
  hi    : Nat
  lo    : Nat
  acc   : Access
  reset : Nat
  deriving DecidableEq, Repr

/-- One register table: the place of the array and its fields, high to low. `words` is how many words of each
eight exist. -/
structure RegDef where
  base   : Nat
  stride : Nat
  first  : Nat
  last   : Nat
  words  : Nat
  domain : ResetDomain
  fields : List Field
  deriving DecidableEq, Repr

/-- The registers of the block (R447). -/
inductive Reg where
  | GLB_INVENTORY
  | GLB_PD_REQ
  | GLB_PD_STATUS
  | HDG_CTL
  | HDG_ST_STATUS
  | HDG_COUNT
  | HDG_LAST_DENY
  | HDG_LAST_DENY_INFO
  | CMP_CHIPNUM
  | CMP_EPOCH
  | CMP_DRAIN
  | CMP_EPOCH_STAT
  | CMP_METER_CTL
  | CMP_OWN_IDX
  | CMP_OWN_DATA
  | CMP_SLICE_CTL
  | CMP_CHIPS
  | CMP_CORE_SLICE
  | CMP_MEMCH
  | CMP_LINK
  | CMP_PASID
  | CMP_COMMONS_CTL
  | CMP_COMMONS_MEMBERS_LO
  | CMP_COMMONS_MEMBERS_HI
  | CMP_COMMONS_RES_MEMCH_US
  | CMP_RES_TIME_NS
  | CMP_RES_CORE_US
  | CMP_RES_MEMCH_US
  | CMP_RES_LINK_US
  | STG_CS_CMD
  | STG_CS_OPENED
  | STG_ENTRY_W0
  | STG_ENTRY_W1
  | STG_GTB
  | STG_GTB_STATUS
  | STG_LAST_T
  | STG_CS_STATUS
  | STG_CS_T
  | STG_CS_REFUSE
  | ADM_FLOOR
  | ADM_THETA
  | ADM_SLICE
  | ADM_CONTRACT
  | ADM_W
  | XLT_CTL
  | XLT_STATUS
  | XLT_MGR_KEYID
  | XLT_INV_ADDR
  | XLT_INV_CMD
  | XLT_INV_SEQ
  | XLT_FR_BASE
  | XLT_FR_HEAD
  | XLT_FR_TAIL
  | XLT_FAULT_RESOLVE
  | XLT_HFMT_W0
  | XLT_HFMT_W1
  | XLT_ROUTE
  | XLT_KEYOWN
  | XLT_MIG_RING
  | XLT_MIG_IDX
  | MIL_CTL
  | MIL_RETIRE
  | MIL_RETIRE_STATUS
  | MIL_KEYSTATE
  | MIL_RANGE_LO
  | MIL_RANGE_HI
  | MIL_ST_STATUS
  | MIL_ST_COUNT
  | MIL_ST_LAST_FAIL
  | MIL_ST_SKIPPED
  | CTR_CTL
  | CTR_POUND_CLEAR
  | CTR_POUND_STATUS
  | CTR_ST_STATUS
  | CTR_ST_COUNT
  | CTR_ST_MIRROR
  | DRV_CTL
  | DRV_STATUS
  | DRV_LAST_ERR
  | DRV_LAST_ERR_INFO
  | DRV_SLICE_RATE
  | DRV_SLICE_BYTES
  | DRV_SLICE_ROUTES
  | DRV_SLICE_SKIP
  | DRV_ST_STATUS
  | DRV_ST_COUNT
  | SCH_CTL
  | SCH_STATUS
  | SCH_LAST_KILL
  | SCH_RES
  | SCH_RES_USE
  | SCH_CORE
  | SCH_SLICE_COUNT
  | COH_CTL
  | COH_STATUS
  | COH_LAST_ERR
  | COH_LAST_ERR_PA
  | COH_FS_STATUS
  | COH_FS_COUNT
  | COH_CORE_LINES
  | HIF_CTL
  | HIF_STATUS
  | HIF_LAST_ERR
  | HIF_BAR0_ERR
  | HIF_CPL_SUMMARY
  | HIF_CPL_PENDING
  | OBJ_CTL
  | OBJ_PHASE
  | OBJ_TABLE_BASE
  | OBJ_CMD
  | OBJ_CMD_STATUS
  | OBJ_REC_SEL
  | OBJ_REC_DATA
  | OBJ_NR_BASE
  | OBJ_NR_HEAD
  | OBJ_NR_TAIL
  | OBJ_STATUS
  | OBJ_LAST_ERR
  | TEN_CMD
  | TEN_STATUS
  | TEN_MBX_SEL
  | TEN_MIG_BUF
  | TEN_MIG_OFFER
  | TEN_MIG_LEN
  | TEN_MIG_PASID
  | TEN_MIG_GKEY
  | TEN_T2M_PENDING
  | TEN_M2T_PENDING
  | TEN_SLICE_STATE
  | TEN_MIG_KEYMAP
  | TEN_MIG_ALLOW
  | TEN_MBX_WIN
  | LNK_KX_CMD
  | LNK_KX_STATUS
  | LNK_RETIRE
  | LNK_PEER_ALLOW
  | LNK_PORT_CFG
  | LNK_PORT_STATUS
  | LNK_LANE
  | LNK_COUNT
  | KEY_CMD
  | KEY_STATUS
  | KEY_MEAS
  | KEY_DEVICE_ID
  | KEY_CFG_DIGEST
  | KEY_SLOT
  | KEY_BUF
  | LCS_STATE
  | LCS_XCMD
  | LCS_XSTATUS
  | LCS_GATE
  | LCS_DBG_CMD
  | LCS_DBG_STATUS
  | LCS_BUF
  | SPR_CTL
  | SPR_STATUS
  | SPR_LAST
  | SPR_REBUILD
  | SPR_RS
  | SPR_CORE_ALIAS
  | MON_CTL
  | MON_CLOCK
  | MON_COEF
  | MON_ENERGY_TOTAL
  | MON_TEMP
  | MON_VOLT
  | MON_PROC
  | MON_SLACK
  | IRQ_SUMMARY
  | IRQ_STW_SUMMARY
  | IRQ_PENDING
  | IRQ_ENABLE
  | IRQ_STW_ENABLE
  | IRQ_TEST
  | IRQ_CAUSE
  | IRQ_CAUSE_MASK
  | TRC_CTL
  | TRC_TRACE_EN
  | TRC_RATE
  | TRC_STATUS
  | TRC_OFF_DROPS
  | TRC_RING_BASE
  | TRC_RING_HEAD
  | TRC_RING_TAIL
  | TRC_ALARM_CODES
  | TRC_ALARM_FIRST_GTB
  | TRC_ALARM_LAST_GTB
  | TRC_ALARM_DETAIL
  | TRC_DROP
  | GLB_ID
  | GLB_BOOT
  | STW_IMG_ADDR
  | STW_IMG_LEN
  | STW_IMG_CTL
  | STW_STATUS
  deriving DecidableEq, Repr

/-! The field lists of the tables; `fd hi lo access reset`. -/

/-- One row of a register table. -/
def fd (hi lo : Nat) (acc : Access) (reset : Nat) : Field := ⟨hi, lo, acc, reset⟩

def fields_GLB_INVENTORY : List Field :=
  [fd 63 56 .ro 0x0, fd 55 48 .ro 0x80, fd 47 40 .ro 0x10, fd 39 32 .ro 0x8, fd 31 24 .ro 0x48,
   fd 23 16 .ro 0x4, fd 15 8 .ro 0x44, fd 7 4 .ro 0x9, fd 3 0 .ro 0x0]
def fields_GLB_PD_REQ : List Field :=
  [fd 63 24 .ro 0x0, fd 23 8 .rw 0xFFFF, fd 7 0 .ro 0x0]
def fields_GLB_PD_STATUS : List Field :=
  [fd 63 56 .ro 0x0, fd 55 40 .w1c 0x0, fd 39 24 .ro 0x0, fd 23 0 .ro 0x1]
def fields_HDG_CTL : List Field :=
  [fd 63 1 .ro 0x0, fd 0 0 .w1s 0x0]
def fields_HDG_ST_STATUS : List Field :=
  [fd 63 32 .ro 0x0, fd 31 24 .ro 0x0, fd 23 16 .ro 0x0, fd 15 12 .ro 0x0, fd 11 0 .ro 0x0]
def fields_HDG_COUNT : List Field :=
  [fd 63 32 .ro 0x0, fd 31 0 .ro 0x0]
def fields_HDG_LAST_DENY : List Field :=
  [fd 63 56 .ro 0x0, fd 55 0 .ro 0x0]
def fields_HDG_LAST_DENY_INFO : List Field :=
  [fd 63 48 .ro 0x0, fd 47 32 .ro 0x0, fd 31 4 .ro 0x0, fd 3 0 .ro 0x0]
def fields_CMP_CHIPNUM : List Field :=
  [fd 63 6 .ro 0x0, fd 5 0 .st 0x0]
def fields_CMP_EPOCH : List Field :=
  [fd 63 32 .ro 0x0, fd 31 0 .ro 0x0]
def fields_CMP_DRAIN : List Field :=
  [fd 63 32 .ro 0x0, fd 31 31 .ro 0x0, fd 30 20 .ro 0x0, fd 19 0 .ro 0x0]
def fields_CMP_EPOCH_STAT : List Field :=
  [fd 63 32 .ro 0x0, fd 31 16 .ro 0x0, fd 15 0 .ro 0x0]
def fields_CMP_METER_CTL : List Field :=
  [fd 63 16 .ro 0x0, fd 15 0 .rw 0x0]
def fields_CMP_OWN_IDX : List Field :=
  [fd 63 18 .ro 0x0, fd 17 0 .rw 0x0]
def fields_CMP_OWN_DATA : List Field :=
  [fd 63 16 .ro 0x0, fd 15 8 .ro 0xFF, fd 7 7 .ro 0x0, fd 6 0 .ro 0x0]
def fields_CMP_SLICE_CTL : List Field :=
  [fd 63 42 .ro 0x0, fd 41 37 .ro 0x0, fd 36 30 .ro 0x0, fd 29 20 .ro 0x0, fd 19 2 .ro 0x0,
   fd 1 1 .st 0x0, fd 0 0 .st 0x0]
def fields_CMP_CHIPS : List Field :=
  [fd 63 0 .st 0x0]
def fields_CMP_CORE_SLICE : List Field :=
  [fd 63 56 .st 0xFF, fd 55 48 .st 0xFF, fd 47 40 .st 0xFF, fd 39 32 .st 0xFF, fd 31 24 .st 0xFF,
   fd 23 16 .st 0xFF, fd 15 8 .st 0xFF, fd 7 0 .st 0xFF]
def fields_CMP_MEMCH : List Field :=
  [fd 63 23 .ro 0x0, fd 22 16 .st 0x0, fd 15 8 .st 0xFF, fd 7 7 .ro 0x0, fd 6 0 .st 0x0]
def fields_CMP_LINK : List Field :=
  [fd 63 8 .ro 0x0, fd 7 0 .st 0xFF]
def fields_CMP_PASID : List Field :=
  [fd 63 63 .st 0x0, fd 62 28 .ro 0x0, fd 27 20 .st 0xFF, fd 19 0 .st 0x0]
def fields_CMP_COMMONS_CTL : List Field :=
  [fd 63 11 .ro 0x0, fd 10 1 .st 0x0, fd 0 0 .st 0x0]
def fields_CMP_COMMONS_MEMBERS_LO : List Field :=
  [fd 63 0 .st 0x0]
def fields_CMP_COMMONS_MEMBERS_HI : List Field :=
  [fd 63 0 .st 0x0]
def fields_CMP_COMMONS_RES_MEMCH_US : List Field :=
  [fd 63 0 .ro 0x0]
def fields_CMP_RES_TIME_NS : List Field :=
  [fd 63 0 .ro 0x0]
def fields_CMP_RES_CORE_US : List Field :=
  [fd 63 0 .ro 0x0]
def fields_CMP_RES_MEMCH_US : List Field :=
  [fd 63 0 .ro 0x0]
def fields_CMP_RES_LINK_US : List Field :=
  [fd 63 0 .ro 0x0]
def fields_STG_CS_CMD : List Field :=
  [fd 63 32 .wo 0x0, fd 31 3 .ro 0x0, fd 2 0 .wo 0x0]
def fields_STG_CS_OPENED : List Field :=
  [fd 63 32 .ro 0x0, fd 31 2 .ro 0x0, fd 1 0 .ro 0x0]
def fields_STG_ENTRY_W0 : List Field :=
  [fd 63 0 .rw 0x0]
def fields_STG_ENTRY_W1 : List Field :=
  [fd 63 0 .wo 0x0]
def fields_STG_GTB : List Field :=
  [fd 63 0 .ro 0x0]
def fields_STG_GTB_STATUS : List Field :=
  [fd 63 18 .ro 0x0, fd 17 17 .ro 0x0, fd 16 16 .ro 0x0, fd 15 0 .ro 0x0]
def fields_STG_LAST_T : List Field :=
  [fd 63 0 .ro 0x0]
def fields_STG_CS_STATUS : List Field :=
  [fd 63 32 .ro 0x0, fd 31 30 .ro 0x0, fd 29 29 .ro 0x0, fd 28 16 .ro 0x0, fd 15 3 .ro 0x0,
   fd 2 0 .ro 0x0]
def fields_STG_CS_T : List Field :=
  [fd 63 0 .ro 0x0]
def fields_STG_CS_REFUSE : List Field :=
  [fd 63 48 .ro 0x0, fd 47 32 .ro 0x0, fd 31 16 .ro 0x0, fd 15 0 .ro 0x0]
def fields_ADM_FLOOR : List Field :=
  [fd 63 16 .ro 0x0, fd 15 0 .ro 0x0]
def fields_ADM_THETA : List Field :=
  [fd 63 48 .lk 0x0, fd 47 32 .lk 0x300, fd 31 16 .lk 0x600, fd 15 0 .lk 0x200]
def fields_ADM_SLICE : List Field :=
  [fd 63 32 .ro 0x0, fd 31 0 .st 0x0]
def fields_ADM_CONTRACT : List Field :=
  [fd 63 0 .st 0x0]
def fields_ADM_W : List Field :=
  [fd 63 63 .ro 0x0, fd 62 48 .ro 0x0, fd 47 32 .ro 0x0, fd 31 0 .ro 0x0]
def fields_XLT_CTL : List Field :=
  [fd 63 1 .ro 0x0, fd 0 0 .w1s 0x0]
def fields_XLT_STATUS : List Field :=
  [fd 63 18 .ro 0x0, fd 17 17 .ro 0x0, fd 16 16 .w1c 0x0, fd 15 14 .ro 0x0, fd 13 7 .ro 0x0,
   fd 6 0 .ro 0x0]
def fields_XLT_MGR_KEYID : List Field :=
  [fd 63 10 .ro 0x0, fd 9 0 .st 0x0]
def fields_XLT_INV_ADDR : List Field :=
  [fd 63 12 .rw 0x0, fd 11 0 .ro 0x0]
def fields_XLT_INV_CMD : List Field :=
  [fd 63 44 .wo 0x0, fd 43 31 .wo 0x0, fd 30 23 .wo 0x0, fd 22 3 .wo 0x0, fd 2 0 .wo 0x0]
def fields_XLT_INV_SEQ : List Field :=
  [fd 63 32 .ro 0x0, fd 31 0 .ro 0x0]
def fields_XLT_FR_BASE : List Field :=
  [fd 63 12 .rw 0x0, fd 11 5 .ro 0x0, fd 4 0 .rw 0x0]
def fields_XLT_FR_HEAD : List Field :=
  [fd 63 16 .ro 0x0, fd 15 0 .ro 0x0]
def fields_XLT_FR_TAIL : List Field :=
  [fd 63 16 .ro 0x0, fd 15 0 .rw 0x0]
def fields_XLT_FAULT_RESOLVE : List Field :=
  [fd 63 32 .wo 0x0, fd 31 30 .wo 0x0, fd 29 13 .ro 0x0, fd 12 0 .wo 0x0]
def fields_XLT_HFMT_W0 : List Field :=
  [fd 63 0 .st 0x0]
def fields_XLT_HFMT_W1 : List Field :=
  [fd 63 0 .st 0x0]
def fields_XLT_ROUTE : List Field :=
  [fd 63 16 .ro 0x0, fd 15 0 .st 0x0]
def fields_XLT_KEYOWN : List Field :=
  [fd 63 56 .st 0xFF, fd 55 48 .st 0xFF, fd 47 40 .st 0xFF, fd 39 32 .st 0xFF, fd 31 24 .st 0xFF,
   fd 23 16 .st 0xFF, fd 15 8 .st 0xFF, fd 7 0 .st 0xFF]
def fields_XLT_MIG_RING : List Field :=
  [fd 63 56 .ro 0x0, fd 55 12 .st 0x0, fd 11 5 .ro 0x0, fd 4 0 .st 0x0]
def fields_XLT_MIG_IDX : List Field :=
  [fd 63 48 .ro 0x0, fd 47 32 .rw 0x0, fd 31 16 .ro 0x0, fd 15 0 .ro 0x0]
def fields_MIL_CTL : List Field :=
  [fd 63 1 .ro 0x0, fd 0 0 .w1s 0x0]
def fields_MIL_RETIRE : List Field :=
  [fd 63 10 .ro 0x0, fd 9 0 .wo 0x0]
def fields_MIL_RETIRE_STATUS : List Field :=
  [fd 63 63 .ro 0x0, fd 62 58 .ro 0x0, fd 57 48 .ro 0x0, fd 47 32 .ro 0x0, fd 31 0 .ro 0x0]
def fields_MIL_KEYSTATE : List Field :=
  [fd 63 62 .ro 0x0, fd 61 60 .ro 0x0, fd 59 58 .ro 0x0, fd 57 56 .ro 0x0, fd 55 54 .ro 0x0,
   fd 53 52 .ro 0x0, fd 51 50 .ro 0x0, fd 49 48 .ro 0x0, fd 47 46 .ro 0x0, fd 45 44 .ro 0x0,
   fd 43 42 .ro 0x0, fd 41 40 .ro 0x0, fd 39 38 .ro 0x0, fd 37 36 .ro 0x0, fd 35 34 .ro 0x0,
   fd 33 32 .ro 0x0, fd 31 30 .ro 0x0, fd 29 28 .ro 0x0, fd 27 26 .ro 0x0, fd 25 24 .ro 0x0,
   fd 23 22 .ro 0x0, fd 21 20 .ro 0x0, fd 19 18 .ro 0x0, fd 17 16 .ro 0x0, fd 15 14 .ro 0x0,
   fd 13 12 .ro 0x0, fd 11 10 .ro 0x0, fd 9 8 .ro 0x0, fd 7 6 .ro 0x0, fd 5 4 .ro 0x0,
   fd 3 2 .ro 0x0, fd 1 0 .ro 0x0]
def fields_MIL_RANGE_LO : List Field :=
  [fd 63 63 .st 0x0, fd 62 62 .st 0x0, fd 61 56 .ro 0x0, fd 55 21 .st 0x0, fd 20 0 .ro 0x0]
def fields_MIL_RANGE_HI : List Field :=
  [fd 63 63 .st 0x0, fd 62 62 .st 0x0, fd 61 56 .ro 0x0, fd 55 21 .st 0x0, fd 20 0 .ro 0x0]
def fields_MIL_ST_STATUS : List Field :=
  [fd 63 44 .ro 0x0, fd 43 40 .ro 0xF, fd 39 25 .ro 0x0, fd 24 16 .ro 0x0, fd 15 9 .ro 0x0,
   fd 8 0 .ro 0x0]
def fields_MIL_ST_COUNT : List Field :=
  [fd 63 48 .ro 0x0, fd 47 32 .ro 0x0, fd 31 16 .ro 0x0, fd 15 0 .ro 0x0]
def fields_MIL_ST_LAST_FAIL : List Field :=
  [fd 63 48 .ro 0x0, fd 47 40 .ro 0x0, fd 39 30 .ro 0x0, fd 29 27 .ro 0x0, fd 26 0 .ro 0x0]
def fields_MIL_ST_SKIPPED : List Field :=
  [fd 63 0 .ro 0x0]
def fields_CTR_CTL : List Field :=
  [fd 63 1 .ro 0x0, fd 0 0 .w1s 0x0]
def fields_CTR_POUND_CLEAR : List Field :=
  [fd 63 57 .wo 0x0, fd 56 54 .wo 0x0, fd 53 27 .ro 0x0, fd 26 0 .wo 0x0]
def fields_CTR_POUND_STATUS : List Field :=
  [fd 63 63 .ro 0x0, fd 62 48 .ro 0x0, fd 47 32 .ro 0x0, fd 31 0 .ro 0x0]
def fields_CTR_ST_STATUS : List Field :=
  [fd 63 48 .ro 0x0, fd 47 43 .ro 0x0, fd 42 32 .ro 0x0, fd 31 0 .ro 0x0]
def fields_CTR_ST_COUNT : List Field :=
  [fd 63 48 .ro 0x0, fd 47 32 .ro 0x0, fd 31 16 .ro 0x0, fd 15 0 .ro 0x0]
def fields_CTR_ST_MIRROR : List Field :=
  [fd 63 8 .ro 0x0, fd 7 7 .ro 0x0, fd 6 0 .ro 0x0]
def fields_DRV_CTL : List Field :=
  [fd 63 1 .ro 0x0, fd 0 0 .w1s 0x0]
def fields_DRV_STATUS : List Field :=
  [fd 63 40 .ro 0x0, fd 39 32 .ro 0x0, fd 31 16 .ro 0x0, fd 15 13 .ro 0x0, fd 12 0 .ro 0x0]
def fields_DRV_LAST_ERR : List Field :=
  [fd 63 48 .ro 0x0, fd 47 40 .ro 0x0, fd 39 32 .ro 0x0, fd 31 16 .ro 0x0, fd 15 13 .ro 0x0,
   fd 12 0 .ro 0x0]
def fields_DRV_LAST_ERR_INFO : List Field :=
  [fd 63 48 .ro 0x0, fd 47 32 .ro 0x0, fd 31 16 .ro 0x0, fd 15 0 .ro 0x0]
def fields_DRV_SLICE_RATE : List Field :=
  [fd 63 24 .ro 0x0, fd 23 0 .ro 0x0]
def fields_DRV_SLICE_BYTES : List Field :=
  [fd 63 0 .ro 0x0]
def fields_DRV_SLICE_ROUTES : List Field :=
  [fd 63 32 .ro 0x0, fd 31 0 .ro 0x0]
def fields_DRV_SLICE_SKIP : List Field :=
  [fd 63 0 .ro 0x0]
def fields_DRV_ST_STATUS : List Field :=
  [fd 63 53 .ro 0x0, fd 52 48 .ro 0x0, fd 47 40 .ro 0x0, fd 39 22 .ro 0x0, fd 21 7 .ro 0x0,
   fd 6 0 .ro 0x0]
def fields_DRV_ST_COUNT : List Field :=
  [fd 63 32 .ro 0x0, fd 31 0 .ro 0x0]
def fields_SCH_CTL : List Field :=
  [fd 63 2 .ro 0x0, fd 1 1 .rw 0x0, fd 0 0 .w1s 0x0]
def fields_SCH_STATUS : List Field :=
  [fd 63 38 .ro 0x0, fd 37 32 .ro 0x0, fd 31 10 .ro 0x0, fd 9 0 .ro 0x0]
def fields_SCH_LAST_KILL : List Field :=
  [fd 63 48 .ro 0x0, fd 47 40 .ro 0x0, fd 39 30 .ro 0x0, fd 29 29 .ro 0x0, fd 28 16 .ro 0x0,
   fd 15 0 .ro 0x0]
def fields_SCH_RES : List Field :=
  [fd 63 63 .ro 0x0, fd 62 60 .ro 0x0, fd 59 56 .ro 0x0, fd 55 48 .ro 0x0, fd 47 45 .ro 0x0,
   fd 44 32 .ro 0x0, fd 31 0 .ro 0x0]
def fields_SCH_RES_USE : List Field :=
  [fd 63 0 .ro 0x0]
def fields_SCH_CORE : List Field :=
  [fd 63 63 .ro 0x0, fd 62 62 .ro 0x0, fd 61 56 .ro 0x0, fd 55 32 .ro 0x0, fd 31 16 .ro 0x0,
   fd 15 0 .ro 0x0]
def fields_SCH_SLICE_COUNT : List Field :=
  [fd 63 32 .ro 0x0, fd 31 0 .ro 0x0]
def fields_COH_CTL : List Field :=
  [fd 63 1 .ro 0x0, fd 0 0 .w1s 0x0]
def fields_COH_STATUS : List Field :=
  [fd 63 48 .ro 0x0, fd 47 32 .ro 0x0, fd 31 12 .ro 0x0, fd 11 0 .ro 0x0]
def fields_COH_LAST_ERR : List Field :=
  [fd 63 48 .ro 0x0, fd 47 40 .ro 0x0, fd 39 10 .ro 0x0, fd 9 0 .ro 0x0]
def fields_COH_LAST_ERR_PA : List Field :=
  [fd 63 56 .ro 0x0, fd 55 7 .ro 0x0, fd 6 0 .ro 0x0]
def fields_COH_FS_STATUS : List Field :=
  [fd 63 40 .ro 0x0, fd 39 32 .ro 0x0, fd 31 17 .ro 0x0, fd 16 0 .ro 0x0]
def fields_COH_FS_COUNT : List Field :=
  [fd 63 32 .ro 0x0, fd 31 0 .ro 0x0]
def fields_COH_CORE_LINES : List Field :=
  [fd 63 44 .ro 0x0, fd 43 32 .ro 0x0, fd 31 28 .ro 0x0, fd 27 16 .ro 0x0, fd 15 12 .ro 0x0,
   fd 11 0 .ro 0x0]
def fields_HIF_CTL : List Field :=
  [fd 63 1 .ro 0x0, fd 0 0 .rw 0x0]
def fields_HIF_STATUS : List Field :=
  [fd 63 42 .ro 0x0, fd 41 32 .ro 0x0, fd 31 7 .ro 0x0, fd 6 0 .ro 0x0]
def fields_HIF_LAST_ERR : List Field :=
  [fd 63 48 .ro 0x0, fd 47 46 .ro 0x0, fd 45 32 .ro 0x0, fd 31 20 .ro 0x0, fd 19 0 .ro 0x0]
def fields_HIF_BAR0_ERR : List Field :=
  [fd 63 63 .ro 0x0, fd 62 60 .ro 0x0, fd 59 56 .ro 0x0, fd 55 24 .ro 0x0, fd 23 0 .ro 0x0]
def fields_HIF_CPL_SUMMARY : List Field :=
  [fd 63 0 .ro 0x0]
def fields_HIF_CPL_PENDING : List Field :=
  [fd 63 0 .w1c 0x0]
def fields_OBJ_CTL : List Field :=
  [fd 63 1 .ro 0x0, fd 0 0 .rw 0x0]
def fields_OBJ_PHASE : List Field :=
  [fd 63 2 .ro 0x0, fd 1 0 .rw 0x0]
def fields_OBJ_TABLE_BASE : List Field :=
  [fd 63 56 .ro 0x0, fd 55 21 .rw 0x0, fd 20 0 .ro 0x0]
def fields_OBJ_CMD : List Field :=
  [fd 63 48 .wo 0x0, fd 47 40 .wo 0x0, fd 39 36 .wo 0x0, fd 35 32 .wo 0x0, fd 31 0 .wo 0x0]
def fields_OBJ_CMD_STATUS : List Field :=
  [fd 63 63 .ro 0x0, fd 62 62 .w1c 0x0, fd 61 48 .ro 0x0, fd 47 32 .ro 0x0, fd 31 0 .ro 0x0]
def fields_OBJ_REC_SEL : List Field :=
  [fd 63 36 .ro 0x0, fd 35 32 .rw 0x0, fd 31 18 .ro 0x0, fd 17 0 .rw 0x0]
def fields_OBJ_REC_DATA : List Field :=
  [fd 63 0 .rw 0x0]
def fields_OBJ_NR_BASE : List Field :=
  [fd 63 12 .rw 0x0, fd 11 5 .ro 0x0, fd 4 0 .rw 0x0]
def fields_OBJ_NR_HEAD : List Field :=
  [fd 63 16 .ro 0x0, fd 15 0 .ro 0x0]
def fields_OBJ_NR_TAIL : List Field :=
  [fd 63 16 .ro 0x0, fd 15 0 .rw 0x0]
def fields_OBJ_STATUS : List Field :=
  [fd 63 51 .ro 0x0, fd 50 50 .ro 0x0, fd 49 40 .ro 0x0, fd 39 35 .ro 0x0, fd 34 24 .ro 0x0,
   fd 23 7 .ro 0x0, fd 6 0 .ro 0x0]
def fields_OBJ_LAST_ERR : List Field :=
  [fd 63 48 .ro 0x0, fd 47 40 .ro 0x0, fd 39 26 .ro 0x0, fd 25 13 .ro 0x0, fd 12 0 .ro 0x0]
def fields_TEN_CMD : List Field :=
  [fd 63 48 .ro 0x0, fd 47 40 .wo 0x0, fd 39 4 .ro 0x0, fd 3 0 .wo 0x0]
def fields_TEN_STATUS : List Field :=
  [fd 63 63 .ro 0x0, fd 62 62 .ro 0x0, fd 61 61 .w1c 0x0, fd 60 56 .ro 0x0, fd 55 48 .ro 0x0,
   fd 47 32 .ro 0x0, fd 31 0 .ro 0x0]
def fields_TEN_MBX_SEL : List Field :=
  [fd 63 8 .ro 0x0, fd 7 0 .rw 0x1]
def fields_TEN_MIG_BUF : List Field :=
  [fd 63 12 .rw 0x0, fd 11 0 .ro 0x0]
def fields_TEN_MIG_OFFER : List Field :=
  [fd 63 12 .rw 0x0, fd 11 0 .ro 0x0]
def fields_TEN_MIG_LEN : List Field :=
  [fd 63 40 .ro 0x0, fd 39 12 .rw 0x0, fd 11 0 .ro 0x0]
def fields_TEN_MIG_PASID : List Field :=
  [fd 63 20 .ro 0x0, fd 19 0 .rw 0x0]
def fields_TEN_MIG_GKEY : List Field :=
  [fd 63 56 .ro 0x0, fd 55 12 .rw 0x0, fd 11 0 .ro 0x0]
def fields_TEN_T2M_PENDING : List Field :=
  [fd 63 0 .w1c 0x0]
def fields_TEN_M2T_PENDING : List Field :=
  [fd 63 0 .w1c 0x0]
def fields_TEN_SLICE_STATE : List Field :=
  [fd 63 3 .ro 0x0, fd 2 0 .ro 0x0]
def fields_TEN_MIG_KEYMAP : List Field :=
  [fd 63 63 .rw 0x0, fd 62 42 .ro 0x0, fd 41 32 .rw 0x0, fd 31 30 .ro 0x0, fd 29 20 .rw 0x0,
   fd 19 9 .ro 0x0, fd 8 0 .rw 0x0]
def fields_TEN_MIG_ALLOW : List Field :=
  [fd 63 0 .lk 0x0]
def fields_TEN_MBX_WIN : List Field :=
  [fd 63 0 .rw 0x0]
def fields_LNK_KX_CMD : List Field :=
  [fd 63 60 .wo 0x0, fd 59 51 .ro 0x0, fd 50 42 .wo 0x0, fd 41 33 .wo 0x0, fd 32 0 .ro 0x0]
def fields_LNK_KX_STATUS : List Field :=
  [fd 63 63 .ro 0x0, fd 62 48 .ro 0x0, fd 47 32 .ro 0x0, fd 31 0 .ro 0x0]
def fields_LNK_RETIRE : List Field :=
  [fd 63 5 .ro 0x0, fd 4 1 .wo 0x0, fd 0 0 .wo 0x0]
def fields_LNK_PEER_ALLOW : List Field :=
  [fd 63 0 .lk 0x0]
def fields_LNK_PORT_CFG : List Field :=
  [fd 63 17 .ro 0x0, fd 16 16 .st 0x0, fd 15 14 .ro 0x0, fd 13 8 .st 0x0, fd 7 0 .st 0xFF]
def fields_LNK_PORT_STATUS : List Field :=
  [fd 63 62 .ro 0x0, fd 61 58 .ro 0x0, fd 57 52 .ro 0x0, fd 51 48 .ro 0xF, fd 47 44 .ro 0x0,
   fd 43 32 .ro 0x0, fd 31 0 .ro 0x0]
def fields_LNK_LANE : List Field :=
  [fd 63 48 .rw 0x64, fd 47 24 .rw 0x3E8, fd 23 13 .ro 0x0, fd 12 4 .ro 0x0, fd 3 0 .ro 0xF]
def fields_LNK_COUNT : List Field :=
  [fd 63 24 .ro 0x0, fd 23 12 .ro 0x0, fd 11 0 .ro 0x0]
def fields_KEY_CMD : List Field :=
  [fd 63 60 .wo 0x0, fd 59 52 .wo 0x0, fd 51 49 .wo 0x0, fd 48 40 .wo 0x0, fd 39 31 .wo 0x0,
   fd 30 0 .ro 0x0]
def fields_KEY_STATUS : List Field :=
  [fd 63 63 .ro 0x0, fd 62 62 .w1c 0x0, fd 61 61 .ro 0x0, fd 60 60 .ro 0x0, fd 59 57 .ro 0x0,
   fd 56 56 .ro 0x0, fd 55 48 .ro 0x0, fd 47 32 .ro 0x0, fd 31 16 .ro 0x0, fd 15 9 .ro 0x0,
   fd 8 0 .ro 0x0]
def fields_KEY_MEAS : List Field :=
  [fd 63 0 .ro 0x0]
def fields_KEY_DEVICE_ID : List Field :=
  [fd 63 0 .ro 0x0]
def fields_KEY_CFG_DIGEST : List Field :=
  [fd 63 0 .ro 0x0]
def fields_KEY_SLOT : List Field :=
  [fd 63 62 .ro 0x0, fd 61 59 .ro 0x0, fd 58 56 .ro 0x0, fd 55 47 .ro 0x1FF, fd 46 44 .ro 0x0,
   fd 43 36 .ro 0x0, fd 35 0 .ro 0x0]
def fields_KEY_BUF : List Field :=
  [fd 63 0 .rw 0x0]
def fields_LCS_STATE : List Field :=
  [fd 63 40 .ro 0x0, fd 39 32 .ro 0x0, fd 31 27 .ro 0x0, fd 26 22 .ro 0x0, fd 21 21 .ro 0x0,
   fd 20 17 .ro 0x0, fd 16 16 .ro 0x0, fd 15 4 .ro 0x0, fd 3 0 .ro 0x0]
def fields_LCS_XCMD : List Field :=
  [fd 63 8 .ro 0x0, fd 7 0 .wo 0x0]
def fields_LCS_XSTATUS : List Field :=
  [fd 63 63 .ro 0x0, fd 62 60 .ro 0x0, fd 59 48 .ro 0x0, fd 47 32 .ro 0x0, fd 31 0 .ro 0x0]
def fields_LCS_GATE : List Field :=
  [fd 63 1 .ro 0x0, fd 0 0 .w1s 0x0]
def fields_LCS_DBG_CMD : List Field :=
  [fd 63 62 .wo 0x0, fd 61 4 .ro 0x0, fd 3 0 .wo 0x0]
def fields_LCS_DBG_STATUS : List Field :=
  [fd 63 63 .ro 0x0, fd 62 48 .ro 0x0, fd 47 32 .ro 0x0, fd 31 12 .ro 0x0, fd 11 8 .ro 0x0,
   fd 7 4 .ro 0x0, fd 3 0 .ro 0x0]
def fields_LCS_BUF : List Field :=
  [fd 63 0 .rw 0x0]
def fields_SPR_CTL : List Field :=
  [fd 63 48 .rw 0x40, fd 47 32 .rw 0x10, fd 31 16 .rw 0x1000, fd 15 0 .ro 0x0]
def fields_SPR_STATUS : List Field :=
  [fd 63 56 .ro 0x64, fd 55 52 .ro 0x8, fd 51 47 .ro 0x10, fd 46 40 .ro 0x48, fd 39 34 .ro 0x20,
   fd 33 29 .ro 0x10, fd 28 28 .ro 0x1, fd 27 21 .ro 0x40, fd 20 12 .ro 0x0, fd 11 0 .ro 0x0]
def fields_SPR_LAST : List Field :=
  [fd 63 60 .ro 0x0, fd 59 48 .ro 0x0, fd 47 36 .ro 0x0, fd 35 32 .ro 0x0, fd 31 0 .ro 0x0]
def fields_SPR_REBUILD : List Field :=
  [fd 63 63 .ro 0x0, fd 62 56 .ro 0x0, fd 55 50 .ro 0x0, fd 49 43 .ro 0x0, fd 42 36 .ro 0x0,
   fd 35 21 .ro 0x0, fd 20 0 .ro 0x0]
def fields_SPR_RS : List Field :=
  [fd 63 32 .ro 0x0, fd 31 0 .ro 0x0]
def fields_SPR_CORE_ALIAS : List Field :=
  [fd 63 63 .ro 0x0, fd 62 10 .ro 0x0, fd 9 0 .ro 0x0]
def fields_MON_CTL : List Field :=
  [fd 63 63 .lk 0x0, fd 62 48 .ro 0x0, fd 47 32 .lk 0x226, fd 31 16 .rw 0x2A8, fd 15 8 .ro 0x0,
   fd 7 0 .rw 0x69]
def fields_MON_CLOCK : List Field :=
  [fd 63 48 .ro 0x0, fd 47 32 .ro 0x0, fd 31 16 .ro 0x0, fd 15 0 .ro 0x0]
def fields_MON_COEF : List Field :=
  [fd 63 48 .rw 0x0, fd 47 32 .rw 0x0, fd 31 16 .rw 0x0, fd 15 0 .rw 0x0]
def fields_MON_ENERGY_TOTAL : List Field :=
  [fd 63 0 .ro 0x0]
def fields_MON_TEMP : List Field :=
  [fd 63 32 .ro 0x0, fd 31 16 .ro 0x0, fd 15 0 .ro 0x0]
def fields_MON_VOLT : List Field :=
  [fd 63 48 .ro 0x0, fd 47 32 .ro 0x0, fd 31 16 .ro 0xFFFF, fd 15 0 .ro 0x0]
def fields_MON_PROC : List Field :=
  [fd 63 32 .ro 0x0, fd 31 0 .ro 0x0]
def fields_MON_SLACK : List Field :=
  [fd 63 9 .ro 0x0, fd 8 8 .ro 0x0, fd 7 0 .ro 0xFF]
def fields_IRQ_SUMMARY : List Field :=
  [fd 63 22 .ro 0x0, fd 21 1 .ro 0x0, fd 0 0 .ro 0x0]
def fields_IRQ_STW_SUMMARY : List Field :=
  [fd 63 22 .ro 0x0, fd 21 1 .ro 0x0, fd 0 0 .ro 0x0]
def fields_IRQ_PENDING : List Field :=
  [fd 63 22 .ro 0x0, fd 21 1 .ro 0x0, fd 0 0 .ro 0x0]
def fields_IRQ_ENABLE : List Field :=
  [fd 63 22 .ro 0x0, fd 21 1 .rw 0x0, fd 0 0 .ro 0x0]
def fields_IRQ_STW_ENABLE : List Field :=
  [fd 63 22 .ro 0x0, fd 21 1 .rw 0x0, fd 0 0 .ro 0x0]
def fields_IRQ_TEST : List Field :=
  [fd 63 1 .ro 0x0, fd 0 0 .wo 0x0]
def fields_IRQ_CAUSE : List Field :=
  [fd 63 8 .ro 0x0, fd 7 0 .w1c 0x0]
def fields_IRQ_CAUSE_MASK : List Field :=
  [fd 63 8 .ro 0x0, fd 7 0 .rw 0x0]
def fields_TRC_CTL : List Field :=
  [fd 63 48 .rw 0xA, fd 47 32 .rw 0x40, fd 31 16 .rw 0x14, fd 15 0 .ro 0x0]
def fields_TRC_TRACE_EN : List Field :=
  [fd 63 22 .ro 0x0, fd 21 1 .rw 0x0, fd 0 0 .ro 0x0]
def fields_TRC_RATE : List Field :=
  [fd 63 48 .rw 0x64, fd 47 32 .rw 0x40, fd 31 16 .rw 0x3E8, fd 15 0 .rw 0x100]
def fields_TRC_STATUS : List Field :=
  [fd 63 57 .ro 0x0, fd 56 48 .ro 0x0, fd 47 45 .ro 0x0, fd 44 32 .ro 0x0, fd 31 27 .ro 0x0,
   fd 26 16 .ro 0x0, fd 15 11 .ro 0x0, fd 10 0 .ro 0x0]
def fields_TRC_OFF_DROPS : List Field :=
  [fd 63 32 .ro 0x0, fd 31 0 .ro 0x0]
def fields_TRC_RING_BASE : List Field :=
  [fd 63 12 .rw 0x0, fd 11 6 .ro 0x0, fd 5 5 .rw 0x0, fd 4 0 .rw 0x0]
def fields_TRC_RING_HEAD : List Field :=
  [fd 63 16 .ro 0x0, fd 15 0 .ro 0x0]
def fields_TRC_RING_TAIL : List Field :=
  [fd 63 16 .ro 0x0, fd 15 0 .rw 0x0]
def fields_TRC_ALARM_CODES : List Field :=
  [fd 63 63 .w1c 0x0, fd 62 56 .ro 0x0, fd 55 48 .ro 0x0, fd 47 32 .ro 0x0, fd 31 16 .ro 0x0,
   fd 15 0 .ro 0x0]
def fields_TRC_ALARM_FIRST_GTB : List Field :=
  [fd 63 0 .ro 0x0]
def fields_TRC_ALARM_LAST_GTB : List Field :=
  [fd 63 0 .ro 0x0]
def fields_TRC_ALARM_DETAIL : List Field :=
  [fd 63 0 .ro 0x0]
def fields_TRC_DROP : List Field :=
  [fd 63 32 .ro 0x0, fd 31 0 .ro 0x0]
def fields_GLB_ID : List Field :=
  [fd 63 48 .ro 0x512, fd 47 40 .ro 0x1, fd 39 32 .ro 0x0, fd 31 0 .ro 0x1E512A5B]
def fields_GLB_BOOT : List Field :=
  [fd 63 48 .ro 0x0, fd 47 32 .ro 0x0, fd 31 8 .ro 0x0, fd 7 4 .ro 0x0, fd 3 0 .ro 0x0]
def fields_STW_IMG_ADDR : List Field :=
  [fd 63 0 .rw 0x0]
def fields_STW_IMG_LEN : List Field :=
  [fd 63 0 .rw 0x0]
def fields_STW_IMG_CTL : List Field :=
  [fd 63 21 .ro 0x0, fd 20 20 .w1s 0x0, fd 19 0 .rw 0x0]
def fields_STW_STATUS : List Field :=
  [fd 63 63 .w1s 0x0, fd 62 5 .ro 0x0, fd 4 0 .ro 0x0]

/-- The register tables of the chapters. -/
def regDef : Reg → RegDef
  | .GLB_INVENTORY => ⟨0x20, 0x0, 0, 0, 8, .por, fields_GLB_INVENTORY⟩
  | .GLB_PD_REQ => ⟨0x40, 0x0, 0, 0, 8, .sys, fields_GLB_PD_REQ⟩
  | .GLB_PD_STATUS => ⟨0x48, 0x0, 0, 0, 8, .sys, fields_GLB_PD_STATUS⟩
  | .HDG_CTL => ⟨0x280000, 0x0, 0, 0, 8, .sys, fields_HDG_CTL⟩
  | .HDG_ST_STATUS => ⟨0x281000, 0x40, 0, 67, 8, .sys, fields_HDG_ST_STATUS⟩
  | .HDG_COUNT => ⟨0x281008, 0x40, 0, 67, 8, .sys, fields_HDG_COUNT⟩
  | .HDG_LAST_DENY => ⟨0x281010, 0x40, 0, 67, 8, .sys, fields_HDG_LAST_DENY⟩
  | .HDG_LAST_DENY_INFO => ⟨0x281018, 0x40, 0, 67, 8, .sys, fields_HDG_LAST_DENY_INFO⟩
  | .CMP_CHIPNUM => ⟨0x300000, 0x0, 0, 0, 8, .sys, fields_CMP_CHIPNUM⟩
  | .CMP_EPOCH => ⟨0x300008, 0x0, 0, 0, 8, .sys, fields_CMP_EPOCH⟩
  | .CMP_DRAIN => ⟨0x300010, 0x0, 0, 0, 8, .sys, fields_CMP_DRAIN⟩
  | .CMP_EPOCH_STAT => ⟨0x300030, 0x0, 0, 0, 8, .epoch, fields_CMP_EPOCH_STAT⟩
  | .CMP_METER_CTL => ⟨0x300018, 0x0, 0, 0, 8, .sys, fields_CMP_METER_CTL⟩
  | .CMP_OWN_IDX => ⟨0x300020, 0x0, 0, 0, 8, .sys, fields_CMP_OWN_IDX⟩
  | .CMP_OWN_DATA => ⟨0x300028, 0x0, 0, 0, 8, .sys, fields_CMP_OWN_DATA⟩
  | .CMP_SLICE_CTL => ⟨0x301000, 0x8, 0, 128, 8, .sys, fields_CMP_SLICE_CTL⟩
  | .CMP_CHIPS => ⟨0x302000, 0x8, 0, 128, 8, .sys, fields_CMP_CHIPS⟩
  | .CMP_CORE_SLICE => ⟨0x303000, 0x8, 0, 76, 8, .sys, fields_CMP_CORE_SLICE⟩
  | .CMP_MEMCH => ⟨0x303400, 0x8, 0, 63, 8, .sys, fields_CMP_MEMCH⟩
  | .CMP_LINK => ⟨0x303600, 0x8, 0, 15, 8, .sys, fields_CMP_LINK⟩
  | .CMP_PASID => ⟨0x304000, 0x8, 0, 1023, 8, .sys, fields_CMP_PASID⟩
  | .CMP_COMMONS_CTL => ⟨0x306000, 0x20, 1, 127, 8, .sys, fields_CMP_COMMONS_CTL⟩
  | .CMP_COMMONS_MEMBERS_LO => ⟨0x306008, 0x20, 1, 127, 8, .sys, fields_CMP_COMMONS_MEMBERS_LO⟩
  | .CMP_COMMONS_MEMBERS_HI => ⟨0x306010, 0x20, 1, 127, 8, .sys, fields_CMP_COMMONS_MEMBERS_HI⟩
  | .CMP_COMMONS_RES_MEMCH_US => ⟨0x306018, 0x20, 1, 127, 8, .por, fields_CMP_COMMONS_RES_MEMCH_US⟩
  | .CMP_RES_TIME_NS => ⟨0x308000, 0x20, 0, 128, 8, .por, fields_CMP_RES_TIME_NS⟩
  | .CMP_RES_CORE_US => ⟨0x308008, 0x20, 0, 128, 8, .por, fields_CMP_RES_CORE_US⟩
  | .CMP_RES_MEMCH_US => ⟨0x308010, 0x20, 0, 128, 8, .por, fields_CMP_RES_MEMCH_US⟩
  | .CMP_RES_LINK_US => ⟨0x308018, 0x20, 0, 128, 8, .por, fields_CMP_RES_LINK_US⟩
  | .STG_CS_CMD => ⟨0x180000, 0x0, 0, 0, 8, .sys, fields_STG_CS_CMD⟩
  | .STG_CS_OPENED => ⟨0x180008, 0x0, 0, 0, 8, .sys, fields_STG_CS_OPENED⟩
  | .STG_ENTRY_W0 => ⟨0x180010, 0x0, 0, 0, 8, .sys, fields_STG_ENTRY_W0⟩
  | .STG_ENTRY_W1 => ⟨0x180018, 0x0, 0, 0, 8, .sys, fields_STG_ENTRY_W1⟩
  | .STG_GTB => ⟨0x180020, 0x0, 0, 0, 8, .por, fields_STG_GTB⟩
  | .STG_GTB_STATUS => ⟨0x180028, 0x0, 0, 0, 8, .por, fields_STG_GTB_STATUS⟩
  | .STG_LAST_T => ⟨0x180030, 0x0, 0, 0, 8, .sys, fields_STG_LAST_T⟩
  | .STG_CS_STATUS => ⟨0x180100, 0x20, 0, 3, 8, .sys, fields_STG_CS_STATUS⟩
  | .STG_CS_T => ⟨0x180108, 0x20, 0, 3, 8, .sys, fields_STG_CS_T⟩
  | .STG_CS_REFUSE => ⟨0x180110, 0x20, 0, 3, 8, .sys, fields_STG_CS_REFUSE⟩
  | .ADM_FLOOR => ⟨0x200000, 0x0, 0, 0, 8, .sys, fields_ADM_FLOOR⟩
  | .ADM_THETA => ⟨0x200008, 0x0, 0, 0, 8, .por, fields_ADM_THETA⟩
  | .ADM_SLICE => ⟨0x200800, 0x8, 1, 128, 8, .sys, fields_ADM_SLICE⟩
  | .ADM_CONTRACT => ⟨0x201000, 0x8, 0, 2047, 8, .sys, fields_ADM_CONTRACT⟩
  | .ADM_W => ⟨0x205000, 0x8, 0, 255, 8, .sys, fields_ADM_W⟩
  | .XLT_CTL => ⟨0x380000, 0x0, 0, 0, 8, .sys, fields_XLT_CTL⟩
  | .XLT_STATUS => ⟨0x380008, 0x0, 0, 0, 8, .sys, fields_XLT_STATUS⟩
  | .XLT_MGR_KEYID => ⟨0x380010, 0x0, 0, 0, 8, .sys, fields_XLT_MGR_KEYID⟩
  | .XLT_INV_ADDR => ⟨0x380020, 0x0, 0, 0, 8, .sys, fields_XLT_INV_ADDR⟩
  | .XLT_INV_CMD => ⟨0x380028, 0x0, 0, 0, 8, .sys, fields_XLT_INV_CMD⟩
  | .XLT_INV_SEQ => ⟨0x380030, 0x0, 0, 0, 8, .sys, fields_XLT_INV_SEQ⟩
  | .XLT_FR_BASE => ⟨0x380040, 0x0, 0, 0, 8, .sys, fields_XLT_FR_BASE⟩
  | .XLT_FR_HEAD => ⟨0x380048, 0x0, 0, 0, 8, .sys, fields_XLT_FR_HEAD⟩
  | .XLT_FR_TAIL => ⟨0x380050, 0x0, 0, 0, 8, .sys, fields_XLT_FR_TAIL⟩
  | .XLT_FAULT_RESOLVE => ⟨0x380058, 0x0, 0, 0, 8, .sys, fields_XLT_FAULT_RESOLVE⟩
  | .XLT_HFMT_W0 => ⟨0x380100, 0x10, 0, 7, 8, .sys, fields_XLT_HFMT_W0⟩
  | .XLT_HFMT_W1 => ⟨0x380108, 0x10, 0, 7, 8, .sys, fields_XLT_HFMT_W1⟩
  | .XLT_ROUTE => ⟨0x380200, 0x8, 0, 63, 8, .sys, fields_XLT_ROUTE⟩
  | .XLT_KEYOWN => ⟨0x380400, 0x8, 0, 127, 8, .sys, fields_XLT_KEYOWN⟩
  | .XLT_MIG_RING => ⟨0x381000, 0x10, 1, 128, 8, .sys, fields_XLT_MIG_RING⟩
  | .XLT_MIG_IDX => ⟨0x381008, 0x10, 1, 128, 8, .sys, fields_XLT_MIG_IDX⟩
  | .MIL_CTL => ⟨0x400000, 0x0, 0, 0, 8, .sys, fields_MIL_CTL⟩
  | .MIL_RETIRE => ⟨0x400008, 0x0, 0, 0, 8, .sys, fields_MIL_RETIRE⟩
  | .MIL_RETIRE_STATUS => ⟨0x400010, 0x0, 0, 0, 8, .sys, fields_MIL_RETIRE_STATUS⟩
  | .MIL_KEYSTATE => ⟨0x400400, 0x8, 0, 31, 8, .sys, fields_MIL_KEYSTATE⟩
  | .MIL_RANGE_LO => ⟨0x400800, 0x10, 0, 15, 8, .sys, fields_MIL_RANGE_LO⟩
  | .MIL_RANGE_HI => ⟨0x400808, 0x10, 0, 15, 8, .sys, fields_MIL_RANGE_HI⟩
  | .MIL_ST_STATUS => ⟨0x401000, 0x40, 0, 71, 8, .sys, fields_MIL_ST_STATUS⟩
  | .MIL_ST_COUNT => ⟨0x401008, 0x40, 0, 71, 8, .sys, fields_MIL_ST_COUNT⟩
  | .MIL_ST_LAST_FAIL => ⟨0x401010, 0x40, 0, 71, 8, .sys, fields_MIL_ST_LAST_FAIL⟩
  | .MIL_ST_SKIPPED => ⟨0x401018, 0x40, 0, 71, 8, .sys, fields_MIL_ST_SKIPPED⟩
  | .CTR_CTL => ⟨0x480000, 0x0, 0, 0, 8, .sys, fields_CTR_CTL⟩
  | .CTR_POUND_CLEAR => ⟨0x480008, 0x0, 0, 0, 8, .sys, fields_CTR_POUND_CLEAR⟩
  | .CTR_POUND_STATUS => ⟨0x480010, 0x0, 0, 0, 8, .sys, fields_CTR_POUND_STATUS⟩
  | .CTR_ST_STATUS => ⟨0x481000, 0x40, 0, 71, 8, .sys, fields_CTR_ST_STATUS⟩
  | .CTR_ST_COUNT => ⟨0x481008, 0x40, 0, 71, 8, .sys, fields_CTR_ST_COUNT⟩
  | .CTR_ST_MIRROR => ⟨0x481010, 0x40, 0, 71, 8, .sys, fields_CTR_ST_MIRROR⟩
  | .DRV_CTL => ⟨0x500000, 0x0, 0, 0, 8, .sys, fields_DRV_CTL⟩
  | .DRV_STATUS => ⟨0x500008, 0x0, 0, 0, 8, .sys, fields_DRV_STATUS⟩
  | .DRV_LAST_ERR => ⟨0x500010, 0x0, 0, 0, 8, .sys, fields_DRV_LAST_ERR⟩
  | .DRV_LAST_ERR_INFO => ⟨0x500018, 0x0, 0, 0, 8, .sys, fields_DRV_LAST_ERR_INFO⟩
  | .DRV_SLICE_RATE => ⟨0x501000, 0x20, 1, 128, 8, .sys, fields_DRV_SLICE_RATE⟩
  | .DRV_SLICE_BYTES => ⟨0x501008, 0x20, 1, 128, 8, .sys, fields_DRV_SLICE_BYTES⟩
  | .DRV_SLICE_ROUTES => ⟨0x501010, 0x20, 1, 128, 8, .sys, fields_DRV_SLICE_ROUTES⟩
  | .DRV_SLICE_SKIP => ⟨0x501018, 0x20, 1, 128, 8, .sys, fields_DRV_SLICE_SKIP⟩
  | .DRV_ST_STATUS => ⟨0x504000, 0x40, 0, 67, 8, .sys, fields_DRV_ST_STATUS⟩
  | .DRV_ST_COUNT => ⟨0x504008, 0x40, 0, 67, 8, .sys, fields_DRV_ST_COUNT⟩
  | .SCH_CTL => ⟨0x580000, 0x0, 0, 0, 8, .sys, fields_SCH_CTL⟩
  | .SCH_STATUS => ⟨0x580008, 0x0, 0, 0, 8, .sys, fields_SCH_STATUS⟩
  | .SCH_LAST_KILL => ⟨0x580010, 0x0, 0, 0, 8, .sys, fields_SCH_LAST_KILL⟩
  | .SCH_RES => ⟨0x581000, 0x20, 0, 47, 8, .sys, fields_SCH_RES⟩
  | .SCH_RES_USE => ⟨0x581008, 0x20, 0, 47, 8, .sys, fields_SCH_RES_USE⟩
  | .SCH_CORE => ⟨0x584000, 0x8, 0, 611, 8, .sys, fields_SCH_CORE⟩
  | .SCH_SLICE_COUNT => ⟨0x586000, 0x8, 1, 128, 8, .sys, fields_SCH_SLICE_COUNT⟩
  | .COH_CTL => ⟨0x600000, 0x0, 0, 0, 8, .sys, fields_COH_CTL⟩
  | .COH_STATUS => ⟨0x600008, 0x0, 0, 0, 8, .sys, fields_COH_STATUS⟩
  | .COH_LAST_ERR => ⟨0x600010, 0x0, 0, 0, 8, .sys, fields_COH_LAST_ERR⟩
  | .COH_LAST_ERR_PA => ⟨0x600018, 0x0, 0, 0, 8, .sys, fields_COH_LAST_ERR_PA⟩
  | .COH_FS_STATUS => ⟨0x601000, 0x40, 0, 15, 8, .sys, fields_COH_FS_STATUS⟩
  | .COH_FS_COUNT => ⟨0x601008, 0x40, 0, 15, 8, .sys, fields_COH_FS_COUNT⟩
  | .COH_CORE_LINES => ⟨0x602000, 0x8, 0, 611, 8, .sys, fields_COH_CORE_LINES⟩
  | .HIF_CTL => ⟨0x80000, 0x0, 0, 0, 8, .sys, fields_HIF_CTL⟩
  | .HIF_STATUS => ⟨0x80008, 0x0, 0, 0, 8, .sys, fields_HIF_STATUS⟩
  | .HIF_LAST_ERR => ⟨0x80010, 0x0, 0, 0, 8, .sys, fields_HIF_LAST_ERR⟩
  | .HIF_BAR0_ERR => ⟨0x80018, 0x0, 0, 0, 8, .sys, fields_HIF_BAR0_ERR⟩
  | .HIF_CPL_SUMMARY => ⟨0x80800, 0x8, 0, 3, 8, .sys, fields_HIF_CPL_SUMMARY⟩
  | .HIF_CPL_PENDING => ⟨0x81000, 0x8, 0, 255, 8, .sys, fields_HIF_CPL_PENDING⟩
  | .OBJ_CTL => ⟨0x100000, 0x0, 0, 0, 8, .sys, fields_OBJ_CTL⟩
  | .OBJ_PHASE => ⟨0x100008, 0x0, 0, 0, 8, .sys, fields_OBJ_PHASE⟩
  | .OBJ_TABLE_BASE => ⟨0x100010, 0x0, 0, 0, 8, .sys, fields_OBJ_TABLE_BASE⟩
  | .OBJ_CMD => ⟨0x100018, 0x0, 0, 0, 8, .sys, fields_OBJ_CMD⟩
  | .OBJ_CMD_STATUS => ⟨0x100020, 0x0, 0, 0, 8, .sys, fields_OBJ_CMD_STATUS⟩
  | .OBJ_REC_SEL => ⟨0x100028, 0x0, 0, 0, 8, .sys, fields_OBJ_REC_SEL⟩
  | .OBJ_REC_DATA => ⟨0x101000, 0x8, 0, 511, 8, .sys, fields_OBJ_REC_DATA⟩
  | .OBJ_NR_BASE => ⟨0x100030, 0x0, 0, 0, 8, .sys, fields_OBJ_NR_BASE⟩
  | .OBJ_NR_HEAD => ⟨0x100038, 0x0, 0, 0, 8, .sys, fields_OBJ_NR_HEAD⟩
  | .OBJ_NR_TAIL => ⟨0x100040, 0x0, 0, 0, 8, .sys, fields_OBJ_NR_TAIL⟩
  | .OBJ_STATUS => ⟨0x100048, 0x0, 0, 0, 8, .sys, fields_OBJ_STATUS⟩
  | .OBJ_LAST_ERR => ⟨0x100050, 0x0, 0, 0, 8, .sys, fields_OBJ_LAST_ERR⟩
  | .TEN_CMD => ⟨0xA00000, 0x0, 0, 0, 8, .sys, fields_TEN_CMD⟩
  | .TEN_STATUS => ⟨0xA00008, 0x0, 0, 0, 8, .sys, fields_TEN_STATUS⟩
  | .TEN_MBX_SEL => ⟨0xA00010, 0x0, 0, 0, 8, .sys, fields_TEN_MBX_SEL⟩
  | .TEN_MIG_BUF => ⟨0xA00018, 0x0, 0, 0, 8, .sys, fields_TEN_MIG_BUF⟩
  | .TEN_MIG_OFFER => ⟨0xA00020, 0x0, 0, 0, 8, .sys, fields_TEN_MIG_OFFER⟩
  | .TEN_MIG_LEN => ⟨0xA00028, 0x0, 0, 0, 8, .sys, fields_TEN_MIG_LEN⟩
  | .TEN_MIG_PASID => ⟨0xA00030, 0x0, 0, 0, 8, .sys, fields_TEN_MIG_PASID⟩
  | .TEN_MIG_GKEY => ⟨0xA00038, 0x0, 0, 0, 8, .sys, fields_TEN_MIG_GKEY⟩
  | .TEN_T2M_PENDING => ⟨0xA00800, 0x8, 0, 1, 8, .sys, fields_TEN_T2M_PENDING⟩
  | .TEN_M2T_PENDING => ⟨0xA00810, 0x8, 0, 1, 8, .sys, fields_TEN_M2T_PENDING⟩
  | .TEN_SLICE_STATE => ⟨0xA01000, 0x8, 1, 128, 8, .sys, fields_TEN_SLICE_STATE⟩
  | .TEN_MIG_KEYMAP => ⟨0xA01800, 0x8, 0, 63, 8, .sys, fields_TEN_MIG_KEYMAP⟩
  | .TEN_MIG_ALLOW => ⟨0xA02000, 0x8, 0, 31, 6, .por, fields_TEN_MIG_ALLOW⟩
  | .TEN_MBX_WIN => ⟨0xA04000, 0x8, 0, 2047, 8, .sys, fields_TEN_MBX_WIN⟩
  | .LNK_KX_CMD => ⟨0x680000, 0x0, 0, 0, 8, .sys, fields_LNK_KX_CMD⟩
  | .LNK_KX_STATUS => ⟨0x680008, 0x0, 0, 0, 8, .sys, fields_LNK_KX_STATUS⟩
  | .LNK_RETIRE => ⟨0x680010, 0x0, 0, 0, 8, .sys, fields_LNK_RETIRE⟩
  | .LNK_PEER_ALLOW => ⟨0x680100, 0x8, 0, 31, 6, .por, fields_LNK_PEER_ALLOW⟩
  | .LNK_PORT_CFG => ⟨0x681000, 0x40, 0, 15, 8, .sys, fields_LNK_PORT_CFG⟩
  | .LNK_PORT_STATUS => ⟨0x681008, 0x40, 0, 15, 8, .sys, fields_LNK_PORT_STATUS⟩
  | .LNK_LANE => ⟨0x681010, 0x40, 0, 15, 8, .sys, fields_LNK_LANE⟩
  | .LNK_COUNT => ⟨0x681018, 0x40, 0, 15, 8, .sys, fields_LNK_COUNT⟩
  | .KEY_CMD => ⟨0x700000, 0x0, 0, 0, 8, .sys, fields_KEY_CMD⟩
  | .KEY_STATUS => ⟨0x700008, 0x0, 0, 0, 8, .sys, fields_KEY_STATUS⟩
  | .KEY_MEAS => ⟨0x700100, 0x8, 0, 17, 8, .por, fields_KEY_MEAS⟩
  | .KEY_DEVICE_ID => ⟨0x700200, 0x8, 0, 5, 8, .sys, fields_KEY_DEVICE_ID⟩
  | .KEY_CFG_DIGEST => ⟨0x700240, 0x8, 0, 5, 8, .sys, fields_KEY_CFG_DIGEST⟩
  | .KEY_SLOT => ⟨0x701000, 0x8, 0, 271, 8, .sys, fields_KEY_SLOT⟩
  | .KEY_BUF => ⟨0x704000, 0x8, 0, 2047, 8, .sys, fields_KEY_BUF⟩
  | .LCS_STATE => ⟨0x780000, 0x0, 0, 0, 8, .por, fields_LCS_STATE⟩
  | .LCS_XCMD => ⟨0x780008, 0x0, 0, 0, 8, .por, fields_LCS_XCMD⟩
  | .LCS_XSTATUS => ⟨0x780010, 0x0, 0, 0, 8, .por, fields_LCS_XSTATUS⟩
  | .LCS_GATE => ⟨0x780018, 0x0, 0, 0, 8, .por, fields_LCS_GATE⟩
  | .LCS_DBG_CMD => ⟨0x780020, 0x0, 0, 0, 8, .sys, fields_LCS_DBG_CMD⟩
  | .LCS_DBG_STATUS => ⟨0x780028, 0x0, 0, 0, 8, .sys, fields_LCS_DBG_STATUS⟩
  | .LCS_BUF => ⟨0x781000, 0x8, 0, 639, 8, .sys, fields_LCS_BUF⟩
  | .SPR_CTL => ⟨0x800000, 0x0, 0, 0, 8, .sys, fields_SPR_CTL⟩
  | .SPR_STATUS => ⟨0x800008, 0x0, 0, 0, 8, .sys, fields_SPR_STATUS⟩
  | .SPR_LAST => ⟨0x800010, 0x0, 0, 0, 8, .sys, fields_SPR_LAST⟩
  | .SPR_REBUILD => ⟨0x800018, 0x0, 0, 0, 8, .sys, fields_SPR_REBUILD⟩
  | .SPR_RS => ⟨0x800020, 0x0, 0, 0, 8, .sys, fields_SPR_RS⟩
  | .SPR_CORE_ALIAS => ⟨0x801000, 0x8, 0, 611, 8, .sys, fields_SPR_CORE_ALIAS⟩
  | .MON_CTL => ⟨0x880000, 0x0, 0, 0, 8, .por, fields_MON_CTL⟩
  | .MON_CLOCK => ⟨0x880008, 0x0, 0, 0, 8, .sys, fields_MON_CLOCK⟩
  | .MON_COEF => ⟨0x880010, 0x0, 0, 0, 8, .sys, fields_MON_COEF⟩
  | .MON_ENERGY_TOTAL => ⟨0x880018, 0x0, 0, 0, 8, .por, fields_MON_ENERGY_TOTAL⟩
  | .MON_TEMP => ⟨0x881000, 0x8, 0, 47, 8, .sys, fields_MON_TEMP⟩
  | .MON_VOLT => ⟨0x881800, 0x8, 0, 31, 8, .sys, fields_MON_VOLT⟩
  | .MON_PROC => ⟨0x881C00, 0x8, 0, 15, 8, .sys, fields_MON_PROC⟩
  | .MON_SLACK => ⟨0x882000, 0x8, 1, 128, 8, .sys, fields_MON_SLACK⟩
  | .IRQ_SUMMARY => ⟨0x900000, 0x0, 0, 0, 8, .sys, fields_IRQ_SUMMARY⟩
  | .IRQ_STW_SUMMARY => ⟨0x900020, 0x0, 0, 0, 8, .sys, fields_IRQ_STW_SUMMARY⟩
  | .IRQ_PENDING => ⟨0x900008, 0x0, 0, 0, 8, .sys, fields_IRQ_PENDING⟩
  | .IRQ_ENABLE => ⟨0x900010, 0x0, 0, 0, 8, .sys, fields_IRQ_ENABLE⟩
  | .IRQ_STW_ENABLE => ⟨0x900018, 0x0, 0, 0, 8, .sys, fields_IRQ_STW_ENABLE⟩
  | .IRQ_TEST => ⟨0x900028, 0x0, 0, 0, 8, .sys, fields_IRQ_TEST⟩
  | .IRQ_CAUSE => ⟨0x901000, 0x10, 1, 21, 8, .sys, fields_IRQ_CAUSE⟩
  | .IRQ_CAUSE_MASK => ⟨0x901008, 0x10, 1, 21, 8, .sys, fields_IRQ_CAUSE_MASK⟩
  | .TRC_CTL => ⟨0x980000, 0x0, 0, 0, 8, .sys, fields_TRC_CTL⟩
  | .TRC_TRACE_EN => ⟨0x980008, 0x0, 0, 0, 8, .sys, fields_TRC_TRACE_EN⟩
  | .TRC_RATE => ⟨0x980010, 0x0, 0, 0, 8, .sys, fields_TRC_RATE⟩
  | .TRC_STATUS => ⟨0x980018, 0x0, 0, 0, 8, .sys, fields_TRC_STATUS⟩
  | .TRC_OFF_DROPS => ⟨0x980020, 0x0, 0, 0, 8, .sys, fields_TRC_OFF_DROPS⟩
  | .TRC_RING_BASE => ⟨0x980100, 0x20, 0, 2, 8, .sys, fields_TRC_RING_BASE⟩
  | .TRC_RING_HEAD => ⟨0x980108, 0x20, 0, 2, 8, .sys, fields_TRC_RING_HEAD⟩
  | .TRC_RING_TAIL => ⟨0x980110, 0x20, 0, 2, 8, .sys, fields_TRC_RING_TAIL⟩
  | .TRC_ALARM_CODES => ⟨0x981000, 0x20, 0, 187, 8, .por, fields_TRC_ALARM_CODES⟩
  | .TRC_ALARM_FIRST_GTB => ⟨0x981008, 0x20, 0, 187, 8, .por, fields_TRC_ALARM_FIRST_GTB⟩
  | .TRC_ALARM_LAST_GTB => ⟨0x981010, 0x20, 0, 187, 8, .por, fields_TRC_ALARM_LAST_GTB⟩
  | .TRC_ALARM_DETAIL => ⟨0x981018, 0x20, 0, 187, 8, .por, fields_TRC_ALARM_DETAIL⟩
  | .TRC_DROP => ⟨0x984000, 0x8, 0, 187, 8, .sys, fields_TRC_DROP⟩
  | .GLB_ID => ⟨0x0, 0x0, 0, 0, 8, .por, fields_GLB_ID⟩
  | .GLB_BOOT => ⟨0x8, 0x0, 0, 0, 8, .sys, fields_GLB_BOOT⟩
  | .STW_IMG_ADDR => ⟨0xA80000, 0x10, 0, 1, 8, .sys, fields_STW_IMG_ADDR⟩
  | .STW_IMG_LEN => ⟨0xA80008, 0x10, 0, 1, 8, .sys, fields_STW_IMG_LEN⟩
  | .STW_IMG_CTL => ⟨0xA80020, 0x0, 0, 0, 8, .sys, fields_STW_IMG_CTL⟩
  | .STW_STATUS => ⟨0xA80028, 0x0, 0, 0, 8, .sys, fields_STW_STATUS⟩

def regs0 : List Reg :=
  [.GLB_INVENTORY, .GLB_PD_REQ, .GLB_PD_STATUS, .HDG_CTL, .HDG_ST_STATUS,
   .HDG_COUNT, .HDG_LAST_DENY, .HDG_LAST_DENY_INFO, .CMP_CHIPNUM, .CMP_EPOCH,
   .CMP_DRAIN, .CMP_EPOCH_STAT, .CMP_METER_CTL, .CMP_OWN_IDX, .CMP_OWN_DATA,
   .CMP_SLICE_CTL, .CMP_CHIPS, .CMP_CORE_SLICE, .CMP_MEMCH, .CMP_LINK,
   .CMP_PASID, .CMP_COMMONS_CTL, .CMP_COMMONS_MEMBERS_LO, .CMP_COMMONS_MEMBERS_HI, .CMP_COMMONS_RES_MEMCH_US]
def regs1 : List Reg :=
  [.CMP_RES_TIME_NS, .CMP_RES_CORE_US, .CMP_RES_MEMCH_US, .CMP_RES_LINK_US, .STG_CS_CMD,
   .STG_CS_OPENED, .STG_ENTRY_W0, .STG_ENTRY_W1, .STG_GTB, .STG_GTB_STATUS,
   .STG_LAST_T, .STG_CS_STATUS, .STG_CS_T, .STG_CS_REFUSE, .ADM_FLOOR,
   .ADM_THETA, .ADM_SLICE, .ADM_CONTRACT, .ADM_W, .XLT_CTL,
   .XLT_STATUS, .XLT_MGR_KEYID, .XLT_INV_ADDR, .XLT_INV_CMD, .XLT_INV_SEQ]
def regs2 : List Reg :=
  [.XLT_FR_BASE, .XLT_FR_HEAD, .XLT_FR_TAIL, .XLT_FAULT_RESOLVE, .XLT_HFMT_W0,
   .XLT_HFMT_W1, .XLT_ROUTE, .XLT_KEYOWN, .XLT_MIG_RING, .XLT_MIG_IDX,
   .MIL_CTL, .MIL_RETIRE, .MIL_RETIRE_STATUS, .MIL_KEYSTATE, .MIL_RANGE_LO,
   .MIL_RANGE_HI, .MIL_ST_STATUS, .MIL_ST_COUNT, .MIL_ST_LAST_FAIL, .MIL_ST_SKIPPED,
   .CTR_CTL, .CTR_POUND_CLEAR, .CTR_POUND_STATUS, .CTR_ST_STATUS, .CTR_ST_COUNT]
def regs3 : List Reg :=
  [.CTR_ST_MIRROR, .DRV_CTL, .DRV_STATUS, .DRV_LAST_ERR, .DRV_LAST_ERR_INFO,
   .DRV_SLICE_RATE, .DRV_SLICE_BYTES, .DRV_SLICE_ROUTES, .DRV_SLICE_SKIP, .DRV_ST_STATUS,
   .DRV_ST_COUNT, .SCH_CTL, .SCH_STATUS, .SCH_LAST_KILL, .SCH_RES,
   .SCH_RES_USE, .SCH_CORE, .SCH_SLICE_COUNT, .COH_CTL, .COH_STATUS,
   .COH_LAST_ERR, .COH_LAST_ERR_PA, .COH_FS_STATUS, .COH_FS_COUNT, .COH_CORE_LINES]
def regs4 : List Reg :=
  [.HIF_CTL, .HIF_STATUS, .HIF_LAST_ERR, .HIF_BAR0_ERR, .HIF_CPL_SUMMARY,
   .HIF_CPL_PENDING, .OBJ_CTL, .OBJ_PHASE, .OBJ_TABLE_BASE, .OBJ_CMD,
   .OBJ_CMD_STATUS, .OBJ_REC_SEL, .OBJ_REC_DATA, .OBJ_NR_BASE, .OBJ_NR_HEAD,
   .OBJ_NR_TAIL, .OBJ_STATUS, .OBJ_LAST_ERR, .TEN_CMD, .TEN_STATUS,
   .TEN_MBX_SEL, .TEN_MIG_BUF, .TEN_MIG_OFFER, .TEN_MIG_LEN, .TEN_MIG_PASID]
def regs5 : List Reg :=
  [.TEN_MIG_GKEY, .TEN_T2M_PENDING, .TEN_M2T_PENDING, .TEN_SLICE_STATE, .TEN_MIG_KEYMAP,
   .TEN_MIG_ALLOW, .TEN_MBX_WIN, .LNK_KX_CMD, .LNK_KX_STATUS, .LNK_RETIRE,
   .LNK_PEER_ALLOW, .LNK_PORT_CFG, .LNK_PORT_STATUS, .LNK_LANE, .LNK_COUNT,
   .KEY_CMD, .KEY_STATUS, .KEY_MEAS, .KEY_DEVICE_ID, .KEY_CFG_DIGEST,
   .KEY_SLOT, .KEY_BUF, .LCS_STATE, .LCS_XCMD, .LCS_XSTATUS]
def regs6 : List Reg :=
  [.LCS_GATE, .LCS_DBG_CMD, .LCS_DBG_STATUS, .LCS_BUF, .SPR_CTL,
   .SPR_STATUS, .SPR_LAST, .SPR_REBUILD, .SPR_RS, .SPR_CORE_ALIAS,
   .MON_CTL, .MON_CLOCK, .MON_COEF, .MON_ENERGY_TOTAL, .MON_TEMP,
   .MON_VOLT, .MON_PROC, .MON_SLACK, .IRQ_SUMMARY, .IRQ_STW_SUMMARY,
   .IRQ_PENDING, .IRQ_ENABLE, .IRQ_STW_ENABLE, .IRQ_TEST, .IRQ_CAUSE]
def regs7 : List Reg :=
  [.IRQ_CAUSE_MASK, .TRC_CTL, .TRC_TRACE_EN, .TRC_RATE, .TRC_STATUS,
   .TRC_OFF_DROPS, .TRC_RING_BASE, .TRC_RING_HEAD, .TRC_RING_TAIL, .TRC_ALARM_CODES,
   .TRC_ALARM_FIRST_GTB, .TRC_ALARM_LAST_GTB, .TRC_ALARM_DETAIL, .TRC_DROP, .GLB_ID,
   .GLB_BOOT, .STW_IMG_ADDR, .STW_IMG_LEN, .STW_IMG_CTL, .STW_STATUS]

/-- Every register name, in the order of the chapters. -/
def allRegs : List Reg :=
  List.flatten [regs0, regs1, regs2, regs3, regs4, regs5, regs6, regs7]

/-- A named field of a register: the register and the bit range. -/
structure Fld where
  reg : Reg
  hi  : Nat
  lo  : Nat
  deriving DecidableEq, Repr

/-! The fields by name, REGISTER_FIELD, as the tables name them. -/

abbrev Fld.GLB_INVENTORY_MAX_SLICES : Fld := ⟨.GLB_INVENTORY, 55, 48⟩
abbrev Fld.GLB_INVENTORY_LINK_PORTS : Fld := ⟨.GLB_INVENTORY, 47, 40⟩
abbrev Fld.GLB_INVENTORY_MEM_SPARE : Fld := ⟨.GLB_INVENTORY, 39, 32⟩
abbrev Fld.GLB_INVENTORY_MEM_PORTS : Fld := ⟨.GLB_INVENTORY, 31, 24⟩
abbrev Fld.GLB_INVENTORY_CLU_SPARE : Fld := ⟨.GLB_INVENTORY, 23, 16⟩
abbrev Fld.GLB_INVENTORY_CLUSTERS : Fld := ⟨.GLB_INVENTORY, 15, 8⟩
abbrev Fld.GLB_INVENTORY_CORES_PER_CLUSTER : Fld := ⟨.GLB_INVENTORY, 7, 4⟩
abbrev Fld.GLB_PD_REQ_PD_ON : Fld := ⟨.GLB_PD_REQ, 23, 8⟩
abbrev Fld.GLB_PD_STATUS_REFUSED : Fld := ⟨.GLB_PD_STATUS, 55, 40⟩
abbrev Fld.GLB_PD_STATUS_BUSY : Fld := ⟨.GLB_PD_STATUS, 39, 24⟩
abbrev Fld.GLB_PD_STATUS_ON : Fld := ⟨.GLB_PD_STATUS, 23, 0⟩
abbrev Fld.HDG_CTL_CNT_CLEAR : Fld := ⟨.HDG_CTL, 0, 0⟩
abbrev Fld.HDG_ST_STATUS_EPOCH : Fld := ⟨.HDG_ST_STATUS, 63, 32⟩
abbrev Fld.HDG_ST_STATUS_DEFER_Q : Fld := ⟨.HDG_ST_STATUS, 23, 16⟩
abbrev Fld.HDG_ST_STATUS_OLD_DRAIN : Fld := ⟨.HDG_ST_STATUS, 11, 0⟩
abbrev Fld.HDG_COUNT_DENY : Fld := ⟨.HDG_COUNT, 63, 32⟩
abbrev Fld.HDG_COUNT_DEFER : Fld := ⟨.HDG_COUNT, 31, 0⟩
abbrev Fld.HDG_LAST_DENY_SLICE : Fld := ⟨.HDG_LAST_DENY, 63, 56⟩
abbrev Fld.HDG_LAST_DENY_PA : Fld := ⟨.HDG_LAST_DENY, 55, 0⟩
abbrev Fld.HDG_LAST_DENY_INFO_CODE : Fld := ⟨.HDG_LAST_DENY_INFO, 47, 32⟩
abbrev Fld.HDG_LAST_DENY_INFO_CORE : Fld := ⟨.HDG_LAST_DENY_INFO, 3, 0⟩
abbrev Fld.CMP_CHIPNUM_CHIPNUM : Fld := ⟨.CMP_CHIPNUM, 5, 0⟩
abbrev Fld.CMP_EPOCH_CURRENT : Fld := ⟨.CMP_EPOCH, 63, 32⟩
abbrev Fld.CMP_EPOCH_PREVIOUS : Fld := ⟨.CMP_EPOCH, 31, 0⟩
abbrev Fld.CMP_DRAIN_OPEN : Fld := ⟨.CMP_DRAIN, 31, 31⟩
abbrev Fld.CMP_DRAIN_OUTSTANDING : Fld := ⟨.CMP_DRAIN, 19, 0⟩
abbrev Fld.CMP_EPOCH_STAT_DENIES : Fld := ⟨.CMP_EPOCH_STAT, 63, 32⟩
abbrev Fld.CMP_EPOCH_STAT_DRAIN_TIMEOUTS : Fld := ⟨.CMP_EPOCH_STAT, 31, 16⟩
abbrev Fld.CMP_METER_CTL_INTERVAL_MS : Fld := ⟨.CMP_METER_CTL, 15, 0⟩
abbrev Fld.CMP_OWN_IDX_GRANULE : Fld := ⟨.CMP_OWN_IDX, 17, 0⟩
abbrev Fld.CMP_OWN_DATA_OWNER : Fld := ⟨.CMP_OWN_DATA, 15, 8⟩
abbrev Fld.CMP_OWN_DATA_CID : Fld := ⟨.CMP_OWN_DATA, 6, 0⟩
abbrev Fld.CMP_SLICE_CTL_LINKS : Fld := ⟨.CMP_SLICE_CTL, 41, 37⟩
abbrev Fld.CMP_SLICE_CTL_MEMCH : Fld := ⟨.CMP_SLICE_CTL, 36, 30⟩
abbrev Fld.CMP_SLICE_CTL_CORES : Fld := ⟨.CMP_SLICE_CTL, 29, 20⟩
abbrev Fld.CMP_SLICE_CTL_PASID_REQUIRED : Fld := ⟨.CMP_SLICE_CTL, 1, 1⟩
abbrev Fld.CMP_SLICE_CTL_ENABLE : Fld := ⟨.CMP_SLICE_CTL, 0, 0⟩
abbrev Fld.CMP_CHIPS_CHIPS : Fld := ⟨.CMP_CHIPS, 63, 0⟩
abbrev Fld.CMP_MEMCH_PORT : Fld := ⟨.CMP_MEMCH, 22, 16⟩
abbrev Fld.CMP_MEMCH_OWNER : Fld := ⟨.CMP_MEMCH, 15, 8⟩
abbrev Fld.CMP_MEMCH_CID : Fld := ⟨.CMP_MEMCH, 6, 0⟩
abbrev Fld.CMP_LINK_OWNER : Fld := ⟨.CMP_LINK, 7, 0⟩
abbrev Fld.CMP_PASID_VALID : Fld := ⟨.CMP_PASID, 63, 63⟩
abbrev Fld.CMP_PASID_SLICE : Fld := ⟨.CMP_PASID, 27, 20⟩
abbrev Fld.CMP_PASID_PASID : Fld := ⟨.CMP_PASID, 19, 0⟩
abbrev Fld.CMP_COMMONS_CTL_KEYID : Fld := ⟨.CMP_COMMONS_CTL, 10, 1⟩
abbrev Fld.CMP_COMMONS_CTL_ENABLE : Fld := ⟨.CMP_COMMONS_CTL, 0, 0⟩
abbrev Fld.CMP_COMMONS_MEMBERS_LO_MEMBERS : Fld := ⟨.CMP_COMMONS_MEMBERS_LO, 63, 0⟩
abbrev Fld.CMP_COMMONS_MEMBERS_HI_MEMBERS : Fld := ⟨.CMP_COMMONS_MEMBERS_HI, 63, 0⟩
abbrev Fld.CMP_COMMONS_RES_MEMCH_US_COUNT : Fld := ⟨.CMP_COMMONS_RES_MEMCH_US, 63, 0⟩
abbrev Fld.CMP_RES_TIME_NS_COUNT : Fld := ⟨.CMP_RES_TIME_NS, 63, 0⟩
abbrev Fld.CMP_RES_CORE_US_COUNT : Fld := ⟨.CMP_RES_CORE_US, 63, 0⟩
abbrev Fld.CMP_RES_MEMCH_US_COUNT : Fld := ⟨.CMP_RES_MEMCH_US, 63, 0⟩
abbrev Fld.CMP_RES_LINK_US_COUNT : Fld := ⟨.CMP_RES_LINK_US, 63, 0⟩
abbrev Fld.STG_CS_CMD_TICKET : Fld := ⟨.STG_CS_CMD, 63, 32⟩
abbrev Fld.STG_CS_CMD_OP : Fld := ⟨.STG_CS_CMD, 2, 0⟩
abbrev Fld.STG_CS_OPENED_TICKET : Fld := ⟨.STG_CS_OPENED, 63, 32⟩
abbrev Fld.STG_CS_OPENED_SLOT : Fld := ⟨.STG_CS_OPENED, 1, 0⟩
abbrev Fld.STG_ENTRY_W0_W0 : Fld := ⟨.STG_ENTRY_W0, 63, 0⟩
abbrev Fld.STG_ENTRY_W1_W1 : Fld := ⟨.STG_ENTRY_W1, 63, 0⟩
abbrev Fld.STG_GTB_GTB : Fld := ⟨.STG_GTB, 63, 0⟩
abbrev Fld.STG_GTB_STATUS_FALLBACK : Fld := ⟨.STG_GTB_STATUS, 17, 17⟩
abbrev Fld.STG_GTB_STATUS_LOCKED : Fld := ⟨.STG_GTB_STATUS, 16, 16⟩
abbrev Fld.STG_GTB_STATUS_MAX_SKEW_PS : Fld := ⟨.STG_GTB_STATUS, 15, 0⟩
abbrev Fld.STG_LAST_T_T : Fld := ⟨.STG_LAST_T, 63, 0⟩
abbrev Fld.STG_CS_STATUS_TICKET : Fld := ⟨.STG_CS_STATUS, 63, 32⟩
abbrev Fld.STG_CS_STATUS_WRITER : Fld := ⟨.STG_CS_STATUS, 31, 30⟩
abbrev Fld.STG_CS_STATUS_OVERFLOW : Fld := ⟨.STG_CS_STATUS, 29, 29⟩
abbrev Fld.STG_CS_STATUS_ENTRIES : Fld := ⟨.STG_CS_STATUS, 28, 16⟩
abbrev Fld.STG_CS_STATUS_STATE : Fld := ⟨.STG_CS_STATUS, 2, 0⟩
abbrev Fld.STG_CS_T_T : Fld := ⟨.STG_CS_T, 63, 0⟩
abbrev Fld.STG_CS_REFUSE_REASON : Fld := ⟨.STG_CS_REFUSE, 47, 32⟩
abbrev Fld.STG_CS_REFUSE_DETAIL : Fld := ⟨.STG_CS_REFUSE, 15, 0⟩
abbrev Fld.ADM_FLOOR_FLOOR_MHZ : Fld := ⟨.ADM_FLOOR, 15, 0⟩
abbrev Fld.ADM_THETA_CORE : Fld := ⟨.ADM_THETA, 63, 48⟩
abbrev Fld.ADM_THETA_DRV : Fld := ⟨.ADM_THETA, 47, 32⟩
abbrev Fld.ADM_THETA_LINK : Fld := ⟨.ADM_THETA, 31, 16⟩
abbrev Fld.ADM_THETA_MEM : Fld := ⟨.ADM_THETA, 15, 0⟩
abbrev Fld.ADM_SLICE_BE_TILE : Fld := ⟨.ADM_SLICE, 31, 0⟩
abbrev Fld.ADM_CONTRACT_WORD : Fld := ⟨.ADM_CONTRACT, 63, 0⟩
abbrev Fld.ADM_W_HOLDS : Fld := ⟨.ADM_W, 63, 63⟩
abbrev Fld.ADM_W_REASON : Fld := ⟨.ADM_W, 47, 32⟩
abbrev Fld.ADM_W_W : Fld := ⟨.ADM_W, 31, 0⟩
abbrev Fld.XLT_CTL_CACHE_FLUSH : Fld := ⟨.XLT_CTL, 0, 0⟩
abbrev Fld.XLT_STATUS_FR_BACKLOG : Fld := ⟨.XLT_STATUS, 17, 17⟩
abbrev Fld.XLT_STATUS_INV_FULL : Fld := ⟨.XLT_STATUS, 16, 16⟩
abbrev Fld.XLT_STATUS_WALKS_B1 : Fld := ⟨.XLT_STATUS, 13, 7⟩
abbrev Fld.XLT_STATUS_WALKS_B0 : Fld := ⟨.XLT_STATUS, 6, 0⟩
abbrev Fld.XLT_MGR_KEYID_KEYID : Fld := ⟨.XLT_MGR_KEYID, 9, 0⟩
abbrev Fld.XLT_INV_ADDR_START : Fld := ⟨.XLT_INV_ADDR, 63, 12⟩
abbrev Fld.XLT_INV_CMD_PASID : Fld := ⟨.XLT_INV_CMD, 63, 44⟩
abbrev Fld.XLT_INV_CMD_CONTEXT : Fld := ⟨.XLT_INV_CMD, 43, 31⟩
abbrev Fld.XLT_INV_CMD_SLICE : Fld := ⟨.XLT_INV_CMD, 30, 23⟩
abbrev Fld.XLT_INV_CMD_PAGES_M1 : Fld := ⟨.XLT_INV_CMD, 22, 3⟩
abbrev Fld.XLT_INV_CMD_SCOPE : Fld := ⟨.XLT_INV_CMD, 2, 0⟩
abbrev Fld.XLT_INV_SEQ_ISSUED : Fld := ⟨.XLT_INV_SEQ, 63, 32⟩
abbrev Fld.XLT_INV_SEQ_DONE : Fld := ⟨.XLT_INV_SEQ, 31, 0⟩
abbrev Fld.XLT_FR_BASE_BASE : Fld := ⟨.XLT_FR_BASE, 63, 12⟩
abbrev Fld.XLT_FR_BASE_LOG2_SIZE : Fld := ⟨.XLT_FR_BASE, 4, 0⟩
abbrev Fld.XLT_FR_HEAD_INDEX : Fld := ⟨.XLT_FR_HEAD, 15, 0⟩
abbrev Fld.XLT_FR_TAIL_INDEX : Fld := ⟨.XLT_FR_TAIL, 15, 0⟩
abbrev Fld.XLT_FAULT_RESOLVE_SEQ : Fld := ⟨.XLT_FAULT_RESOLVE, 63, 32⟩
abbrev Fld.XLT_FAULT_RESOLVE_ACTION : Fld := ⟨.XLT_FAULT_RESOLVE, 31, 30⟩
abbrev Fld.XLT_FAULT_RESOLVE_CONTEXT : Fld := ⟨.XLT_FAULT_RESOLVE, 12, 0⟩
abbrev Fld.XLT_HFMT_W0_WORD : Fld := ⟨.XLT_HFMT_W0, 63, 0⟩
abbrev Fld.XLT_HFMT_W1_WORD : Fld := ⟨.XLT_HFMT_W1, 63, 0⟩
abbrev Fld.XLT_ROUTE_PORTS : Fld := ⟨.XLT_ROUTE, 15, 0⟩
abbrev Fld.XLT_MIG_RING_BASE : Fld := ⟨.XLT_MIG_RING, 55, 12⟩
abbrev Fld.XLT_MIG_RING_LOG2_SIZE : Fld := ⟨.XLT_MIG_RING, 4, 0⟩
abbrev Fld.XLT_MIG_IDX_PROD : Fld := ⟨.XLT_MIG_IDX, 47, 32⟩
abbrev Fld.XLT_MIG_IDX_CONS : Fld := ⟨.XLT_MIG_IDX, 15, 0⟩
abbrev Fld.MIL_CTL_CNT_CLEAR : Fld := ⟨.MIL_CTL, 0, 0⟩
abbrev Fld.MIL_RETIRE_KEYID : Fld := ⟨.MIL_RETIRE, 9, 0⟩
abbrev Fld.MIL_RETIRE_STATUS_BUSY : Fld := ⟨.MIL_RETIRE_STATUS, 63, 63⟩
abbrev Fld.MIL_RETIRE_STATUS_KEYID : Fld := ⟨.MIL_RETIRE_STATUS, 57, 48⟩
abbrev Fld.MIL_RETIRE_STATUS_REASON : Fld := ⟨.MIL_RETIRE_STATUS, 47, 32⟩
abbrev Fld.MIL_RETIRE_STATUS_DONE : Fld := ⟨.MIL_RETIRE_STATUS, 31, 0⟩
abbrev Fld.MIL_RANGE_LO_VALID : Fld := ⟨.MIL_RANGE_LO, 63, 63⟩
abbrev Fld.MIL_RANGE_LO_VIEW : Fld := ⟨.MIL_RANGE_LO, 62, 62⟩
abbrev Fld.MIL_RANGE_LO_GRANULE : Fld := ⟨.MIL_RANGE_LO, 55, 21⟩
abbrev Fld.MIL_RANGE_HI_VALID : Fld := ⟨.MIL_RANGE_HI, 63, 63⟩
abbrev Fld.MIL_RANGE_HI_VIEW : Fld := ⟨.MIL_RANGE_HI, 62, 62⟩
abbrev Fld.MIL_RANGE_HI_GRANULE : Fld := ⟨.MIL_RANGE_HI, 55, 21⟩
abbrev Fld.MIL_ST_STATUS_SPARE_FOR : Fld := ⟨.MIL_ST_STATUS, 43, 40⟩
abbrev Fld.MIL_ST_STATUS_TOKENS : Fld := ⟨.MIL_ST_STATUS, 24, 16⟩
abbrev Fld.MIL_ST_STATUS_INFLIGHT : Fld := ⟨.MIL_ST_STATUS, 8, 0⟩
abbrev Fld.MIL_ST_COUNT_MAC_FAIL : Fld := ⟨.MIL_ST_COUNT, 63, 48⟩
abbrev Fld.MIL_ST_COUNT_REPLAY : Fld := ⟨.MIL_ST_COUNT, 47, 32⟩
abbrev Fld.MIL_ST_COUNT_POISON : Fld := ⟨.MIL_ST_COUNT, 31, 16⟩
abbrev Fld.MIL_ST_COUNT_MERGE_FAIL : Fld := ⟨.MIL_ST_COUNT, 15, 0⟩
abbrev Fld.MIL_ST_LAST_FAIL_CODE : Fld := ⟨.MIL_ST_LAST_FAIL, 63, 48⟩
abbrev Fld.MIL_ST_LAST_FAIL_SLICE : Fld := ⟨.MIL_ST_LAST_FAIL, 47, 40⟩
abbrev Fld.MIL_ST_LAST_FAIL_KEYID : Fld := ⟨.MIL_ST_LAST_FAIL, 39, 30⟩
abbrev Fld.MIL_ST_LAST_FAIL_LINE : Fld := ⟨.MIL_ST_LAST_FAIL, 26, 0⟩
abbrev Fld.MIL_ST_SKIPPED_SECTORS : Fld := ⟨.MIL_ST_SKIPPED, 63, 0⟩
abbrev Fld.CTR_CTL_CNT_CLEAR : Fld := ⟨.CTR_CTL, 0, 0⟩
abbrev Fld.CTR_POUND_CLEAR_PORT : Fld := ⟨.CTR_POUND_CLEAR, 63, 57⟩
abbrev Fld.CTR_POUND_CLEAR_LEVEL : Fld := ⟨.CTR_POUND_CLEAR, 56, 54⟩
abbrev Fld.CTR_POUND_CLEAR_LINE : Fld := ⟨.CTR_POUND_CLEAR, 26, 0⟩
abbrev Fld.CTR_POUND_STATUS_BUSY : Fld := ⟨.CTR_POUND_STATUS, 63, 63⟩
abbrev Fld.CTR_POUND_STATUS_REASON : Fld := ⟨.CTR_POUND_STATUS, 47, 32⟩
abbrev Fld.CTR_POUND_STATUS_DONE : Fld := ⟨.CTR_POUND_STATUS, 31, 0⟩
abbrev Fld.CTR_ST_STATUS_POUND_UNITS : Fld := ⟨.CTR_ST_STATUS, 63, 48⟩
abbrev Fld.CTR_ST_STATUS_DIRTY : Fld := ⟨.CTR_ST_STATUS, 42, 32⟩
abbrev Fld.CTR_ST_STATUS_REWRITES : Fld := ⟨.CTR_ST_STATUS, 31, 0⟩
abbrev Fld.CTR_ST_COUNT_RS_CORRECTED : Fld := ⟨.CTR_ST_COUNT, 63, 48⟩
abbrev Fld.CTR_ST_COUNT_RS_UNCORRECTABLE : Fld := ⟨.CTR_ST_COUNT, 47, 32⟩
abbrev Fld.CTR_ST_COUNT_NODE_REREAD_PASS : Fld := ⟨.CTR_ST_COUNT, 31, 16⟩
abbrev Fld.CTR_ST_COUNT_NODE_TAMPER : Fld := ⟨.CTR_ST_COUNT, 15, 0⟩
abbrev Fld.CTR_ST_MIRROR_ACTIVE : Fld := ⟨.CTR_ST_MIRROR, 7, 7⟩
abbrev Fld.CTR_ST_MIRROR_MIRROR_PORT : Fld := ⟨.CTR_ST_MIRROR, 6, 0⟩
abbrev Fld.DRV_CTL_CNT_CLEAR : Fld := ⟨.DRV_CTL, 0, 0⟩
abbrev Fld.DRV_STATUS_PLAN_Q : Fld := ⟨.DRV_STATUS, 39, 32⟩
abbrev Fld.DRV_STATUS_JOURNALS : Fld := ⟨.DRV_STATUS, 31, 16⟩
abbrev Fld.DRV_STATUS_INFLIGHT : Fld := ⟨.DRV_STATUS, 12, 0⟩
abbrev Fld.DRV_LAST_ERR_CODE : Fld := ⟨.DRV_LAST_ERR, 63, 48⟩
abbrev Fld.DRV_LAST_ERR_SLICE : Fld := ⟨.DRV_LAST_ERR, 47, 40⟩
abbrev Fld.DRV_LAST_ERR_JTAG : Fld := ⟨.DRV_LAST_ERR, 31, 16⟩
abbrev Fld.DRV_LAST_ERR_CONTEXT : Fld := ⟨.DRV_LAST_ERR, 12, 0⟩
abbrev Fld.DRV_LAST_ERR_INFO_SUB_CODE : Fld := ⟨.DRV_LAST_ERR_INFO, 63, 48⟩
abbrev Fld.DRV_LAST_ERR_INFO_TOKEN : Fld := ⟨.DRV_LAST_ERR_INFO, 31, 16⟩
abbrev Fld.DRV_LAST_ERR_INFO_EXPERT : Fld := ⟨.DRV_LAST_ERR_INFO, 15, 0⟩
abbrev Fld.DRV_SLICE_RATE_RATE : Fld := ⟨.DRV_SLICE_RATE, 23, 0⟩
abbrev Fld.DRV_SLICE_BYTES_BYTES : Fld := ⟨.DRV_SLICE_BYTES, 63, 0⟩
abbrev Fld.DRV_SLICE_ROUTES_MOVED : Fld := ⟨.DRV_SLICE_ROUTES, 63, 32⟩
abbrev Fld.DRV_SLICE_ROUTES_DROPPED : Fld := ⟨.DRV_SLICE_ROUTES, 31, 0⟩
abbrev Fld.DRV_SLICE_SKIP_SECTORS : Fld := ⟨.DRV_SLICE_SKIP, 63, 0⟩
abbrev Fld.DRV_ST_STATUS_JOURNAL_COPIES : Fld := ⟨.DRV_ST_STATUS, 52, 48⟩
abbrev Fld.DRV_ST_STATUS_JOURNAL_BYTES : Fld := ⟨.DRV_ST_STATUS, 39, 22⟩
abbrev Fld.DRV_ST_STATUS_INFLIGHT : Fld := ⟨.DRV_ST_STATUS, 6, 0⟩
abbrev Fld.DRV_ST_COUNT_RESENT : Fld := ⟨.DRV_ST_COUNT, 63, 32⟩
abbrev Fld.DRV_ST_COUNT_DENIED : Fld := ⟨.DRV_ST_COUNT, 31, 0⟩
abbrev Fld.SCH_CTL_SHARE_FENCE : Fld := ⟨.SCH_CTL, 1, 1⟩
abbrev Fld.SCH_CTL_CNT_CLEAR : Fld := ⟨.SCH_CTL, 0, 0⟩
abbrev Fld.SCH_STATUS_RESIDENT : Fld := ⟨.SCH_STATUS, 37, 32⟩
abbrev Fld.SCH_STATUS_RUNNING : Fld := ⟨.SCH_STATUS, 9, 0⟩
abbrev Fld.SCH_LAST_KILL_CODE : Fld := ⟨.SCH_LAST_KILL, 63, 48⟩
abbrev Fld.SCH_LAST_KILL_SLICE : Fld := ⟨.SCH_LAST_KILL, 47, 40⟩
abbrev Fld.SCH_LAST_KILL_CORE : Fld := ⟨.SCH_LAST_KILL, 39, 30⟩
abbrev Fld.SCH_LAST_KILL_CONTEXT : Fld := ⟨.SCH_LAST_KILL, 28, 16⟩
abbrev Fld.SCH_LAST_KILL_DECL : Fld := ⟨.SCH_LAST_KILL, 15, 0⟩
abbrev Fld.SCH_RES_VALID : Fld := ⟨.SCH_RES, 63, 63⟩
abbrev Fld.SCH_RES_STATE : Fld := ⟨.SCH_RES, 62, 60⟩
abbrev Fld.SCH_RES_SLICE : Fld := ⟨.SCH_RES, 55, 48⟩
abbrev Fld.SCH_RES_CONTEXT : Fld := ⟨.SCH_RES, 44, 32⟩
abbrev Fld.SCH_RES_CREDIT : Fld := ⟨.SCH_RES, 31, 0⟩
abbrev Fld.SCH_RES_USE_CORE_NS : Fld := ⟨.SCH_RES_USE, 63, 0⟩
abbrev Fld.SCH_CORE_BUSY : Fld := ⟨.SCH_CORE, 63, 63⟩
abbrev Fld.SCH_CORE_SLOT : Fld := ⟨.SCH_CORE, 61, 56⟩
abbrev Fld.SCH_CORE_ELAPSED : Fld := ⟨.SCH_CORE, 31, 16⟩
abbrev Fld.SCH_CORE_DECL : Fld := ⟨.SCH_CORE, 15, 0⟩
abbrev Fld.SCH_SLICE_COUNT_REPLAYS : Fld := ⟨.SCH_SLICE_COUNT, 63, 32⟩
abbrev Fld.SCH_SLICE_COUNT_KILLS : Fld := ⟨.SCH_SLICE_COUNT, 31, 0⟩
abbrev Fld.COH_CTL_CNT_CLEAR : Fld := ⟨.COH_CTL, 0, 0⟩
abbrev Fld.COH_STATUS_FLUSHING : Fld := ⟨.COH_STATUS, 47, 32⟩
abbrev Fld.COH_STATUS_SNOOPS : Fld := ⟨.COH_STATUS, 11, 0⟩
abbrev Fld.COH_LAST_ERR_CODE : Fld := ⟨.COH_LAST_ERR, 63, 48⟩
abbrev Fld.COH_LAST_ERR_SLICE : Fld := ⟨.COH_LAST_ERR, 47, 40⟩
abbrev Fld.COH_LAST_ERR_CORE : Fld := ⟨.COH_LAST_ERR, 9, 0⟩
abbrev Fld.COH_LAST_ERR_PA_LINE : Fld := ⟨.COH_LAST_ERR_PA, 55, 7⟩
abbrev Fld.COH_FS_STATUS_SNOOPS : Fld := ⟨.COH_FS_STATUS, 39, 32⟩
abbrev Fld.COH_FS_STATUS_ENTRIES : Fld := ⟨.COH_FS_STATUS, 16, 0⟩
abbrev Fld.COH_FS_COUNT_SNOOPS : Fld := ⟨.COH_FS_COUNT, 63, 32⟩
abbrev Fld.COH_FS_COUNT_WB_CROSS : Fld := ⟨.COH_FS_COUNT, 31, 0⟩
abbrev Fld.COH_CORE_LINES_RR : Fld := ⟨.COH_CORE_LINES, 43, 32⟩
abbrev Fld.COH_CORE_LINES_M : Fld := ⟨.COH_CORE_LINES, 27, 16⟩
abbrev Fld.COH_CORE_LINES_VALID : Fld := ⟨.COH_CORE_LINES, 11, 0⟩
abbrev Fld.HIF_CTL_FETCH_EN : Fld := ⟨.HIF_CTL, 0, 0⟩
abbrev Fld.HIF_STATUS_DMA_OUT : Fld := ⟨.HIF_STATUS, 41, 32⟩
abbrev Fld.HIF_STATUS_FETCHING : Fld := ⟨.HIF_STATUS, 6, 0⟩
abbrev Fld.HIF_LAST_ERR_CODE : Fld := ⟨.HIF_LAST_ERR, 63, 48⟩
abbrev Fld.HIF_LAST_ERR_QUEUE : Fld := ⟨.HIF_LAST_ERR, 45, 32⟩
abbrev Fld.HIF_LAST_ERR_PASID : Fld := ⟨.HIF_LAST_ERR, 19, 0⟩
abbrev Fld.HIF_BAR0_ERR_WRITE : Fld := ⟨.HIF_BAR0_ERR, 63, 63⟩
abbrev Fld.HIF_BAR0_ERR_BYTES : Fld := ⟨.HIF_BAR0_ERR, 59, 56⟩
abbrev Fld.HIF_BAR0_ERR_OFFSET : Fld := ⟨.HIF_BAR0_ERR, 23, 0⟩
abbrev Fld.HIF_CPL_SUMMARY_NONZERO : Fld := ⟨.HIF_CPL_SUMMARY, 63, 0⟩
abbrev Fld.HIF_CPL_PENDING_QUEUES : Fld := ⟨.HIF_CPL_PENDING, 63, 0⟩
abbrev Fld.OBJ_CTL_ENABLE : Fld := ⟨.OBJ_CTL, 0, 0⟩
abbrev Fld.OBJ_PHASE_PHASE : Fld := ⟨.OBJ_PHASE, 1, 0⟩
abbrev Fld.OBJ_TABLE_BASE_BASE : Fld := ⟨.OBJ_TABLE_BASE, 55, 21⟩
abbrev Fld.OBJ_CMD_CODE : Fld := ⟨.OBJ_CMD, 63, 48⟩
abbrev Fld.OBJ_CMD_SLICE : Fld := ⟨.OBJ_CMD, 47, 40⟩
abbrev Fld.OBJ_CMD_KIND : Fld := ⟨.OBJ_CMD, 39, 36⟩
abbrev Fld.OBJ_CMD_OP : Fld := ⟨.OBJ_CMD, 35, 32⟩
abbrev Fld.OBJ_CMD_INDEX : Fld := ⟨.OBJ_CMD, 31, 0⟩
abbrev Fld.OBJ_CMD_STATUS_BUSY : Fld := ⟨.OBJ_CMD_STATUS, 63, 63⟩
abbrev Fld.OBJ_CMD_STATUS_REJECTED : Fld := ⟨.OBJ_CMD_STATUS, 62, 62⟩
abbrev Fld.OBJ_CMD_STATUS_RESULT : Fld := ⟨.OBJ_CMD_STATUS, 47, 32⟩
abbrev Fld.OBJ_CMD_STATUS_DONE : Fld := ⟨.OBJ_CMD_STATUS, 31, 0⟩
abbrev Fld.OBJ_REC_SEL_KIND : Fld := ⟨.OBJ_REC_SEL, 35, 32⟩
abbrev Fld.OBJ_REC_SEL_INDEX : Fld := ⟨.OBJ_REC_SEL, 17, 0⟩
abbrev Fld.OBJ_REC_DATA_WORD : Fld := ⟨.OBJ_REC_DATA, 63, 0⟩
abbrev Fld.OBJ_NR_BASE_BASE : Fld := ⟨.OBJ_NR_BASE, 63, 12⟩
abbrev Fld.OBJ_NR_BASE_LOG2_SIZE : Fld := ⟨.OBJ_NR_BASE, 4, 0⟩
abbrev Fld.OBJ_NR_HEAD_INDEX : Fld := ⟨.OBJ_NR_HEAD, 15, 0⟩
abbrev Fld.OBJ_NR_TAIL_INDEX : Fld := ⟨.OBJ_NR_TAIL, 15, 0⟩
abbrev Fld.OBJ_STATUS_NR_BACKLOG : Fld := ⟨.OBJ_STATUS, 50, 50⟩
abbrev Fld.OBJ_STATUS_RELEASING : Fld := ⟨.OBJ_STATUS, 49, 40⟩
abbrev Fld.OBJ_STATUS_RES_FENCES : Fld := ⟨.OBJ_STATUS, 34, 24⟩
abbrev Fld.OBJ_STATUS_RES_QUEUES : Fld := ⟨.OBJ_STATUS, 6, 0⟩
abbrev Fld.OBJ_LAST_ERR_CODE : Fld := ⟨.OBJ_LAST_ERR, 63, 48⟩
abbrev Fld.OBJ_LAST_ERR_SLICE : Fld := ⟨.OBJ_LAST_ERR, 47, 40⟩
abbrev Fld.OBJ_LAST_ERR_QUEUE : Fld := ⟨.OBJ_LAST_ERR, 39, 26⟩
abbrev Fld.OBJ_LAST_ERR_CONTEXT : Fld := ⟨.OBJ_LAST_ERR, 12, 0⟩
abbrev Fld.TEN_CMD_SLICE : Fld := ⟨.TEN_CMD, 47, 40⟩
abbrev Fld.TEN_CMD_OP : Fld := ⟨.TEN_CMD, 3, 0⟩
abbrev Fld.TEN_STATUS_BUSY : Fld := ⟨.TEN_STATUS, 63, 63⟩
abbrev Fld.TEN_STATUS_BUF_WAIT : Fld := ⟨.TEN_STATUS, 62, 62⟩
abbrev Fld.TEN_STATUS_REJECTED : Fld := ⟨.TEN_STATUS, 61, 61⟩
abbrev Fld.TEN_STATUS_SLICE : Fld := ⟨.TEN_STATUS, 55, 48⟩
abbrev Fld.TEN_STATUS_RESULT : Fld := ⟨.TEN_STATUS, 47, 32⟩
abbrev Fld.TEN_STATUS_PROGRESS : Fld := ⟨.TEN_STATUS, 31, 0⟩
abbrev Fld.TEN_MBX_SEL_SLICE : Fld := ⟨.TEN_MBX_SEL, 7, 0⟩
abbrev Fld.TEN_MIG_BUF_ADDR : Fld := ⟨.TEN_MIG_BUF, 63, 12⟩
abbrev Fld.TEN_MIG_OFFER_ADDR : Fld := ⟨.TEN_MIG_OFFER, 63, 12⟩
abbrev Fld.TEN_MIG_LEN_PAGES : Fld := ⟨.TEN_MIG_LEN, 39, 12⟩
abbrev Fld.TEN_MIG_PASID_PASID : Fld := ⟨.TEN_MIG_PASID, 19, 0⟩
abbrev Fld.TEN_MIG_GKEY_BASE : Fld := ⟨.TEN_MIG_GKEY, 55, 12⟩
abbrev Fld.TEN_T2M_PENDING_SLICES : Fld := ⟨.TEN_T2M_PENDING, 63, 0⟩
abbrev Fld.TEN_M2T_PENDING_SLICES : Fld := ⟨.TEN_M2T_PENDING, 63, 0⟩
abbrev Fld.TEN_SLICE_STATE_STATE : Fld := ⟨.TEN_SLICE_STATE, 2, 0⟩
abbrev Fld.TEN_MIG_KEYMAP_VALID : Fld := ⟨.TEN_MIG_KEYMAP, 63, 63⟩
abbrev Fld.TEN_MIG_KEYMAP_SRC_KEYID : Fld := ⟨.TEN_MIG_KEYMAP, 41, 32⟩
abbrev Fld.TEN_MIG_KEYMAP_DST_KEYID : Fld := ⟨.TEN_MIG_KEYMAP, 29, 20⟩
abbrev Fld.TEN_MIG_KEYMAP_SLOT : Fld := ⟨.TEN_MIG_KEYMAP, 8, 0⟩
abbrev Fld.TEN_MIG_ALLOW_DIGEST : Fld := ⟨.TEN_MIG_ALLOW, 63, 0⟩
abbrev Fld.TEN_MBX_WIN_WORD : Fld := ⟨.TEN_MBX_WIN, 63, 0⟩
abbrev Fld.LNK_KX_CMD_PORT : Fld := ⟨.LNK_KX_CMD, 63, 60⟩
abbrev Fld.LNK_KX_CMD_SLOT_TX : Fld := ⟨.LNK_KX_CMD, 50, 42⟩
abbrev Fld.LNK_KX_CMD_SLOT_RX : Fld := ⟨.LNK_KX_CMD, 41, 33⟩
abbrev Fld.LNK_KX_STATUS_BUSY : Fld := ⟨.LNK_KX_STATUS, 63, 63⟩
abbrev Fld.LNK_KX_STATUS_RESULT : Fld := ⟨.LNK_KX_STATUS, 47, 32⟩
abbrev Fld.LNK_KX_STATUS_DONE : Fld := ⟨.LNK_KX_STATUS, 31, 0⟩
abbrev Fld.LNK_RETIRE_PORT : Fld := ⟨.LNK_RETIRE, 4, 1⟩
abbrev Fld.LNK_RETIRE_PHASE : Fld := ⟨.LNK_RETIRE, 0, 0⟩
abbrev Fld.LNK_PEER_ALLOW_DIGEST : Fld := ⟨.LNK_PEER_ALLOW, 63, 0⟩
abbrev Fld.LNK_PORT_CFG_TX_PHASE : Fld := ⟨.LNK_PORT_CFG, 16, 16⟩
abbrev Fld.LNK_PORT_CFG_PEER_CHIP : Fld := ⟨.LNK_PORT_CFG, 13, 8⟩
abbrev Fld.LNK_PORT_CFG_WIRE_TAG : Fld := ⟨.LNK_PORT_CFG, 7, 0⟩
abbrev Fld.LNK_PORT_STATUS_STATE : Fld := ⟨.LNK_PORT_STATUS, 63, 62⟩
abbrev Fld.LNK_PORT_STATUS_KEYS : Fld := ⟨.LNK_PORT_STATUS, 61, 58⟩
abbrev Fld.LNK_PORT_STATUS_SPARE_FOR : Fld := ⟨.LNK_PORT_STATUS, 51, 48⟩
abbrev Fld.LNK_PORT_STATUS_TXNS : Fld := ⟨.LNK_PORT_STATUS, 43, 32⟩
abbrev Fld.LNK_PORT_STATUS_RETIRE_DONE : Fld := ⟨.LNK_PORT_STATUS, 31, 0⟩
abbrev Fld.LNK_LANE_WINDOW_US : Fld := ⟨.LNK_LANE, 63, 48⟩
abbrev Fld.LNK_LANE_THRESHOLD : Fld := ⟨.LNK_LANE, 47, 24⟩
abbrev Fld.LNK_LANE_FAILED : Fld := ⟨.LNK_LANE, 12, 4⟩
abbrev Fld.LNK_LANE_MAPPED_OUT : Fld := ⟨.LNK_LANE, 3, 0⟩
abbrev Fld.LNK_COUNT_GROUPS : Fld := ⟨.LNK_COUNT, 63, 24⟩
abbrev Fld.LNK_COUNT_REPLAYS : Fld := ⟨.LNK_COUNT, 23, 12⟩
abbrev Fld.LNK_COUNT_DENIED : Fld := ⟨.LNK_COUNT, 11, 0⟩
abbrev Fld.KEY_CMD_OP : Fld := ⟨.KEY_CMD, 63, 60⟩
abbrev Fld.KEY_CMD_SLICE : Fld := ⟨.KEY_CMD, 59, 52⟩
abbrev Fld.KEY_CMD_ATTR : Fld := ⟨.KEY_CMD, 51, 49⟩
abbrev Fld.KEY_CMD_PARENT : Fld := ⟨.KEY_CMD, 48, 40⟩
abbrev Fld.KEY_CMD_TARGET : Fld := ⟨.KEY_CMD, 39, 31⟩
abbrev Fld.KEY_STATUS_BUSY : Fld := ⟨.KEY_STATUS, 63, 63⟩
abbrev Fld.KEY_STATUS_REJECTED : Fld := ⟨.KEY_STATUS, 62, 62⟩
abbrev Fld.KEY_STATUS_ENDORSED : Fld := ⟨.KEY_STATUS, 61, 61⟩
abbrev Fld.KEY_STATUS_SEED_OK : Fld := ⟨.KEY_STATUS, 60, 60⟩
abbrev Fld.KEY_STATUS_PUF_TRIES : Fld := ⟨.KEY_STATUS, 59, 57⟩
abbrev Fld.KEY_STATUS_UNENROLLED : Fld := ⟨.KEY_STATUS, 56, 56⟩
abbrev Fld.KEY_STATUS_RESULT : Fld := ⟨.KEY_STATUS, 47, 32⟩
abbrev Fld.KEY_STATUS_OUT_LEN : Fld := ⟨.KEY_STATUS, 31, 16⟩
abbrev Fld.KEY_STATUS_FREE : Fld := ⟨.KEY_STATUS, 8, 0⟩
abbrev Fld.KEY_MEAS_DIGEST : Fld := ⟨.KEY_MEAS, 63, 0⟩
abbrev Fld.KEY_DEVICE_ID_DIGEST : Fld := ⟨.KEY_DEVICE_ID, 63, 0⟩
abbrev Fld.KEY_CFG_DIGEST_DIGEST : Fld := ⟨.KEY_CFG_DIGEST, 63, 0⟩
abbrev Fld.KEY_SLOT_STATE : Fld := ⟨.KEY_SLOT, 63, 62⟩
abbrev Fld.KEY_SLOT_ATTR : Fld := ⟨.KEY_SLOT, 61, 59⟩
abbrev Fld.KEY_SLOT_ORIGIN : Fld := ⟨.KEY_SLOT, 58, 56⟩
abbrev Fld.KEY_SLOT_PARENT : Fld := ⟨.KEY_SLOT, 55, 47⟩
abbrev Fld.KEY_SLOT_DEPTH : Fld := ⟨.KEY_SLOT, 46, 44⟩
abbrev Fld.KEY_SLOT_SLICE : Fld := ⟨.KEY_SLOT, 43, 36⟩
abbrev Fld.KEY_BUF_WORD : Fld := ⟨.KEY_BUF, 63, 0⟩
abbrev Fld.LCS_STATE_LC : Fld := ⟨.LCS_STATE, 39, 32⟩
abbrev Fld.LCS_STATE_GEN_USED : Fld := ⟨.LCS_STATE, 26, 22⟩
abbrev Fld.LCS_STATE_RESUMED : Fld := ⟨.LCS_STATE, 21, 21⟩
abbrev Fld.LCS_STATE_TOKENS_LEFT : Fld := ⟨.LCS_STATE, 20, 17⟩
abbrev Fld.LCS_STATE_GATE_CLOSED : Fld := ⟨.LCS_STATE, 16, 16⟩
abbrev Fld.LCS_STATE_DBG_FAILS : Fld := ⟨.LCS_STATE, 3, 0⟩
abbrev Fld.LCS_XCMD_TARGET_LC : Fld := ⟨.LCS_XCMD, 7, 0⟩
abbrev Fld.LCS_XSTATUS_BUSY : Fld := ⟨.LCS_XSTATUS, 63, 63⟩
abbrev Fld.LCS_XSTATUS_STEP : Fld := ⟨.LCS_XSTATUS, 62, 60⟩
abbrev Fld.LCS_XSTATUS_RESULT : Fld := ⟨.LCS_XSTATUS, 47, 32⟩
abbrev Fld.LCS_GATE_CLOSE : Fld := ⟨.LCS_GATE, 0, 0⟩
abbrev Fld.LCS_DBG_CMD_OP : Fld := ⟨.LCS_DBG_CMD, 63, 62⟩
abbrev Fld.LCS_DBG_CMD_LEVEL : Fld := ⟨.LCS_DBG_CMD, 3, 0⟩
abbrev Fld.LCS_DBG_STATUS_BUSY : Fld := ⟨.LCS_DBG_STATUS, 63, 63⟩
abbrev Fld.LCS_DBG_STATUS_RESULT : Fld := ⟨.LCS_DBG_STATUS, 47, 32⟩
abbrev Fld.LCS_DBG_STATUS_OPEN : Fld := ⟨.LCS_DBG_STATUS, 3, 0⟩
abbrev Fld.LCS_BUF_WORD : Fld := ⟨.LCS_BUF, 63, 0⟩
abbrev Fld.SPR_CTL_PATROL_MS : Fld := ⟨.SPR_CTL, 63, 48⟩
abbrev Fld.SPR_CTL_ROW_CE_LIMIT : Fld := ⟨.SPR_CTL, 47, 32⟩
abbrev Fld.SPR_CTL_MEMCH_CE_LIMIT : Fld := ⟨.SPR_CTL, 31, 16⟩
abbrev Fld.SPR_STATUS_SPARE_CORES : Fld := ⟨.SPR_STATUS, 63, 56⟩
abbrev Fld.SPR_STATUS_SPARE_MEMPORTS : Fld := ⟨.SPR_STATUS, 55, 52⟩
abbrev Fld.SPR_STATUS_SPARE_LANES : Fld := ⟨.SPR_STATUS, 51, 47⟩
abbrev Fld.SPR_STATUS_SPARE_MEMPIPES : Fld := ⟨.SPR_STATUS, 46, 40⟩
abbrev Fld.SPR_STATUS_SPARE_LINKPIPES : Fld := ⟨.SPR_STATUS, 39, 34⟩
abbrev Fld.SPR_STATUS_SPARE_SLOTS : Fld := ⟨.SPR_STATUS, 33, 29⟩
abbrev Fld.SPR_STATUS_SPARE_STEWARD : Fld := ⟨.SPR_STATUS, 28, 28⟩
abbrev Fld.SPR_STATUS_SPARE_OTP : Fld := ⟨.SPR_STATUS, 27, 21⟩
abbrev Fld.SPR_STATUS_EXHAUSTED : Fld := ⟨.SPR_STATUS, 11, 0⟩
abbrev Fld.SPR_LAST_KIND : Fld := ⟨.SPR_LAST, 63, 60⟩
abbrev Fld.SPR_LAST_FAILED : Fld := ⟨.SPR_LAST, 59, 48⟩
abbrev Fld.SPR_LAST_SUBST : Fld := ⟨.SPR_LAST, 47, 36⟩
abbrev Fld.SPR_LAST_GTB : Fld := ⟨.SPR_LAST, 31, 0⟩
abbrev Fld.SPR_REBUILD_BUSY : Fld := ⟨.SPR_REBUILD, 63, 63⟩
abbrev Fld.SPR_REBUILD_LCHAN : Fld := ⟨.SPR_REBUILD, 55, 50⟩
abbrev Fld.SPR_REBUILD_FROM : Fld := ⟨.SPR_REBUILD, 49, 43⟩
abbrev Fld.SPR_REBUILD_TO : Fld := ⟨.SPR_REBUILD, 42, 36⟩
abbrev Fld.SPR_REBUILD_LEAF : Fld := ⟨.SPR_REBUILD, 20, 0⟩
abbrev Fld.SPR_RS_CORRECTED : Fld := ⟨.SPR_RS, 63, 32⟩
abbrev Fld.SPR_RS_UNCORRECTABLE : Fld := ⟨.SPR_RS, 31, 0⟩
abbrev Fld.SPR_CORE_ALIAS_VALID : Fld := ⟨.SPR_CORE_ALIAS, 63, 63⟩
abbrev Fld.SPR_CORE_ALIAS_SUBST : Fld := ⟨.SPR_CORE_ALIAS, 9, 0⟩
abbrev Fld.MON_CTL_ZEROIZE_EN : Fld := ⟨.MON_CTL, 63, 63⟩
abbrev Fld.MON_CTL_TAMPER_MV : Fld := ⟨.MON_CTL, 47, 32⟩
abbrev Fld.MON_CTL_DROOP_MV : Fld := ⟨.MON_CTL, 31, 16⟩
abbrev Fld.MON_CTL_WARN_C : Fld := ⟨.MON_CTL, 7, 0⟩
abbrev Fld.MON_CLOCK_FCLK_MHZ : Fld := ⟨.MON_CLOCK, 63, 48⟩
abbrev Fld.MON_CLOCK_FLOOR_MHZ : Fld := ⟨.MON_CLOCK, 47, 32⟩
abbrev Fld.MON_CLOCK_CAP_W : Fld := ⟨.MON_CLOCK, 31, 16⟩
abbrev Fld.MON_COEF_CORE : Fld := ⟨.MON_COEF, 63, 48⟩
abbrev Fld.MON_COEF_MEM : Fld := ⟨.MON_COEF, 47, 32⟩
abbrev Fld.MON_COEF_LINK : Fld := ⟨.MON_COEF, 31, 16⟩
abbrev Fld.MON_COEF_DRV : Fld := ⟨.MON_COEF, 15, 0⟩
abbrev Fld.MON_ENERGY_TOTAL_UJ : Fld := ⟨.MON_ENERGY_TOTAL, 63, 0⟩
abbrev Fld.MON_TEMP_MAX : Fld := ⟨.MON_TEMP, 31, 16⟩
abbrev Fld.MON_TEMP_CURRENT : Fld := ⟨.MON_TEMP, 15, 0⟩
abbrev Fld.MON_VOLT_DROOPS : Fld := ⟨.MON_VOLT, 47, 32⟩
abbrev Fld.MON_VOLT_MIN_MV : Fld := ⟨.MON_VOLT, 31, 16⟩
abbrev Fld.MON_VOLT_CURRENT_MV : Fld := ⟨.MON_VOLT, 15, 0⟩
abbrev Fld.MON_PROC_COUNT : Fld := ⟨.MON_PROC, 31, 0⟩
abbrev Fld.MON_SLACK_BEHIND : Fld := ⟨.MON_SLACK, 8, 8⟩
abbrev Fld.MON_SLACK_SLACK : Fld := ⟨.MON_SLACK, 7, 0⟩
abbrev Fld.IRQ_SUMMARY_SUBSYS : Fld := ⟨.IRQ_SUMMARY, 21, 1⟩
abbrev Fld.IRQ_STW_SUMMARY_SUBSYS : Fld := ⟨.IRQ_STW_SUMMARY, 21, 1⟩
abbrev Fld.IRQ_PENDING_SUBSYS : Fld := ⟨.IRQ_PENDING, 21, 1⟩
abbrev Fld.IRQ_ENABLE_SUBSYS : Fld := ⟨.IRQ_ENABLE, 21, 1⟩
abbrev Fld.IRQ_STW_ENABLE_SUBSYS : Fld := ⟨.IRQ_STW_ENABLE, 21, 1⟩
abbrev Fld.IRQ_TEST_SET : Fld := ⟨.IRQ_TEST, 0, 0⟩
abbrev Fld.IRQ_CAUSE_CAUSE : Fld := ⟨.IRQ_CAUSE, 7, 0⟩
abbrev Fld.IRQ_CAUSE_MASK_MASK : Fld := ⟨.IRQ_CAUSE_MASK, 7, 0⟩
abbrev Fld.TRC_CTL_HOLD_US : Fld := ⟨.TRC_CTL, 63, 48⟩
abbrev Fld.TRC_CTL_IRQ_THRESHOLD : Fld := ⟨.TRC_CTL, 47, 32⟩
abbrev Fld.TRC_CTL_IRQ_TIMER_US : Fld := ⟨.TRC_CTL, 31, 16⟩
abbrev Fld.TRC_TRACE_EN_SUBSYS : Fld := ⟨.TRC_TRACE_EN, 21, 1⟩
abbrev Fld.TRC_RATE_LOG_PER_MS : Fld := ⟨.TRC_RATE, 63, 48⟩
abbrev Fld.TRC_RATE_LOG_BURST : Fld := ⟨.TRC_RATE, 47, 32⟩
abbrev Fld.TRC_RATE_TRACE_PER_MS : Fld := ⟨.TRC_RATE, 31, 16⟩
abbrev Fld.TRC_RATE_TRACE_BURST : Fld := ⟨.TRC_RATE, 15, 0⟩
abbrev Fld.TRC_STATUS_ALARM_Q : Fld := ⟨.TRC_STATUS, 56, 48⟩
abbrev Fld.TRC_STATUS_ERROR_Q : Fld := ⟨.TRC_STATUS, 44, 32⟩
abbrev Fld.TRC_STATUS_LOG_Q : Fld := ⟨.TRC_STATUS, 26, 16⟩
abbrev Fld.TRC_STATUS_TRACE_Q : Fld := ⟨.TRC_STATUS, 10, 0⟩
abbrev Fld.TRC_OFF_DROPS_ERRORS : Fld := ⟨.TRC_OFF_DROPS, 63, 32⟩
abbrev Fld.TRC_OFF_DROPS_COUNT : Fld := ⟨.TRC_OFF_DROPS, 31, 0⟩
abbrev Fld.TRC_RING_BASE_BASE : Fld := ⟨.TRC_RING_BASE, 63, 12⟩
abbrev Fld.TRC_RING_BASE_TARGET : Fld := ⟨.TRC_RING_BASE, 5, 5⟩
abbrev Fld.TRC_RING_BASE_LOG2_SIZE : Fld := ⟨.TRC_RING_BASE, 4, 0⟩
abbrev Fld.TRC_RING_HEAD_INDEX : Fld := ⟨.TRC_RING_HEAD, 15, 0⟩
abbrev Fld.TRC_RING_TAIL_INDEX : Fld := ⟨.TRC_RING_TAIL, 15, 0⟩
abbrev Fld.TRC_ALARM_CODES_PENDING : Fld := ⟨.TRC_ALARM_CODES, 63, 63⟩
abbrev Fld.TRC_ALARM_CODES_SLICE : Fld := ⟨.TRC_ALARM_CODES, 55, 48⟩
abbrev Fld.TRC_ALARM_CODES_FIRST_CODE : Fld := ⟨.TRC_ALARM_CODES, 47, 32⟩
abbrev Fld.TRC_ALARM_CODES_LAST_CODE : Fld := ⟨.TRC_ALARM_CODES, 31, 16⟩
abbrev Fld.TRC_ALARM_CODES_COUNT : Fld := ⟨.TRC_ALARM_CODES, 15, 0⟩
abbrev Fld.TRC_ALARM_FIRST_GTB_VALUE : Fld := ⟨.TRC_ALARM_FIRST_GTB, 63, 0⟩
abbrev Fld.TRC_ALARM_LAST_GTB_VALUE : Fld := ⟨.TRC_ALARM_LAST_GTB, 63, 0⟩
abbrev Fld.TRC_ALARM_DETAIL_VALUE : Fld := ⟨.TRC_ALARM_DETAIL, 63, 0⟩
abbrev Fld.TRC_DROP_LOG : Fld := ⟨.TRC_DROP, 63, 32⟩
abbrev Fld.TRC_DROP_TRACE : Fld := ⟨.TRC_DROP, 31, 0⟩
abbrev Fld.GLB_ID_PART : Fld := ⟨.GLB_ID, 63, 48⟩
abbrev Fld.GLB_ID_STEPPING : Fld := ⟨.GLB_ID, 47, 40⟩
abbrev Fld.GLB_ID_IDCODE : Fld := ⟨.GLB_ID, 31, 0⟩
abbrev Fld.GLB_BOOT_CODE : Fld := ⟨.GLB_BOOT, 63, 48⟩
abbrev Fld.GLB_BOOT_ELAPSED_US : Fld := ⟨.GLB_BOOT, 31, 8⟩
abbrev Fld.GLB_BOOT_STEP : Fld := ⟨.GLB_BOOT, 3, 0⟩
abbrev Fld.STW_IMG_ADDR_VALUE : Fld := ⟨.STW_IMG_ADDR, 63, 0⟩
abbrev Fld.STW_IMG_LEN_VALUE : Fld := ⟨.STW_IMG_LEN, 63, 0⟩
abbrev Fld.STW_IMG_CTL_GO : Fld := ⟨.STW_IMG_CTL, 20, 20⟩
abbrev Fld.STW_IMG_CTL_PASID : Fld := ⟨.STW_IMG_CTL, 19, 0⟩
abbrev Fld.STW_STATUS_READY : Fld := ⟨.STW_STATUS, 63, 63⟩
abbrev Fld.STW_STATUS_CORES : Fld := ⟨.STW_STATUS, 4, 0⟩

end Sys2Proof.Machine
end

