-- ==== Sys2Proof/Machine/State.lean ====
section
/-! DEFINITION. The state of the KE512 as plain data: the register file, the queues and tables of every subsystem, the
messages its ports have sent, and the queue of waiting commands. Every table is a list of (key, value) pairs with keys
strictly rising in which an unlisted key stands for the entry's initial value; a register's initial value is its reset
value (`resetWord`). Times are GTB nanoseconds (R33). -/

namespace Sys2Proof.Machine

open Sys2Proof

/-- Why a command stops with a fault. -/
inductive Fault where
  /-- Raised by a meaning whose operand names a port, station, core, slot, register, ring or object that the block does
  not have (R19, R35, R266): no access to it exists. Safe: the machine stops. -/
  | noSuchUnit
  /-- Raised by REGISTER_WRITE for a write that starts a command with a row of its own whose operands come from outside the
  block beside the written value (OBJ_CMD DESTROY, TEN_CMD SAVE, RESTORE and DISCARD, LNK_KX_CMD, KEY_CMD ENROLL): that row models
  the write. Safe: the machine stops. -/
  | ownRow
  deriving DecidableEq, Repr

/-- Why a command has no meaning here. -/
inductive Refusal where
  /-- Raised by `exec` for a row that has no meaning in the model. Safe. -/
  | notModelled (mnemonic : String)
  deriving DecidableEq, Repr

/-! ## Messages on the ports -/

/-- A message the block has sent on one of its ports (chapter 16), FM_ messages as R67 lists them. -/
inductive Output where
  /-- CPk_HDG_ANS for transaction `txn` (R53): 0 none, 1 GRANT, 2 DENY, 3 DEFER. -/
  | hdgAns (port txn ans : Nat)
  /-- CPk_RSP (R422). -/
  | rsp (port txn core status code : Nat) (value : Word)
  /-- CPk_RDAT (chapter 16): beat number and SPEC bit. -/
  | rdat (port txn beat : Nat) (spec : Bool) (data : Line)
  /-- CPk_SNP (chapter 16). -/
  | snp (port opc core sid line : Nat)
  /-- The Drover writes a row or a fill-count sector into a core's SRAM (R193, R203): byte offset and bytes. -/
  | sramRow (core offset : Nat) (data : List Byte)
  /-- A core's SRAM is written or zeroed by its station (R60, R193, R198, R229, R321): first and last byte offset. -/
  | sramWrite (core first last : Nat) (zero : Bool)
  /-- A write into a core's SRAM (R162): byte offset, data and byte enables. -/
  | sramData (core offset : Nat) (data : Line) (be : ByteMask)
  /-- A mover or the planner reads a core's SRAM (R191, R197): byte offset and number of bytes. -/
  | sramRead (core offset bytes : Nat)
  /-- MPk_CMD and MPk_WD (R424). -/
  | memCmd (port : Nat) (write : Bool) (addr smask tag : Nat) (data : Line)
  /-- A flit group handed to LPk_TX (R324): class, destination tag, FSN of its first flit and number of flits. -/
  | linkTx (port cls wireTag fsn flits : Nat) (phase : Bool)
  /-- A CTL message of a key exchange or of lane sparing (R328, R338). -/
  | linkCtl (port kind arg : Nat) (payload : List Byte)
  /-- LPk_RETRAIN_REQ and LPk_LANE_MAP (R338). -/
  | retrain (port mappedOut : Nat)
  /-- HP_M memory read (R426). -/
  | hostRead (tag addr len : Nat) (pasid : Option Nat)
  /-- HP_M and HP_MW memory write (R426). -/
  | hostWrite (id addr : Nat) (pasid : Option Nat) (data : List Word)
  /-- HP_MW memory write of bytes for a DMA engine (R99, R426). -/
  | hostBytes (id addr : Nat) (pasid : Option Nat) (data : List Byte)
  /-- HP_M AtomicOp CAS (R135, R426). -/
  | hostCas (tag addr : Nat) (pasid : Option Nat) (old new : Word)
  /-- HP_TC read completion of a BAR access (chapter 16). -/
  | hostData (tag : Nat) (data : Word)
  /-- What the Steward's read of a register returns. -/
  | stewardData (data : Word)
  /-- FM_TX CS_TICKET. -/
  | fmTicket (seq ticket : Nat)
  /-- FM_TX CS_RESULT: status 0 PASS, 1 REFUSED, 2 PENDING_SCRUB; reason code or T. -/
  | fmResult (seq ticket status code t : Nat)
  /-- FM_TX COMMITTED. It answers no message, so it carries no SEQ (DESIGN CHOICE, log 86). -/
  | fmCommitted (epoch t : Nat)
  /-- FM_TX METER_REPORT with the four counters of R68. -/
  | fmMeter (seq slice : Nat) (timeNs coreUs memchUs linkUs : Word)
  /-- FM_TX SPARE_NOTICE (R385), without a SEQ either (DESIGN CHOICE, log 86). -/
  | fmSpare (kind failed subst gtb : Nat)
  /-- PM_HINT (R402). -/
  | pmHint (slice slack : Nat) (behind : Bool)
  /-- PM_EN (R403). -/
  | pmEnergy (slice uj : Nat)
  /-- A raw master's answer (R180, R181): code 0 with data, or the bus-error code. -/
  | raw (jtag : Bool) (pa code : Nat) (data : Line)
  /-- I3C answers: read data, NACK, in-band interrupt (R428). -/
  | i3cData (data : Word)
  | i3cNack
  | i3cIbi (code : Nat)
  /-- A Crier record written to Steward memory (R411). -/
  | stewardWrite (addr : Nat) (data : List Word)
  /-- A scrub writes zeros over every data sector of the lines of a granule, or of a subtree of a port (R159, R177). -/
  | scrub (granule : Nat)
  | scrubLines (port level line : Nat)
  deriving DecidableEq, Repr

/-! ## Time, start-up, power -/

/-- The global time base and the stations' copies (R33, R87–R89). -/
structure Clock where
  /-- STG_GTB, ns since the release of RST_POR_N. -/
  gtb      : Nat
  /-- The master counts: RST_POR_N has been released (R433). -/
  running  : Bool
  /-- Sources (R409) whose copy is locked. -/
  locked   : List Nat
  /-- The offset of each locked copy at its last MARK, in ps (R88): source and offset. -/
  skews    : List (Nat × Nat)
  deriving DecidableEq, Repr

/-- Start-up state beside GLB_BOOT (R433–R443). -/
structure Boot where
  /-- RST_POR_N is asserted. -/
  porHeld    : Bool
  /-- The supply of PD1–PD23 is removed (R25). -/
  supplyOff  : Bool
  /-- A GO waits for STEP 5 (R436). -/
  goKept     : Bool
  /-- The image DMA is running (R437). -/
  fetching   : Bool
  /-- CDI has been derived since POR, so the measurements are fixed (R343, R442). -/
  measured   : Bool
  deriving DecidableEq, Repr

/-- Power switching beside GLB_PD_REQ and GLB_PD_STATUS (R26–R30). -/
structure Power where
  /-- Domains switching off. -/
  goingOff   : List Nat
  /-- Domains switching on. -/
  goingOn    : List Nat
  /-- GTB at which PD23 last went off (R415). -/
  pd23OffAt  : Nat
  deriving DecidableEq, Repr

/-! ## The Moot and the committed configuration -/

/-- The states of a change set (R74). -/
inductive SlotState where
  | free | opened | checking | waiting | pendingScrub | passed | refused
  deriving DecidableEq, Repr

/-- A change-set entry (R75). -/
structure Entry where
  w0 : Word
  w1 : Word
  deriving DecidableEq, Repr

/-- One of the four change-set slots (R69–R85). -/
structure CsSlot where
  state    : SlotState
  ticket   : Nat
  writer   : Path
  entries  : List Entry
  overflow : Bool
  /-- STG_CS_T. -/
  t        : Nat
  reason   : Nat
  detail   : Nat
  /-- The check of the set has begun (R77). -/
  begun    : Bool
  /-- An ABANDON waits for the check's end (R74). -/
  abandon  : Bool
  /-- Tickets of the PENDING_SCRUB sets it waits for (R78). -/
  waitFor  : List Nat
  /-- GTB at which CHECK passed (R83). -/
  passedAt : Nat
  /-- f of its evaluation (R92, R95). -/
  floor    : Nat
  /-- The ADM_W words to write at T (R95). -/
  admW     : List (Nat × Word)
  /-- Sources to which the staged state went, and those whose acknowledgement is still missing (R85). -/
  asked    : List Nat
  unacked  : List Nat
  /-- Cores the set unbinds that have not reached a tile boundary since CHECK passed (R60, R84). -/
  departing : List Nat
  /-- All cores the set unbinds. -/
  unbound  : List Nat
  /-- The set is a Granary record set (R385). -/
  record   : Bool
  /-- The slot tag failed during delivery: the Well withholds its acknowledgement (R354). -/
  wellFail : Bool
  /-- Domains that were switching on when the staged state was delivered: one that begins later sets its ON bit only
  after T (R85). -/
  domains  : List Nat
  deriving DecidableEq, Repr

/-- The owner of a granule: the tag and the commons ID (R47). -/
structure Owner where
  tag : Nat
  cid : Nat
  deriving DecidableEq, Repr

/-- The Moot (chapter 3). -/
structure Moot where
  slots       : List CsSlot
  /-- Next ticket (R70). -/
  nextTicket  : Nat
  /-- Selected slot of each register path (R71). -/
  selHost     : Option Nat
  selSteward  : Option Nat
  /-- STG_CS_OPENED of each path: ticket and slot. -/
  openedHost    : Nat × Nat
  openedSteward : Nat × Nat
  /-- STG_ENTRY_W0 of each path. -/
  w0Host      : Word
  w0Steward   : Word
  /-- The last T assigned (R83), and whether one was. -/
  lastT       : Option Nat
  /-- Rotating pointer over writers (R70). -/
  rotor       : Path
  /-- SEQ of the last FM message for each ticket, echoed in CS_RESULT (R67). -/
  fmSeq       : List (Nat × Nat)
  deriving DecidableEq, Repr

/-- A range of granules that is flushed and scrubbed, with the layout of the window in force before T (R159, R258): the
byte address its blocks count from, and the ports of its channels in order. -/
structure Scrub where
  first : Nat
  last  : Nat
  base  : Nat
  ports : List Nat
  /-- The owner before T. -/
  tag   : Nat
  deriving DecidableEq, Repr

/-- The composition map's state beside its registers (chapter 2). -/
structure Comp where
  /-- The ownership table (R47) as change points: granule g has the value of the greatest key at or below g, and 0xFF
  before the first key. -/
  owners     : List (Nat × Owner)
  /-- Granule ranges whose scrub has not ended (R159). -/
  scrubbing  : List Scrub
  /-- Granule ranges still to be flushed before their scrub (R258). -/
  flushing   : List Scrub
  /-- Cores whose SRAM is being zeroed (R60). -/
  zeroing    : List Nat
  /-- Disabled slices whose teardown has not ended (R39), with the process handles to notify. -/
  tearing    : List (Nat × List Nat)
  /-- The register file before the last commit instant: the previous epoch's channel map, link ownership, core table and
  commons memberships, which the forwarding stubs hold (R52, R63). -/
  prev       : List (Nat × Word)
  deriving DecidableEq, Repr

/-! ## Cluster stations -/

/-- A station TLB entry (R108). -/
structure TlbEntry where
  ctx        : Nat
  va         : Nat
  size       : Nat
  pa         : Nat
  r          : Bool
  w          : Bool
  a          : Bool
  keyid      : Nat
  owner      : Nat
  ownerValid : Bool
  cid        : Nat
  /-- The KEYID of the leaf, as read (R183). -/
  leafKey    : Nat
  deriving DecidableEq, Repr

/-- What a granted request runs under: physical address, KeyID, and the granule's commons ID where it is a commons. -/
structure Grant where
  pa    : Nat
  keyid : Nat
  cid   : Option Nat
  deriving DecidableEq, Repr

/-- A request as a station keeps it while it waits: with its stamp (R36) and the beats that came with it. -/
structure PortAccess where
  req     : Req
  core    : Nat
  ctx     : Nat
  slice   : Nat
  epoch   : Nat
  beats   : List (Line × ByteMask)
  operand : Word
  compare : Word
  /-- Its number in the order in which its station took requests. -/
  seq     : Nat
  /-- The entry of the atomic log that its result fills (R251). -/
  slot    : Option Nat
  deriving DecidableEq, Repr

/-- A deferred request in the retry queue (R55). -/
structure Deferred where
  acc     : PortAccess
  /-- A permission miss: the leaf is read from its table (R112). -/
  recheck : Bool
  /-- GEN of its context when its walk started (R114). -/
  gen     : Nat
  deriving DecidableEq, Repr

/-- A granted access that waits for a checkpoint, or for its core's RR lines to go, before it issues (R248, R249). -/
structure Stalled where
  acc    : PortAccess
  grant  : Grant
  /-- Link port of a remote target. -/
  link   : Option Nat
  /-- The group of the snoop that drops the RR lines, while it is unanswered. -/
  drop   : Option Nat
  deriving DecidableEq, Repr

/-- A request a station has let out and that has no last response yet (R62–R64). -/
structure Flight where
  acc    : PortAccess
  keyid  : Nat
  /-- Lines still to return. -/
  left   : Nat
  /-- It carries verify tokens. -/
  spec   : Bool
  /-- Link port it went out on. -/
  link   : Option Nat
  /-- Lines returned, first to last. -/
  lines  : List Line
  /-- For each line, the bytes its core's held writes had changed when it issued (R239). -/
  ovl    : List (Line × ByteMask)
  /-- A logged atomic whose tile has been replayed: its result goes to the log alone (R251). -/
  ghost  : Bool
  /-- How an access of the block's own engines has ended: the code, 0 where every line has verified, and LEVEL and word 2 of
  a translation fault. It stays until its engine takes it. -/
  outcome : Option (Nat × Nat × Word)
  deriving DecidableEq, Repr

/-- An atomic that its cluster station performs: on the core's merged view (R243), or in the atomic buffer (R244), where
the line waits in `got` until it has verified (R249). -/
structure View where
  acc    : PortAccess
  grant  : Grant
  remote : Option Nat
  buffer : Bool
  got    : Option Line
  deriving DecidableEq, Repr

/-- Where a held write goes (R162). -/
inductive WriteDest where
  | memory | remote (link : Nat) | sram (core : Nat)
  deriving DecidableEq, Repr

/-- A write in the held-write buffer (R162). -/
structure Held where
  id     : Nat
  txn    : Nat
  core   : Nat
  slice  : Nat
  ctx    : Nat
  keyid  : Nat
  /-- Line-aligned byte address: PA, or offset in the target core's SRAM. -/
  addr   : Nat
  dest   : WriteDest
  data   : Line
  be     : ByteMask
  alloc  : Bool
  cid    : Option Nat
  deriving DecidableEq, Repr

/-- A released write without RSP (R162). -/
structure Released where
  id     : Nat
  core   : Nat
  txn    : Nat
  /-- The number of the access to answer when its last RSP comes, for a releasing write or a mover's (R248). -/
  access : Option Nat
  remote : Bool
  keyid  : Nat
  /-- The epoch under which it was released (R63). -/
  epoch  : Nat
  /-- Its tile has been aborted (R163). -/
  orphan : Bool
  deriving DecidableEq, Repr

/-- A verify token a station waits for (R160, R162). -/
structure Token where
  txn     : Nat
  /-- The number of its access. -/
  seq     : Nat
  core    : Nat
  line    : Nat
  remote  : Bool
  /-- The epoch of its access (R62). -/
  epoch   : Nat
  deriving DecidableEq, Repr

/-- A line in a cluster station's atomic buffer (R244): the line, and the bytes its atomics have changed. -/
structure AtomicLine where
  line   : Nat
  slice  : Nat
  ctx    : Nat
  keyid  : Nat
  data   : Line
  be     : ByteMask
  deriving DecidableEq, Repr

/-- A cluster station (R19). -/
structure Cluster where
  epoch     : Nat
  prevEpoch : Nat
  tlb       : List TlbEntry
  retry     : List Deferred
  stalled   : List Stalled
  flights   : List Flight
  views     : List View
  held      : List Held
  released  : List Released
  tokens    : List Token
  atomics   : List AtomicLine
  /-- Verdicts under way from the memory stations: number of the access, verdict, code (R160). -/
  verdicts  : List (Nat × Verdict × Nat)
  /-- RSPs under way for released writes: id and bus-error code or 0 (R162). -/
  rsps      : List (Nat × Nat)
  /-- The station holds a forwarding stub (R63). -/
  stub      : Bool
  /-- Next id of a held write. -/
  nextId    : Nat
  /-- The station stops accepting requests: its check logic failed (R388). -/
  stopped   : Bool
  /-- Order number of the next request. -/
  nextSeq   : Nat
  /-- Lines of the atomic buffer whose write-back has not been answered (R244, R248). -/
  backs     : List Nat
  deriving DecidableEq, Repr

/-! ## Memory stations -/

/-- What a memory station operation is (R160, R167, R168, R178). -/
inductive MemKind where
  | read
  /-- A raw read: the stored bytes (R180). -/
  | rawRead
  | write
  | atomic (op : Nat) (eight : Bool) (offset : Nat) (operand compare : Word)
  deriving DecidableEq, Repr

/-- Whom an operation answers. -/
inductive MemOrigin where
  /-- A core's request, or one of the block's own engines: station, number of the access, beat. -/
  | core (k seq beat : Nat)
  /-- A released write: station and id. -/
  | released (k id : Nat)
  /-- The line under a released WRITE with ALLOC (R256). -/
  | fill (k : Nat) (h : Held)
  /-- A request from a peer on a link port (R333): its transaction. -/
  | link (p txn : Nat)
  /-- The write-back of a line of station `k`'s atomic buffer (R244). -/
  | back (k line : Nat)
  /-- The compare-and-swap of a migration (R135). -/
  | migration (id : Nat)
  /-- A walker's read of a device-resident table (R103). -/
  | walk (id : Nat)
  /-- A migration's read of its slice's pool ring (R138). -/
  | pool (id : Nat)
  /-- A raw master's access (R180, R181). -/
  | raw (jtag : Bool) (pa : Nat)
  /-- A SAVE's read (R317): the number of its image. -/
  | save (image : Nat)
  /-- Nobody. -/
  | none
  deriving DecidableEq, Repr

/-- A counter node (R151): level and index, major, 64 minors, and whether it is dirty. -/
structure Node where
  level  : Nat
  index  : Nat
  major  : Nat
  minors : List Nat
  dirty  : Bool
  deriving DecidableEq, Repr

/-- What a read command of a station fetches. -/
inductive Fetch where
  | data | tagLine
  | node (level : Nat) | nodeTag (level : Nat)
  deriving DecidableEq, Repr

/-- A rewrite of metadata smaller than a sector, or of a line under a new major (R156–R158, R172). -/
inductive PatchKind where
  /-- Write an 8-byte node tag at a channel-local address. -/
  | setTag (addr : Nat) (v : Word)
  /-- Change an 8-byte node tag by a difference: its node's version has changed. -/
  | xorTag (addr : Nat) (v : Word)
  /-- Re-encrypt a line: KeyID, old version and new major (the new minor is 1). -/
  | recrypt (line keyid oldMajor oldMinor newMajor : Nat)
  /-- Put a line's tag word into its tag line, which the tag cache does not hold, and keep the tag line there (R145). -/
  | tagWord (line : Nat) (v : Word)
  /-- Read a clean counter node again whose cached copy was lost while something below it is cached (R173). -/
  | refetch (level index : Nat)
  deriving DecidableEq, Repr

/-- A metadata rewrite under way. -/
structure Patch where
  /-- Port whose DRAM holds it. -/
  port : Nat
  kind : PatchKind
  /-- Outstanding reads by tag, and what has come. -/
  cmds : List (Nat × Fetch)
  got  : List (Fetch × Line)
  begun : Bool
  deriving DecidableEq, Repr

/-- A line or sectors that a command has brought, and whether they came poisoned. -/
structure Got where
  what   : Fetch
  data   : Line
  poison : Bool
  deriving DecidableEq, Repr

/-- An operation of a memory station, waiting or in a slot (R160). -/
structure MemOp where
  id      : Nat
  origin  : MemOrigin
  core    : Nat
  slice   : Nat
  ctx     : Nat
  keyid   : Nat
  line    : Nat
  /-- PA of the line divided by 128. -/
  paLine  : Nat
  kind    : MemKind
  data    : Line
  be      : ByteMask
  /-- It is the oldest accepted operation of its line, and has begun (R166). -/
  started : Bool
  /-- Outstanding read commands: port, tag, and what they fetch. -/
  cmds    : List (Nat × Nat × Fetch)
  got     : List Got
  /-- Reads of each node so far: level, 1 primary, 2 primary again, 3 mirror, 4 mirror again (R172), and whether the
  primary came poisoned. -/
  tries   : List (Nat × Nat × Bool)
  /-- The line is being, or has been, read a second time after its MAC failed (R169). -/
  reread  : Bool
  /-- It has been read a second time because it came poisoned. -/
  repoison : Bool
  /-- Plaintext has been returned, or the line waits to verify: the verdict is due. -/
  due     : Bool
  /-- The line's minor was 0, so there is nothing to check. -/
  zero    : Bool
  /-- The keystream includes a block marked by a droop (R398). -/
  marked  : Bool
  /-- The epoch its request carries (R62). -/
  epoch   : Nat
  /-- The version under which DRAM holds what it has read (R154, R156). -/
  ver     : Option (Nat × Nat)
  deriving DecidableEq, Repr

/-- A command for a memory port (R424): a write with its data, or a read with the station's own number of it. -/
structure PortCmd where
  write  : Bool
  addr   : Nat
  smask  : Nat
  serial : Nat
  data   : Line
  deriving DecidableEq, Repr

/-- The crossing from a memory station to its port (R424, R425). -/
structure MemPort where
  /-- Commands that find no room in the FIFOs, oldest first. -/
  unsent : List PortCmd
  /-- The command FIFO: commands that the controller has not taken, with the beats of write data each has in its FIFO. -/
  cmds   : List (Option Nat × Nat)
  /-- Reads issued and not returned: command tag, the station's number, and the beats its data need in their FIFO. -/
  reads  : List (Nat × Nat × Nat)
  deriving DecidableEq, Repr

/-- A line in a memory station's atomic line buffer (R179). -/
structure LineBuf where
  line  : Nat
  keyid : Nat
  slice : Nat
  ctx   : Nat
  data  : Line
  deriving DecidableEq, Repr

/-- A memory station: the Mill and its counter-tree slice (chapter 5). -/
structure MemStation where
  /-- Operations presented and not yet accepted. -/
  waiting  : List MemOp
  /-- Operations in the 256 slots, by slot number. -/
  slots    : List (Nat × MemOp)
  /-- Tag cache: tag line number and its 16 tag words, most recently used first (R145). -/
  tagCache : List (Nat × Line)
  /-- Counter cache, most recently used first (R157). -/
  nodes    : List Node
  /-- The upper node's major (the root) and minors (R152, R155). -/
  root     : Nat
  upper    : List Nat
  /-- Atomic line buffer, most recently used first (R179). -/
  buf      : List LineBuf
  /-- KT, once delivered (R355). -/
  treeKey  : Option Key
  /-- Metadata rewrites in order, one at a time (R156, R157). -/
  patches  : List Patch
  /-- Ranges of leaves that have been scrubbed since they were last in the counter cache (R159, R177): what they hold
  counts as major + 1 with every minor 0. -/
  scrubbed : List (Nat × Nat)
  /-- Lines that have been scrubbed alone while their leaf was not in the counter cache (R177). -/
  zeroed   : List Nat
  /-- Lines put into the pound while their leaf was not in the counter cache (R257, R392). -/
  pounds   : List Nat
  /-- The station's number for its next read. -/
  nextTag  : Nat
  nextId   : Nat
  /-- The station's epoch and the one before it, and its forwarding stub (R62, R63). -/
  epoch    : Nat
  prevEpoch : Nat
  stub     : Bool
  port     : MemPort
  deriving DecidableEq, Repr

/-! ## Translation -/

/-- A shared-cache entry: a KPT entry of a context at a level (R113). -/
structure CacheEntry where
  ctx   : Nat
  level : Nat
  index : Nat
  entry : Word
  deriving DecidableEq, Repr

/-- An outstanding invalidation (R123–R125). -/
structure Inval where
  seq     : Nat
  scope   : Nat
  ctx     : Nat
  pasid   : Nat
  slice   : Nat
  start   : Nat
  pagesM1 : Nat
  /-- Acknowledgers that have not acknowledged, numbered 0–67 TLBs, 68–135 movers, 136 the planner, 137–138 banks. -/
  missing : List Nat
  /-- Requests issued before it that must complete first: station and transaction (R124). -/
  waits   : List (Nat × Nat)
  deriving DecidableEq, Repr

/-- An outstanding fault (R127, R133). -/
structure OutFault where
  ctx   : Nat
  seq   : Nat
  code  : Nat
  /-- The core whose tile is parked, or none for a command. -/
  core  : Option Nat
  queue : Nat
  deriving DecidableEq, Repr

/-- How a walk has ended (R104): a fault with its code, LEVEL and word 2 (R129), or a leaf with its level and the place of its
entry. -/
inductive WalkEnd where
  | fault (code level : Nat) (word2 : Word)
  | leaf (e : Word) (level : Nat) (device : Bool) (at_ : Nat)
  deriving DecidableEq, Repr

/-- Whom a walk serves: the deferred request of a station, by its number, or the DMA descriptor of a queue's command. -/
inductive WalkFor where
  | request (k seq : Nat)
  | extent (queue : Nat)
  deriving DecidableEq, Repr

/-- A table walk that holds a walker of its bank (R104, R113). -/
structure TableWalk where
  id      : Nat
  bank    : Nat
  who     : WalkFor
  ctx     : Nat
  dva     : Nat
  access  : AccessKind
  /-- The leaf is read from its table (R112). -/
  recheck : Bool
  /-- GEN of its context when it started (R114). -/
  gen     : Nat
  /-- The level whose entry it reads, and the table it reads it from: in device memory, or at a host physical address. -/
  level   : Nat
  table   : Nat
  device  : Bool
  /-- The entry read last (R129). -/
  last    : Word
  ended   : Option WalkEnd
  deriving DecidableEq, Repr

/-- A lower walk (R111): the HVA, and the level and table it reads next. -/
structure LowerWalk where
  hva   : Nat
  write : Bool
  level : Nat
  table : Nat
  deriving DecidableEq, Repr

/-- What a migration waits for: the pool entry at an index, its lower walk, the page, its 32 writes and the
compare-and-swap. -/
inductive MigStage where
  | pool (index : Nat)
  | lower (w : LowerWalk)
  | page
  | swap
  deriving DecidableEq, Repr

/-- A page migration under way (R135). -/
structure Migration where
  id     : Nat
  core   : Nat
  acc    : PortAccess
  hva    : Nat
  /-- The page taken from the pool, with the place of its entry. -/
  page   : Option (Nat × Nat)
  /-- The leaf: whether its table is in device memory, its address and its value. -/
  device : Bool
  leafAt : Nat
  leaf   : Word
  /-- The eighths of the page that have arrived. -/
  got    : List (Nat × List Word)
  stage  : MigStage
  deriving DecidableEq, Repr

/-- A translated extent of a DMA-engine descriptor (R120): its first DVA, PA, length, KeyID, owner tag, CID and permissions, as
a TLB entry holds them; or a host range (R99). -/
structure Extent where
  entry : TlbEntry
  host  : Bool
  deriving DecidableEq, Repr

/-- A piece of a DMA engine's transfer that the host interface carries (R99): its bytes; the number of the access to device
memory under way for it; and its data, once they have been read. -/
structure HostChunk where
  bytes  : Nat
  access : Option Nat
  data   : Option (List Byte)
  deriving DecidableEq, Repr

/-- The descriptor of the DMA command that a queue runs: what it names, its extents (R120), and how far the host interface has
come with it (R99). -/
structure DmaXlt where
  ctx   : Nat
  slice : Nat
  /-- First source and destination DVA, length, and the pattern of a fill. -/
  src   : Nat
  dst   : Nat
  len   : Nat
  fill  : Option Word
  /-- GEN they are stamped with (R121). -/
  gen   : Nat
  /-- Ranges still to translate: first DVA, bytes, whether it is written, and the index its next extent takes. -/
  todo  : List (Nat × Nat × Bool × Nat)
  /-- Extents by index. -/
  list  : List (Nat × Extent)
  /-- A host-resident leaf whose lower walk runs: its entry, its level, and the walk (R111). -/
  lower : Option (Word × Nat × LowerWalk)
  /-- A walk or a lower walk of it is under way. -/
  busy  : Bool
  /-- Bytes that the host interface has carried or left to the core, and the piece under way. -/
  done  : Nat
  chunk : Option HostChunk
  deriving DecidableEq, Repr

/-- The translation core (chapter 4). -/
structure Xlt where
  cache     : List CacheEntry
  invals    : List Inval
  /-- Fault records waiting for ring space (R131), four words each. -/
  waiting   : List (List Word)
  faults    : List OutFault
  /-- Last SEQ of each context (R129). -/
  seqs      : List (Nat × Nat)
  /-- Records written since FAULT_BATCH was last cleared (R132), and the GTB of the first of them. -/
  batch     : Nat
  batchAt   : Nat
  migrations : List Migration
  /-- DMA descriptors and their extents by queue (R120). -/
  extents   : List (Nat × DmaXlt)
  walks     : List TableWalk
  /-- Number of the next walk or migration. -/
  nextWalk  : Nat
  deriving DecidableEq, Repr

/-! ## Scheduling -/

/-- The states of SCH_RES (chapter 7). -/
inductive ResState where
  | idle | ready | running | preloading | suspended
  deriving DecidableEq, Repr

/-- A resident slot (R213, R222). -/
structure Resident where
  ctx     : Nat
  slice   : Nat
  state   : ResState
  /-- Credit in units of 1/1024 core-ns (R222). -/
  credit  : Int
  /-- DEACTIVATE or a teardown waits for the tile boundary (R229). -/
  leaving : Bool
  /-- Its share is being zeroed (R229). -/
  zeroing : Bool
  /-- GTB since which it has had a ready tile and a positive credit (R402). -/
  behindSince : Option Nat
  deriving DecidableEq, Repr

/-- An entry of the atomic log (R251). -/
structure LogEntry where
  addr  : Nat
  /-- 0–15 the atomic operation, 16 an acquire read, 17 an allocator request. -/
  op    : Nat
  size  : Nat
  value : Word
  lines : List Line
  /-- The access has returned its value. -/
  have_ : Bool
  deriving DecidableEq, Repr

/-- A tile: ready, running, ended or parked (R217–R221, R231). A ready tile has started at 0. -/
structure Tile where
  ctx      : Nat
  slice    : Nat
  queue    : Nat
  pos      : Nat
  decl     : Nat
  startAt  : Nat
  /-- The engines have ended it (R162). -/
  ended    : Bool
  /-- Core-ns to charge at its end. -/
  ranNs    : Nat
  replay   : Bool
  /-- Its code if it has failed, else 0. -/
  code     : Nat
  log      : List LogEntry
  /-- Next log entry a replay answers from (R251). -/
  logAt    : Nat
  /-- A checkpoint waits for its tokens (R163). -/
  checkpoint : Bool
  deriving DecidableEq, Repr

/-- The copy of one core's share that a preload makes (R228). -/
structure Preload where
  ctx    : Nat
  core   : Nat
  /-- DVA it copies from, and its bytes. -/
  dva    : Nat
  bytes  : Nat
  /-- Bytes that have been copied, and the number of the read under way. -/
  done   : Nat
  access : Option Nat
  /-- How it has failed: code, LEVEL and word 2 of a fault. -/
  failed : Option (Nat × Nat × Word)
  deriving DecidableEq, Repr

/-- The scheduler (chapter 7). -/
structure Sched where
  residents : List (Nat × Resident)
  /-- Tiles waiting to be issued, each with the physical core of its position (R223). -/
  ready     : List (Nat × Tile)
  /-- The tile of each busy core. -/
  tiles     : List (Nat × Tile)
  /-- Parked tiles by core (R127). -/
  parked    : List (Nat × Tile)
  /-- Rotating pointer over resident slots of each core (R223). -/
  rotors    : List (Nat × Nat)
  /-- Quantum owner of each core and the GTB at which its quantum ends (R223). -/
  quanta    : List (Nat × Nat × Nat)
  /-- Shares that are being loaded (R228). -/
  preloads  : List Preload
  deriving DecidableEq, Repr

/-! ## Coherence -/

/-- States of a core cache line other than I (R254). -/
inductive LineState where
  | s | e | m | rr
  deriving DecidableEq, Repr

/-- A snoop-filter entry (R253). -/
structure FilterEntry where
  line : Nat
  core : Nat
  st   : LineState
  tag  : Nat
  /-- KeyID the line was filled under (R183). -/
  keyid : Nat
  deriving DecidableEq, Repr

/-- An outstanding snoop (R256, R257) of a group. -/
structure Snoop where
  sid   : Nat
  group : Nat
  line  : Nat
  core  : Nat
  opc   : Nat
  /-- Answered WB_PENDING (R261). -/
  wbPending : Bool
  deriving DecidableEq, Repr

/-- What follows when every snoop of a group has been answered. -/
inductive SnoopThen where
  /-- Forward the operation to memory port `port`. -/
  | op (port : Nat) (o : MemOp) (unique : Bool)
  /-- Fill the writer's cache (WRITE with ALLOC). -/
  | alloc (k : Nat) (h : Held)
  /-- A flush (R183, R258). -/
  | flush
  /-- RR lines dropped for a stalled access: station and number of the access (R248). -/
  | drop (k seq : Nat)
  deriving DecidableEq, Repr

/-- Snoops that one request waits for, and the dirty line an answer brought. -/
structure SnoopGroup where
  id    : Nat
  line  : Nat
  left  : Nat
  dirty : Option Line
  next  : SnoopThen
  deriving DecidableEq, Repr

/-- A request that the snoop filter handles (R256): a read with the port and operation it becomes, the commons of its granule,
whether it is unique and whether its requester caches the line; a write or an atomic; a released write with ALLOC; a flush of a line
from one core's cache, or from every cache (R183, R258). -/
inductive FilterReq where
  | read (port : Nat) (o : MemOp) (cid : Option Nat) (unique cached : Bool)
  | write (port : Nat) (o : MemOp) (cid : Option Nat)
  | alloc (k : Nat) (h : Held)
  | flush (line : Nat) (core : Option Nat)
  deriving DecidableEq, Repr

/-- The snoop filter (chapter 8). -/
structure Coh where
  filter  : List FilterEntry
  snoops  : List Snoop
  groups  : List SnoopGroup
  /-- Writebacks held for a crossing snoop: port, core, line, data (R261). -/
  heldWb  : List (Nat × Nat × Nat × Line)
  nextSid : Nat
  nextGroup : Nat
  /-- Requests for lines on which an earlier request is not finished, oldest first. -/
  queue   : List FilterReq
  /-- Lines that memory is being read for, for a released write with ALLOC. -/
  filling : List Nat
  /-- Snoops that wait for a free snoop ID. -/
  unsent  : List Snoop
  deriving DecidableEq, Repr

/-! ## Rings and objects -/

/-- A command of a queue that has started and not completed (R284). -/
structure RunCmd where
  index   : Nat
  words   : List Word
  /-- Tiles of the command that have not ended yet. -/
  tilesLeft : Nat
  /-- First error of its tiles, or 0. -/
  code    : Nat
  /-- pJ charged to it so far (R403). -/
  energy  : Nat
  /-- Memory objects its OBJ_REF pinned (R289). -/
  pins    : List Nat
  /-- It waits for fence `n` (R287). -/
  waitFence : Option Nat
  /-- It waits in the Drover planner or runs a Drover phase. -/
  drover  : Bool
  deriving DecidableEq, Repr

/-- A queue's run-time state beside its record (R278–R289). -/
structure QueueRun where
  /-- It holds a resident queue slot (R282). -/
  resident : Bool
  /-- It waits for a slot. -/
  waiting  : Bool
  /-- Use count for least-recently-used replacement. -/
  lastUse  : Nat
  /-- Tag of the fetch under way. -/
  fetchTag : Option Nat
  /-- A fetched command not yet started. -/
  fetched  : Option (List Word)
  running  : Option RunCmd
  /-- Objects pinned for the next command (R289), and whether an OBJ_REF named an object that is not LIVE or is of another
  slice (1), or one of another process (2). -/
  pins     : List Nat
  pinBad   : Nat
  /-- DEACTIVATE waits for the running command (R272). -/
  stopping : Bool
  /-- Completion records posted since CREATE (R285). -/
  records  : Nat
  deriving DecidableEq, Repr

/-- What a posted write or a host read is for (R426). -/
inductive DmaUse where
  | ringFetch (queue : Nat)
  | image
  /-- TEN reads a migration image buffer (R318). -/
  | migImage
  | migrationRead (id part : Nat)
  | migrationCas (id : Nat)
  /-- A walker reads a host-resident table (R104). -/
  | walk (id : Nat)
  /-- A lower walk of a migration, or of the descriptor of a core's DMA engine, reads a host table (R111). -/
  | lowerMigration (id : Nat)
  | lowerExtent (queue : Nat)
  /-- The source of a DMA engine's transfer (R99). -/
  | dma (queue : Nat)
  deriving DecidableEq, Repr

/-- What a posted write carries (R426). -/
inductive PostUse where
  | faultRecord
  | notice
  | crier (ring : Nat)
  | completion (queue : Nat) (irq : Bool)
  | image
  /-- A piece of a DMA engine's transfer (R99). -/
  | dma (queue : Nat)
  deriving DecidableEq, Repr

/-- A host write handed to HP_ and not yet taken. -/
structure Posted where
  id   : Nat
  use  : PostUse
  data : List Word
  deriving DecidableEq, Repr

/-- The host interface (chapter 9). -/
structure Hif where
  queues   : List (Nat × QueueRun)
  /-- Outstanding host reads by tag. -/
  reads    : List (Nat × DmaUse × Nat)
  posts    : List Posted
  nextTag  : Nat
  nextPost : Nat
  useCount : Nat
  /-- Rotating pointer over waiting queues (R282). -/
  rotor    : Nat
  deriving DecidableEq, Repr

/-- Where a fence or memory-object record stands beside its STATE field (R267, R270, R271). -/
inductive Life where
  | free | defined | live
  deriving DecidableEq, Repr

/-- A memory object being released and the queue tails doorbelled before its DESTROY (R290). -/
structure Releasing where
  index : Nat
  tails : List (Nat × Nat)
  deriving DecidableEq, Repr

/-- A notice that is not yet written (R276, R277). -/
structure Notice where
  word : Word
  deriving DecidableEq, Repr

/-- The object manager's tables (R266–R271): record words by record × words-per-record + word. -/
structure Obj where
  contexts : List (Nat × Word)
  queues   : List (Nat × Word)
  fences   : List (Nat × Word)
  memobjs  : List (Nat × Word)
  fenceLife : List (Nat × Life)
  memLife   : List (Nat × Life)
  notices  : List Notice
  releasing : List Releasing
  /-- Fences held in the 1,024 resident entries, most recent first. -/
  resFences : List Nat
  /-- Heap maps: (context × 8 + heap) × 2^16 + granule, code of R291. -/
  heaps    : List (Nat × Nat)
  /-- Lines of the object table, counted from its base, and lines of heap maps by PA / 128, that have changed and are not yet
  written to memory (R266, R291). -/
  dirty    : List Nat
  dirtyMaps : List Nat
  /-- Lines of the table to be read: records that have become resident (R266). -/
  wanted   : List Nat
  /-- By heap, context × 8 + heap: when the service of each request ends that waits or is in service (R293). -/
  served   : List (Nat × List Nat)
  /-- Writer and GTB of the last object command accepted (R272). -/
  accepted : Option (Path × Nat)
  /-- Process handles whose teardown awaits its contexts (R295): slice, handle. -/
  dying    : List (Nat × Nat)
  deriving DecidableEq, Repr

/-! ## The Drover -/

/-- A placed route (R204). -/
structure Route where
  token   : Nat
  rank    : Nat
  kind    : Nat
  expert  : Nat
  slot    : Nat
  weight  : Nat
  /-- Its transfer in the running phase: 0 not issued, 1 in flight, 2 acknowledged, 3 its spill row is being written. -/
  stage   : Nat
  /-- The accesses to its spill row that are under way: station and number (R197, R201). -/
  access  : List (Nat × Nat)
  /-- The output row that a combine has gathered (R203). -/
  row     : List Byte
  deriving DecidableEq, Repr

/-- The states of a journal (R205). -/
inductive JournalState where
  | planned | dispatched | combining
  deriving DecidableEq, Repr

/-- A journal (R204). -/
structure Journal where
  ctx     : Nat
  slice   : Nat
  jtag    : Nat
  state   : JournalState
  routes  : List Route
  epoch   : Nat
  created : Nat
  ttlNs   : Nat
  /-- Station of the primary and of the mirror; 68 is the planner's store, 69 none: a copy that PD22 has lost (R30). -/
  primary : Nat
  mirror  : Nat
  /-- Queue whose phase is running, if any. -/
  queue   : Option Nat
  /-- GTB at which its slice froze it (R313). -/
  frozenAt : Option Nat
  /-- The dispatch command, for re-sends and for the home cores. -/
  words   : List Word
  /-- The expert map's entries of the experts that received a route. -/
  experts : List (Nat × List Word)
  /-- Experts whose fill-count sector has no RSP yet (R193). -/
  fills   : List Nat
  /-- The slice's core order when it was planned (R187). -/
  cores   : List Nat
  /-- Routes whose row is sent again to a substitute core, and whether it is on its way (R206). -/
  resend  : List (Nat × Bool)
  deriving DecidableEq, Repr

/-- The Drover (chapter 6). -/
structure Drv where
  /-- Queues whose DISPATCH or COMBINE waits in the planner. -/
  planQ    : List Nat
  journals : List Journal
  /-- Context and JTAG of journals lost between phases: the next command that names one fails (R208). -/
  lost     : List (Nat × Nat)
  /-- Rotating pointer over slices (R185). -/
  rotor    : Nat
  /-- The planner's reads of the expert map for a queue's DISPATCH, by the numbers of their accesses (R192). -/
  mapReads : List (Nat × List Nat)
  deriving DecidableEq, Repr

/-! ## Tenancy services -/

/-- The TEN_CMD under way (R311). -/
structure TenRun where
  op    : Nat
  slice : Nat
  deriving DecidableEq, Repr

/-- What a RESTORE will write (R319–R321): granules of the window, objects, contexts with shares, and the mapped destination
KeyIDs. -/
structure Restore where
  granules : List Nat
  objects  : List (Nat × Nat)
  shares   : List Nat
  keyids   : List Nat
  deriving DecidableEq, Repr

/-- The migration session's secrets (R314, R315). -/
structure TenSession where
  /-- Draw number of the OFFER's key pairs, while the private halves live (R314). -/
  offer    : Option Nat
  imageId  : List Byte
  dek      : Option Key
  macKey   : List Byte
  deriving DecidableEq, Repr

/-- The image that a SAVE writes, as far as it has come (R316–R318). -/
structure SaveRun where
  /-- The draw that its IMAGE_ID comes from. -/
  image    : Nat
  /-- Sequence number of the next record. -/
  seq      : Nat
  /-- Every earlier header and tag, which END authenticates. -/
  sealed   : List Byte
  /-- Bytes of the image that no host write has carried. -/
  rest     : List Byte
  /-- The host buffer in hand: address, length, and bytes of it that are used. -/
  base     : Nat
  len      : Nat
  pos      : Nat
  /-- Lines of the granule key list that have been read, of so many. -/
  list     : List Line
  listLen  : Nat
  /-- Granule offsets still to be saved, the one being read first. -/
  granules : List Nat
  /-- Lines of that granule read so far: code of the line map, and data. -/
  lines    : List (Nat × Line)
  /-- Plaintext of the line whose verdict is awaited. -/
  data     : Line
  /-- Every record has been formed. -/
  ended    : Bool
  deriving DecidableEq, Repr

/-- Tenancy services (chapter 10): mailbox words by slice × 2048 + word. -/
structure Ten where
  mailbox : List (Nat × Word)
  /-- Messages of TEN that wait for an M2T slot: slice, TYPE, words (R305). -/
  waiting : List (Nat × Nat × List Word)
  run     : Option TenRun
  session : TenSession
  /-- Restores under way, by slice. -/
  restores : List (Nat × Restore)
  /-- The image of the SAVE under way. -/
  save     : Option SaveRun
  deriving DecidableEq, Repr

/-! ## Links -/

/-- A sealed group in the replay buffer (R326). -/
structure Group where
  fsn   : Nat
  flits : Nat
  phase : Bool
  cls   : Nat
  deriving DecidableEq, Repr

/-- An outbound transaction of a link port: cluster station, and the number of the access of a read or the id of a released
write. -/
structure LinkTxn where
  k     : Nat
  write : Bool
  id    : Nat
  /-- The epoch of its request (R62). -/
  epoch : Nat
  deriving DecidableEq, Repr

/-- A link station (chapter 11). -/
structure LinkStation where
  /-- The four key entries (R331). -/
  keys      : List (Nat × Key)
  fsnTx     : Nat
  fsnRx     : Nat
  replay    : List Group
  /-- Flits of the group being received. -/
  partialRx : List Flit
  /-- FSN of a group that failed its tag once (R326). -/
  failedFsn : Option Nat
  /-- It has verified a group of the peer under the phase in force since the last change (R331). -/
  sawPhase  : Bool
  /-- A retire asked for (R331). -/
  retire    : Option Bool
  /-- LPk_UP. -/
  up        : Bool
  /-- HOLD because of the seal limit, HOLD because of a window (R336). -/
  sealHold  : Bool
  window    : Bool
  /-- Lane to map out at the next window (R338). -/
  pendingMap : Option Nat
  /-- FSN of a replay request that came during a window (R338). -/
  replayFrom : Option Nat
  /-- Corrected symbols of each lane in its last ms with any: ms × 2^32 + count (R338). -/
  laneCe    : List (Nat × Nat)
  /-- Outbound transactions outstanding (R334). -/
  txns      : List LinkTxn
  /-- Messages that wait while the port holds or has no free transaction: class and the transaction, if any. -/
  outq      : List (Nat × Option LinkTxn)
  /-- The station's epoch and the one before it, and its forwarding stub (R62, R63). -/
  epoch     : Nat
  prevEpoch : Nat
  stub      : Bool
  deriving DecidableEq, Repr

/-- A key exchange (R328–R330). -/
structure Kx where
  port       : Nat
  slotTx     : Nat
  slotRx     : Nat
  /-- Draw number of its ephemeral keys. -/
  draw       : Nat
  /-- The port was UP or in HOLD (R337). -/
  rekey      : Bool
  startAt    : Nat
  /-- The HELLO sent, and the peer's once it is accepted. -/
  ownHello   : List Byte
  peerHello  : Option (List Byte)
  /-- The ciphertext sent with its secret, and the peer's ciphertext. -/
  ownCipher  : List Byte
  ownSecret  : List Byte
  peerCipher : Option (List Byte)
  deriving DecidableEq, Repr

/-! ## The Well and the Ledger -/

/-- The states of a key slot (chapter 12). -/
inductive KeySlotState where
  | empty | full | bad | established
  deriving DecidableEq, Repr

/-- A key slot (R347, R350). -/
structure KeySlot where
  state  : KeySlotState
  attr   : Nat
  origin : Nat
  parent : Nat
  depth  : Nat
  slice  : Nat
  key    : Key
  /-- Draw number of the private halves of an ESTABLISHED slot (R351). -/
  draw   : Nat
  deriving DecidableEq, Repr

/-- The KEY_CMD under way and how it will end (R349). -/
structure KeyRun where
  op     : Nat
  target : Nat
  result : Nat
  outLen : Nat
  /-- KEY_BUF is zeroed at its end. -/
  zeroBuf : Bool
  deriving DecidableEq, Repr

/-- The Well (chapter 12). -/
structure Well where
  /-- SEED, if recovered (R339). -/
  seed      : Option Key
  bootNonce : Key
  /-- CDI has been derived at this start, and its value (R344). -/
  cdi       : Option (List Byte)
  kstore    : Key
  kslot     : Key
  slots     : List (Nat × KeySlot)
  /-- The working key register (R352). -/
  working   : Key
  /-- Mill key table of the memory stations and the Well's master copy: KeyID and key (R147, R352). -/
  mill      : List (Nat × Key)
  /-- The KeyID whose retirement is in progress (R183). -/
  retiring  : Nat
  /-- Shadow keys delivered for the passed set: KeyID or link entry, and key (R354). -/
  shadows   : List (Nat × Nat × Nat × Key)
  /-- Draws of the random source so far, requests since the last seeding, and whether it runs (R345). -/
  draws     : Nat
  requests  : Nat
  entropyOk : Bool
  cfgDigest : List Byte
  deviceId  : List Byte
  measRom   : List Byte
  measOpgar : List Byte
  measPolicy : List Byte
  endorsement : List Byte
  run       : Option KeyRun
  deriving DecidableEq, Repr

/-- One generation of the OTP state area: STATE_A–C and DONE_A–C (R370). -/
structure Generation where
  state : List Word
  done  : List Word
  deriving DecidableEq, Repr

/-- A test unlock token entry: the hash and the three burn words (R374). -/
structure TokenEntry where
  hash : List Byte
  burn : List Word
  deriving DecidableEq, Repr

/-- The OTP macro (R339, R340, R370, R374, R384). -/
structure Otp where
  gens     : List Generation
  tokens   : List TokenEntry
  /-- Helper data, 64 words of 255 bits; empty when blank (R339, R341). -/
  helper   : List (BitVec 255)
  check    : List Byte
  /-- Spare clusters, spare memory ports, and the spare core within each of the 68 clusters, as repair data designate them
  (R20). -/
  spareClusters : List Nat
  sparePorts    : List Nat
  spareCores    : List Nat
  /-- The OTP spare map: words outside the state area whose content one of the 64 spare words holds (R384). -/
  remapped : List Nat
  /-- Words outside the state area have been wiped to ones (R376, SCRAP). -/
  wiped    : Bool
  deriving DecidableEq, Repr

/-- A life-cycle transition under way (R376). -/
structure Transition where
  target : Nat
  gen    : Nat
  token  : Option Nat
  deriving DecidableEq, Repr

/-- The Ledger (chapter 13). -/
structure Ledger where
  otp       : Otp
  lc        : Nat
  resumed   : Bool
  run       : Option Transition
  /-- A word failed to program: no transition until the next POR (R376). -/
  stuck     : Bool
  tokenFails : Nat
  dbgFails  : Nat
  /-- The current challenge and its LEVEL (R378). -/
  challenge : Option (List Byte × Nat)
  /-- Debug has been reopened since the last reset (R358, R380). -/
  reopened  : Bool
  /-- The JT_ instruction in force (R429). -/
  jtag      : Nat
  deriving DecidableEq, Repr

/-! ## Spares and monitors -/

/-- A core substitution under way (R233). -/
structure CoreSub where
  core    : Nat
  subst   : Nat
  /-- The failure interrupted a tile of the core: it is replayed at the substitution's end. -/
  replays : Bool
  deriving DecidableEq, Repr

/-- The Granary (chapter 14). -/
structure Granary where
  /-- Cores, clusters and memory ports that have failed. -/
  badCores    : List Nat
  badClusters : List Nat
  badPorts    : List Nat
  /-- Substitutes in use. -/
  usedCores   : List Nat
  usedClusters : List Nat
  coreSubs    : List CoreSub
  clusterSubs : List (Nat × Nat)
  /-- Corrected DRAM errors and poison reports of each port in its last second with any (R384): second × 2^32 + count. -/
  ces         : List (Nat × Nat)
  poisons     : List (Nat × Nat)
  /-- Steward cores that have failed. -/
  badStewards : List Nat
  /-- Failed AES pipelines: source index and pipeline, 0–5 of a memory station, 14 × direction + 0–13 of a link station. -/
  badPipes    : List (Nat × Nat)
  /-- Cluster stations whose mover or journal store has failed, and each with the station whose own serves (R206). -/
  badMovers   : List Nat
  moverSubs   : List (Nat × Nat)
  /-- Spare rows used of each SRAM macro (R384). -/
  rows        : List (Nat × Nat)
  /-- Record change sets that wait for Moot slot 0 (R385): their entries. -/
  records     : List (List Entry)
  deriving DecidableEq, Repr

/-- The Tally (chapter 14). -/
structure Tally where
  /-- pJ below a whole µJ of each context, and of the manager under key 8192 (R403). -/
  rest     : List (Nat × Nat)
  /-- µJ charged to the manager and to each slice. -/
  sliceUj  : List (Nat × Nat)
  /-- KEY_ZEROIZE_REQ (R432). -/
  zeroize  : Bool
  /-- Domains with marked AES blocks (R398). -/
  marked   : List Nat
  /-- The floor on PM_ has fallen and its audit has not run (R401). -/
  audit    : Bool
  /-- I3C dynamic address (R428). -/
  i3cAddr  : Option Nat
  deriving DecidableEq, Repr

/-! ## The Crier -/

/-- A waiting record (R410, R413). -/
structure Rec where
  cls    : EventClass
  code   : Nat
  merged : Bool
  slice  : Nat
  source : Nat
  first  : Nat
  detail : Word
  count  : Nat
  last   : Nat
  /-- ERROR only: HOLD_US has passed (R414). -/
  held   : Bool
  deriving DecidableEq, Repr

/-- Drops of one source and class since its last gap record (R415). -/
structure Gap where
  source : Nat
  trace  : Bool
  count  : Nat
  first  : Nat
  last   : Nat
  rate   : Bool
  full   : Bool
  deriving DecidableEq, Repr

/-- The Crier's queues (chapter 15). -/
structure Crier where
  alarmQ  : List Rec
  errorQ  : List Rec
  logQ    : List Rec
  traceQ  : List Rec
  gaps    : List Gap
  /-- Buckets by source × 2 + (1 for TRACE): millionths of a token in use, and the GTB they were counted at (R415). -/
  buckets : List (Nat × Nat × Nat)
  /-- Records written to each ring since its cause bit was cleared (R416). -/
  written : List (Nat × Nat)
  /-- The GTB of the first of those records, by ring; read only where `written` counts some (R416). -/
  writtenAt : List (Nat × Nat)
  deriving DecidableEq, Repr

/-! ## The interrupt lines -/

/-- The levels the Bell drives (R406): INT_N is asserted (low), and the Steward's interrupt is. -/
structure Pins where
  intN       : Bool
  stewardInt : Bool
  deriving DecidableEq, Repr

/-! ## The whole machine -/

/-- The state of the block. -/
structure State where
  /-- Commands that wait, first in, first out. -/
  pending : List Instr
  /-- Messages sent, oldest first. The model's own field: what the ports have carried. -/
  out     : List Output
  /-- The model's own counter: how many free values have been taken. No statement rests on it. -/
  fresh   : Nat
  /-- The register file: BAR0 offset and word, where it differs from the reset value. -/
  regs    : List (Nat × Word)
  clock   : Clock
  boot    : Boot
  power   : Power
  moot    : Moot
  comp    : Comp
  clusters : List (Nat × Cluster)
  mems    : List (Nat × MemStation)
  xlt     : Xlt
  sched   : Sched
  coh     : Coh
  hif     : Hif
  obj     : Obj
  drv     : Drv
  ten     : Ten
  links   : List (Nat × LinkStation)
  kx      : Option Kx
  well    : Well
  ledger  : Ledger
  spr     : Granary
  mon     : Tally
  crier   : Crier
  /-- INT_N and the Steward's interrupt. -/
  pins    : Pins
  deriving DecidableEq, Repr

/-! ## Initial values -/

def Clock.init : Clock := ⟨0, false, [], []⟩
def Boot.init : Boot := ⟨true, false, false, false, false⟩
def Power.init : Power := ⟨[], [], 0⟩

/-- A free change-set slot. -/
def CsSlot.init : CsSlot :=
  ⟨.free, 0, .host, [], false, 0, 0, 0, false, false, [], 0, 0, [], [], [], [], [], false, false, []⟩

/-- The Moot after reset: four free slots, ticket 1 next (R70). -/
def Moot.init : Moot :=
  ⟨[CsSlot.init, CsSlot.init, CsSlot.init, CsSlot.init], 1, none, none, (0, 0), (0, 0), 0, 0, none, .fm, []⟩

def Comp.init : Comp := ⟨[], [], [], [], [], []⟩
def Cluster.init : Cluster := ⟨0, 0, [], [], [], [], [], [], [], [], [], [], [], false, 0, false, 0, []⟩
def MemPort.init : MemPort := ⟨[], [], []⟩
def MemStation.init : MemStation :=
  ⟨[], [], [], [], 0, [], [], none, [], [], [], [], 0, 0, 0, 0, false, MemPort.init⟩
def Xlt.init : Xlt := ⟨[], [], [], [], [], 0, 0, [], [], [], 0⟩
def Sched.init : Sched := ⟨[], [], [], [], [], [], []⟩
def Coh.init : Coh := ⟨[], [], [], [], 0, 0, [], [], []⟩
def QueueRun.init : QueueRun := ⟨false, false, 0, none, none, none, [], 0, false, 0⟩
def Hif.init : Hif := ⟨[], [], [], 0, 0, 0, 0⟩
def Obj.init : Obj := ⟨[], [], [], [], [], [], [], [], [], [], [], [], [], [], none, []⟩
def Drv.init : Drv := ⟨[], [], [], 0, []⟩
def Restore.init : Restore := ⟨[], [], [], []⟩
def TenSession.init : TenSession := ⟨none, [], none, []⟩
def Ten.init : Ten := ⟨[], [], none, TenSession.init, [], none⟩
def LinkStation.init : LinkStation :=
  ⟨[], 0, 0, [], [], none, false, none, false, false, false, none, none, [], [], [], 0, 0, false⟩
def KeySlot.init : KeySlot := ⟨.empty, 0, 0, 0x1FF, 0, 0, 0, 0⟩

/-- 48 zero bytes. -/
def zeroDigest : List Byte := List.replicate 48 0

def Well.init : Well :=
  ⟨none, 0, none, 0, 0, [], 0, [], 0, [], 0, 0, true, zeroDigest, zeroDigest, zeroDigest, zeroDigest, zeroDigest, [], none⟩

/-- A blank generation of the state area. -/
def Generation.init : Generation := ⟨[0, 0, 0], [0, 0, 0]⟩
def TokenEntry.init : TokenEntry := ⟨zeroDigest, [0, 0, 0]⟩

/-- A blank OTP: no generation programmed, helper data blank, spares as R20 designates them at first start. -/
def Otp.init : Otp :=
  ⟨List.replicate 24 Generation.init, List.replicate 8 TokenEntry.init, [], [], [16, 33, 50, 67],
    [8, 17, 26, 35, 44, 53, 62, 71], List.replicate 68 8, [], false⟩

/-- The Ledger before its first scan: LCS_STATE reads LC 0x00. -/
def Ledger.init : Ledger := ⟨Otp.init, 0, false, none, false, 0, 0, none, false, 0⟩
def Granary.init : Granary := ⟨[], [], [], [], [], [], [], [], [], [], [], [], [], [], []⟩
def Tally.init : Tally := ⟨[], [], false, [], false, none⟩
def Crier.init : Crier := ⟨[], [], [], [], [], [], [], []⟩

/-- Both lines deasserted (R431). -/
def Pins.init : Pins := ⟨false, false⟩

/-- The machine with RST_POR_N asserted: every field at its reset value (R15), every table empty. -/
def State.reset : State :=
  { pending := [], out := [], fresh := 0, regs := [], clock := Clock.init, boot := Boot.init, power := Power.init,
    moot := Moot.init, comp := Comp.init, clusters := [], mems := [], xlt := Xlt.init, sched := Sched.init,
    coh := Coh.init, hif := Hif.init, obj := Obj.init, drv := Drv.init, ten := Ten.init, links := [], kx := none,
    well := Well.init, ledger := Ledger.init, spr := Granary.init, mon := Tally.init, crier := Crier.init,
    pins := Pins.init }

end Sys2Proof.Machine
end

