-- ==== Sys2Proof/Machine/Ops.lean ====
section
/-! DEFINITION. The operations every family shares: the register file and its access types (R5–R16), the committed
configuration as read from it, the messages a port sends, raising an event (R405–R415), and the passing of time
(R33, R68, R222). -/

namespace Sys2Proof.Machine

open Sys2Proof

/-! ## The register file -/

/-- Register `r` has an element `i`. -/
def regIdxOk (r : Reg) (i : Nat) : Bool :=
  let d := regDef r
  decide (d.first ≤ i) && decide (i ≤ d.last) && decide (i % 8 < d.words)

/-- The BAR0 offset of element `i` (R8). -/
def regAddr (r : Reg) (i : Nat) : Nat := (regDef r).base + (regDef r).stride * i

/-- Element of `r` at BAR0 offset `off`, if there is one. -/
def regIndexAt (r : Reg) (off : Nat) : Option Nat :=
  let d := regDef r
  if off < d.base then none
  else if d.stride = 0 then (if off = d.base then some 0 else none)
  else
    let i := (off - d.base) / d.stride
    if (off - d.base) % d.stride = 0 && regIdxOk r i then some i else none

/-- The register at an offset among the names `l`. -/
def regAtIn (off : Nat) : List Reg → Option (Reg × Nat)
  | [] => none
  | r :: t =>
    match regIndexAt r off with
    | some i => some (r, i)
    | none => regAtIn off t

/-- The register at a BAR0 offset; none where the offset is unassigned (R7). -/
def regAt (off : Nat) : Option (Reg × Nat) := regAtIn off allRegs

/-- The L cause bits of IRQ_CAUSE[n] (R408). -/
def levelCauses (n : Nat) : Word :=
  if n = 0x01 then 1
  else if n = 0x02 then 4
  else if n = 0x03 then 4
  else if n = 0x07 then 4
  else if n = 0x10 then 4
  else if n = 0x13 then 1
  else if n = 0x14 then 0b1011
  else 0

/-- Bits that an array's table gives a field, and this element of it does not: reserved or RO by the field's
description (CMP_SLICE_CTL[0], CMP_CORE_SLICE[76], XLT_KEYOWN[0], MIL_RANGE_HI, the L bits of IRQ_CAUSE, the words of
ADM_CONTRACT). -/
def fixedBits (r : Reg) (i : Nat) : Word :=
  match r with
  | .CMP_SLICE_CTL => if i = 0 then 1 else 0
  | .CMP_CORE_SLICE => if i = 76 then maskBits 63 32 else 0
  | .XLT_KEYOWN => if i = 0 then maskBits 7 0 else 0
  | .MIL_RANGE_HI => maskBits 63 62
  | .IRQ_CAUSE => levelCauses i
  | .ADM_CONTRACT =>
    -- the bits that R90 does not list
    if i % 8 = 0 then maskBits 62 56
    else if i % 8 = 1 then maskBits 63 42
    else if i % 8 = 2 then maskBits 63 55
    else if i % 8 = 3 then maskBits 63 58 else 0
  | _ => 0

/-- The bits of element `i` whose access type is `a`. -/
def accMask (a : Access) (r : Reg) (i : Nat) : Word :=
  ((regDef r).fields.foldl (fun m f => if f.acc = a then m ||| maskBits f.hi f.lo else m) 0) &&& ~~~ fixedBits r i

/-- The reset value of element `i` (R15): the fields' resets, with CMP_MEMCH's PORT of j + (j div 8), slice 0 enabled
and KeyID 0 owned by 0x00. -/
def resetWord (r : Reg) (i : Nat) : Word :=
  let w := (regDef r).fields.foldl (fun m f => m ||| BitVec.ofNat 64 (f.reset <<< f.lo)) 0
  match r with
  | .CMP_MEMCH => w ||| word ((i + i / 8) <<< 16)
  | .CMP_SLICE_CTL => if i = 0 then w ||| 1 else w
  | .XLT_KEYOWN => if i = 0 then w &&& ~~~ maskBits 7 0 else w
  | .CMP_CORE_SLICE => if i = 76 then w &&& maskBits 31 0 else w
  | _ => w

/-- The reset value of whatever stands at an offset. -/
def resetAt (off : Nat) : Word :=
  match regAt off with
  | some (r, i) => resetWord r i
  | none => 0

/-- Element `i` of `r` in a register file. -/
def regGet (m : List (Nat × Word)) (r : Reg) (i : Nat) : Word := mapGet (resetWord r i) m (regAddr r i)

/-- The register file with element `i` of `r` replaced. -/
def regSet (m : List (Nat × Word)) (r : Reg) (i : Nat) (v : Word) : List (Nat × Word) :=
  mapSet (resetWord r i) m (regAddr r i) v

/-- A field of element `i` in a register file. -/
def fldGet (m : List (Nat × Word)) (f : Fld) (i : Nat) : Nat := getBits f.hi f.lo (regGet m f.reg i)

/-- The stored word of element `i` of `r`. -/
def State.rd (s : State) (r : Reg) (i : Nat) : Word := regGet s.regs r i

/-- Store a word at element `i` of `r`. -/
def State.wr (s : State) (r : Reg) (i : Nat) (v : Word) : State := { s with regs := regSet s.regs r i v }

/-- A stored field. -/
def State.fld (s : State) (f : Fld) (i : Nat := 0) : Nat := fldGet s.regs f i

/-- Store a field. -/
def State.setFld (s : State) (f : Fld) (i : Nat) (v : Nat) : State :=
  s.wr f.reg i (setBits f.hi f.lo v (s.rd f.reg i))

/-- Add `n` to a field that saturates. -/
def State.bump (s : State) (f : Fld) (i : Nat) (n : Nat := 1) : State :=
  s.setFld f i (saturate (f.hi + 1 - f.lo) (s.fld f i + n))

/-- Add 1 to a field that wraps. -/
def State.count (s : State) (f : Fld) (i : Nat := 0) : State := s.setFld f i (s.fld f i + 1)

/-- The LK gate is closed (R381). -/
def State.gateClosed (s : State) : Bool :=
  s.fld .LCS_GATE_CLOSE == 1 || s.ledger.lc == 0x07 || s.ledger.lc == 0x00

/-- What a write of `v` leaves in element `i` of `r` by the fields' access types (R6, R10, R14): RO, WO, ST and
reserved bits keep their value, RW and RWS bits take the written value, LK bits take it while the gate is open, W1C
bits clear and W1S bits set where a 1 is written. -/
def accessWord (gateClosed : Bool) (r : Reg) (i : Nat) (old v : Word) : Word :=
  let put := accMask .rw r i ||| accMask .rws r i ||| (if gateClosed then 0 else accMask .lk r i)
  let w := (old &&& ~~~ put) ||| (v &&& put)
  (w &&& ~~~ (v &&& accMask .w1c r i)) ||| (v &&& accMask .w1s r i)

/-- A write of `v` to element `i` of `r` by the fields' access types. -/
def State.accessWrite (s : State) (r : Reg) (i : Nat) (v : Word) : State :=
  s.wr r i (accessWord s.gateClosed r i (s.rd r i) v)

/-- A register survives a reset of a domain: POR-domain registers survive SYS and EPOCH resets, SYS-domain registers
survive an EPOCH reset (R15). -/
def survives (dom : ResetDomain) (r : Reg) : Bool :=
  match dom, (regDef r).domain with
  | .por, _ => false
  | .sys, .por => true
  | .sys, _ => false
  | .epoch, .epoch => false
  | .epoch, _ => true

/-- The register file after a reset of a domain: what does not survive is at its reset value. -/
def resetRegs (dom : ResetDomain) (m : List (Nat × Word)) : List (Nat × Word) :=
  m.filter (fun e => match regAt e.1 with
    | some (r, _) => survives dom r
    | none => false)

/-! ## The committed configuration, read from a register file -/

/-- Byte `n` of a word. -/
def byteOf (n : Nat) (w : Word) : Nat := getBits (8 * n + 7) (8 * n) w

/-- Committed tag of physical core `c` (R36). -/
def cfgCoreTag (m : List (Nat × Word)) (c : Nat) : Nat := byteOf (c % 8) (regGet m .CMP_CORE_SLICE (c / 8))

/-- Slice `sl` is enabled (R38). -/
def cfgEnabled (m : List (Nat × Word)) (sl : Nat) : Bool := fldGet m .CMP_SLICE_CTL_ENABLE sl == 1

/-- Owner of logical channel `j`: tag and commons ID (R44). -/
def cfgChanOwner (m : List (Nat × Word)) (j : Nat) : Owner :=
  let tag := fldGet m .CMP_MEMCH_OWNER j
  ⟨tag, if tag = 0xFE then fldGet m .CMP_MEMCH_CID j else 0⟩

/-- Port of logical channel `j` (R44). -/
def cfgChanPort (m : List (Nat × Word)) (j : Nat) : Nat := fldGet m .CMP_MEMCH_PORT j

/-- Owner of link port `p` (R58). -/
def cfgLinkOwner (m : List (Nat × Word)) (p : Nat) : Nat := fldGet m .CMP_LINK_OWNER p

/-- Owner tag of a KeyID (R106). -/
def cfgKeyOwner (m : List (Nat × Word)) (k : Nat) : Nat := byteOf (k % 8) (regGet m .XLT_KEYOWN (k / 8))

/-- Slice `sl` (1–128) is a member of commons `n` (R50). -/
def cfgMember (m : List (Nat × Word)) (n sl : Nat) : Bool :=
  if sl = 0 ∨ 128 < sl then false
  else if sl ≤ 64 then bitOf (sl - 1) (regGet m .CMP_COMMONS_MEMBERS_LO n)
  else bitOf (sl - 65) (regGet m .CMP_COMMONS_MEMBERS_HI n)

/-- The physical cores that carry a tag, in ascending index: the slice's core order (R187). -/
def cfgCores (m : List (Nat × Word)) (tag : Nat) : List Nat :=
  (List.range 612).filter (fun c => cfgCoreTag m c == tag)

/-- The logical channels of an owner, ascending. -/
def cfgChannels (m : List (Nat × Word)) (o : Owner) : List Nat :=
  (List.range 64).filter (fun j => decide (cfgChanOwner m j = o))

/-- The link ports of a tag, ascending. -/
def cfgLinks (m : List (Nat × Word)) (tag : Nat) : List Nat :=
  (List.range 16).filter (fun p => cfgLinkOwner m p == tag)

/-- A PASID is mapped to a slice (R40). -/
def cfgPasidOk (m : List (Nat × Word)) (pasid sl : Nat) : Bool :=
  (List.range 1024).any (fun e =>
    fldGet m .CMP_PASID_VALID e == 1 && fldGet m .CMP_PASID_PASID e == pasid && fldGet m .CMP_PASID_SLICE e == sl)

/-- A contract word (R90). -/
def cfgContract (m : List (Nat × Word)) (c w : Nat) : Word := regGet m .ADM_CONTRACT (8 * c + w)

/-- Contract `c` is valid (R90). -/
def cfgContractValid (m : List (Nat × Word)) (c : Nat) : Bool := getBits 63 63 (cfgContract m c 0) == 1

/-- Slice of contract `c` (R90). -/
def cfgContractSlice (m : List (Nat × Word)) (c : Nat) : Nat := getBits 55 48 (cfgContract m c 0)

/-- State of a KeyID in MIL_KEYSTATE: 0 EMPTY, 1 LOADED, 2 RETIRING (R182). -/
def keyStateOf (m : List (Nat × Word)) (k : Nat) : Nat :=
  getBits (2 * (k % 32) + 1) (2 * (k % 32)) (regGet m .MIL_KEYSTATE (k / 32))

/-- The owner of granule `g` in an ownership table (R47): 0xFF before the first change point. -/
def ownerAt : List (Nat × Owner) → Nat → Owner
  | [], _ => ⟨0xFF, 0⟩
  | (k, o) :: t, g =>
    if g < k then ⟨0xFF, 0⟩
    else
      match t with
      | [] => o
      | (k', _) :: _ => if g < k' then o else ownerAt t g

/-- Change points at which the value does not change are dropped. -/
def ownNormal (prev : Owner) : List (Nat × Owner) → List (Nat × Owner)
  | [] => []
  | (k, o) :: t => if o = prev then ownNormal prev t else (k, o) :: ownNormal o t

/-- The ownership table with granules `a` to `b` given to `o`. -/
def ownAssign (m : List (Nat × Owner)) (a b : Nat) (o : Owner) : List (Nat × Owner) :=
  let after := ownerAt m (b + 1)
  let cut := m.filter (fun e => decide (e.1 < a) || decide (b + 1 < e.1))
  let pts := mapPut (mapPut cut a o) (b + 1) after
  ownNormal ⟨0xFF, 0⟩ (pts.filter (fun e => decide (e.1 < 262144)))

/-! ## Stations and domains -/

/-- Power domain of station `k` of a kind (R24). -/
def domainOf : StationKind → Nat → Nat
  | .cluster, k => 8 + k / 17
  | .memory, k => 12 + k / 12
  | .link, k => 20 + k / 8

/-- Source index of station `k` of a kind (R409). -/
def sourceOf : StationKind → Nat → Nat
  | .cluster, k => 32 + k
  | .memory, k => 100 + k
  | .link, k => 172 + k

/-- Stations of a kind (R19). -/
def stationCount : StationKind → Nat
  | .cluster => 68
  | .memory => 72
  | .link => 16

/-- Domain `n` is on and initialised (GLB_PD_STATUS.ON). -/
def State.pdOn (s : State) (n : Nat) : Bool := bitOf n (s.rd .GLB_PD_STATUS 0)

/-- The station is powered, and its domain is not switching: outside the isolation clamps (R29). -/
def State.stationOn (s : State) (kind : StationKind) (k : Nat) : Bool :=
  s.pdOn (domainOf kind k) && !s.power.goingOff.contains (domainOf kind k)

def State.cluster (s : State) (k : Nat) : Cluster := mapGet Cluster.init s.clusters k
def State.setCluster (s : State) (k : Nat) (c : Cluster) : State :=
  { s with clusters := mapSet Cluster.init s.clusters k c }
def State.modCluster (s : State) (k : Nat) (f : Cluster → Cluster) : State := s.setCluster k (f (s.cluster k))

def State.memSt (s : State) (p : Nat) : MemStation := mapGet MemStation.init s.mems p
def State.setMem (s : State) (p : Nat) (c : MemStation) : State := { s with mems := mapSet MemStation.init s.mems p c }
def State.modMem (s : State) (p : Nat) (f : MemStation → MemStation) : State := s.setMem p (f (s.memSt p))

def State.link (s : State) (p : Nat) : LinkStation := mapGet LinkStation.init s.links p
def State.setLink (s : State) (p : Nat) (c : LinkStation) : State := { s with links := mapSet LinkStation.init s.links p c }
def State.modLink (s : State) (p : Nat) (f : LinkStation → LinkStation) : State := s.setLink p (f (s.link p))

def State.queueRun (s : State) (q : Nat) : QueueRun := mapGet QueueRun.init s.hif.queues q
def State.setQueueRun (s : State) (q : Nat) (r : QueueRun) : State :=
  { s with hif := { s.hif with queues := mapSet QueueRun.init s.hif.queues q r } }
def State.modQueueRun (s : State) (q : Nat) (f : QueueRun → QueueRun) : State := s.setQueueRun q (f (s.queueRun q))

/-- The core index that physical core `c` serves: that of the failed core it stands for, while it takes over (R233) and
as its alias afterwards (R386), else its own. -/
def State.logicalCore (s : State) (c : Nat) : Nat :=
  match s.spr.coreSubs.find? (fun x => x.subst == c) with
  | some x => x.core
  | none =>
    if s.spr.usedCores.contains c || s.spr.usedClusters.contains (c / 9) then
      ((List.range 612).find? (fun f => s.fld .SPR_CORE_ALIAS_VALID f == 1 && s.fld .SPR_CORE_ALIAS_SUBST f == c &&
        cfgCoreTag s.regs f != 0xFF)).getD c
    else c

/-- Tag with which requests of physical core `c` are stamped (R36); a substitute carries the failed core's tag (R386). -/
def State.coreTag (s : State) (c : Nat) : Nat := cfgCoreTag s.regs (s.logicalCore c)

/-- The block serves commands: RST_POR_N is released and the supplies are present (R25, R431). -/
def State.alive (s : State) : Bool := !s.boot.porHeld && !s.boot.supplyOff

/-- GLB_BOOT.STEP (R433). -/
def State.step (s : State) : Nat := s.fld .GLB_BOOT_STEP

/-- STEP 10 READY has been reached (R438). -/
def State.isReady (s : State) : Bool := s.alive && s.step == 10

/-- Functional operation of the life-cycle state (R367): TEST_UNLOCKED, MANUF, PROD, RMA. -/
def State.functional (s : State) : Bool := decide (3 ≤ s.ledger.lc ∧ s.ledger.lc ≤ 6)

/-! ## Messages and events -/

/-- Send a message on a port. -/
def State.emit (s : State) (o : Output) : State := { s with out := s.out ++ [o] }

/-- Set bit `b` of IRQ_CAUSE[n] (R407). -/
def State.setCause (s : State) (n b : Nat) : State :=
  s.wr .IRQ_CAUSE n (s.rd .IRQ_CAUSE n ||| word (1 <<< b))

/-- The cause bit that a raised code sets by R408, if one does. -/
def causeOfCode (code : Nat) : Option (Nat × Nat) :=
  if code / 256 = 0x01 then some (0x01, 1)
  else if code = 0x0601 then some (0x06, 0)
  else if code = 0x0602 then some (0x06, 1)
  else if code / 256 = 0x0A then some (0x0A, 0)
  else if code = 0x0B01 then some (0x0B, 0)
  else if code / 256 = 0x0C then some (0x0C, 0)
  else if code = 0x0E03 then some (0x0E, 1)
  else if code = 0x1001 then some (0x10, 0)
  else if code = 0x1101 then some (0x11, 0)
  else if code = 0x1105 ∨ code = 0x1106 then some (0x11, 1)
  else if code = 0x1507 then some (0x15, 0)
  else none

/-- Count an event that is not an ALARM while PD23 is off (R415). -/
def State.countOff (s : State) (isError : Bool) : State :=
  let s := s.bump .TRC_OFF_DROPS_COUNT 0
  if isError then s.bump .TRC_OFF_DROPS_ERRORS 0 else s

/-- Two records that R413 step 1 and R412 merge: same code, slice and source. -/
def Rec.matches (r : Rec) (code slice source : Nat) : Bool :=
  !r.merged && r.code == code && r.slice == slice && r.source == source

/-- A record with one more event merged in. -/
def Rec.merge (r : Rec) (now : Nat) : Rec := { r with count := saturate 32 (r.count + 1), last := now }

/-- Merge into the first record that `p` selects, or append `r`. -/
def mergeOrAppend (p : Rec → Bool) (r : Rec) (now : Nat) (q : List Rec) : List Rec :=
  if q.any p then modifyFirst p (fun x => x.merge now) q else q ++ [r]

/-- Queue an ERROR event (R413). -/
def State.queueError (s : State) (code slice source : Nat) (detail : Word) : State :=
  let now := s.clock.gtb
  let r : Rec := ⟨.error, code, false, slice, source, now, detail, 1, now, false⟩
  let c := s.crier
  if c.errorQ.any (fun x => x.matches code slice source) ∨ c.errorQ.length < 3584 then
    { s with crier := { c with errorQ := mergeOrAppend (fun x => x.matches code slice source) r now c.errorQ } }
  else
    let coarse := { r with merged := true, slice := 0, source := 0xFF }
    let s := { s with crier := { c with
      errorQ := mergeOrAppend (fun x => x.merged && x.code == code) coarse now c.errorQ } }
    s.setCause 0x13 4

/-- Record an ALARM in its source's latch and, while PD23 is on, in the alarm queue (R412). -/
def State.queueAlarm (s : State) (code slice source : Nat) (detail : Word) : State :=
  let now := s.clock.gtb
  let s :=
    if s.fld .TRC_ALARM_CODES_PENDING source = 0 then
      let w := setBits 63 63 1 (setBits 55 48 slice (setBits 47 32 code (setBits 31 16 code (setBits 15 0 1 0))))
      let s := s.wr .TRC_ALARM_CODES source w
      let s := s.wr .TRC_ALARM_FIRST_GTB source (word now)
      let s := s.wr .TRC_ALARM_LAST_GTB source (word now)
      s.wr .TRC_ALARM_DETAIL source detail
    else
      let s := s.setFld .TRC_ALARM_CODES_LAST_CODE source code
      let s := s.bump .TRC_ALARM_CODES_COUNT source
      s.wr .TRC_ALARM_LAST_GTB source (word now)
  if s.pdOn 23 then
    let r : Rec := ⟨.alarm, code, false, slice, source, now, detail, 1, now, false⟩
    { s with crier := { s.crier with alarmQ := mergeOrAppend (fun x => x.source == source) r now s.crier.alarmQ } }
  else s

/-- Queue a LOG or TRACE event under its source's token bucket, or drop it (R415). -/
def State.queueLog (s : State) (trace : Bool) (code slice source : Nat) (detail : Word) : State :=
  let now := s.clock.gtb
  let key := source * 2 + bit01 trace
  let perMs := if trace then s.fld .TRC_RATE_TRACE_PER_MS else s.fld .TRC_RATE_LOG_PER_MS
  let burst := if trace then s.fld .TRC_RATE_TRACE_BURST else s.fld .TRC_RATE_LOG_BURST
  let b := mapGet (0, 0) s.crier.buckets key
  let used := b.1 - perMs * (now - b.2)
  let q := if trace then s.crier.traceQ else s.crier.logQ
  let tight := decide (burst * 1000000 < used + 1000000)
  let full := decide (836 ≤ q.length)
  if tight ∨ full then
    let c := s.crier
    let upd := fun (g : Gap) => { g with count := saturate 32 (g.count + 1), last := now,
                                         rate := g.rate || tight, full := g.full || full }
    let gaps :=
      if c.gaps.any (fun g => g.source == source && g.trace == trace) then
        modifyFirst (fun g => g.source == source && g.trace == trace) upd c.gaps
      else c.gaps ++ [⟨source, trace, 1, now, now, tight, full⟩]
    let s := { s with crier := { c with gaps := gaps, buckets := mapSet (0, 0) c.buckets key (used, now) } }
    let s := s.bump (if trace then .TRC_DROP_TRACE else .TRC_DROP_LOG) source
    s.setCause 0x13 4
  else
    let c := s.crier
    let cls : EventClass := if trace then .trace else .log
    let gapRecs := (c.gaps.filter (fun g => g.source == source && g.trace == trace)).map (fun g =>
      (⟨cls, 0x1301, false, 0, source, g.first, word (bit01 g.rate + 2 * bit01 g.full), g.count, g.last, false⟩ : Rec))
    let q' := q ++ gapRecs ++ [⟨cls, code, false, slice, source, now, detail, 1, now, false⟩]
    let c := { c with gaps := c.gaps.filter (fun g => !(g.source == source && g.trace == trace)),
                      buckets := mapSet (0, 0) c.buckets key (used + 1000000, now) }
    { s with crier := if trace then { c with traceQ := q' } else { c with logQ := q' } }

/-- Raise an event (R405–R415): its cause bit, and its record by class. `slice` is 0 where none is concerned. -/
def State.raise (s : State) (cls : EventClass) (code slice source : Nat) (detail : Word := 0) : State :=
  let s := match causeOfCode code with
    | some (n, b) => s.setCause n b
    | none => s
  match cls with
  | .alarm => s.queueAlarm code slice source detail
  | .error => if s.pdOn 23 then s.queueError code slice source detail else s.countOff true
  | .log => if s.pdOn 23 then s.queueLog false code slice source detail else s.countOff false
  | .trace =>
    if bitOf (code / 256) (s.rd .TRC_TRACE_EN 0) then
      (if s.pdOn 23 then s.queueLog true code slice source detail else s.countOff false)
    else s

/-- Raise an ERROR under the central part of its subsystem, whose code is the high byte (R23, R409). -/
def State.err (s : State) (code : Nat) (slice : Nat := 0) (detail : Word := 0) : State :=
  s.raise .error code slice (code / 256) detail

/-- Raise an ALARM under the central part of its subsystem. -/
def State.alarm (s : State) (code : Nat) (slice : Nat := 0) (detail : Word := 0) : State :=
  s.raise .alarm code slice (code / 256) detail

/-! ## Time -/

/-- Advance the residency counters (R68) for a step of the GTB from `t` by `n` ns. -/
def meterSlice (t n : Nat) (sl : Nat) (s : State) : State :=
  if cfgEnabled s.regs sl then
    let us := (t + n) / 1000 - t / 1000
    let s := s.wr .CMP_RES_TIME_NS sl (s.rd .CMP_RES_TIME_NS sl + word n)
    if us = 0 then s
    else
      let s := s.wr .CMP_RES_CORE_US sl (s.rd .CMP_RES_CORE_US sl + word (us * (cfgCores s.regs sl).length))
      let s := s.wr .CMP_RES_MEMCH_US sl (s.rd .CMP_RES_MEMCH_US sl + word (us * (cfgChannels s.regs ⟨sl, 0⟩).length))
      s.wr .CMP_RES_LINK_US sl (s.rd .CMP_RES_LINK_US sl + word (us * (cfgLinks s.regs sl).length))
  else s

/-- Advance a commons' channel counter (R68). -/
def meterCommons (us : Nat) (n : Nat) (s : State) : State :=
  s.wr .CMP_COMMONS_RES_MEMCH_US n
    (s.rd .CMP_COMMONS_RES_MEMCH_US n + word (us * (cfgChannels s.regs ⟨0xFE, n⟩).length))

/-- Words of a context record (R268): 512 words of 8 bytes. -/
def State.ctxWord (s : State) (c w : Nat) : Word := mapGet 0 s.obj.contexts (c * 512 + w)

/-- COUNT_M1, SHARE and MAX_TILE of a resident context that holds credit: its positions, its contract's share and the
cap 4 × MAX_TILE × COUNT in 1/1024 core-ns (R222). None for a context without a contract. -/
def creditTerms (s : State) (ctx : Nat) : Option (Nat × Nat × Nat) :=
  let sc0 := s.ctxWord ctx 12
  if getBits 56 56 sc0 = 1 then
    let c := getBits 55 48 sc0
    let count := getBits 24 16 sc0 + 1
    let share := getBits 57 48 (cfgContract s.regs c 3)
    let maxTileNs := getBits 31 0 (cfgContract s.regs c 1) * 1000 / 256
    some (count, share, 4 * maxTileNs * count * 1024)
  else none

/-- Advance a resident's credit by `n` ns (R222), and the time since which it has been ready with credit (R402). -/
def creditStep (s : State) (n : Nat) (r : Resident) : Resident :=
  match creditTerms s r.ctx with
  | none => { r with behindSince := none }
  | some (count, share, cap) =>
    let running := (s.sched.tiles.filter (fun t => t.2.ctx == r.ctx && !t.2.replay && !t.2.ended)).length
    let ready := s.sched.ready.any (fun t => t.2.ctx == r.ctx)
    let active := s.sched.tiles.any (fun t => t.2.ctx == r.ctx && !t.2.ended) || ready
    let grown : Int := if active then (count * share * n : Nat) else 0
    let credit := min (cap : Int) (r.credit + grown - (1024 * running * n : Nat))
    { r with credit := credit,
             behindSince := if ready ∧ 0 < r.credit ∧ 0 < credit then some (r.behindSince.getD s.clock.gtb) else none }

/-- The GTB advances by `n` ns (R33): residency counters (R68) and credits (R222) advance with it, and the window of a
droop (R398), 16 cycles of a 2 GHz FCLK, passes. -/
def State.advance (s : State) (n : Nat) : State :=
  if n = 0 ∨ s.clock.running = false then s
  else if s.boot.supplyOff then { s with clock := { s.clock with gtb := s.clock.gtb + n } }
  else
    let t := s.clock.gtb
    let us := (t + n) / 1000 - t / 1000
    let s := { s with sched := { s.sched with
      residents := s.sched.residents.map (fun e => (e.1, creditStep s n e.2)) } }
    let s := forEach (List.range 129) s (meterSlice t n)
    let s := if us = 0 then s else forEach (List.range' 1 127) s (meterCommons us)
    let marked := if 8 ≤ n then [] else s.mon.marked
    { s with clock := { s.clock with gtb := t + n }, mon := { s.mon with marked := marked } }

/-- The GTB has reached `t`. -/
def State.advanceTo (s : State) (t : Nat) : State := s.advance (t - s.clock.gtb)

/-! ## Free values -/

/-- Take the next index for a free value of Config. -/
def State.takeFresh (s : State) : Nat × State := (s.fresh, { s with fresh := s.fresh + 1 })

/-! ## The Bell (R405–R408) -/

/-- The word with bit `i` set for each `i` below `n` that satisfies `p`. -/
def bitWord (n : Nat) (p : Nat → Bool) : Word := word (((List.range n).map (fun i => bit01 (p i) * 2 ^ i)).sum)

/-- HIF_CPL_SUMMARY[m] (R285). -/
def cplSummary (s : State) (m : Nat) : Word := bitWord 64 (fun i => s.rd .HIF_CPL_PENDING (64 * m + i) != 0)

/-- Sources of the L cause bits of subsystem `n` (R407, R408). -/
def State.levelSources (s : State) (n : Nat) : Word :=
  if n = 0x01 then bitWord 1 (fun _ => (List.range 4).any (fun m => cplSummary s m != 0))
  else if n = 0x02 then bitWord 3 (fun b => b == 2 && !s.obj.notices.isEmpty)
  else if n = 0x03 then bitWord 3 (fun b => b == 2 && s.fld .STG_GTB_STATUS_FALLBACK == 1)
  else if n = 0x07 then bitWord 3 (fun b => b == 2 && !s.xlt.waiting.isEmpty)
  else if n = 0x10 then bitWord 3 (fun b => b == 2 && s.fld .SPR_STATUS_EXHAUSTED != 0)
  else if n = 0x13 then bitWord 1 (fun _ => (List.range 188).any (fun a => s.fld .TRC_ALARM_CODES_PENDING a == 1))
  else if n = 0x14 then bitWord 4 (fun b =>
    if b = 0 then s.rd .TEN_T2M_PENDING 0 != 0 || s.rd .TEN_T2M_PENDING 1 != 0
    else if b = 1 then s.rd .TEN_M2T_PENDING 0 != 0 || s.rd .TEN_M2T_PENDING 1 != 0
    else b == 3 && s.fld .TEN_STATUS_BUF_WAIT == 1)
  else 0

/-- IRQ_CAUSE[n]: the E bits as set, the L bits as their sources stand (R407). -/
def State.cause (s : State) (n : Nat) : Word := (s.rd .IRQ_CAUSE n &&& ~~~ levelCauses n) ||| s.levelSources n

/-- Subsystem `n`'s line (R405). -/
def State.irqLine (s : State) (n : Nat) : Bool := s.cause n &&& s.rd .IRQ_CAUSE_MASK n != 0

/-- IRQ_PENDING. -/
def State.irqPending (s : State) : Word := bitWord 22 (fun n => decide (1 ≤ n) && s.irqLine n)

/-- INT_N is asserted, and the Steward's interrupt is (R406). -/
def State.intN (s : State) : Bool := s.irqPending &&& s.rd .IRQ_ENABLE 0 != 0
def State.stewardInt (s : State) : Bool := s.irqPending &&& s.rd .IRQ_STW_ENABLE 0 != 0

/-- The lines follow the cause registers, the masks and the enables (R406). -/
def State.drivePins (s : State) : State := { s with pins := ⟨s.intN, s.stewardInt⟩ }

/-- A reset's or the supply's outcome: the effect `t`, where its operands name what exists, with the interrupt lines as it
leaves them. The queue of waiting commands is the step's alone: it stays as it was in `s`. -/
def onBlock (s : State) (ok : Bool) (t : State) : Host.Outcome State Fault Refusal :=
  if ok then .next { t.drivePins with pending := s.pending } else .fault .noSuchUnit

/-- Every other command's outcome: while RST_POR_N is asserted, or the supply of PD1 to PD23 is removed, it has no effect
(R25, R431). -/
def onUnit (s : State) (ok : Bool) (t : State) : Host.Outcome State Fault Refusal :=
  onBlock s ok (if s.alive then t else s)

end Sys2Proof.Machine
end

