-- ==== Sys2Proof/Machine/Operands.lean ====
section
/-! DEFINITION. The operand forms: the request control word (R420), change-set entries (R75) and what they name, the
candidate configuration a set asks for (R76, R77), contracts (R90), the ring commands' fields (R283), and the byte
views of words. -/

namespace Sys2Proof

open Sys2Proof.Machine

/-! ## The request control word (R420) -/

def ctlBits (hi lo : Nat) (c : BitVec 32) : Nat := bits hi lo c.toNat
def Req.opc (r : Req) : Nat := ctlBits 31 28 r.ctl
def Req.akind (r : Req) : Nat := ctlBits 27 26 r.ctl
def Req.core (r : Req) : Nat := ctlBits 25 22 r.ctl
def Req.engine (r : Req) : Nat := ctlBits 21 20 r.ctl
def Req.scope (r : Req) : Nat := ctlBits 19 17 r.ctl
def Req.ord (r : Req) : Nat := ctlBits 16 15 r.ctl
def Req.alloc (r : Req) : Bool := ctlBits 14 14 r.ctl == 1
def Req.beatsM1 (r : Req) : Nat := ctlBits 13 8 r.ctl
def Req.aop (r : Req) : Nat := ctlBits 7 4 r.ctl
def Req.asize8 (r : Req) : Bool := ctlBits 3 3 r.ctl == 1
/-- Size of an atomic in bytes. -/
def Req.size (r : Req) : Nat := if r.asize8 then 8 else 4
def Req.mover (r : Req) : Bool := ctlBits 2 2 r.ctl == 1

/-- Physical core of a request (chapter 2, CMP_CORE_SLICE). -/
def Req.physCore (r : Req) : Nat := 9 * r.port + r.core

/-- AKIND 2: target core and offset. -/
def Req.targetCore (r : Req) : Nat := getBits 41 32 r.addr
def Req.targetOffset (r : Req) : Nat := getBits 22 0 r.addr

/-- The format rule of R420: reserved OPC or AKIND, BEATS_M1 beyond 0 for ATOMIC, FENCE or ALLOC, a target core above
611. AKIND is ignored for ALLOC. -/
def Req.formatBad (r : Req) : Bool :=
  decide (r.opc = 0 ∨ 6 < r.opc) ||
  (decide (r.opc ≠ 6) && r.akind == 3) ||
  (decide (4 ≤ r.opc) && decide (0 < r.beatsM1)) ||
  (decide (r.opc ≠ 6) && r.akind == 2 && decide (611 < r.targetCore))

/-- The access kind of a request: READ_UNIQUE counts as an atomic (R54). -/
def Req.accessKind (r : Req) : AccessKind :=
  if r.opc = 1 then .read else if r.opc = 3 then .write else .atomic

end Sys2Proof

namespace Sys2Proof.Machine

open Sys2Proof

/-! ## Change-set entries (R75) -/

/-- A decoded entry. -/
inductive EntryForm where
  | reg (off : Nat) (v : Word)
  | row (owner : Owner) (first last : Nat)
  | key (link : Bool) (port keyid src : Nat)
  | bad
  deriving DecidableEq, Repr

/-- The BAR0 offset in W0[23:3] of a REG entry. -/
def Entry.offset (e : Entry) : Nat := getBits 23 3 e.w0 * 8

/-- The register at `off` holds an ST field. -/
def hasSt (off : Nat) : Bool :=
  match regAt off with
  | some (r, i) => decide (accMask .st r i ≠ 0)
  | none => false

/-- Decode an entry: `bad` for what R79 calls BAD_ENTRY. -/
def Entry.form (e : Entry) : EntryForm :=
  let kind := getBits 63 60 e.w0
  if kind = 1 then
    if getBits 2 0 e.w0 ≠ 0 then .bad
    else if hasSt e.offset then
      match regAt e.offset with
      | some (.CMP_MEMCH, _) => if 71 < getBits 22 16 e.w1 then .bad else .reg e.offset e.w1
      | _ => .reg e.offset e.w1
    else .bad
  else if kind = 2 then
    if getBits 47 40 e.w0 = 1 then
      .row ⟨getBits 43 36 e.w1, getBits 50 44 e.w1⟩ (getBits 17 0 e.w1) (getBits 17 0 e.w1 + getBits 35 18 e.w1)
    else .bad
  else if kind = 3 then
    let dest := getBits 45 44 e.w0
    let keyid := getBits 41 32 e.w0
    let src := getBits 8 0 e.w0
    if 271 < src then .bad
    else if dest = 0 then (if keyid = 0 then .bad else .key false 0 keyid src)
    else if dest = 1 then (if 3 < keyid then .bad else .key true (getBits 51 48 e.w0) keyid src)
    else .bad
  else .bad

/-! ## Candidate configurations -/

/-- What a change set changes: the ST fields and the ownership table. -/
structure Cfg where
  regs   : List (Nat × Word)
  owners : List (Nat × Owner)
  deriving DecidableEq, Repr

/-- A REG entry applied: only the ST fields it names (R76). -/
def applyReg (m : List (Nat × Word)) (off : Nat) (v : Word) : List (Nat × Word) :=
  match regAt off with
  | some (r, i) =>
    let st := accMask .st r i
    regSet m r i ((regGet m r i &&& ~~~ st) ||| (v &&& st))
  | none => m

/-- An ownership row applied (R48); CID counts for a commons owner only. -/
def applyRow (t : List (Nat × Owner)) (o : Owner) (first last : Nat) : List (Nat × Owner) :=
  if 262143 < last then t else ownAssign t first last ⟨o.tag, if o.tag = 0xFE then o.cid else 0⟩

/-- One entry applied. -/
def Cfg.applyEntry (c : Cfg) (e : Entry) : Cfg :=
  match e.form with
  | .reg off v => { c with regs := applyReg c.regs off v }
  | .row o a b => { c with owners := applyRow c.owners o a b }
  | .key _ _ _ _ => c
  | .bad => c

/-- Entries applied in entry order (R76). -/
def Cfg.apply (c : Cfg) (es : List Entry) : Cfg := es.foldl Cfg.applyEntry c

/-- The committed configuration. -/
def State.cfg (s : State) : Cfg := ⟨s.regs, s.comp.owners⟩

/-- Insert a slot in rising order of a key. -/
def insertBy (key : CsSlot → Nat) (x : CsSlot) : List CsSlot → List CsSlot
  | [] => [x]
  | y :: t => if key x ≤ key y then x :: y :: t else y :: insertBy key x t

/-- Slots in rising order of a key. -/
def sortBy (key : CsSlot → Nat) (l : List CsSlot) : List CsSlot := l.foldr (insertBy key) []

/-- The PASSED sets by T, then the PENDING_SCRUB sets by the time they passed: the commit order of R77 as it stands. -/
def State.pendingSets (s : State) : List CsSlot :=
  sortBy CsSlot.t (s.moot.slots.filter (fun x => decide (x.state = .passed))) ++
  sortBy CsSlot.passedAt (s.moot.slots.filter (fun x => decide (x.state = .pendingScrub)))

/-- The committed configuration with every PASSED and PENDING_SCRUB set applied, but for the set `ticket` (R77). -/
def State.baseCfg (s : State) (ticket : Nat) : Cfg :=
  (s.pendingSets.filter (fun x => x.ticket ≠ ticket)).foldl (fun c x => c.apply x.entries) s.cfg

/-! ## Ownership as ranges -/

/-- The granule ranges (first, last, owner) of an ownership table that have an owner entry: from each change point to the
next. -/
def ownRanges : List (Nat × Owner) → List (Nat × Nat × Owner)
  | [] => []
  | [(k, o)] => [(k, 262143, o)]
  | (k, o) :: (k', o') :: t => (k, k' - 1, o) :: ownRanges ((k', o') :: t)

/-- Two ranges meet. -/
def overlap (a b c d : Nat) : Bool := decide (a ≤ d) && decide (c ≤ b)

/-- The parts of [a, b] cut at the change points of a table: maximal ranges on which the table is constant. -/
def cutAt (t : List (Nat × Owner)) (a b : Nat) : List (Nat × Nat) :=
  let pts := (t.map (·.1)).filter (fun k => decide (a < k) && decide (k ≤ b))
  let starts := a :: pts
  let ends := pts.map (· - 1) ++ [b]
  starts.zip ends

/-- The ranges on which two tables are both constant, with both owners, over all granules. -/
def ownDiff (t u : List (Nat × Owner)) : List (Nat × Nat × Owner × Owner) :=
  ((cutAt t 0 262143).flatMap (fun r => cutAt u r.1 r.2)).map
    (fun r => (r.1, r.2, ownerAt t r.1, ownerAt u r.1))

/-! ## Memory sets (R45) -/

/-- The memory set of an owner: first channel and number of channels. -/
def cfgMemset (m : List (Nat × Word)) (o : Owner) : Nat × Nat :=
  let l := cfgChannels m o
  (l.headD 0, l.length)

/-- Logical channel and channel-local byte address of a local PA byte address (R45), by the owner of the channel that
holds it. None where the channel is unbound. -/
def cfgPlace (m : List (Nat × Word)) (pa : Nat) : Option (Nat × Nat) :=
  let o := cfgChanOwner m (pa / 8589934592)
  if o.tag = 0xFF then none
  else
    let (j0, n) := cfgMemset m o
    let off := pa - j0 * 8589934592
    let block := off / 8192
    if n = 0 then none else some (j0 + block % n, block / n * 8192 + off % 8192)

/-- A port serves a bound logical channel or its mirror (R141, R439). -/
def cfgPortBound (m : List (Nat × Word)) (p : Nat) : Bool :=
  (List.range 64).any (fun j =>
    (cfgChanOwner m j).tag ≠ 0xFF && (cfgChanPort m j == p || cfgChanPort m ((j + 1) % 64) == p))

/-- Cluster station `k` has a bound core. -/
def cfgClusterBound (m : List (Nat × Word)) (k : Nat) : Bool :=
  (List.range 9).any (fun c => cfgCoreTag m (9 * k + c) ≠ 0xFF)

/-- The station is bound in a configuration. -/
def cfgStationBound (m : List (Nat × Word)) : StationKind → Nat → Bool
  | .cluster, k => cfgClusterBound m k
  | .memory, k => cfgPortBound m k
  | .link, k => cfgLinkOwner m k ≠ 0xFF

/-- Stations of a domain (R24). -/
def stationsOf (n : Nat) : List (StationKind × Nat) :=
  ((List.range 68).map (fun k => (StationKind.cluster, k)) ++ (List.range 72).map (fun k => (StationKind.memory, k)) ++
    (List.range 16).map (fun k => (StationKind.link, k))).filter (fun p => domainOf p.1 p.2 == n)

/-! ## Contracts (R90) -/

def ctValid (m : List (Nat × Word)) (c : Nat) : Bool := getBits 63 63 (cfgContract m c 0) == 1
def ctSlice (m : List (Nat × Word)) (c : Nat) : Nat := getBits 55 48 (cfgContract m c 0)
def ctFloor (m : List (Nat × Word)) (c : Nat) : Nat := getBits 47 32 (cfgContract m c 0)
def ctD (m : List (Nat × Word)) (c : Nat) : Nat := getBits 31 0 (cfgContract m c 0)
def ctKeyid (m : List (Nat × Word)) (c : Nat) : Nat := getBits 41 32 (cfgContract m c 1)
def ctMaxTile (m : List (Nat × Word)) (c : Nat) : Nat := getBits 31 0 (cfgContract m c 1)
def ctCid (m : List (Nat × Word)) (c : Nat) : Nat := getBits 54 48 (cfgContract m c 2)
def ctRhoMem (m : List (Nat × Word)) (c : Nat) : Nat := getBits 47 24 (cfgContract m c 2)
def ctRhoCom (m : List (Nat × Word)) (c : Nat) : Nat := getBits 23 0 (cfgContract m c 2)
def ctShare (m : List (Nat × Word)) (c : Nat) : Nat := getBits 57 48 (cfgContract m c 3)
def ctRhoLink (m : List (Nat × Word)) (c : Nat) : Nat := getBits 47 24 (cfgContract m c 3)
def ctRhoDrv (m : List (Nat × Word)) (c : Nat) : Nat := getBits 23 0 (cfgContract m c 3)

/-- The phases of a contract: KIND and DEMAND of words 4–7 whose KIND is not 0. -/
def ctPhases (m : List (Nat × Word)) (c : Nat) : List (Nat × Nat) :=
  ((List.range' 4 4).map (fun w => (getBits 63 60 (cfgContract m c w), getBits 59 0 (cfgContract m c w)))).filter
    (fun p => p.1 ≠ 0)

/-- The reservation a phase of KIND `k` uses. -/
def ctRho (m : List (Nat × Word)) (c k : Nat) : Nat :=
  if k = 1 then ctRhoMem m c else if k = 2 then ctRhoCom m c else if k = 3 then ctRhoLink m c
  else if k = 4 then ctRhoDrv m c else ctShare m c

/-- The valid contracts of a slice, in index order. -/
def cfgContractsOf (m : List (Nat × Word)) (sl : Nat) : List Nat :=
  (List.range 256).filter (fun c => ctValid m c && ctSlice m c == sl)

/-! ## What an entry names, and what a configuration change touches (R78, R79, R95) -/

/-- A resource of R78: the kind, and a range of indices (granules come as ranges). -/
inductive ResKind where
  | field | granule | keyid | core | chan | port | linkPort | commons | slice | pasid | contract | pool
  deriving DecidableEq, Repr

structure Res where
  kind : ResKind
  lo   : Nat
  hi   : Nat
  deriving DecidableEq, Repr

def Res.one (k : ResKind) (i : Nat) : Res := ⟨k, i, i⟩

/-- Two resources have something in common. -/
def Res.meets (a b : Res) : Bool := decide (a.kind = b.kind) && overlap a.lo a.hi b.lo b.hi

/-- A tenant or manager tag, as a slice; nothing for the other tags. -/
def sliceRes (tag : Nat) : List Res := if tag ≤ 0x80 then [Res.one .slice tag] else []

/-- What an entry names: the field or row or KeyID itself, the resource it belongs to and the slice the value or the row
stands for. -/
def Entry.names (e : Entry) : List Res :=
  match e.form with
  | .reg off v =>
    Res.one .field off ::
    (match regAt off with
    | some (.CMP_SLICE_CTL, i) => sliceRes i
    | some (.CMP_CHIPS, i) => sliceRes i
    | some (.ADM_SLICE, i) => sliceRes i
    | some (.XLT_MIG_RING, i) => sliceRes i
    | some (.CMP_CORE_SLICE, i) =>
      ⟨.core, 8 * i, 8 * i + 7⟩ :: (List.range 8).flatMap (fun n => sliceRes (byteOf n v))
    | some (.CMP_MEMCH, i) =>
      [Res.one .chan i, Res.one .port (getBits 22 16 v)] ++
      (if getBits 15 8 v = 0xFE then [Res.one .commons (getBits 6 0 v)] else sliceRes (getBits 15 8 v))
    | some (.CMP_LINK, i) => Res.one .linkPort i :: sliceRes (getBits 7 0 v)
    | some (.CMP_PASID, i) => Res.one .pasid i :: sliceRes (getBits 27 20 v)
    | some (.CMP_COMMONS_CTL, i) => [Res.one .commons i, Res.one .keyid (getBits 10 1 v)]
    | some (.CMP_COMMONS_MEMBERS_LO, i) => [Res.one .commons i]
    | some (.CMP_COMMONS_MEMBERS_HI, i) => [Res.one .commons i]
    | some (.ADM_CONTRACT, i) =>
      Res.one .contract (i / 8) ::
      (if i % 8 = 0 then sliceRes (getBits 55 48 v)
       else if i % 8 = 1 then [Res.one .keyid (getBits 41 32 v)] else [])
    | some (.XLT_MGR_KEYID, _) => [Res.one .keyid (getBits 9 0 v)]
    | some (.LNK_PORT_CFG, i) => [Res.one .linkPort i]
    | some (.XLT_KEYOWN, i) =>
      ⟨.keyid, 8 * i, 8 * i + 7⟩ :: (List.range 8).flatMap (fun n => sliceRes (byteOf n v))
    | _ => [])
  | .row o a b =>
    ⟨.granule, a, b⟩ :: (if o.tag = 0xFE then [Res.one .commons o.cid] else sliceRes o.tag)
  | .key link port keyid _ => if link then [Res.one .linkPort port] else [Res.one .keyid keyid]
  | .bad => []

/-- The lowest index of an entry that names one of `rs`, or 0 (R79). -/
def namingIndex (es : List Entry) (rs : List Res) : Nat :=
  match es.findIdx? (fun e => e.names.any (fun r => rs.any (fun x => r.meets x))) with
  | some i => i
  | none => 0

/-! ## Bytes -/

/-- Bytes of a word, least significant first (R4). -/
def wordBytes (w : Word) : List Byte := leBytes 8 w.toNat

/-- Bytes of words. -/
def wordsBytes (ws : List Word) : List Byte := ws.flatMap wordBytes

/-- Words of bytes, eight a word, the last padded with zeros. -/
def bytesWords (fuel : Nat) (bs : List Byte) : List Word :=
  match fuel, bs with
  | 0, _ => []
  | _ + 1, [] => []
  | n + 1, b => word (leNat (b.take 8)) :: bytesWords n (b.drop 8)

/-- `n` bytes from `lo`, zero beyond the end. -/
def slice (bs : List Byte) (lo n : Nat) : List Byte :=
  let t := (bs.drop lo).take n
  t ++ List.replicate (n - t.length) 0

/-- A list made exactly `n` bytes long. -/
def fit (n : Nat) (bs : List Byte) : List Byte := slice bs 0 n

/-- SHA-384 as bytes. -/
def sha384 (bs : List Byte) : List Byte := beBytes 48 (Config.sha384Nat bs).toNat

/-- A key as its 32 bytes, and back: byte 0 first. -/
def keyBytes (k : Key) : List Byte := beBytes 32 k.toNat
def bytesKey (bs : List Byte) : Key := BitVec.ofNat 256 (beNat (fit 32 bs))

/-- HMAC-SHA-384 as bytes. -/
def hmac384 (key msg : List Byte) : List Byte := beBytes 48 (Config.hmac384Nat key msg).toNat

/-- HKDF-Expand blocks of RFC 5869, from block `i`. -/
def hkdfExpand (prk info : List Byte) : Nat → Nat → List Byte → List Byte
  | 0, _, _ => []
  | n + 1, i, prev =>
    let t := hmac384 prk (prev ++ info ++ [BitVec.ofNat 8 i])
    t ++ hkdfExpand prk info n (i + 1) t

/-- HKDF-SHA-384 (RFC 5869), written HKDF(IKM, salt, info, length) (R344). -/
def hkdf (ikm salt info : List Byte) (len : Nat) : List Byte :=
  fit len (hkdfExpand (hmac384 salt ikm) info ((len + 47) / 48) 1 [])

/-- ASCII bytes of a string. -/
def ascii (s : String) : List Byte := s.toList.map (fun c => BitVec.ofNat 8 c.toNat)

/-- Byte `i` of a line, and a line with bytes replaced under a mask. -/
def lineMask (be : ByteMask) : Line :=
  BitVec.ofNat 1024 (leNat ((List.range 128).map (fun i => if be.toNat.testBit i then (255 : Byte) else 0)))

def mergeLine (old new : Line) (be : ByteMask) : Line :=
  (old &&& ~~~ lineMask be) ||| (new &&& lineMask be)

/-- `n` bytes of a line from byte `off`, as a number (little-endian). -/
def lineGet (l : Line) (off n : Nat) : Nat := (l.toNat >>> (8 * off)) % 2 ^ (8 * n)

/-- A line with `n` bytes from byte `off` replaced by a number. -/
def linePut (l : Line) (off n v : Nat) : Line :=
  let m : Line := BitVec.ofNat 1024 ((2 ^ (8 * n) - 1) <<< (8 * off))
  (l &&& ~~~ m) ||| (BitVec.ofNat 1024 (v <<< (8 * off)) &&& m)

end Sys2Proof.Machine
end

