-- ==== Sys2Proof/Machine/Otp.lean ====
section
/-! DEFINITION. The Ledger's OTP (R370–R377): the state codes and their decoding, the start-up scan, the unlock tokens, and
what programming does. -/

namespace Sys2Proof.Machine

open Sys2Proof

/-! ## State codes (R367, R370) -/

/-- LC of each state that has a code, and the code. -/
def lcCodes : List (Nat × Word) :=
  [(2, 0x00FF00FF00FF00FF), (3, 0x0000FFFF0000FFFF), (4, 0x00FFFF0000FFFF00), (5, 0x00000000FFFFFFFF),
   (6, 0x00FF00FFFF00FF00), (7, 0x0000FFFFFFFF0000)]

/-- The code of a state. -/
def lcCode (lc : Nat) : Word := ((lcCodes.find? (fun c => c.1 == lc)).map (·.2)).getD 0

/-- What a STATE copy decodes to (R371). -/
inductive CopyValue where
  | state (lc : Nat)
  | blank
  | undecodable
  deriving DecidableEq, Repr

/-- A copy within 7 bits of a code is that code; one with at most 7 bits set is blank. -/
def decodeCopy (w : Word) : CopyValue :=
  match lcCodes.find? (fun c => decide (popCount (w ^^^ c.2) ≤ 7)) with
  | some c => .state c.1
  | none => if popCount w ≤ 7 then .blank else .undecodable

/-- The state that two copies of a generation hold. -/
def votedState (g : Generation) : Option Nat :=
  (lcCodes.map (·.1)).find? (fun lc => decide (2 ≤ (g.state.filter (fun w => decide (decodeCopy w = .state lc))).length))

/-- A generation is DONE when two copies have at least 57 bits set. -/
def genDone (g : Generation) : Bool := decide (2 ≤ (g.done.filter (fun w => decide (57 ≤ popCount w))).length)

/-- A DONE copy that is neither DONE nor blank. -/
def doneBad (g : Generation) : Bool := g.done.any (fun w => decide (7 < popCount w) && decide (popCount w < 57))

/-- Every STATE copy of the generation is blank. -/
def genBlank (g : Generation) : Bool := g.state.all (fun w => decide (decodeCopy w = .blank))

/-- Any bit of the generation is set. -/
def genProgrammed (g : Generation) : Bool := (g.state ++ g.done).any (fun w => decide (w ≠ 0))

/-- Copies a and b agree with an interrupted write of code `x`, copy c being blank (R372). -/
def partialOf (g : Generation) (x : Word) : Bool :=
  decide (decodeCopy (g.state.getD 2 0) = .blank) &&
  (g.state.take 2).all (fun w => decide (decodeCopy w = .blank) || decide (popCount (w ^^^ x) ≤ 7) || decide (w &&& ~~~ x = 0))

/-- The target of an interrupted write. Where the bits set so far lie in two codes the spec does not say which is meant:
the choice among them is free. -/
def partialTarget (g : Generation) : Option Nat :=
  let cands := (lcCodes.filter (fun c => partialOf g c.2)).map (·.1)
  if cands.isEmpty then none
  else cands[Config.partialTarget (g.state.getD 0 0) (g.state.getD 1 0) % cands.length]?

/-! ## The scan (R372) -/

/-- How the scan ends: a settled state, or a transition to resume in a generation. -/
inductive Scan where
  | settled (lc : Nat)
  | resume (gen target : Nat)
  deriving DecidableEq, Repr

/-- The scan from generation `g` on: `last` is the last generation with a state, its target, and whether its write was
interrupted. -/
def scanFrom (g : Nat) (last : Option (Nat × Nat × Bool × Generation)) : List Generation → Scan
  | [] => settle last
  | x :: rest =>
    match votedState x with
    | some lc => scanFrom (g + 1) (some (g, lc, (last.map (fun l => l.2.2.1)).getD false, x)) rest
    | none =>
      if genBlank x then
        (if rest.any genProgrammed then .settled 0 else settle last)
      else match partialTarget x with
        | some lc => scanFrom (g + 1) (some (g, lc, true, x)) rest
        | none => .settled 0
where
  /-- The state of the last generation found. -/
  settle : Option (Nat × Nat × Bool × Generation) → Scan
    | none => .settled 1
    | some (g, lc, interrupted, x) =>
      if interrupted ∨ genDone x = false then .resume g lc
      else if doneBad x then .settled 0
      else .settled lc

/-- The scan of the state area. -/
def scanOtp (o : Otp) : Scan := scanFrom 0 none o.gens

/-! ## Tokens (R374) -/

/-- An entry is burned when a burn word has more than 7 bits set. -/
def TokenEntry.burned (t : TokenEntry) : Bool := t.burn.any (fun w => decide (7 < popCount w))

/-- The lowest-indexed unburned entry. -/
def Otp.nextToken (o : Otp) : Option Nat := o.tokens.findIdx? (fun t => !t.burned)

def TokenEntry.burnAll (t : TokenEntry) : TokenEntry := { t with burn := List.replicate 3 (BitVec.allOnes 64) }

/-! ## Programming (R376, R377) -/

/-- Generation `g` gets its STATE copies: bits can only be set. -/
def Otp.target (o : Otp) (g lc : Nat) : Otp :=
  { o with gens := modifyAt o.gens g (fun x => { x with state := x.state.map (· ||| lcCode lc) }) }

/-- Generation `g` gets its DONE copies. -/
def Otp.finish (o : Otp) (g : Nat) : Otp :=
  { o with gens := modifyAt o.gens g (fun x => { x with done := x.done.map (fun _ => BitVec.allOnes 64) }) }

/-- The burn of a resumed unlock: the first entry whose burn words are not all all ones. -/
def Otp.resumeBurn (o : Otp) : Otp :=
  match o.tokens.findIdx? (fun t => t.burn.any (fun w => decide (w ≠ BitVec.allOnes 64))) with
  | some i => { o with tokens := modifyAt o.tokens i TokenEntry.burnAll }
  | none => o

/-- The wipes of a transition to `lc` in OTP: MANUF burns every unburned token, SCRAP sets every word outside the state area
to ones. -/
def Otp.wipe (o : Otp) (lc : Nat) : Otp :=
  if lc = 4 then { o with tokens := o.tokens.map (fun t => if t.burned then t else t.burnAll) }
  else if lc = 7 then
    { o with tokens := List.replicate 8 ⟨List.replicate 48 0xFF, List.replicate 3 (BitVec.allOnes 64)⟩,
             helper := List.replicate 64 (BitVec.allOnes 255), check := List.replicate 32 0xFF, wiped := true }
  else o

/-- The steps of an unfinished transition repeated to its DONE. -/
def Otp.resumed (o : Otp) (g lc : Nat) : Otp :=
  let o := o.target g lc
  let o := if lc = 3 then o.resumeBurn else o
  (o.wipe lc).finish g

/-- The next blank generation. -/
def Otp.nextGen (o : Otp) : Option Nat := o.gens.findIdx? genBlank

/-- Generations programmed, and unburned tokens (LCS_STATE). -/
def Otp.gensUsed (o : Otp) : Nat := (o.gens.filter (fun g => !genBlank g)).length
def Otp.tokensLeft (o : Otp) : Nat := (o.tokens.filter (fun t => !t.burned)).length

/-- The transitions of R367. -/
def lcAllowed (a b : Nat) : Bool :=
  [(1, 2), (1, 7), (2, 3), (2, 4), (2, 7), (3, 2), (3, 4), (3, 7), (4, 5), (4, 7), (5, 6), (5, 7), (6, 7), (0, 7)].contains (a, b)

end Sys2Proof.Machine
end

