-- ==== Sys2Proof/Machine/Arith.lean ====
section
/-! DEFINITION. The arithmetic of the atomics (R178), FP32 addition with round to nearest even and subnormals kept among
them, and the field GF(2^128) of GHASH (NIST SP 800-38D), which the line and node MACs use (R150, R158). -/

namespace Sys2Proof.Machine

open Sys2Proof

/-! ## FP32 addition (R178) -/

/-- Significand with its hidden bit, and the biased exponent with subnormals at 1. -/
def fpMant (x : Nat) : Nat := if bits 30 23 x = 0 then bits 22 0 x else bits 22 0 x + 2 ^ 23
def fpExp (x : Nat) : Nat := max 1 (bits 30 23 x)
def fpNan (x : Nat) : Bool := bits 30 23 x == 255 && bits 22 0 x != 0
def fpInf (x : Nat) : Bool := bits 30 23 x == 255 && bits 22 0 x == 0

/-- The exact value in units of 2^-149, the smallest subnormal. -/
def fpUnits (x : Nat) : Int :=
  let m : Int := (fpMant x * 2 ^ (fpExp x - 1) : Nat)
  if x / 2 ^ 31 % 2 = 1 then -m else m

/-- Divide by 2^k, rounding to nearest, ties to even. -/
def roundShift (m k : Nat) : Nat :=
  let q := m >>> k
  let r := m % 2 ^ k
  if 2 * r > 2 ^ k ∨ (2 * r = 2 ^ k ∧ q % 2 = 1) then q + 1 else q

/-- The FP32 number nearest to `m` units of 2^-149, without its sign. -/
def fpRound (m : Nat) : Nat :=
  let len := if m = 0 then 0 else Nat.log2 m + 1
  if len ≤ 24 then m
  else
    let k := len - 24
    let q := roundShift m k
    let e := k + 1
    let v := e * 2 ^ 23 + (q - 2 ^ 23)
    if 255 * 2 ^ 23 ≤ v then 255 * 2 ^ 23 else v

/-- A quiet NaN; the spec states neither its sign nor its payload, so both are free (`Config.nanBits`). -/
def fpQuiet (a b : Nat) : Nat :=
  let f := (Config.nanBits a b).toNat
  f / 2 ^ 22 * 2 ^ 31 + 0x7FC00000 + f % 2 ^ 22

/-- FP32 addition. -/
def fpAdd (a b : Nat) : Nat :=
  let sa := a / 2 ^ 31 % 2
  let sb := b / 2 ^ 31 % 2
  if fpNan a ∨ fpNan b then fpQuiet a b
  else if fpInf a then (if fpInf b ∧ sa ≠ sb then fpQuiet a b else a)
  else if fpInf b then b
  else
    let v := fpUnits a + fpUnits b
    if v = 0 then (if sa = 1 ∧ sb = 1 then 2 ^ 31 else 0)
    else if v < 0 then 2 ^ 31 + fpRound v.natAbs
    else fpRound v.natAbs

/-! ## Atomic operations (R178) -/

/-- The signed value of `n` bytes. -/
def signedOf (n v : Nat) : Int := if 2 ^ (8 * n - 1) ≤ v then (v : Int) - 2 ^ (8 * n) else v

/-- The new value of an atomic on `n` bytes: old value, operand, compare value (R178). -/
def atomicValue (op n old operand compare : Nat) : Nat :=
  match op with
  | 0x0 => operand
  | 0x1 => if old = compare then operand else old
  | 0x2 => (old + operand) % 2 ^ (8 * n)
  | 0x3 => fpAdd old operand
  | 0x4 => Nat.land old operand
  | 0x5 => Nat.lor old operand
  | 0x6 => Nat.xor old operand
  | 0x7 => if signedOf n old ≤ signedOf n operand then old else operand
  | 0x8 => if signedOf n old ≤ signedOf n operand then operand else old
  | 0x9 => min old operand
  | 0xA => max old operand
  | _ => old

/-! ## GHASH (R150) -/

/-- Multiply in GF(2^128) as SP 800-38D does: bit 127 of a block is the coefficient of x^0. -/
def gfStep (y : BitVec 128) : Nat → BitVec 128 → BitVec 128 → BitVec 128
  | 0, _, z => z
  | n + 1, v, z =>
    let z := if y.toNat.testBit n then z ^^^ v else z
    let v := if v.toNat.testBit 0 then (v >>> 1) ^^^ BitVec.ofNat 128 (0xE1 <<< 120) else v >>> 1
    gfStep y n v z

def gfMul (x y : BitVec 128) : BitVec 128 := gfStep x 128 y 0

/-- GHASH of blocks under a subkey. -/
def ghash (h : BitVec 128) (blocks : List (BitVec 128)) : BitVec 128 :=
  blocks.foldl (fun y x => gfMul (y ^^^ x) h) 0

end Sys2Proof.Machine
end

