-- ==== Sys2Proof/Machine/Float.lean ====
section
/-! DEFINITION. The arithmetic of a combine (R203): products, sums and quotients rounded to FP32, to nearest even with
subnormals kept, and the conversions between the element formats of R189. -/

namespace Sys2Proof.Machine

open Sys2Proof

/-- A magnitude in units of the smallest subnormal, exact in a format of `p` fraction bits and `e` exponent bits, as the
format's bits without sign; beyond the range it is infinity. -/
def fpPack (p e m : Nat) : Nat :=
  let len := if m = 0 then 0 else Nat.log2 m + 1
  if len ≤ p then m
  else
    let x := len - p
    if 2 ^ e - 1 ≤ x then (2 ^ e - 1) * 2 ^ p else x * 2 ^ p + ((m >>> (x - 1)) - 2 ^ p)

/-- A magnitude `m` / 2^s units rounded to nearest even to the precision of the format, in units. -/
def fpNearest (p m s : Nat) : Nat :=
  let len := if m = 0 then 0 else Nat.log2 m + 1
  let k := max s (len - (p + 1))
  roundShift m k <<< (k - s)

/-- The sign bit of an FP32 value. -/
def fpSign (x : Nat) : Nat := x / 2 ^ 31 % 2

/-- The quiet NaN with a sign. -/
def fpNanOf (sign : Nat) : Nat := sign * 2 ^ 31 + 0x7FC00000

/-- The quiet NaN of an operation without a NaN among its operands: the spec states no sign, so it is free. -/
def fpInvalid (a b : Nat) : Nat := fpNanOf ((Config.nanBits a b).toNat / 2 ^ 22)

/-- The magnitude of a finite FP32 value in units of 2^-149. -/
def fpMag (x : Nat) : Nat := fpMant x <<< (fpExp x - 1)

/-- Sum, with the sign of the NaN it came from. -/
def fpSum (a b : Nat) : Nat :=
  if fpNan a then fpNanOf (fpSign a)
  else if fpNan b then fpNanOf (fpSign b)
  else if fpInf a ∧ fpInf b ∧ fpSign a ≠ fpSign b then fpInvalid a b
  else fpAdd a b

/-- Product. -/
def fpMul (a b : Nat) : Nat :=
  let sign := (fpSign a + fpSign b) % 2
  if fpNan a then fpNanOf (fpSign a)
  else if fpNan b then fpNanOf (fpSign b)
  else if fpInf a ∨ fpInf b then
    (if a % 2 ^ 31 = 0 ∨ b % 2 ^ 31 = 0 then fpInvalid a b else sign * 2 ^ 31 + 0x7F800000)
  else sign * 2 ^ 31 + fpPack 23 8 (fpNearest 23 (fpMag a * fpMag b) 149)

/-- Quotient by a divisor that is not zero. -/
def fpDiv (a b : Nat) : Nat :=
  let sign := (fpSign a + fpSign b) % 2
  if fpNan a then fpNanOf (fpSign a)
  else if fpNan b then fpNanOf (fpSign b)
  else if fpInf a then (if fpInf b then fpInvalid a b else sign * 2 ^ 31 + 0x7F800000)
  else if fpInf b then sign * 2 ^ 31
  else
    let n := fpMag a <<< 151
    let d := fpMag b
    let q := n / d * 2 + (if n % d = 0 then 0 else 1)
    sign * 2 ^ 31 + fpPack 23 8 (fpNearest 23 q 3)

/-! ## Element formats (R189) -/

/-- Bytes of an element. -/
def fmtBytes (f : Nat) : Nat := if f ≤ 1 then 1 else if f ≤ 3 then 2 else 4

/-- A finite element of a format with `p` fraction bits, `e` exponent bits and a bias, as FP32. -/
def fpWiden (p e bias x : Nat) : Nat :=
  let frac := x % 2 ^ p
  let ex := x / 2 ^ p % 2 ^ e
  let mant := if ex = 0 then frac else frac + 2 ^ p
  x / 2 ^ (p + e) % 2 * 2 ^ 31 + fpPack 23 8 (mant <<< (149 + max 1 ex - bias - p))

/-- The same, where the largest exponent codes infinity and NaN. -/
def fpWidenIeee (p e bias x : Nat) : Nat :=
  if x / 2 ^ p % 2 ^ e = 2 ^ e - 1 then
    (if x % 2 ^ p = 0 then x / 2 ^ (p + e) % 2 * 2 ^ 31 + 0x7F800000 else fpNanOf (x / 2 ^ (p + e) % 2))
  else fpWiden p e bias x

/-- An element as FP32, exactly. -/
def fpFrom (f x : Nat) : Nat :=
  if f = 0 then (if x % 128 = 127 then fpNanOf (x / 128 % 2) else fpWiden 3 4 7 x)
  else if f = 1 then fpWidenIeee 2 5 15 x
  else if f = 2 then x * 65536
  else if f = 3 then fpWidenIeee 10 5 15 x
  else x

/-- An FP32 value converted to a result format. -/
def fpTo (f x : Nat) : Nat :=
  if f = 2 then
    (if fpNan x then fpSign x * 2 ^ 15 + 0x7FC0
     else if fpInf x then x / 65536
     else fpSign x * 2 ^ 15 + fpPack 7 8 (fpNearest 7 (fpMag x) 16))
  else if f = 3 then
    (if fpNan x then fpSign x * 2 ^ 15 + 0x7E00
     else if fpInf x then fpSign x * 2 ^ 15 + 0x7C00
     else fpSign x * 2 ^ 15 + fpPack 10 5 (fpNearest 10 (fpMag x) 125))
  else if fpNan x then fpNanOf (fpSign x)
  else x

/-! ## A result element (R203) -/

/-- Accumulator and sum of weights after the moved routes of a token: weight and element of each. -/
def combineSum : List (Nat × Nat) → Nat → Nat → Nat × Nat
  | [], acc, s => (acc, s)
  | (w, x) :: t, acc, s => combineSum t (fpSum acc (fpMul w x)) (fpSum s w)

/-- A result element. -/
def combineElement (renorm : Bool) (fmt : Nat) (ts : List (Nat × Nat)) : Nat :=
  let r := combineSum ts 0 0
  fpTo fmt (if renorm && r.2 % 2 ^ 31 != 0 then fpDiv r.1 r.2 else r.1)

/-- A result row: weight and output row of each moved route in ascending rank. -/
def combineRow (renorm : Bool) (outFmt resFmt elements : Nat) (rows : List (Nat × List Byte)) : List Byte :=
  let n := fmtBytes outFmt
  (List.range elements).flatMap (fun i =>
    leBytes (fmtBytes resFmt) (combineElement renorm resFmt
      (rows.map (fun r => (r.1, fpFrom outFmt (leNat (slice r.2 (n * i) n)))))))

end Sys2Proof.Machine
end

