-- ==== Sys2Proof/Machine/Reeve.lean ====
section
/-! DEFINITION. The Reeve (R90–R96): the evaluation of deadline contracts at a floor f, the pools, and the audit
(R401). Times are Q24.8 µs as numbers. -/

namespace Sys2Proof.Machine

open Sys2Proof

/-! ## Capacities (R92) -/

/-- Failed AES pipelines of a station (R390). -/
def pipesFailed (g : Granary) (source : Nat) : Nat := (g.badPipes.filter (fun p => p.1 == source)).length

/-- Nine times the capacity a memory port gives, in MB/s: min(128,000, 64 f), and 8/9 of it once two pipelines have
failed (R390). -/
def portRate9 (g : Granary) (f p : Nat) : Nat :=
  (if 2 ≤ pipesFailed g (100 + p) then 8 else 9) * min 128000 (64 * f)

/-- The capacity of a link port per direction, in MB/s: min(400,000, 208 f); 350,000 on 7 lanes and 192 f with 12
pipelines (R390). -/
def linkRate (m : List (Nat × Word)) (g : Granary) (f p : Nat) : Nat :=
  let lanes := popCount (word (fldGet m .LNK_LANE_FAILED p))
  let failed := fun (d : Nat) => (g.badPipes.filter (fun x => x.1 == 172 + p && x.2 / 14 == d)).length
  min (if 2 ≤ lanes then 350000 else 400000) ((if 2 ≤ failed 0 ∨ 2 ≤ failed 1 then 192 else 208) * f)

/-- Clusters with a core of slice `sl`. -/
def cfgClusters (m : List (Nat × Word)) (sl : Nat) : List Nat :=
  (List.range 68).filter (fun k => (List.range 9).any (fun c => cfgCoreTag m (9 * k + c) == sl))

/-- A pool: KIND as R96 codes it, and the slice tag or commons ID. -/
structure Pool where
  kind : Nat
  id   : Nat
  deriving DecidableEq, Repr

/-- Nine times a pool's capacity. -/
def poolCap9 (m : List (Nat × Word)) (g : Granary) (f : Nat) (p : Pool) : Nat :=
  let sum := fun (l : List Nat) => l.foldl (· + ·) 0
  if p.kind = 1 then sum ((cfgChannels m ⟨p.id, 0⟩).map (fun j => portRate9 g f (cfgChanPort m j)))
  else if p.kind = 2 then sum ((cfgChannels m ⟨0xFE, p.id⟩).map (fun j => portRate9 g f (cfgChanPort m j)))
  else if p.kind = 3 then 9 * sum ((cfgLinks m p.id).map (linkRate m g f))
  else if p.kind = 4 then 9 * ((cfgClusters m p.id).length * 128 * f)
  else 9 * 1024

/-- What the valid contracts reserve on a pool. -/
def poolReserved (m : List (Nat × Word)) (p : Pool) : Nat :=
  (List.range 256).foldl (fun n c =>
    if ctValid m c then
      (if p.kind = 2 then (if ctCid m c = p.id then n + ctRhoCom m c else n)
       else if ctSlice m c = p.id then n + ctRho m c p.kind else n)
    else n) 0

/-- A pool holds (R93). -/
def poolHolds (m : List (Nat × Word)) (g : Granary) (f : Nat) (p : Pool) : Bool :=
  decide (20 * 9 * poolReserved m p ≤ 19 * poolCap9 m g f p)

/-- Every pool, in the order of R95. -/
def allPools : List Pool :=
  (List.range 129).map (Pool.mk 1) ++ (List.range' 1 127).map (Pool.mk 2) ++ (List.range 129).map (Pool.mk 3) ++
  (List.range 129).map (Pool.mk 4) ++ (List.range 129).map (Pool.mk 5)

/-- A contract has a pool. -/
def contractHasPool (m : List (Nat × Word)) (c : Nat) (p : Pool) : Bool :=
  if p.kind = 2 then ctCid m c == p.id && p.id != 0 else ctSlice m c == p.id

/-! ## Contracts (R91, R93, R94) -/

/-- R91 refuses the contract. -/
def contractBad (m : List (Nat × Word)) (c : Nat) : Bool :=
  let sl := ctSlice m c
  let ph := ctPhases m c
  decide (sl = 0 ∨ 0x80 < sl) || !cfgEnabled m sl ||
  decide (ctMaxTile m c = 0 ∨ 6400 < ctMaxTile m c) ||
  ph.any (fun p => decide (p.1 ≤ 5) && ctRho m c p.1 == 0) ||
  (ph.any (fun p => p.1 == 2) && (ctCid m c == 0 || !cfgMember m (ctCid m c) sl)) ||
  (ph.any (fun p => p.1 == 3) && (cfgLinks m sl).isEmpty) ||
  ph.any (fun p => decide (5 < p.1)) || ph.isEmpty

/-- θ of a KIND (R93), Q24.8. -/
def theta (m : List (Nat × Word)) (k : Nat) : Nat :=
  if k = 1 ∨ k = 2 then fldGet m .ADM_THETA_MEM 0
  else if k = 3 then fldGet m .ADM_THETA_LINK 0
  else if k = 4 then fldGet m .ADM_THETA_DRV 0
  else fldGet m .ADM_THETA_CORE 0

/-- ⌈a / b⌉. -/
def ceilDiv (a b : Nat) : Nat := (a + b - 1) / b

/-- d/ρ of a phase, Q24.8 (R93, R94). -/
def phaseTime (m : List (Nat × Word)) (c : Nat) (p : Nat × Nat) : Nat :=
  if p.1 = 5 then ceilDiv (p.2 * ctMaxTile m c * 1024) (ctShare m c)
  else ceilDiv (p.2 * 256) (ctRho m c p.1)

/-- BE_TILE of a slice. -/
def beTile (m : List (Nat × Word)) (sl : Nat) : Nat := fldGet m .ADM_SLICE_BE_TILE sl

/-- The largest of a list, or `d`. -/
def maxOf (d : Nat) (l : List Nat) : Nat := l.foldl max d

/-- Tpre of a contract. -/
def tPre (m : List (Nat × Word)) (c : Nat) : Nat :=
  maxOf (beTile m (ctSlice m c)) (((cfgContractsOf m (ctSlice m c)).filter (· ≠ c)).map (ctMaxTile m))

/-- L of a slice. -/
def largestTile (m : List (Nat × Word)) (sl : Nat) : Nat :=
  maxOf (beTile m sl) ((cfgContractsOf m sl).map (ctMaxTile m))

/-- W of a contract, before the range check (R93, R95). -/
def contractW (m : List (Nat × Word)) (c : Nat) : Nat :=
  (ctPhases m c).foldl (fun w p => w + (theta m p.1 + phaseTime m c p)) 0 + tPre m c +
    2 * largestTile m (ctSlice m c) + 10240

/-- How the evaluation of one contract ends: a refusal code (0 none) and W. -/
def evalContract (m : List (Nat × Word)) (f c : Nat) : Nat × Nat :=
  if contractBad m c then (0x0405, 0)
  else if f < ctFloor m c then (0x0403, 0)
  else
    let w := contractW m c
    if 0xFFFFFFFF < w then (0x0404, 0)
    else if ctD m c < w then (0x0401, w)
    else (0, w)

/-- The first refusal of contracts in index order: code and contract. -/
def evalContracts (m : List (Nat × Word)) (f : Nat) : List Nat → Option (Nat × Nat)
  | [] => none
  | c :: t =>
    let r := evalContract m f c
    if r.1 ≠ 0 then some (r.1, c) else evalContracts m f t

/-- ADM_W word. -/
def admWord (holds : Bool) (reason w : Nat) : Word :=
  setBits 63 63 (bit01 holds) (setBits 47 32 reason (setBits 31 0 w 0))

/-! ## What a set touches (R95) -/

/-- Two configurations agree on a register array between two indices. -/
def sameRegs (m n : List (Nat × Word)) (r : Reg) (a count : Nat) : Bool :=
  (List.range' a count).all (fun i => regGet m r i == regGet n r i)

/-- The ownership tables give an owner the same granules. -/
def sameGranules (t u : List (Nat × Owner)) (tag cid : Nat) : Bool :=
  (ownDiff t u).all (fun r =>
    (decide (r.2.2.1 = ⟨tag, cid⟩)) == (decide (r.2.2.2 = ⟨tag, cid⟩)))

/-- PASIDs of a slice. -/
def cfgPasids (m : List (Nat × Word)) (sl : Nat) : List Nat :=
  (List.range 1024).filterMap (fun e =>
    if fldGet m .CMP_PASID_VALID e = 1 ∧ fldGet m .CMP_PASID_SLICE e = sl then some (fldGet m .CMP_PASID_PASID e) else none)

/-- KeyIDs of a tag. -/
def cfgKeyids (m : List (Nat × Word)) (sl : Nat) : List Nat := (List.range 1024).filter (fun k => cfgKeyOwner m k == sl)

/-- The ST bits of a register array element agree. -/
def sameSt (m n : List (Nat × Word)) (r : Reg) (i : Nat) : Bool :=
  decide ((regGet m r i &&& accMask .st r i) = (regGet n r i &&& accMask .st r i))

/-- The contract's words agree. -/
def sameContract (m n : List (Nat × Word)) (c : Nat) : Bool := sameRegs m n .ADM_CONTRACT (8 * c) 8

/-- The logical channels of an owner, each with its port. -/
def chanPorts (m : List (Nat × Word)) (o : Owner) : List (Nat × Nat) := (cfgChannels m o).map (fun j => (j, cfgChanPort m j))

/-- A slice is touched when the change from `a` to `b` changes anything of it. -/
def sliceTouched (a b : Cfg) (sl : Nat) : Bool :=
  !(sameSt a.regs b.regs .CMP_SLICE_CTL sl && sameSt a.regs b.regs .CMP_CHIPS sl &&
    (sl == 0 || beTile a.regs sl == beTile b.regs sl) &&
    cfgCores a.regs sl == cfgCores b.regs sl && chanPorts a.regs ⟨sl, 0⟩ == chanPorts b.regs ⟨sl, 0⟩ &&
    cfgLinks a.regs sl == cfgLinks b.regs sl && cfgPasids a.regs sl == cfgPasids b.regs sl &&
    (sl == 0 || sameSt a.regs b.regs .XLT_MIG_RING sl) &&
    cfgKeyids a.regs sl == cfgKeyids b.regs sl &&
    (List.range' 1 127).all (fun n => cfgMember a.regs n sl == cfgMember b.regs n sl) &&
    sameGranules a.owners b.owners sl 0 &&
    cfgContractsOf a.regs sl == cfgContractsOf b.regs sl &&
    (cfgContractsOf b.regs sl).all (fun c => sameContract a.regs b.regs c))

/-- What fixes a pool's capacity at a floor: the channels, link ports or clusters it counts, each channel with whether its
port is degraded (R390). -/
def poolUnits (m : List (Nat × Word)) (g : Granary) (p : Pool) : List (Nat × Bool) :=
  let chans := fun (o : Owner) => (chanPorts m o).map (fun x => (x.1, decide (2 ≤ pipesFailed g (100 + x.2))))
  if p.kind = 1 then chans ⟨p.id, 0⟩
  else if p.kind = 2 then chans ⟨0xFE, p.id⟩
  else if p.kind = 3 then (cfgLinks m p.id).map (·, false)
  else if p.kind = 4 then (cfgClusters m p.id).map (·, false)
  else []

/-- A contract's reservation on a pool. -/
def reservationOn (m : List (Nat × Word)) (p : Pool) (c : Nat) : Nat :=
  if ctValid m c && contractHasPool m c p then (if p.kind = 2 then ctRhoCom m c else ctRho m c p.kind) else 0

/-- A pool is touched when the change alters its capacity or a reservation on it. -/
def poolTouched (g : Granary) (a b : Cfg) (p : Pool) : Bool :=
  !(poolUnits a.regs g p == poolUnits b.regs g p) ||
  (List.range 256).any (fun c => reservationOn a.regs p c != reservationOn b.regs p c)

/-- The contracts R95 evaluates, in index order: `a` is the base, `b` the candidate, `named` the contracts of the set,
`all` that f differs from ADM_FLOOR. -/
def contractsToEval (g : Granary) (a b : Cfg) (named : List Nat) (all : Bool) : List Nat :=
  let slices := (List.range 129).filter (sliceTouched a b)
  let pools := allPools.filter (poolTouched g a b)
  (List.range 256).filter (fun c => ctValid b.regs c &&
    (all || named.contains c || slices.contains (ctSlice b.regs c) || pools.any (contractHasPool b.regs c)))

/-- The pools R95 checks. -/
def poolsToCheck (g : Granary) (a b : Cfg) (evaluated : List Nat) : List Pool :=
  allPools.filter (fun p => poolTouched g a b p || evaluated.any (fun c => contractHasPool b.regs c p))

/-- The Reeve's verdict on a change: none, or the refusal code and DETAIL (R95, R96). -/
def reeve (g : Granary) (f : Nat) (a b : Cfg) (evaluated : List Nat) : Option (Nat × Nat) :=
  match evalContracts b.regs f evaluated with
  | some r => some r
  | none =>
    match (poolsToCheck g a b evaluated).find? (fun p => !poolHolds b.regs g f p) with
    | some p => some (0x0402, p.kind * 4096 + p.id)
    | none => none

/-- The ADM_W words held with a set that passes: W of each contract evaluated, and 0 for each it takes out of force
(R95). -/
def reeveWords (f : Nat) (a b : Cfg) (evaluated : List Nat) : List (Nat × Word) :=
  evaluated.map (fun c => (c, admWord true 0 (evalContract b.regs f c).2)) ++
  ((List.range 256).filter (fun c => ctValid a.regs c && !ctValid b.regs c)).map (fun c => (c, (0 : Word)))

/-- The ADM_W word an audit writes for a contract (R401). -/
def auditWord (m : List (Nat × Word)) (f c : Nat) : Word :=
  let r := evalContract m f c
  if r.1 = 0 then admWord true 0 r.2
  else if r.1 = 0x0401 then admWord false 0x0401 r.2
  else admWord false r.1 0xFFFFFFFF

end Sys2Proof.Machine
end

