-- ==== Sys2Proof/Machine/Check.lean ====
section
/-! DEFINITION. The Moot's CHECK (R77–R80): every consistency rule in the order of R79, with its DETAIL, then 0x1405 and
0x1406, then the Reeve. A rule answers the DETAIL of a set that breaks it. -/

namespace Sys2Proof.Machine

open Sys2Proof

/-- What a check looks at: the state, the base (committed with PASSED and PENDING_SCRUB sets), the candidate, the set's
entries and those of the sets of the base. -/
structure Chk where
  s     : State
  base  : Cfg
  cand  : Cfg
  es    : List Entry
  prior : List Entry
  deriving DecidableEq, Repr

/-- The check of a slot. -/
def State.chk (s : State) (x : CsSlot) : Chk :=
  let base := s.baseCfg x.ticket
  ⟨s, base, base.apply x.entries, x.entries,
    (s.pendingSets.filter (fun y => y.ticket ≠ x.ticket)).flatMap (·.entries)⟩

/-- Index of the first entry that satisfies `p`. -/
def Chk.entry (k : Chk) (p : EntryForm → Bool) : Option Nat := k.es.findIdx? (fun e => p e.form)

/-- The set as a whole breaks a rule over the resources `rs`. -/
def Chk.whole (k : Chk) (rs : List Res) : Option Nat := some (namingIndex k.es rs)

/-- First answer of a list. -/
def firstSome {α : Type} : List (Option α) → Option α
  | [] => none
  | some a :: _ => some a
  | none :: t => firstSome t

/-- A tag of 0x81–0xFD (R37). -/
def tagNothing (t : Nat) : Bool := decide (0x81 ≤ t) && decide (t ≤ 0xFD)

/-- A host format descriptor that R110 refuses. -/
def hfmtBad (m : List (Nat × Word)) (i : Nat) : Bool :=
  let w0 := regGet m .XLT_HFMT_W0 i
  let w1 := regGet m .XLT_HFMT_W1 i
  let levels := getBits 24 22 w0
  let idx := getBits 29 26 w0
  let top := getBits 35 30 w0
  let width := if bitOf 25 w0 then 32 else 64
  decide (levels < 2 ∨ 5 < levels) || decide (idx < 8 ∨ 10 < idx) || getBits 21 16 w0 != 12 ||
  decide (55 < top ∨ 11 + levels * idx < top) ||
  decide (width ≤ getBits 41 36 w0 ∨ width ≤ getBits 63 58 w1 ∨ width ≤ getBits 57 52 w1) ||
  (bitOf 57 w0 && decide (width ≤ getBits 63 58 w0)) ||
  (bitOf 50 w0 && decide (width ≤ getBits 56 51 w0)) ||
  (bitOf 42 w0 && decide (width ≤ getBits 48 43 w0)) ||
  decide (getBits 57 52 w1 < 12)

/-- The descriptor a REG entry stages a word of, if any. -/
def hfmtNamed : EntryForm → Option Nat
  | .reg off _ =>
    match regAt off with
    | some (.XLT_HFMT_W0, i) => some i
    | some (.XLT_HFMT_W1, i) => some i
    | _ => none
  | _ => none

/-- 0x0301: the first entry with a format R79 calls bad, or that stages a descriptor R110 refuses. -/
def ruleEntry (k : Chk) : Option Nat :=
  k.entry (fun e => decide (e = .bad) || (match hfmtNamed e with
    | some i => bitOf 0 (regGet k.cand.regs .XLT_HFMT_W1 i) && hfmtBad k.cand.regs i
    | none => false))

/-- 0x0303: an owner or core field staged with a tag that names nothing, or a link port given to 0xFE. -/
def tagRangeBad : EntryForm → Bool
  | .reg off v =>
    match regAt off with
    | some (.CMP_CORE_SLICE, i) =>
      (List.range (if i = 76 then 4 else 8)).any (fun n => tagNothing (byteOf n v))
    | some (.CMP_MEMCH, _) => tagNothing (getBits 15 8 v)
    | some (.CMP_LINK, _) => tagNothing (getBits 7 0 v) || getBits 7 0 v == 0xFE
    | some (.XLT_KEYOWN, i) => (List.range' (bit01 (i == 0)) (8 - bit01 (i == 0))).any (fun n => tagNothing (byteOf n v))
    | _ => false
  | .row o _ _ => tagNothing o.tag
  | _ => false

/-- A tag whose slice is not enabled: tenants with ENABLE 0 and tags that name no slice; 0xFE and 0xFF are no slices. -/
def tagDisabled (m : List (Nat × Word)) (t : Nat) : Bool :=
  if t = 0xFE ∨ t = 0xFF then false else !(decide (t ≤ 0x80) && cfgEnabled m t)

/-- 0x0304 (R38, R50): the first assignment to a disabled slice, in the order cores, granules, channels, link ports,
PASIDs, commons members. -/
def ruleDisabled (k : Chk) : Option Nat :=
  let m := k.cand.regs
  let bad := tagDisabled m
  firstSome [
    match (List.range 612).find? (fun c => bad (cfgCoreTag m c)) with
    | some c => k.whole (Res.one .core c :: sliceRes (cfgCoreTag m c))
    | none => none,
    match (ownRanges k.cand.owners).find? (fun r => bad r.2.2.tag) with
    | some r => k.whole (⟨.granule, r.1, r.2.1⟩ :: sliceRes r.2.2.tag)
    | none => none,
    match (List.range 64).find? (fun j => bad (cfgChanOwner m j).tag) with
    | some j => k.whole (Res.one .chan j :: sliceRes (cfgChanOwner m j).tag)
    | none => none,
    match (List.range 16).find? (fun p => bad (cfgLinkOwner m p)) with
    | some p => k.whole (Res.one .linkPort p :: sliceRes (cfgLinkOwner m p))
    | none => none,
    match (List.range 1024).find? (fun e => fldGet m .CMP_PASID_VALID e == 1 && bad (fldGet m .CMP_PASID_SLICE e)) with
    | some e => k.whole (Res.one .pasid e :: sliceRes (fldGet m .CMP_PASID_SLICE e))
    | none => none,
    match (List.range' 1 127).find? (fun n => (List.range' 1 128).any (fun sl => cfgMember m n sl && !cfgEnabled m sl)) with
    | some n => k.whole (Res.one .commons n ::
        ((List.range' 1 128).filter (fun sl => cfgMember m n sl && !cfgEnabled m sl)).map (Res.one .slice))
    | none => none]

/-- 0x0305 (R40). -/
def rulePasid (k : Chk) : Option Nat :=
  let m := k.cand.regs
  let valid := (List.range 1024).filter (fun e => fldGet m .CMP_PASID_VALID e == 1)
  match valid.find? (fun e => valid.any (fun f => decide (e < f) && fldGet m .CMP_PASID_PASID e == fldGet m .CMP_PASID_PASID f)) with
  | some e => k.whole ((valid.filter (fun f => fldGet m .CMP_PASID_PASID e == fldGet m .CMP_PASID_PASID f)).map (Res.one .pasid))
  | none => none

/-- The owners that hold logical channels. -/
def chanOwners (m : List (Nat × Word)) : List Owner :=
  (((List.range 64).map (cfgChanOwner m)).filter (fun o => o.tag ≠ 0xFF)).eraseDups

/-- 0x0306 (R45): an owner's channels are not one run. -/
def ruleMemset (k : Chk) : Option Nat :=
  let m := k.cand.regs
  match (chanOwners m).find? (fun o =>
    let l := cfgChannels m o
    l.getLastD 0 + 1 ≠ l.headD 0 + l.length) with
  | some o => k.whole ((cfgChannels m o).map (Res.one .chan) ++ sliceRes o.tag)
  | none => none

/-- 0x0307 (R47): a granule whose owner is neither 0xFF nor its channel's. -/
def ruleGranuleOwner (k : Chk) : Option Nat :=
  let m := k.cand.regs
  match (ownRanges k.cand.owners).find? (fun r => r.2.2.tag ≠ 0xFF &&
    (List.range' (r.1 / 4096) (r.2.1 / 4096 + 1 - r.1 / 4096)).any (fun j => decide (cfgChanOwner m j ≠ r.2.2))) with
  | some r => k.whole [⟨.granule, r.1, r.2.1⟩, ⟨.chan, r.1 / 4096, r.2.1 / 4096⟩]
  | none => none

/-- 0x0308 (R48, R59): a granule or core moved between two owners. -/
def ruleDirectMove (k : Chk) : Option Nat :=
  firstSome [
    match (ownDiff k.base.owners k.cand.owners).find? (fun r =>
      r.2.2.1.tag ≠ 0xFF && r.2.2.2.tag ≠ 0xFF && decide (r.2.2.1 ≠ r.2.2.2)) with
    | some r => k.whole [⟨.granule, r.1, r.2.1⟩]
    | none => none,
    match (List.range 612).find? (fun c => cfgCoreTag k.base.regs c ≠ 0xFF && cfgCoreTag k.cand.regs c ≠ 0xFF &&
      cfgCoreTag k.base.regs c ≠ cfgCoreTag k.cand.regs c) with
    | some c => k.whole [Res.one .core c]
    | none => none]

/-- 0x030A (R50). -/
def ruleCommonsKey (k : Chk) : Option Nat :=
  let m := k.cand.regs
  match (List.range' 1 127).find? (fun n => fldGet m .CMP_COMMONS_CTL_ENABLE n == 1 && fldGet m .CMP_COMMONS_CTL_KEYID n == 0) with
  | some n => k.whole [Res.one .commons n]
  | none => none

/-- The candidate link ports of a slice for a chip, ascending (R116). -/
def linkCandidates (m : List (Nat × Word)) (sl chip : Nat) : List Nat :=
  (cfgLinks m sl).filter (fun p => bitOf p (regGet m .XLT_ROUTE chip))

/-- 0x030B (R58, R117): a remote chip that a slice names without a candidate port; the local chip's bit is ignored. -/
def ruleRemote (k : Chk) : Option Nat :=
  let m := k.cand.regs
  let here := fldGet m .CMP_CHIPNUM_CHIPNUM 0
  match (List.range 129).find? (fun sl => (List.range 64).any (fun c =>
    c != here && bitOf c (regGet m .CMP_CHIPS sl) && (linkCandidates m sl c).isEmpty)) with
  | some sl => k.whole [Res.one .slice sl]
  | none => none

/-- 0x030C (R59): two channels with one PORT. -/
def rulePortShared (k : Chk) : Option Nat :=
  let m := k.cand.regs
  match (List.range 64).find? (fun j => (List.range j).any (fun i => cfgChanPort m i == cfgChanPort m j)) with
  | some j => k.whole ((List.range 64).filterMap (fun i =>
      if cfgChanPort m i = cfgChanPort m j then some (Res.one .chan i) else none))
  | none => none

/-- The designated spare core of cluster `k` (R20). -/
def State.spareCoreOf (s : State) (k : Nat) : Nat := 9 * k + s.ledger.otp.spareCores.getD k 8

/-- The spare core `c` of a cluster has taken the place of a failed core of it that no longer holds a tag: the failed core
is the unusable one, and `c` is bindable in its place (R22). -/
def replacesFailed (s : State) (m : List (Nat × Word)) (c : Nat) : Bool :=
  (List.range' (9 * (c / 9)) 9).any (fun f => s.fld .SPR_CORE_ALIAS_VALID f == 1 && s.fld .SPR_CORE_ALIAS_SUBST f == c &&
    cfgCoreTag m f == 0xFF)

/-- A physical core that no set may bind anew: a core of a designated spare cluster, a failed core, or its cluster's spare
core unless it has taken a failed core's place (R21, R22, R390). -/
def coreUnbindable (s : State) (m : List (Nat × Word)) (c : Nat) : Bool :=
  s.ledger.otp.spareClusters.contains (c / 9) || s.spr.badCores.contains c ||
  (c == s.spareCoreOf (c / 9) && !replacesFailed s m c)

/-- 0x030D (R21, R22). -/
def ruleLimit (k : Chk) : Option Nat :=
  let m := k.cand.regs
  let bound := (List.range 612).filter (fun c => cfgCoreTag m c ≠ 0xFF)
  match bound.find? (fun c => coreUnbindable k.s m c && cfgCoreTag k.base.regs c == 0xFF) with
  | some c => k.whole [Res.one .core c]
  | none => if 512 < bound.length then k.whole [⟨.core, 0, 611⟩] else none

/-- A domain a set may bind a station of: on or switching on, and not switching off (R27). -/
def State.bindable (s : State) (kind : StationKind) (k : Nat) : Bool :=
  let n := domainOf kind k
  (s.pdOn n || s.power.goingOn.contains n) && !s.power.goingOff.contains n

/-- 0x030E (R27): a bound station whose domain is off or switching off. -/
def ruleUnpowered (k : Chk) : Option Nat :=
  let m := k.cand.regs
  firstSome [
    match (List.range 68).find? (fun c => cfgClusterBound m c && !k.s.bindable .cluster c) with
    | some c => k.whole [⟨.core, 9 * c, 9 * c + 8⟩]
    | none => none,
    match (List.range 72).find? (fun p => cfgPortBound m p && !k.s.bindable .memory p) with
    | some p => k.whole ((List.range 64).filterMap (fun j =>
        if cfgChanPort m j = p ∨ cfgChanPort m ((j + 1) % 64) = p then some (Res.one .chan j) else none))
    | none => none,
    match (List.range 16).find? (fun p => cfgLinkOwner m p ≠ 0xFF && !k.s.bindable .link p) with
    | some p => k.whole [Res.one .linkPort p]
    | none => none]

/-- KeyIDs that entries load into the Mill tables. -/
def millKeys (es : List Entry) : List Nat :=
  es.filterMap (fun e => match e.form with
    | .key false _ keyid _ => some keyid
    | _ => none)

/-- Link entries that entries load: port and entry. -/
def linkKeys (es : List Entry) : List (Nat × Nat) :=
  es.filterMap (fun e => match e.form with
    | .key true port keyid _ => some (port, keyid)
    | _ => none)

/-- A key is loaded under a KeyID after T. -/
def Chk.keyAfter (k : Chk) (keyid : Nat) : Bool :=
  keyStateOf k.s.regs keyid == 1 || (millKeys (k.prior ++ k.es)).contains keyid

/-- The attribute a KEY entry needs (R347). -/
def keyAttrFor (link : Bool) (keyid : Nat) : Nat := if link then (if keyid ≤ 1 then 1 else 2) else 0

/-- The Well passes a KEY entry (R340, R341, R353, R368). -/
def wellPasses (s : State) (link : Bool) (keyid src : Nat) : Bool :=
  let x := mapGet KeySlot.init s.well.slots src
  s.well.seed.isSome && decide (x.state = .full) && x.attr == keyAttrFor link keyid

/-- 0x030F: KEY entries first, then commons, then contracts. -/
def ruleKeyAbsent (k : Chk) : Option Nat :=
  let m := k.cand.regs
  firstSome [
    k.entry (fun e => match e with
      | .key link _ keyid src => !wellPasses k.s link keyid src
      | _ => false),
    k.entry (fun e => match e with
      | .reg off _ =>
        (match regAt off with
        | some (.CMP_COMMONS_CTL, n) =>
          -- enabled with this set, or its KEYID staged; KeyID 0 is plaintext and has no key
          fldGet m .CMP_COMMONS_CTL_KEYID n != 0 && !k.keyAfter (fldGet m .CMP_COMMONS_CTL_KEYID n)
        | _ => false)
      | _ => false),
    k.entry (fun e => match e with
      | .reg off _ =>
        (match regAt off with
        | some (.ADM_CONTRACT, i) =>
          ctValid m (i / 8) && ctKeyid m (i / 8) != 0 && !k.keyAfter (ctKeyid m (i / 8))
        | _ => false)
      | _ => false)]

/-- Cluster `k` is a healthy spare of the designation (R20): it has not failed, and neither it nor any of its cores serves
in place of another unit. -/
def State.clusterSpare (s : State) (k : Nat) : Bool :=
  s.ledger.otp.spareClusters.contains k && !s.spr.badClusters.contains k && !s.spr.usedClusters.contains k &&
  !s.spr.usedCores.any (fun c => c / 9 == k)

/-- Memory port `p` serves under a configuration: the PORT of a bound channel names it, or a rebuild moves leaves to it. -/
def State.portServes (s : State) (m : List (Nat × Word)) (p : Nat) : Bool :=
  (List.range 64).any (fun j => (cfgChanOwner m j).tag ≠ 0xFF && cfgChanPort m j == p) ||
  (s.fld .SPR_REBUILD_BUSY == 1 && s.fld .SPR_REBUILD_TO == p)

/-- Port `p` is a healthy spare of the designation under a configuration (R20). -/
def State.portSpare (s : State) (m : List (Nat × Word)) (p : Nat) : Bool :=
  s.ledger.otp.sparePorts.contains p && !s.spr.badPorts.contains p && !s.portServes m p

/-- A healthy, powered spare cluster (R20). -/
def State.spareCluster (s : State) : Bool :=
  s.ledger.otp.spareClusters.any (fun c => s.stationOn .cluster c && s.clusterSpare c)

/-- A healthy, powered spare memory port under a configuration (R20). -/
def State.sparePort (s : State) (m : List (Nat × Word)) : Bool :=
  s.ledger.otp.sparePorts.any (fun p => s.stationOn .memory p && s.portSpare m p)

/-- Lane 8 of a link port is healthy, unused and powered. -/
def State.spareLane (s : State) (p : Nat) : Bool :=
  s.stationOn .link p && s.fld .LNK_LANE_MAPPED_OUT p == 0xF && !bitOf 8 (word (s.fld .LNK_LANE_FAILED p))

/-- The port of a bound channel. -/
def cfgPortServes (m : List (Nat × Word)) (p : Nat) : Bool :=
  (List.range 64).any (fun j => (cfgChanOwner m j).tag ≠ 0xFF && cfgChanPort m j == p)

/-- 0x0310: a newly bound cluster, memory port or link port without a spare of its kind. -/
def ruleNoSpare (k : Chk) : Option Nat :=
  let m := k.cand.regs
  let b := k.base.regs
  firstSome [
    match (List.range 68).find? (fun c => cfgClusterBound m c && !cfgClusterBound b c) with
    | some c => if k.s.spareCluster then none else k.whole [⟨.core, 9 * c, 9 * c + 8⟩]
    | none => none,
    match (List.range 72).find? (fun p => cfgPortServes m p && !cfgPortServes b p) with
    | some p => if k.s.sparePort m then none else k.whole ((List.range 64).filterMap (fun j =>
        if cfgChanPort m j = p then some (Res.one .chan j) else none))
    | none => none,
    match (List.range 16).find? (fun p => cfgLinkOwner m p ≠ 0xFF && cfgLinkOwner b p == 0xFF && !k.s.spareLane p) with
    | some p => k.whole [Res.one .linkPort p]
    | none => none]

/-- 0x0313 (R182, R331): a key for a KeyID that is not EMPTY, or for a link entry that is not empty. -/
def ruleKeyRetiring (k : Chk) : Option Nat :=
  k.entry (fun e => match e with
    | .key false _ keyid _ => keyStateOf k.s.regs keyid != 0 || (millKeys k.prior).contains keyid
    | .key true port keyid _ =>
      (k.s.link port).keys.any (fun x => x.1 == keyid) || (linkKeys k.prior).contains (port, keyid)
    | _ => false)

/-- Granules of a window that an owner holds in an ownership table. -/
def ownsIn (t : List (Nat × Owner)) (o : Owner) (first last : Nat) : Bool :=
  (ownRanges t).any (fun r => decide (r.2.2 = o) && overlap r.1 r.2.1 first last)

/-- 0x1405 (R309): a memory set that holds granules before and after the set changes its number of channels. -/
def ruleResize (k : Chk) : Option Nat :=
  match (chanOwners k.cand.regs).find? (fun o =>
    let x := cfgChannels k.base.regs o
    let y := cfgChannels k.cand.regs o
    x.length ≠ y.length && ownsIn k.base.owners o 0 262143 && ownsIn k.cand.owners o 0 262143) with
  | some o => k.whole ((cfgChannels k.base.regs o ++ cfgChannels k.cand.regs o).map (Res.one .chan))
  | none => none

/-- The cores, memory set, link ports, PASIDs or commons memberships of a slice change (R310). -/
def boundChanged (a b : Cfg) (sl : Nat) : Bool :=
  !(cfgCores a.regs sl == cfgCores b.regs sl && cfgChannels a.regs ⟨sl, 0⟩ == cfgChannels b.regs ⟨sl, 0⟩ &&
    cfgLinks a.regs sl == cfgLinks b.regs sl && cfgPasids a.regs sl == cfgPasids b.regs sl &&
    (List.range' 1 127).all (fun n => cfgMember a.regs n sl == cfgMember b.regs n sl))

/-- 0x1406 (R310). -/
def ruleFrozen (k : Chk) : Option Nat :=
  match (List.range' 1 128).find? (fun sl =>
    let st := k.s.fld .TEN_SLICE_STATE_STATE sl
    decide (2 ≤ st) && boundChanged k.base k.cand sl &&
    !((st == 3 || st == 5) && cfgEnabled k.base.regs sl && !cfgEnabled k.cand.regs sl)) with
  | some sl => k.whole [Res.one .slice sl]
  | none => none

/-- The first consistency rule a set breaks: code and DETAIL (R79, R80). -/
def Chk.consistency (k : Chk) (overflow : Bool) : Option (Nat × Nat) :=
  let tag := fun (code : Nat) (o : Option Nat) => o.map (fun d => (code, d))
  firstSome [
    tag 0x0301 (ruleEntry k),
    if overflow then some (0x0302, 4096) else none,
    tag 0x0303 (k.entry tagRangeBad),
    tag 0x0304 (ruleDisabled k),
    tag 0x0305 (rulePasid k),
    tag 0x0306 (ruleMemset k),
    tag 0x0307 (ruleGranuleOwner k),
    tag 0x0308 (ruleDirectMove k),
    tag 0x0309 (k.entry (fun e => match e with
      | .row _ _ last => decide (262143 < last)
      | _ => false)),
    tag 0x030A (ruleCommonsKey k),
    tag 0x030B (ruleRemote k),
    tag 0x030C (rulePortShared k),
    tag 0x030D (ruleLimit k),
    tag 0x030E (ruleUnpowered k),
    tag 0x030F (ruleKeyAbsent k),
    tag 0x0310 (ruleNoSpare k),
    tag 0x0313 (ruleKeyRetiring k),
    tag 0x1405 (ruleResize k),
    tag 0x1406 (ruleFrozen k)]

/-! ## Conflicts (R78) -/

/-- The contracts the set names. -/
def namedContracts (es : List Entry) : List Nat :=
  es.filterMap (fun e => match e.form with
    | .reg off _ => (match regAt off with
      | some (.ADM_CONTRACT, i) => some (i / 8)
      | _ => none)
    | _ => none)

/-- An owner as a resource: its slice or its commons. -/
def ownerRes (o : Owner) : List Res := if o.tag = 0xFE then [Res.one .commons o.cid] else sliceRes o.tag

/-- Everything a change touches: what the entries name, the slices touched, the contracts the Reeve evaluates and the
pools it checks. -/
def touches (g : Granary) (a b : Cfg) (es : List Entry) (evaluated : List Nat) : List Res :=
  es.flatMap Entry.names ++
  ((List.range 129).filter (sliceTouched a b)).map (Res.one .slice) ++
  evaluated.map (Res.one .contract) ++
  (poolsToCheck g a b evaluated).map (fun p => Res.one .pool (p.kind * 256 + p.id)) ++
  -- the ports of re-bound channels, before and after, and the owners of granules that change hands
  ((List.range 64).filter (fun j => decide (cfgChanOwner a.regs j ≠ cfgChanOwner b.regs j ∨
      cfgChanPort a.regs j ≠ cfgChanPort b.regs j))).flatMap (fun j =>
    [Res.one .port (cfgChanPort a.regs j), Res.one .port (cfgChanPort b.regs j)] ++
      ownerRes (cfgChanOwner a.regs j) ++ ownerRes (cfgChanOwner b.regs j)) ++
  ((ownDiff a.owners b.owners).filter (fun r => decide (r.2.2.1 ≠ r.2.2.2))).flatMap (fun r =>
    ownerRes r.2.2.1 ++ ownerRes r.2.2.2)

/-- The contracts the Reeve evaluates for a slot at its floor (R95). -/
def Chk.evaluated (k : Chk) (floor : Nat) : List Nat :=
  contractsToEval k.s.spr k.base k.cand (namedContracts k.es) (decide (floor ≠ k.s.fld .ADM_FLOOR_FLOOR_MHZ))

/-- Two sets conflict (R78). -/
def conflicts (s : State) (x y : CsSlot) : Bool :=
  let kx := s.chk x
  let ky := s.chk y
  let tx := touches s.spr kx.base kx.cand x.entries (kx.evaluated x.floor)
  let ty := touches s.spr ky.base ky.cand y.entries (ky.evaluated y.floor)
  tx.any (fun r => ty.any (fun q => r.meets q))

/-! ## Holds (R84) -/

/-- Cores that a change unbinds. -/
def unboundCores (a b : Cfg) : List Nat :=
  (List.range 612).filter (fun c => cfgCoreTag a.regs c ≠ 0xFF && cfgCoreTag b.regs c == 0xFF)

/-- A core is between tiles (R219): it runs none. -/
def State.atBoundary (s : State) (c : Nat) : Bool := !s.sched.tiles.any (fun t => t.1 == c)

/-- A change from `a` to `b` enables slice `sl`, or gives it a core, granule, logical channel, link port, PASID or commons
membership (R84). -/
def givesTo (a b : Cfg) (sl : Nat) : Bool :=
  (!cfgEnabled a.regs sl && cfgEnabled b.regs sl) ||
  (cfgCores b.regs sl).any (fun c => cfgCoreTag a.regs c != sl) ||
  (cfgChannels b.regs ⟨sl, 0⟩).any (fun j => decide (cfgChanOwner a.regs j ≠ ⟨sl, 0⟩)) ||
  (cfgLinks b.regs sl).any (fun p => cfgLinkOwner a.regs p != sl) ||
  (cfgPasids b.regs sl).any (fun x => !(cfgPasids a.regs sl).contains x) ||
  (List.range' 1 127).any (fun n => cfgMember b.regs n sl && !cfgMember a.regs n sl) ||
  (ownDiff a.owners b.owners).any (fun r => r.2.2.2.tag == sl && r.2.2.1.tag != sl)

/-- A condition of R84 holds a set that has passed. -/
def held (s : State) (x : CsSlot) : Bool :=
  let k := s.chk x
  -- a granule it binds still scrubs, or a set before it has yet to release it
  (ownDiff k.base.owners k.cand.owners).any (fun r => r.2.2.2.tag ≠ 0xFF && decide (r.2.2.1 ≠ r.2.2.2) &&
    ((s.comp.scrubbing ++ s.comp.flushing).any (fun q => overlap q.first q.last r.1 r.2.1) ||
     (cutAt s.comp.owners r.1 r.2.1).any (fun q => (ownerAt s.comp.owners q.1).tag ≠ 0xFF))) ||
  -- a core it binds is being zeroed, or a set before it has yet to unbind it
  (List.range 612).any (fun c => cfgCoreTag k.base.regs c == 0xFF && cfgCoreTag k.cand.regs c ≠ 0xFF &&
    (s.comp.zeroing.contains c || cfgCoreTag s.regs c ≠ 0xFF)) ||
  -- a slice it enables or gives resources is being torn down, or a set before it has yet to disable it
  (List.range' 1 128).any (fun sl =>
    (s.comp.tearing.any (fun t => t.1 == sl) || (cfgEnabled s.regs sl && !cfgEnabled k.base.regs sl)) &&
    givesTo k.base k.cand sl) ||
  -- a departing core has not reached a boundary
  !x.departing.isEmpty ||
  -- the number of channels of a memory set changes while its window scrubs
  (chanOwners k.cand.regs ++ chanOwners k.base.regs).any (fun o =>
    let y := cfgChannels k.base.regs o
    let z := cfgChannels k.cand.regs o
    y.length ≠ z.length && (y ++ z).any (fun j =>
      (s.comp.scrubbing ++ s.comp.flushing).any (fun q => overlap q.first q.last (4096 * j) (4096 * j + 4095))))

end Sys2Proof.Machine
end

