-- ==== Sys2Proof/Machine/Records.lean ====
section
/-! DEFINITION. The object table's records (R266–R271), the rings the block writes (R131, R276, R426), notices, fences
(R286) and the charging of energy (R403): the operations that rings, tiles and tenancy share. -/

namespace Sys2Proof.Machine

open Sys2Proof

/-! ## Records -/

/-- A line of the object table has changed: it is to be written to memory (R266). Lines count from the table's base. -/
def Obj.touch (o : Obj) (line : Nat) : Obj := if o.dirty.contains line then o else { o with dirty := o.dirty ++ [line] }

/-- A record that was not resident is read (R266): the lines of the table it lies in. -/
def Obj.want (o : Obj) (lines : List Nat) : Obj := { o with wanted := o.wanted ++ lines.filter (fun l => !o.wanted.contains l) }

/-- Line of a word of a context, queue, fence and memory-object record (R266). -/
def ctxLine (c w : Nat) : Nat := 32 * c + w / 16
def queueLine (q : Nat) : Nat := 0x40000 + q / 2
def fenceLine (f : Nat) : Nat := 0x42000 + f / 8
def memLine (o : Nat) : Nat := 0x44000 + o / 4

def State.setCtxWord (s : State) (c w : Nat) (v : Word) : State :=
  { s with obj := { s.obj with contexts := mapSet 0 s.obj.contexts (c * 512 + w) v }.touch (ctxLine c w) }
def State.qWord (s : State) (q w : Nat) : Word := mapGet 0 s.obj.queues (q * 8 + w)
def State.setQWord (s : State) (q w : Nat) (v : Word) : State :=
  { s with obj := { s.obj with queues := mapSet 0 s.obj.queues (q * 8 + w) v }.touch (queueLine q) }
def State.fWord (s : State) (f w : Nat) : Word := mapGet 0 s.obj.fences (f * 2 + w)
def State.setFWord (s : State) (f w : Nat) (v : Word) : State :=
  { s with obj := { s.obj with fences := mapSet 0 s.obj.fences (f * 2 + w) v }.touch (fenceLine f) }
def State.mWord (s : State) (o w : Nat) : Word := mapGet 0 s.obj.memobjs (o * 4 + w)
def State.setMWord (s : State) (o w : Nat) (v : Word) : State :=
  { s with obj := { s.obj with memobjs := mapSet 0 s.obj.memobjs (o * 4 + w) v }.touch (memLine o) }

/-- Replace bits of a context, queue, fence or memory-object word. -/
def State.putCtx (s : State) (c w hi lo v : Nat) : State := s.setCtxWord c w (setBits hi lo v (s.ctxWord c w))
def State.putQ (s : State) (q w hi lo v : Nat) : State := s.setQWord q w (setBits hi lo v (s.qWord q w))
def State.putF (s : State) (f w hi lo v : Nat) : State := s.setFWord f w (setBits hi lo v (s.fWord f w))
def State.putM (s : State) (o w hi lo v : Nat) : State := s.setMWord o w (setBits hi lo v (s.mWord o w))

/-- Contexts: STATE, SLICE, PROCESS (R268) and the translation words (R100). -/
def State.ctxState (s : State) (c : Nat) : Nat := getBits 63 61 (s.ctxWord c 0)
def State.ctxSlice (s : State) (c : Nat) : Nat := getBits 55 48 (s.ctxWord c 0)
def State.ctxProcess (s : State) (c : Nat) : Nat := getBits 31 0 (s.ctxWord c 0)
def State.ctxPasid (s : State) (c : Nat) : Nat := getBits 19 0 (s.ctxWord c 10)
def State.ctxGen (s : State) (c : Nat) : Nat := getBits 63 32 (s.ctxWord c 10)
def State.ctxMigEn (s : State) (c : Nat) : Bool := bitOf 21 (s.ctxWord c 10)
def State.setCtxState (s : State) (c v : Nat) : State := s.putCtx c 0 63 61 v

/-- GEN advances by 1 (R122, R123). -/
def State.bumpGen (s : State) (c : Nat) : State := s.putCtx c 10 63 32 (s.ctxGen c + 1)

/-- Scheduling words (R214). -/
def State.scHasContract (s : State) (c : Nat) : Bool := bitOf 56 (s.ctxWord c 12)
def State.scContract (s : State) (c : Nat) : Nat := getBits 55 48 (s.ctxWord c 12)
def State.scUnits (s : State) (c : Nat) : Nat := getBits 46 40 (s.ctxWord c 12)
def State.scBase (s : State) (c : Nat) : Nat := getBits 38 32 (s.ctxWord c 12)
def State.scCount (s : State) (c : Nat) : Nat := getBits 24 16 (s.ctxWord c 12) + 1
def State.scFirst (s : State) (c : Nat) : Nat := getBits 8 0 (s.ctxWord c 12)
def State.scQuantumUs (s : State) (c : Nat) : Nat := getBits 31 0 (s.ctxWord c 13)
def State.scPreloadDva (s : State) (c : Nat) : Nat := getBits 47 0 (s.ctxWord c 14)
def State.scPreloadEn (s : State) (c : Nat) : Bool := bitOf 0 (s.ctxWord c 15)

/-- Queues (R269). -/
def State.qState (s : State) (q : Nat) : Nat := getBits 63 61 (s.qWord q 0)
def State.qIrqEn (s : State) (q : Nat) : Bool := bitOf 60 (s.qWord q 0)
def State.qCtx (s : State) (q : Nat) : Nat := getBits 44 32 (s.qWord q 0)
def State.qSlice (s : State) (q : Nat) : Nat := s.ctxSlice (s.qCtx q)
def State.sqLog2 (s : State) (q : Nat) : Nat := getBits 4 0 (s.qWord q 1)
def State.sqBase (s : State) (q : Nat) : Nat := getBits 63 12 (s.qWord q 1) * 4096
def State.cqLog2 (s : State) (q : Nat) : Nat := getBits 4 0 (s.qWord q 2)
def State.cqBase (s : State) (q : Nat) : Nat := getBits 63 12 (s.qWord q 2) * 4096
def State.sqTail (s : State) (q : Nat) : Nat := getBits 63 48 (s.qWord q 3)
def State.sqHead (s : State) (q : Nat) : Nat := getBits 47 32 (s.qWord q 3)
def State.cqTail (s : State) (q : Nat) : Nat := getBits 31 16 (s.qWord q 3)
def State.cqHead (s : State) (q : Nat) : Nat := getBits 15 0 (s.qWord q 3)
def State.qPendingErr (s : State) (q : Nat) : Nat := getBits 47 32 (s.qWord q 4)
def State.setQState (s : State) (q v : Nat) : State := s.putQ q 0 63 61 v
def State.setSqHead (s : State) (q v : Nat) : State := s.putQ q 3 47 32 v
def State.setPendingErr (s : State) (q v : Nat) : State := s.putQ q 4 47 32 v

/-- Differences of 16-bit ring indices (R278). -/
def idxSub (a b : Nat) : Nat := (a + 65536 - b % 65536) % 65536

/-- Commands queued on `q` (R278). -/
def State.sqCount (s : State) (q : Nat) : Nat := idxSub (s.sqTail q) (s.sqHead q)

/-- Fences (R270). -/
def State.fLife (s : State) (f : Nat) : Life := mapGet .free s.obj.fenceLife f
def State.fState (s : State) (f : Nat) : Nat := getBits 61 60 (s.fWord f 0)
def State.fSlice (s : State) (f : Nat) : Nat := getBits 55 48 (s.fWord f 0)
def State.fProcess (s : State) (f : Nat) : Nat := getBits 31 0 (s.fWord f 0)
def State.fShared (s : State) (f : Nat) : Bool := bitOf 62 (s.fWord f 0)
def State.fCode (s : State) (f : Nat) : Nat := getBits 47 32 (s.fWord f 0)
def State.setFLife (s : State) (f : Nat) (l : Life) : State :=
  { s with obj := { s.obj with fenceLife := mapSet .free s.obj.fenceLife f l } }

/-- Memory objects (R271). -/
def State.mLife (s : State) (o : Nat) : Life := mapGet .free s.obj.memLife o
def State.mState (s : State) (o : Nat) : Nat := getBits 62 61 (s.mWord o 0)
def State.mSlice (s : State) (o : Nat) : Nat := getBits 55 48 (s.mWord o 0)
def State.mProcess (s : State) (o : Nat) : Nat := getBits 31 0 (s.mWord o 0)
def State.mBase (s : State) (o : Nat) : Nat := getBits 47 0 (s.mWord o 1)
def State.mPagesM1 (s : State) (o : Nat) : Nat := getBits 35 0 (s.mWord o 2)
def State.mPin (s : State) (o : Nat) : Nat := getBits 31 0 (s.mWord o 3)
def State.setMLife (s : State) (o : Nat) (l : Life) : State :=
  { s with obj := { s.obj with memLife := mapSet .free s.obj.memLife o l } }

/-- The records of a kind that hold anything: contexts, queues, fences, memory objects. -/
def recordsOf (words : Nat) (m : List (Nat × Word)) : List Nat := ((m.map (fun e => e.1 / words)).eraseDups)
def State.liveContexts (s : State) : List Nat := (recordsOf 512 s.obj.contexts).filter (fun c => decide (2 ≤ s.ctxState c))
def State.liveQueues (s : State) : List Nat := (recordsOf 8 s.obj.queues).filter (fun q => decide (2 ≤ s.qState q))
def State.liveFences (s : State) : List Nat :=
  (s.obj.fenceLife.filter (fun e => decide (e.2 = .live))).map (·.1)
def State.liveMemobjs (s : State) : List Nat := (s.obj.memLife.filter (fun e => decide (e.2 = .live))).map (·.1)

/-- A record becomes FREE: its words are zero. -/
def State.freeContext (s : State) (c : Nat) : State :=
  let lines := ((s.obj.contexts.filter (fun e => e.1 / 512 == c)).map (fun e => ctxLine c (e.1 % 512))).dedup
  { s with obj := lines.foldl Obj.touch { s.obj with contexts := s.obj.contexts.filter (fun e => e.1 / 512 ≠ c) } }
def State.freeQueue (s : State) (q : Nat) : State :=
  { s with obj := { s.obj with queues := s.obj.queues.filter (fun e => e.1 / 8 ≠ q) }.touch (queueLine q) }
def State.freeFence (s : State) (f : Nat) : State :=
  { s with obj := { s.obj with fences := s.obj.fences.filter (fun e => e.1 / 2 ≠ f),
                               fenceLife := mapErase s.obj.fenceLife f,
                               resFences := s.obj.resFences.filter (· ≠ f) }.touch (fenceLine f) }
def State.freeMemobj (s : State) (o : Nat) : State :=
  { s with obj := { s.obj with memobjs := s.obj.memobjs.filter (fun e => e.1 / 4 ≠ o),
                               memLife := mapErase s.obj.memLife o }.touch (memLine o) }

/-! ## Errors with a last-error register -/

/-- An ERROR of HIF (R299): the record and HIF_LAST_ERR. -/
def State.hifErr (s : State) (code q pasid : Nat) (slice : Nat := 0) : State :=
  (s.wr .HIF_LAST_ERR 0 (setBits 63 48 code (setBits 45 32 q (setBits 19 0 pasid 0)))).err code slice (word q)

/-- An ERROR of OBJ (R299): the record and OBJ_LAST_ERR. -/
def State.objErr (s : State) (code slice q c : Nat) : State :=
  (s.wr .OBJ_LAST_ERR 0 (setBits 63 48 code (setBits 47 40 slice (setBits 39 26 q (setBits 12 0 c 0))))).err code slice
    (word q)

/-! ## Posted writes and rings -/

/-- A posted write leaves on HP_ (R426). -/
def State.postWrite (s : State) (use : PostUse) (addr : Nat) (pasid : Option Nat) (data : List Word) : State :=
  let id := s.hif.nextPost
  { s with hif := { s.hif with posts := s.hif.posts ++ [⟨id, use, data⟩], nextPost := id + 1 },
           out := s.out ++ [.hostWrite id addr pasid data] }

/-- The tag of the next host read: the first from the last one on that no read uses. -/
def State.hostTag (s : State) : Nat :=
  (((List.range 1024).map (fun i => (s.hif.nextTag + i) % 1024)).find? (fun i => !s.hif.reads.any (fun r => r.1 == i))).getD
    s.hif.nextTag

/-- A host read leaves on HP_ under a 10-bit tag (R426). -/
def State.hostRead (s : State) (use : DmaUse) (addr len : Nat) (pasid : Option Nat) : State :=
  let tag := s.hostTag
  { s with hif := { s.hif with reads := mapPut s.hif.reads tag (use, len), nextTag := (tag + 1) % 1024 },
           out := s.out ++ [.hostRead tag addr len pasid] }

/-- Writes of a use that have not been taken. -/
def State.inFlight (s : State) (p : PostUse → Bool) : Nat := (s.hif.posts.filter (fun x => p x.use)).length

/-- Records in a ring whose LOG2_SIZE must lie between `lo` and `hi`; none while the ring is disabled. -/
def ringSize (lo hi : Nat) (w : Word) : Option Nat :=
  let l := getBits 4 0 w
  if lo ≤ l ∧ l ≤ hi then some (2 ^ l) else none

/-- The slot of the next record of a ring with `k` writes under way, if the ring has space (R131). -/
def ringSlot (size head tail k : Nat) : Option Nat :=
  let h := (head + k) % size
  if (h + 1) % size = tail % size then none else some h

/-- Write the oldest waiting notice, if the ring has space. -/
def State.noticeStep (s : State) : State :=
  match s.obj.notices with
  | [] => s
  | n :: t =>
    let base := s.rd .OBJ_NR_BASE 0
    match ringSize 6 16 base with
    | none => s
    | some sz =>
      match ringSlot sz (s.fld .OBJ_NR_HEAD_INDEX) (s.fld .OBJ_NR_TAIL_INDEX) (s.inFlight (fun u => decide (u = .notice))) with
      | none => s
      | some h =>
        { s with obj := { s.obj with notices := t } }.postWrite .notice (getBits 63 12 base * 4096 + 8 * h) none [n.word]

/-- Apply a state change `n` times. -/
def iterate (f : State → State) : Nat → State → State
  | 0, s => s
  | n + 1, s => iterate f n (f s)

/-- Write every waiting notice that the ring has space for. -/
def State.pumpNotices (s : State) : State := iterate State.noticeStep s.obj.notices.length s

/-- The word of a notice (R276). -/
def noticeWord (kind event code slice index : Nat) : Word :=
  setBits 63 60 kind (setBits 59 56 event (setBits 55 40 code (setBits 39 32 slice (setBits 31 0 index 0))))

/-- Two notices of one EVENT for one object (R277). -/
def sameNotice (a b : Word) : Bool :=
  getBits 63 56 a == getBits 63 56 b && getBits 39 0 a == getBits 39 0 b

/-- Post a notice (R276, R277): it replaces a waiting one of the same EVENT for the same object. -/
def State.notice (s : State) (kind event code slice index : Nat) : State :=
  let w := noticeWord kind event code slice index
  let l := s.obj.notices
  let l' := if l.any (fun n => sameNotice n.word w) then modifyFirst (fun n => sameNotice n.word w) (fun _ => ⟨w⟩) l
            else l ++ [⟨w⟩]
  { s with obj := { s.obj with notices := l' } }.pumpNotices

/-- Write the oldest waiting fault record, if the fault ring has space (R131). -/
def State.faultStep (s : State) : State :=
  match s.xlt.waiting with
  | [] => s
  | r :: t =>
    let base := s.rd .XLT_FR_BASE 0
    match ringSize 10 16 base with
    | none => s
    | some sz =>
      match ringSlot sz (s.fld .XLT_FR_HEAD_INDEX) (s.fld .XLT_FR_TAIL_INDEX)
          (s.inFlight (fun u => decide (u = .faultRecord))) with
      | none => s
      | some h =>
        { s with xlt := { s.xlt with waiting := t } }.postWrite .faultRecord (getBits 63 12 base * 4096 + 32 * h) none r

/-- Write every waiting fault record that the ring has space for. -/
def State.pumpFaults (s : State) : State := iterate State.faultStep s.xlt.waiting.length s

/-- The next SEQ of a context (R129). -/
def State.nextSeq (s : State) (c : Nat) : Nat × State :=
  let n := mapGet 0 s.xlt.seqs c
  let n' := if n = 0xFFFFFFFF then 1 else n + 1
  (n', { s with xlt := { s.xlt with seqs := mapSet 0 s.xlt.seqs c n' } })

/-- What a fault record says (R129). -/
structure FaultInfo where
  slice   : Nat
  access  : Nat
  level   : Nat
  dva     : Nat
  code    : Nat
  station : Nat
  core    : Nat
  engine  : Nat
  drover  : Bool
  pasid   : Nat
  ctx     : Nat
  word2   : Word
  deriving DecidableEq, Repr

/-- Post a fault record; answer its SEQ. -/
def State.postFault (s : State) (f : FaultInfo) : Nat × State :=
  let (seq, s) := s.nextSeq f.ctx
  let w0 := setBits 63 56 f.slice (setBits 55 52 f.access (setBits 51 48 f.level (setBits 47 0 f.dva 0)))
  let w1 := setBits 63 48 f.code (setBits 47 40 f.station (setBits 39 36 f.core (setBits 35 34 f.engine
    (setBits 33 33 (bit01 f.drover) (setBits 32 13 f.pasid (setBits 12 0 f.ctx 0))))))
  let w3 := setBits 63 32 seq (setBits 31 0 s.clock.gtb 0)
  let s := { s with xlt := { s.xlt with waiting := s.xlt.waiting ++ [[w0, w1, f.word2, w3]] } }
  let s := if f.code = 0x070B then s.err 0x070B f.slice (word f.dva) else s
  (seq, s.pumpFaults)

/-! ## Fences -/

/-- The fence takes one of the 1,024 resident entries, most recent first (R266). -/
def State.touchFence (s : State) (f : Nat) : State :=
  let s := if s.obj.resFences.contains f then s else { s with obj := s.obj.want [fenceLine f] }
  { s with obj := { s.obj with resFences := (f :: s.obj.resFences.filter (· ≠ f)).take 1024 } }

/-- Signal a fence (R286): SIGNALLED for code 0, else SIGNALLED_ERROR; a repeat is ignored and recorded. -/
def State.signalFence (s : State) (f code : Nat) : State :=
  if s.fLife f = .live then
    let s := s.touchFence f
    if s.fState f = 0 then
      (((s.putF f 0 61 60 (if code = 0 then 1 else 2)).putF f 0 47 32 code).setFWord f 1 (word s.clock.gtb))
    else s.objErr 0x0206 (s.fSlice f) 0 0
  else s

/-- A fence ends UNSIGNALLED with an error, if it still stands so (R39, R288, R295). -/
def State.breakFence (s : State) (f code : Nat) : State :=
  if s.fLife f = .live ∧ s.fState f = 0 then s.signalFence f code else s

/-! ## Energy (R403) -/

/-- Charge pJ to context `c`, or to the manager under 8192; whole µJ advance the totals, the rest carries forward. -/
def State.charge (s : State) (c pj : Nat) : State :=
  let t := mapGet 0 s.mon.rest c + pj
  let uj := t / 1000000
  let sl := if c = 8192 then 0 else s.ctxSlice c
  let s := { s with mon := { s.mon with
    rest := mapSet 0 s.mon.rest c (t % 1000000),
    sliceUj := mapSet 0 s.mon.sliceUj sl (mapGet 0 s.mon.sliceUj sl + uj) } }
  let s := s.wr .MON_ENERGY_TOTAL 0 (s.rd .MON_ENERGY_TOTAL 0 + word uj)
  if c = 8192 then s else s.setCtxWord c 1 (s.ctxWord c 1 + word uj)

/-- The queue whose running command a requester's work belongs to: that of its tile, or of the Drover phase of its context. -/
def State.workQueue (s : State) (c core : Nat) : Option Nat :=
  match s.sched.tiles.find? (fun t => t.1 == core && t.2.ctx == c) with
  | some t => some t.2.queue
  | none =>
    if core < 612 then none
    else match s.drv.journals.find? (fun j => j.ctx == c && j.queue.isSome) with
      | some j => j.queue
      | none => none

/-- Add pJ to what the running command of a queue has used (R285, R403). -/
def State.chargeCmd (s : State) (q pj : Nat) : State :=
  s.modQueueRun q (fun r => { r with running := r.running.map (fun rc => { rc with energy := rc.energy + pj }) })

/-- Charge pJ of work that requester `core` issued for context `c`, and its command with it; what a replayed tile issues is
the manager's (R403). -/
def State.chargeWork (s : State) (c core pj : Nat) : State :=
  if s.sched.tiles.any (fun t => t.1 == core && t.2.ctx == c && t.2.replay) then s.charge 8192 pj
  else
    let s := s.charge c pj
    match s.workQueue c core with
    | some q => if c = 8192 then s else s.chargeCmd q pj
    | none => s

/-! ## The manager's window -/

/-- Granules of [first, last] all owned by 0x00 (R103, R266). -/
def State.managerOwns (s : State) (first last : Nat) : Bool :=
  (cutAt s.comp.owners first last).all (fun r => (ownerAt s.comp.owners r.1).tag == 0)

end Sys2Proof.Machine
end

