-- ==== Sys2Proof/Machine/Mailbox.lean ====
section
/-! DEFINITION. The mailbox of a slice (R300–R306): its words, TEN's messages to the tenant, and the view. -/

namespace Sys2Proof.Machine

open Sys2Proof

/-- Word `w` of the mailbox of slice `sl`. -/
def State.mbx (s : State) (sl w : Nat) : Word := mapGet 0 s.ten.mailbox (sl * 2048 + w)
def State.setMbx (s : State) (sl w : Nat) (v : Word) : State :=
  { s with ten := { s.ten with mailbox := mapSet 0 s.ten.mailbox (sl * 2048 + w) v } }

/-- Ring indices: T2M_TAIL, T2M_HEAD, M2T_TAIL, M2T_HEAD (R301). -/
def State.t2mTail (s : State) (sl : Nat) : Nat := getBits 15 0 (s.mbx sl 0)
def State.t2mHead (s : State) (sl : Nat) : Nat := getBits 15 0 (s.mbx sl 1)
def State.m2tTail (s : State) (sl : Nat) : Nat := getBits 15 0 (s.mbx sl 2)
def State.m2tHead (s : State) (sl : Nat) : Nat := getBits 15 0 (s.mbx sl 3)

/-- Word `w` of T2M message `i` (R301, R302). -/
def State.t2mWord (s : State) (sl i w : Nat) : Word := s.mbx sl (1024 + 8 * (i % 64) + w)

/-- Set the slice's bit of a PENDING array (R304, R305). -/
def State.setPending (s : State) (r : Reg) (sl : Nat) : State :=
  s.wr r ((sl - 1) / 64) (s.rd r ((sl - 1) / 64) ||| word (1 <<< ((sl - 1) % 64)))

/-- Place eight words in the M2T ring (R305). -/
def State.placeM2t (s : State) (sl : Nat) (ws : List Word) : State :=
  let i := s.m2tTail sl
  let s := forEach (List.range 8) s (fun w s => s.setMbx sl (1536 + 8 * (i % 64) + w) (ws.getD w 0))
  (s.setMbx sl 2 (word ((i + 1) % 65536))).setPending .TEN_M2T_PENDING sl

/-- The M2T ring has a free slot (R302). -/
def State.m2tSpace (s : State) (sl : Nat) : Bool := decide (idxSub (s.m2tTail sl) (s.m2tHead sl) < 64)

/-- TYPE of a message. -/
def msgType (ws : List Word) : Nat := getBits 63 56 (ws.headD 0)

/-- TEN sends a message; it waits when the ring is full, one of each TYPE (R305). -/
def State.sendM2t (s : State) (sl : Nat) (ws : List Word) : State :=
  if s.m2tSpace sl && !s.ten.waiting.any (fun x => x.1 == sl) then s.placeM2t sl ws
  else
    let l := s.ten.waiting
    let same := fun (x : Nat × Nat × List Word) => x.1 == sl && x.2.1 == msgType ws
    let l' := if l.any same then modifyFirst same (fun _ => (sl, msgType ws, ws)) l else l ++ [(sl, msgType ws, ws)]
    { s with ten := { s.ten with waiting := l' } }

/-- Place the oldest waiting message of the slice, if there is space. -/
def State.m2tStep (sl : Nat) (s : State) : State :=
  match s.ten.waiting.find? (fun x => x.1 == sl) with
  | some m =>
    if s.m2tSpace sl then
      { s with ten := { s.ten with waiting := eraseFirst (fun x => x.1 == sl) s.ten.waiting } }.placeM2t sl m.2.2
    else s
  | none => s

/-- Place every waiting message of the slice that has space. -/
def State.pumpM2t (s : State) (sl : Nat) : State := iterate (State.m2tStep sl) s.ten.waiting.length s

/-- RESIZE_NOTICE (R303, R307): phase 1 PASSED, 2 DONE, 3 CANCELLED. -/
def State.resizeNotice (s : State) (sl phase ticket t : Nat) : State :=
  s.sendM2t sl [setBits 63 56 0x83 0, setBits 63 62 phase (setBits 31 0 ticket 0), word t]

/-- FREEZE_NOTICE (R303): 1 FROZEN, 2 THAWED, 3 RESTORED. -/
def State.freezeNotice (s : State) (sl event : Nat) : State :=
  s.sendM2t sl [setBits 63 56 0x84 0, word event, word s.clock.gtb]

/-- Two bytes of the position map: four positions a word (R306). -/
def positionWord (cores : List Nat) (w : Nat) : Word :=
  word ((List.range 4).foldl (fun n i => n + cores.getD (4 * w + i) 0xFFFF * 2 ^ (16 * i)) 0)

/-- The commons memberships of a slice: IDs 1–64 or 65–127 (R306). -/
def membershipWord (m : List (Nat × Word)) (sl base : Nat) : Word :=
  word ((List.range 64).foldl (fun n i =>
    if base + i ≤ 127 ∧ cfgMember m (base + i) sl then n + 2 ^ i else n) 0)

/-- TEN rewrites the view of a slice (R306): GEN advances by 2, so it stays even. -/
def State.rewriteView (s : State) (sl : Nat) : State :=
  let m := s.regs
  let gen := getBits 31 0 (s.mbx sl 32) + 2
  let (j0, n) := cfgMemset m ⟨sl, 0⟩
  let cs := cfgContractsOf m sl
  let first := if n = 0 then 0 else s.fld .CMP_CHIPNUM_CHIPNUM * 2 ^ 50 + j0 * 8589934592
  let s := s.setMbx sl 32 (setBits 63 32 (s.fld .CMP_EPOCH_CURRENT) (setBits 31 0 gen 0))
  let s := s.setMbx sl 33 (s.rd .STG_LAST_T 0)
  let s := s.setMbx sl 34 (setBits 41 37 (cfgLinks m sl).length (setBits 36 30 n (setBits 29 20 (cfgCores m sl).length 0)))
  let s := s.setMbx sl 35 (word first)
  let s := s.setMbx sl 36 (regGet m .CMP_CHIPS sl)
  let s := s.setMbx sl 37 (membershipWord m sl 1)
  let s := s.setMbx sl 38 (membershipWord m sl 65)
  let s := s.setMbx sl 39 (setBits 24 16 cs.length (setBits 15 0 (s.fld .ADM_FLOOR_FLOOR_MHZ) 0))
  let s := forEach (List.range 256) s (fun k s =>
    match cs[k]? with
    | some c =>
      let w := s.rd .ADM_W c
      (s.setMbx sl (64 + 2 * k) (setBits 63 63 (getBits 63 63 w) (setBits 55 48 c (setBits 31 0 (ctD m c) 0)))).setMbx sl
        (65 + 2 * k) (word (getBits 31 0 w))
    | none => (s.setMbx sl (64 + 2 * k) 0).setMbx sl (65 + 2 * k) 0)
  forEach (List.range 128) s (fun w s => s.setMbx sl (576 + w) (positionWord (cfgCores m sl) w))

/-- The state of a slice changes (R306, R311): the register, the mailbox's STATE and the view. -/
def State.setSliceState (s : State) (sl v : Nat) : State :=
  ((s.setFld .TEN_SLICE_STATE_STATE sl v).setMbx sl 4 (word v)).rewriteView sl

/-- The mailbox of a disabled slice is zeroed (R300). -/
def State.zeroMailbox (s : State) (sl : Nat) : State :=
  { s with ten := { s.ten with mailbox := s.ten.mailbox.filter (fun e => e.1 / 2048 ≠ sl),
                               waiting := s.ten.waiting.filter (fun x => x.1 ≠ sl) } }

end Sys2Proof.Machine
end

