-- ==== Sys2Proof/Machine/MootOps.lean ====
section
/-! DEFINITION. What a change set's outcome does (R74, R79, R82–R85, R307, R354): refusing a set, assigning T and
delivering the staged state, and releasing sets from PENDING_SCRUB and WAITING. -/

namespace Sys2Proof.Machine

open Sys2Proof

/-- Change slot `i`. -/
def State.modSlot (s : State) (i : Nat) (f : CsSlot → CsSlot) : State :=
  { s with moot := { s.moot with slots := modifyAt s.moot.slots i f } }

/-- Change every slot. -/
def State.modSlots (s : State) (f : CsSlot → CsSlot) : State :=
  { s with moot := { s.moot with slots := s.moot.slots.map f } }

/-- Slot `i`. -/
def State.slot (s : State) (i : Nat) : CsSlot := s.moot.slots.getD i CsSlot.init

/-- The slot of an existing set with a ticket. -/
def State.slotOf (s : State) (ticket : Nat) : Option Nat :=
  (List.range 4).find? (fun i => (s.slot i).ticket == ticket && ticket != 0 &&
    !(decide ((s.slot i).state = .free) || decide ((s.slot i).state = .refused)))

/-- The ticket after `t`: from 0xFFFFFFFF the counter goes on at 1 (R70). -/
def ticketAfter (t : Nat) : Nat := if t = 0xFFFFFFFF then 1 else t + 1

/-- The ticket that the next OPEN gives: no open set holds it (R70). -/
def State.freshTicket (s : State) : Nat :=
  let t := s.moot.nextTicket
  let next := [t, ticketAfter t, ticketAfter (ticketAfter t), ticketAfter (ticketAfter (ticketAfter t)),
    ticketAfter (ticketAfter (ticketAfter (ticketAfter t)))]
  (next.find? (fun n => (s.slotOf n).isNone)).getD t

/-- Key material that leaves the shadows when a set is cancelled (R354). -/
def State.dropShadows (s : State) (ticket : Nat) : State :=
  { s with well := { s.well with shadows := s.well.shadows.filter (fun x => x.1 ≠ ticket) } }

/-- A path whose selected set leaves OPEN selects none. -/
def State.unselect (s : State) (i : Nat) : State :=
  { s with moot := { s.moot with
    selHost := if s.moot.selHost = some i then none else s.moot.selHost,
    selSteward := if s.moot.selSteward = some i then none else s.moot.selSteward } }

/-- The sets that wait for the set `ticket` are checked again from the start (R78). -/
def State.recheckWaiting (s : State) (ticket : Nat) : State :=
  s.modSlots (fun x => if x.state = .waiting ∧ x.waitFor.contains ticket then
    { x with state := .checking, begun := false, waitFor := [] } else x)

/-- The slices whose cores, link ports or commons memberships a set changes (R307). -/
def resizedSlices (a b : Cfg) : List Nat :=
  (List.range' 1 128).filter (fun sl =>
    !(cfgCores a.regs sl == cfgCores b.regs sl && cfgLinks a.regs sl == cfgLinks b.regs sl &&
      (List.range' 1 127).all (fun n => cfgMember a.regs n sl == cfgMember b.regs n sl)) && cfgEnabled b.regs sl)

/-- FM_ CS_RESULT for a fabric-manager set (R82). -/
def State.fmResult (s : State) (x : CsSlot) (status code t : Nat) : State :=
  if x.writer = .fm then s.emit (.fmResult (mapGet 0 s.moot.fmSeq x.ticket) x.ticket status code t) else s

/-- A slot whose set is refused (R74). -/
def CsSlot.refused (code detail : Nat) (x : CsSlot) : CsSlot :=
  { x with state := .refused, entries := [], reason := code, detail := detail, t := 0, begun := false,
           abandon := false, asked := [], unacked := [], departing := [], unbound := [], admW := [], wellFail := false,
           domains := [] }

/-- Refuse the set in slot `i` (R74, R79, R82). `passed` says that it had passed (R307). -/
def State.refuseSet (s : State) (i code detail : Nat) (passed : Bool) : State :=
  let x := s.slot i
  let k := s.chk x
  let s := if passed then
      forEach (resizedSlices k.base k.cand) s (fun sl s => s.resizeNotice sl 3 x.ticket x.t)
    else s
  let s := s.modSlot i (CsSlot.refused code detail)
  let s := (s.setCause 0x03 0).fmResult x 1 code 0
  -- R82 gives the LOG record no DETAIL and no slice: the refusal's DETAIL and slice 0. Mark: DESIGN CHOICE (log 85).
  let s := s.raise .log code 0 (code / 256) (word detail)
  let s := s.dropShadows x.ticket
  if x.state = .pendingScrub ∨ x.state = .passed then s.recheckWaiting x.ticket else s

/-- T of a set that passes now (R83). -/
def assignedT (s : State) (x : CsSlot) : Nat :=
  let t := s.clock.gtb + 20000
  let t := match s.moot.lastT with
    | some p => max t (p + 50000)
    | none => t
  let t := if x.unbound.isEmpty then t else max t (x.passedAt + 100000)
  ((t + 999) / 1000) * 1000

/-- The sources whose acknowledgement a set needs: stations that are on or switching on (R85). -/
def State.ackSources (s : State) : List Nat :=
  ((List.range 68).filter (fun k => s.stationOn .cluster k || s.power.goingOn.contains (domainOf .cluster k))).map (32 + ·) ++
  ((List.range 72).filter (fun k => s.stationOn .memory k || s.power.goingOn.contains (domainOf .memory k))).map (100 + ·) ++
  ((List.range 16).filter (fun k => s.stationOn .link k || s.power.goingOn.contains (domainOf .link k))).map (172 + ·)

/-- A key slot fails its check: it is zeroed and BAD, with ALARM 0x0E03 (R348). -/
def State.badSlot (s : State) (n : Nat) : State :=
  let s := { s with well := { s.well with slots := mapSet KeySlot.init s.well.slots n { KeySlot.init with state := .bad } } }
  s.alarm 0x0E03 0 (word n)

/-- Deliver one KEY entry of a set: its slot's key to a shadow; a slot that no longer checks is BAD (R354). A shadow names
the ticket, the destination (0 the Mill tables, 1 + p a link port), the KeyID or entry, and the key. -/
def State.deliverKey (s : State) (i ticket : Nat) (e : Entry) : State :=
  match e.form with
  | .key link port keyid src =>
    let k := mapGet KeySlot.init s.well.slots src
    if k.state = .full then
      let entry := (ticket, (if link then 1 + port else 0), keyid, k.key)
      { s with well := { s.well with shadows := s.well.shadows ++ [entry], working := 0 } }
    else s.modSlot i (fun x => { x with wellFail := true })
  | _ => s

/-- The set in slot `i` passes: T is assigned, and the staged state and keys go out (R83, R85, R354). -/
def State.assignT (s : State) (i : Nat) : State :=
  let x := s.slot i
  let k := s.chk x
  let t := assignedT s x
  let src := s.ackSources
  let s := s.modSlot i (fun x => { x with state := .passed, t := t, asked := src, unacked := src, departing := [], wellFail := false,
                                          domains := s.power.goingOn })
  let s := { s with moot := { s.moot with lastT := some t } }
  let s := forEach x.entries s (fun e s => s.deliverKey i x.ticket e)
  let s := forEach (resizedSlices k.base k.cand) s (fun sl s => s.resizeNotice sl 1 x.ticket t)
  (s.setCause 0x03 0).fmResult x 0 0 t

/-- Every PENDING_SCRUB set whose last condition of R84 has ended passes, in the order of their slots; the sets that
waited for it are checked again. -/
def State.releaseHeld (s : State) : State :=
  forEach (List.range 4) s (fun i s =>
    if (s.slot i).state = .pendingScrub ∧ held s (s.slot i) = false then s.assignT i else s)

/-- Core `c` reaches a tile boundary: it no longer holds the sets that unbind it (R60, R84). -/
def State.coreBoundary (s : State) (c : Nat) : State :=
  if s.moot.slots.any (fun x => x.departing.contains c) then
    (s.modSlots (fun x => { x with departing := x.departing.filter (· ≠ c) })).releaseHeld
  else s

/-- The scheduler issues nothing to a core that a set that has passed unbinds (R60). -/
def State.coreDeparting (s : State) (c : Nat) : Bool :=
  s.moot.slots.any (fun x => (decide (x.state = .passed) || decide (x.state = .pendingScrub)) && x.unbound.contains c)

end Sys2Proof.Machine
end

