-- ==== Sys2Proof/Machine/Fabric.lean ====
section
/-! DEFINITION. The fabric between the stations: presenting operations to memory stations (R45, R160), returning lines to
cores (R239, R421), messages on links (R324, R334), and the snoop filter's lookups (R253–R257). -/

namespace Sys2Proof.Machine

open Sys2Proof

/-! ## Memory operations -/

/-- The port that serves a line of a logical channel: while the channel is being rebuilt, its spare port for the leaves
already moved (R391). -/
def State.portFor (s : State) (j line : Nat) : Nat :=
  if s.fld .SPR_REBUILD_BUSY = 1 ∧ s.fld .SPR_REBUILD_LCHAN = j ∧ line / 64 < s.fld .SPR_REBUILD_LEAF then
    s.fld .SPR_REBUILD_TO
  else cfgChanPort s.regs j

/-- Port and channel-local line of a local PA (R45). -/
def State.place (s : State) (pa : Nat) : Option (Nat × Nat) :=
  (cfgPlace s.regs (pa % 2 ^ 39)).map (fun x => (s.portFor x.1 (x.2 / 128), x.2 / 128))

/-- The current epoch, which the block's own operations carry (R62). -/
def State.epoch (s : State) : Nat := s.fld .CMP_EPOCH_CURRENT

/-- The configuration that a request of an epoch is routed by at cluster station `k`: the current one, or the forwarding
stub's (R63). -/
def State.cfgFor (s : State) (k epoch : Nat) : List (Nat × Word) :=
  if (s.cluster k).stub ∧ epoch = (s.cluster k).prevEpoch then s.comp.prev else s.regs

/-- Port and line of a local PA for a request of an epoch at station `k` (R45, R63). -/
def State.placeAt (s : State) (k epoch pa : Nat) : Option (Nat × Nat) :=
  if (s.cluster k).stub ∧ epoch = (s.cluster k).prevEpoch then
    (cfgPlace s.comp.prev (pa % 2 ^ 39)).map (fun x => (cfgChanPort s.comp.prev x.1, x.2 / 128))
  else s.place pa

/-- The full byte mask. -/
def fullMask : ByteMask := BitVec.allOnes 128

/-- A read or another operation that has not begun. -/
def MemOp.fresh (epoch : Nat) (origin : MemOrigin) (core slice ctx keyid line paLine : Nat) (kind : MemKind) (data : Line)
    (be : ByteMask) : MemOp :=
  ⟨0, origin, core, slice, ctx, keyid, line, paLine, kind, data, be, false, [], [], [], false, false, false, false, false,
    epoch, none⟩

/-- Present an operation at memory station `p`; it waits until the station accepts it. -/
def State.present (s : State) (p : Nat) (o : MemOp) : State :=
  s.modMem p (fun m => { m with waiting := m.waiting ++ [{ o with id := m.nextId }], nextId := m.nextId + 1 })

/-- Write a whole line that has no requester: a writeback, or flushed data. -/
def State.presentLine (s : State) (core slice ctx keyid paLine : Nat) (d : Line) : State :=
  match s.place (paLine * 128) with
  | some (p, line) => s.present p (MemOp.fresh s.epoch .none core slice ctx keyid line paLine .write d fullMask)
  | none => s

/-! ## Answers to cores -/

/-- Physical core whose port signals serve core `c`: its substitute where it has one (R233). -/
def State.physical (s : State) (c : Nat) : Nat :=
  if 612 ≤ c then c
  else if s.fld .SPR_CORE_ALIAS_VALID c = 1 then s.fld .SPR_CORE_ALIAS_SUBST c else c

/-- The requester that stands for the mover unit of cluster station `k` (R420), beside the cores 0–611. -/
def moverCore (k core : Nat) : Nat := 1024 + 16 * k + core

/-- Cluster station at which a requester's requests arrive. -/
def State.stationOf (s : State) (core : Nat) : Nat :=
  if 1024 ≤ core then (core - 1024) / 16 else s.physical core / 9

/-- CORE of a requester's responses. -/
def State.coreField (s : State) (core : Nat) : Nat := if 1024 ≤ core then core % 16 else s.physical core % 9

/-- Send on RSP (R422). -/
def State.answer (s : State) (k txn core status code : Nat) (value : Word := 0) : State :=
  s.emit (.rsp k txn (s.coreField core) status code value)

/-- The bytes that a core's held writes to memory, local or remote, change in a line: those bytes in the order they were
written, and which they are (R239). -/
def heldOver (c : Cluster) (core paLine : Nat) : Line × ByteMask :=
  (c.held.filter (fun h => h.core == core && (match h.dest with
    | .sram _ => false
    | _ => true) && h.addr / 128 == paLine)).foldl (fun l h => (mergeLine l.1 h.data h.be, l.2 ||| h.be)) (0, 0)

/-- A line with a core's held bytes merged over it (R239). -/
def mergeHeld (c : Cluster) (core paLine : Nat) (d : Line) : Line :=
  let h := heldOver c core paLine
  mergeLine d h.1 h.2

/-- Bytes [off, off + n) of a line as a mask. -/
def byteMask (off n : Nat) : ByteMask := BitVec.ofNat 128 ((2 ^ n - 1) <<< off)

/-- An atomic's old value and its line afterwards (R178). -/
def atomicOn (acc : PortAccess) (off : Nat) (l : Line) : Word × Line :=
  let n := acc.req.size
  let old := lineGet l off n
  let new := atomicValue acc.req.aop n old (acc.operand.toNat % 2 ^ (8 * n)) (acc.compare.toNat % 2 ^ (8 * n))
  (word old, linePut l off n new)

/-- An entry of the atomic log of a core's tile gets its value (R251). -/
def State.fillLog (s : State) (core : Nat) (slot : Option Nat) (value : Word) (lines : List Line) : State :=
  match slot with
  | none => s
  | some i => { s with sched := { s.sched with tiles := s.sched.tiles.map (fun t =>
      if t.1 = core then
        (t.1, { t.2 with log := modifyAt t.2.log i (fun e => { e with value := value, lines := lines, have_ := true }) })
      else t) } }

/-- The access carries an acquire (R247). -/
def PortAccess.acquires (a : PortAccess) : Bool := bitOf 0 (word a.req.ord)
def PortAccess.releases (a : PortAccess) : Bool := bitOf 1 (word a.req.ord)

/-- The access is logged (R251): an atomic, or an acquire read, of CLUSTER scope or wider. -/
def PortAccess.logged (a : PortAccess) : Bool :=
  decide (2 ≤ a.req.scope) && (a.req.opc == 4 || (a.req.opc == 1 && a.acquires))

/-- Address an access is logged under. -/
def PortAccess.address (a : PortAccess) : Nat := a.req.addr.toNat

/-- Operation and size an access is logged under. -/
def PortAccess.logOp (a : PortAccess) : Nat := if a.req.opc = 4 then a.req.aop else if a.req.opc = 6 then 17 else 16
def PortAccess.logSize (a : PortAccess) : Nat := if a.req.opc = 4 then a.req.size else a.req.beatsM1 + 1

/-- An access of the block's own engines: the Drover's planner and movers, and the share preloads. They use transaction
numbers above those of the cluster ports. -/
def PortAccess.internal (a : PortAccess) : Bool := decide (4096 ≤ a.req.txn)

/-- The flight of an access. -/
def Cluster.flight (c : Cluster) (seq : Nat) : Option Flight := c.flights.find? (fun f => f.acc.seq == seq)

/-- The flights without an access's. -/
def Cluster.land (c : Cluster) (seq : Nat) : Cluster :=
  { c with flights := c.flights.filter (fun f => f.acc.seq ≠ seq), views := c.views.filter (fun v => v.acc.seq ≠ seq) }

/-- Accesses of the block's own engines, by station and number, are dropped: what comes back for them goes nowhere. -/
def State.landAll (s : State) (l : List (Nat × Nat)) : State := forEach l s (fun a s => s.modCluster a.1 (fun c => c.land a.2))

/-- An access of the block's own engines has ended: its flight keeps the outcome until its engine takes it. -/
def State.engineEnd (s : State) (k : Nat) (a : PortAccess) (out : Nat × Nat × Word) : State :=
  s.modCluster k (fun c =>
    let f : Flight := (c.flight a.seq).getD ⟨a, 0, 0, false, none, [], [], false, none⟩
    { c with flights := c.flights.filter (fun g => g.acc.seq ≠ a.seq) ++ [{ f with left := 0, outcome := some out }] })

/-- An atomic of a core has its old value: RSP, and the log where it is logged. One whose tile has been replayed since fills
the log alone (R251). -/
def State.answerAtomic (s : State) (k : Nat) (acc : PortAccess) (old : Word) : State :=
  let ghost := match (s.cluster k).flight acc.seq with
    | some f => f.ghost
    | none => false
  let s := s.modCluster k (fun c => c.land acc.seq)
  let s := if ghost then s else s.answer k acc.req.txn acc.core 0 0 old
  s.fillLog acc.core acc.slot old []

/-- Perform a view's atomic on its line: the result is held as a write (R243), or stays in the atomic buffer with its
bytes marked as changed (R244). -/
def State.performView (s : State) (k : Nat) (v : View) (l : Line) : State :=
  let off := v.grant.pa % 128
  let paLine := v.grant.pa / 128
  let c := s.cluster k
  let views := c.views.filter (fun x => x.acc.seq ≠ v.acc.seq)
  if v.buffer then
    let (old, l') := atomicOn v.acc off l
    let a : AtomicLine := ⟨paLine, v.acc.slice, v.acc.ctx, v.grant.keyid, l', byteMask off v.acc.req.size⟩
    (s.setCluster k { c with views := views, atomics := c.atomics ++ [a] }).answerAtomic k v.acc old
  else
    let (old, l') := atomicOn v.acc off (mergeHeld c v.acc.core paLine l)
    let dest : WriteDest := match v.remote with
      | some p => .remote p
      | none => .memory
    let h : Held := ⟨c.nextId, v.acc.req.txn, v.acc.core, v.acc.slice, v.acc.ctx, v.grant.keyid, paLine * 128, dest, l',
      byteMask off v.acc.req.size, false, v.grant.cid⟩
    (s.setCluster k { c with views := views, held := c.held ++ [h], nextId := c.nextId + 1 }).answerAtomic k v.acc old

/-- Every line of a flight has returned and no token of it is outstanding: a read of the block's own engines has ended. -/
def State.flightDone (s : State) (k : Nat) (f : Flight) : State :=
  if f.left = 0 ∧ f.outcome = none ∧ !(s.cluster k).tokens.any (fun t => t.seq == f.acc.seq) then
    (if f.acc.internal then s.engineEnd k f.acc (0, 0, 0)
     else
      let s := s.modCluster k (fun c => c.land f.acc.seq)
      if f.spec then s.answer k f.acc.req.txn f.acc.core 5 0 else s)
  else s

/-- A line for an access has arrived at station `k`: it goes out on RDAT with the bytes its core held when it issued merged
over it, or to the atomic that waits for it, and a token is counted where the data are speculative (R160, R239). The flight
ends with the last line, unless tokens remain. -/
def State.deliver (s : State) (k seq beat paLine : Nat) (spec remote : Bool) (d : Line) : State :=
  let c := s.cluster k
  match c.flight seq with
  | none => s
  | some f =>
    let tokens := if spec then c.tokens ++ [⟨f.acc.req.txn, seq, f.acc.core, paLine, remote, f.acc.epoch⟩] else c.tokens
    match c.views.find? (fun v => v.acc.seq == seq) with
    | some v =>
      let s := s.setCluster k { c with tokens := tokens }
      if v.buffer && spec then
        s.modCluster k (fun c => { c with views := c.views.map (fun x =>
          if x.acc.seq = seq then { x with got := some d } else x) })
      else s.performView k v d
    | none =>
      let o := f.ovl.getD beat (0, 0)
      let d := mergeLine d o.1 o.2
      let f' := { f with left := f.left - 1, spec := f.spec || spec, lines := f.lines ++ [d] }
      let s := s.setCluster k { c with flights := modifyFirst (fun g => g.acc.seq == seq) (fun _ => f') c.flights, tokens := tokens }
      let s := if f.acc.internal then s else s.emit (.rdat k f.acc.req.txn beat spec d)
      let s := if f'.left = 0 then s.fillLog f.acc.core f.acc.slot 0 f'.lines else s
      s.flightDone k f'

/-! ## Links -/

/-- Flits of a group in the replay buffer. -/
def replayFlits (l : LinkStation) : Nat := l.replay.foldl (fun n g => n + g.flits) 0

/-- Seal and send one group of one flit on port `p` (R324–R327): class 1 REQ, 2 RSP, 3 DAT, 4 CTL. -/
def State.sealGroup (s : State) (p cls : Nat) : State :=
  let l := s.link p
  let phase := s.fld .LNK_PORT_CFG_TX_PHASE p == 1
  let wire := if cls = 1 ∨ cls = 3 then s.fld .LNK_PORT_CFG_WIRE_TAG p else 0
  let s := s.setLink p { l with fsnTx := l.fsnTx + 1, replay := l.replay ++ [⟨l.fsnTx, 1, phase, cls⟩] }
  (s.count .LNK_COUNT_GROUPS p).emit (.linkTx p cls wire l.fsnTx 1 phase)

/-- Send the oldest waiting message of port `p`, if the port is UP and has room (R326, R334). -/
def State.linkStep (p : Nat) (s : State) : State :=
  let l := s.link p
  match l.outq with
  | [] => s
  | (cls, t) :: rest =>
    if s.fld .LNK_PORT_STATUS_STATE p ≠ 2 ∨ 256 ≤ replayFlits l ∨ (t.isSome ∧ 2048 ≤ l.txns.length) then s
    else
      let s := s.setLink p { l with outq := rest, txns := l.txns ++ t.toList }
      s.sealGroup p cls

/-- Send every waiting message that may go. -/
def State.pumpLink (s : State) (p : Nat) : State := iterate (State.linkStep p) (s.link p).outq.length s

/-- The port carries traffic: UP or HOLD (R336), outside the isolation clamps (R29). -/
def State.linkOpen (s : State) (p : Nat) : Bool := s.stationOn .link p && decide (2 ≤ s.fld .LNK_PORT_STATUS_STATE p)

/-- Hand a message to port `p`; an answer to a port that has gone DOWN goes nowhere. -/
def State.linkSend (s : State) (p cls : Nat) (t : Option LinkTxn) : State :=
  if s.linkOpen p then (s.modLink p (fun l => { l with outq := l.outq ++ [(cls, t)] })).pumpLink p else s

/-- Charge `n` flits sent for the requests of a context's requester (R403). -/
def State.linkCharge (s : State) (ctx core n : Nat) : State := s.chargeWork ctx core (n * s.fld .MON_COEF_LINK)

/-! ## The snoop filter -/

/-- Filter slice of a line (R253). -/
def filterSlice (paLine : Nat) : Nat := paLine % 16

/-- The entries a request of `slice` considers for a line (R255); `cid` names the commons of its granule. -/
def State.holders (s : State) (slice : Nat) (cid : Option Nat) (paLine : Nat) : List FilterEntry :=
  s.coh.filter.filter (fun e => e.line == paLine && decide (e.st ≠ .rr) &&
    (e.tag == slice || (match cid with
      | some n => cfgMember s.regs n e.tag
      | none => false)))

/-- Set or clear the filter entry of a core for a line. -/
def State.setFilter (s : State) (paLine core : Nat) (st : Option LineState) (tag keyid : Nat) : State :=
  let rest := s.coh.filter.filter (fun e => !(e.line == paLine && e.core == core))
  let added : List FilterEntry := match st with
    | some x => [⟨paLine, core, x, tag, keyid⟩]
    | none => []
  { s with coh := { s.coh with filter := rest ++ added } }

/-- Send a snoop under a free snoop ID (R256): 0 SNP_SHARE, 1 SNP_FLUSH, 2 SNP_INV, 3 SNP_DROP_RR. Snoop IDs are the chip's,
255 of them at a time: what finds none waits (DESIGN CHOICE, log 88). -/
def State.sendSnoop (s : State) (x : Snoop) : State :=
  if 255 ≤ s.coh.snoops.length then { s with coh := { s.coh with unsent := s.coh.unsent ++ [x] } }
  else
    let from_ := s.coh.nextSid
    let sid := (((List.range 256).map (fun i => (from_ + i) % 256)).find? (fun i => !s.coh.snoops.any (fun y => y.sid == i))).getD 0
    let s := { s with coh := { s.coh with snoops := s.coh.snoops ++ [{ x with sid := sid }], nextSid := (sid + 1) % 256 } }
    let p := s.physical x.core
    (s.bump .COH_FS_COUNT_SNOOPS (filterSlice x.line)).emit (.snp (p / 9) x.opc (p % 9) sid x.line)

/-- A snoop ID is free again: the oldest snoop that waits for one goes out. -/
def State.pumpSnoops (s : State) : State :=
  match s.coh.unsent with
  | [] => s
  | x :: rest => ({ s with coh := { s.coh with unsent := rest } }).sendSnoop x

/-- One snoop of a group. -/
def State.snoop (s : State) (group paLine core opc : Nat) : State := s.sendSnoop ⟨0, group, paLine, core, opc, false⟩

/-- The held write's line fills the writer's cache in M (R256). -/
def State.fillCache (s : State) (k : Nat) (h : Held) (old : Line) : State :=
  let d := mergeLine old h.data h.be
  let s := (s.emit (.rdat k h.txn 0 false d)).setFilter (h.addr / 128) h.core (some .m) h.slice h.keyid
  s.modCluster k (fun c => { c with rsps := c.rsps ++ [(h.id, 0)] })

/-- What a group of snoops waited for goes on, with the dirty line its answers brought, if any (R256). -/
def State.snoopDone (s : State) (next : SnoopThen) (dirty : Option Line) : State :=
  match next with
  | .op p o _ =>
    (match dirty with
    | none => s.present p o
    | some d =>
      (match o.kind, o.origin with
      | .write, _ => s.present p { o with data := mergeLine d o.data o.be, be := fullMask }
      | .read, .core k seq beat =>
        let s := s.present p (MemOp.fresh o.epoch .none o.core o.slice o.ctx o.keyid o.line o.paLine .write d fullMask)
        s.deliver k seq beat o.paLine false false d
      | _, _ =>
        (s.present p (MemOp.fresh o.epoch .none o.core o.slice o.ctx o.keyid o.line o.paLine .write d fullMask)).present p o))
  | .alloc k h =>
    (match dirty with
    | some d => s.fillCache k h d
    | none =>
      if h.be = fullMask then s.fillCache k h 0
      else match s.place h.addr with
        | some (p, line) =>
          ({ s with coh := { s.coh with filling := s.coh.filling ++ [h.addr / 128] } }).present p
            (MemOp.fresh s.epoch (.fill k h) h.core h.slice h.ctx h.keyid line (h.addr / 128) .read 0 0)
        | none => s.modCluster k (fun c => { c with rsps := c.rsps ++ [(h.id, 0x0508)] }))
  | .flush => s
  | .drop k seq =>
    s.modCluster k (fun c => { c with stalled := c.stalled.map (fun x =>
      if x.acc.seq = seq then { x with drop := none } else x) })

/-- Snoop the cores listed with their opcodes, then go on with `next`. -/
def State.snoopAll (s : State) (paLine : Nat) (targets : List (Nat × Nat)) (next : SnoopThen) : State :=
  if targets.isEmpty then s.snoopDone next none
  else
    let g := s.coh.nextGroup
    let s := { s with coh := { s.coh with groups := s.coh.groups ++ [(⟨g, paLine, targets.length, none, next⟩ : SnoopGroup)],
                                          nextGroup := g + 1 } }
    forEach targets s (fun t s => s.snoop g paLine t.1 t.2)

/-- The snoops a write or a unique read causes: SNP_FLUSH to the M holder, SNP_INV to the others (R256). -/
def invalidateTargets (hs : List FilterEntry) : List (Nat × Nat) :=
  hs.map (fun e => (e.core, if e.st = .m then 1 else 2))

/-- The line of a request to the filter. -/
def FilterReq.line : FilterReq → Nat
  | .read _ o _ _ _ => o.paLine
  | .write _ o _ => o.paLine
  | .alloc _ h => h.addr / 128
  | .flush l _ => l

/-- The filter handles a request (R256): a core's own copy is snooped neither for its own read nor for its own write, but for
its atomic at the memory station. -/
def State.runFilter (s : State) (q : FilterReq) : State :=
  match q with
  | .read p o cid unique cached =>
    let hs := (s.holders o.slice cid o.paLine).filter (fun e => e.core ≠ o.core)
    let targets := if unique then invalidateTargets hs
      else (hs.filter (fun e => decide (e.st = .m))).map (fun e => (e.core, 0))
    let s := if cached then
        s.setFilter o.paLine o.core (some (if unique ∨ hs.isEmpty then .e else .s)) o.slice o.keyid
      else s
    s.snoopAll o.paLine targets (.op p o unique)
  | .write p o cid =>
    let hs := (s.holders o.slice cid o.paLine).filter (fun e => decide (o.kind ≠ .write) || e.core != o.core)
    s.snoopAll o.paLine (invalidateTargets hs) (.op p o false)
  | .alloc k h =>
    let line := h.addr / 128
    s.snoopAll line (invalidateTargets ((s.holders h.slice h.cid line).filter (fun e => e.core ≠ h.core))) (.alloc k h)
  | .flush line core =>
    s.snoopAll line (invalidateTargets (s.coh.filter.filter (fun e => e.line == line && decide (e.st ≠ .rr) &&
      (core.isNone || core == some e.core)))) .flush

/-- A group orders the requests of its line. -/
def SnoopThen.orders : SnoopThen → Bool
  | .drop _ _ => false
  | _ => true

/-- A request on a line is not finished: its snoops are out, or its fill is being read. -/
def State.lineBusy (s : State) (line : Nat) : Bool :=
  s.coh.groups.any (fun g => g.line == line && g.next.orders) || s.coh.filling.contains line

/-- A request reaches the filter: the requests of one line are handled one after another, in the order in which they come
(R256, R261). -/
def State.askFilter (s : State) (q : FilterReq) : State :=
  if s.lineBusy q.line || s.coh.queue.any (fun x => x.line == q.line) then
    { s with coh := { s.coh with queue := s.coh.queue ++ [q] } }
  else s.runFilter q

/-- The oldest waiting request of a line goes on, if nothing before it is unfinished. -/
def State.filterStep (line : Nat) (s : State) : State :=
  if s.lineBusy line then s
  else match s.coh.queue.find? (fun x => x.line == line) with
    | none => s
    | some q => ({ s with coh := { s.coh with queue := eraseFirst (fun x => x.line == line) s.coh.queue } }).runFilter q

/-- A request of a line is finished: those that wait go on. -/
def State.filterNext (s : State) (line : Nat) : State := iterate (State.filterStep line) s.coh.queue.length s

/-- The fill under a released WRITE with ALLOC has ended. -/
def State.fillEnd (s : State) (line : Nat) : State :=
  ({ s with coh := { s.coh with filling := s.coh.filling.filter (· ≠ line) } }).filterNext line

/-- Flush the cached lines that `p` selects, and the lines that `q` selects on which a request is unfinished: the cores give
them up, and M data goes to memory (R183, R258). -/
def State.flushLines (s : State) (p : FilterEntry → Bool) (q : Nat → Bool) (core : Option Nat) : State :=
  let lines := ((s.coh.filter.filter p).map (·.line) ++
    ((s.coh.groups.filter (fun g => g.next.orders)).map (·.line) ++ s.coh.filling ++ s.coh.queue.map (·.line)).filter q).dedup
  forEach lines s (fun l s => s.askFilter (.flush l core))

/-- No access has this number. -/
def noAccess : Nat := 2 ^ 64

/-- A core that a passed set unbinds gives up what its cache holds (R258): M data goes to memory, and remote lines are dropped. -/
def State.emptyCache (s : State) (core : Nat) : State :=
  let remote := s.coh.filter.filter (fun e => e.core == core && decide (e.st = .rr))
  let s := s.flushLines (fun e => e.core == core && decide (e.st ≠ .rr)) (fun _ => true) (some core)
  forEach remote s (fun e s => s.snoopAll e.line [(core, 3)] (.drop (s.stationOf core) noAccess))

/-- A core's cache holds nothing, and no snoop to it is unanswered. -/
def State.cacheEmpty (s : State) (core : Nat) : Bool :=
  !s.coh.filter.any (fun e => e.core == core) && !(s.coh.snoops ++ s.coh.unsent).any (fun x => x.core == core)

/-- Port and line of a line that has been flushed: one of a granule whose owner has changed lies where the layout in force before T
places it (R258). -/
def State.placeFlushed (s : State) (pa : Nat) : Option (Nat × Nat) :=
  let granule := pa % 2 ^ 39 / 2097152
  if s.comp.flushing.any (fun x => decide (x.first ≤ granule) && decide (granule ≤ x.last)) then
    (cfgPlace s.comp.prev (pa % 2 ^ 39)).map (fun x => (cfgChanPort s.comp.prev x.1, x.2 / 128))
  else s.place pa

/-- A flush is not finished. -/
def State.flushUnderWay (s : State) : Bool :=
  s.coh.groups.any (fun g => decide (g.next = .flush)) || s.coh.queue.any (fun x => match x with
    | .flush _ _ => true
    | _ => false)

/-- A read of a local line goes through the filter to memory (R256). `cached` says that the requester caches it. -/
def State.filterRead (s : State) (p : Nat) (o : MemOp) (cid : Option Nat) (unique cached : Bool) : State :=
  s.askFilter (.read p o cid unique cached)

/-- A write or a near-memory atomic of a local line goes through the filter to memory (R256). -/
def State.filterWrite (s : State) (p : Nat) (o : MemOp) (cid : Option Nat) : State := s.askFilter (.write p o cid)

/-! ## Held writes -/

/-- Write a station's atomic-buffer line back as a partial write of the bytes its atomics changed (R244). -/
def State.writeBackAtomic (s : State) (k : Nat) (a : AtomicLine) : State :=
  let s := s.modCluster k (fun c => { c with atomics := c.atomics.filter (fun x => x.line ≠ a.line) })
  match s.place (a.line * 128) with
  | some (p, line) =>
    (s.modCluster k (fun c => { c with backs := c.backs ++ [a.line] })).filterWrite p
      (MemOp.fresh s.epoch (.back k a.line) 0x3FF a.slice a.ctx a.keyid line a.line .write a.data a.be) none
  | none => s

/-- Release one held write of station `k` under the station's epoch (R63, R162, R244, R256); `access` is the access that its
RSP answers. -/
def State.releaseWrite (s : State) (k : Nat) (h : Held) (access : Option Nat) : State :=
  let line := h.addr / 128
  let epoch := (s.cluster k).epoch
  let done := fun (s : State) (remote : Bool) => s.modCluster k (fun c =>
    { c with held := c.held.filter (fun x => x.id ≠ h.id),
             released := c.released ++ [⟨h.id, h.core, h.txn, access, remote, h.keyid, epoch, false⟩] })
  match h.dest with
  | .sram target =>
    let s := done s false
    let s := s.emit (.sramData (s.physical target) h.addr h.data h.be)
    s.modCluster k (fun c => { c with rsps := c.rsps ++ [(h.id, 0)] })
  | .remote p =>
    let s := done s true
    if s.linkOpen p then ((s.linkCharge h.ctx h.core 2).linkSend p 1 (some ⟨k, true, h.id, epoch⟩)).linkSend p 3 none
    else s.modCluster k (fun c => { c with rsps := c.rsps ++ [(h.id, 0x0D02)] })
  | .memory =>
    let s := match (s.cluster k).atomics.find? (fun a => a.line == line) with
      | some a => s.writeBackAtomic k a
      | none => s
    let s := done s false
    match s.place h.addr with
    | none => s.modCluster k (fun c => { c with rsps := c.rsps ++ [(h.id, 0x0508)] })
    | some (p, l) =>
      if h.alloc then s.askFilter (.alloc k h)
      else s.filterWrite p (MemOp.fresh epoch (.released k h.id) h.core h.slice h.ctx h.keyid l line .write h.data h.be) h.cid

/-- Release every held write of a core. -/
def State.releaseCore (s : State) (core : Nat) : State :=
  let k := s.stationOf core
  forEach ((s.cluster k).held.filter (fun h => h.core == core)) s (fun h s => s.releaseWrite k h none)

/-- Discard a core's held writes. -/
def State.discardHeld (s : State) (core : Nat) : State :=
  s.modCluster (s.stationOf core) (fun c => { c with held := c.held.filter (fun h => h.core ≠ core) })

end Sys2Proof.Machine
end

