-- ==== Sys2Proof/Machine/Tiles.lean ====
section
/-! DEFINITION. Queues and tiles as shared operations: faulting a queue, completing a command (R285, R286), fetching
(R278, R282), choosing and starting tiles (R212, R223), and the ends of a tile: commit, abort, kill, park and replay
(R162–R165, R219, R220, R231). -/

namespace Sys2Proof.Machine

open Sys2Proof

/-! ## Queues -/

/-- The queue becomes FAULTED with a code: FAULT_CODE and a QUEUE_FAULTED notice (R299). -/
def State.faultQueue (s : State) (q code : Nat) : State :=
  ((s.setQState q 4).putQ q 4 63 48 code).notice 2 2 code (s.qSlice q) q

/-- The queue becomes STOPPED with a code, and a QUEUE_STOPPED notice (R287). -/
def State.stopQueue (s : State) (q code : Nat) : State :=
  ((s.setQState q 3).putQ q 4 63 48 code).notice 2 3 code (s.qSlice q) q

/-- Completion records of `q` posted and not yet taken. -/
def State.cplInFlight (s : State) (q : Nat) : Nat :=
  s.inFlight (fun u => match u with
    | .completion q' _ => q' == q
    | _ => false)

/-- The completion ring of `q` is full (R285). -/
def State.cqFull (s : State) (q : Nat) : Bool :=
  decide (2 ^ s.cqLog2 q ≤ idxSub (s.cqTail q + s.cplInFlight q) (s.cqHead q))

/-- The queue's context may fetch: LIVE queue, RESIDENT context, OBJ and HIF enabled, and a slice that is RUNNING (R278,
R312). -/
def State.mayFetch (s : State) (q : Nat) : Bool :=
  s.qState q == 2 && s.ctxState (s.qCtx q) == 3 && s.fld .OBJ_CTL_ENABLE == 1 && s.fld .HIF_CTL_FETCH_EN == 1 &&
  decide (s.fld .TEN_SLICE_STATE_STATE (s.qSlice q) ≤ 1)

/-- Queues that hold a resident slot. -/
def State.slotQueues (s : State) : List Nat := (s.hif.queues.filter (fun e => e.2.resident)).map (·.1)

/-- A queue with a slot that has no queued command and none running. -/
def State.queueIdle (s : State) (q : Nat) : Bool :=
  let r := s.queueRun q
  s.sqCount q == 0 && r.running.isNone && r.fetched.isNone && r.fetchTag.isNone

/-- The least recently used idle queue that holds a slot. -/
def State.lruIdle (s : State) : Option Nat :=
  (s.slotQueues.filter s.queueIdle).foldl (fun (m : Option Nat) q =>
    match m with
    | none => some q
    | some p => if (s.queueRun q).lastUse < (s.queueRun p).lastUse then some q else some p) none

/-- Queue `q` takes a slot, marking it used now. -/
def State.takeSlot (s : State) (q : Nat) : State :=
  let s := if (s.queueRun q).resident then s else { s with obj := s.obj.want [queueLine q] }
  let n := s.hif.useCount + 1
  let s := { s with hif := { s.hif with useCount := n } }
  s.modQueueRun q (fun r => { r with resident := true, waiting := false, lastUse := n })

/-- A queue with queued commands gets a slot, or waits for one (R282). -/
def State.needSlot (s : State) (q : Nat) : State :=
  if (s.queueRun q).resident then s.takeSlot q
  else if s.slotQueues.length < 96 then s.takeSlot q
  else match s.lruIdle with
    | some v => (s.modQueueRun v (fun r => { r with resident := false })).takeSlot q
    | none => s.modQueueRun q (fun r => { r with waiting := true })

/-- Start fetching the next command of `q`, if everything R278, R282, R284 and R285 ask holds; a queue whose context's
PASID is not mapped to its slice becomes FAULTED with 0x0603 (R41). -/
def State.pumpQueue (s : State) (q : Nat) : State :=
  let r := s.queueRun q
  if s.mayFetch q && r.resident && r.running.isNone && r.fetched.isNone && r.fetchTag.isNone && !r.stopping &&
      decide (0 < s.sqCount q) && !s.cqFull q then
    let pasid := s.ctxPasid (s.qCtx q)
    if cfgPasidOk s.regs pasid (s.qSlice q) then
      let tag := s.hostTag
      let at_ := s.sqBase q + 64 * (s.sqHead q % 2 ^ s.sqLog2 q)
      (s.hostRead (.ringFetch q) at_ 16 (some pasid)).modQueueRun q (fun r => { r with fetchTag := some tag })
    else (s.err 0x0603 (s.qSlice q) (word q)).faultQueue q 0x0603
  else s

/-- Fetch for every queue of a context, or of a slice. -/
def State.pumpContext (s : State) (c : Nat) : State :=
  forEach (s.liveQueues.filter (fun q => s.qCtx q == c)) s (fun q s => s.pumpQueue q)
def State.pumpSlice (s : State) (sl : Nat) : State :=
  forEach (s.liveQueues.filter (fun q => s.qSlice q == sl)) s (fun q s => s.pumpQueue q)

/-- PIN of an object falls by one (R289). -/
def State.unpin (s : State) (o : Nat) : State := s.putM o 3 31 0 (s.mPin o - 1)

/-- W0 of a command. -/
def cmdW0 (ws : List Word) : Word := ws.headD 0
def cmdOpcode (ws : List Word) : Nat := getBits 63 56 (cmdW0 ws)
def cmdFenceEn (ws : List Word) : Bool := bitOf 48 (cmdW0 ws)
def cmdFence (ws : List Word) : Nat := getBits 47 32 (cmdW0 ws)
def cmdIrq (ws : List Word) : Bool := bitOf 4 (cmdW0 ws)

/-- The command names a fence of its own to signal: a LIVE one of its queue's slice (R286, R288). -/
def State.ownFence (s : State) (q : Nat) (ws : List Word) : Bool :=
  cmdFenceEn ws && decide (s.fLife (cmdFence ws) = .live) && s.fSlice (cmdFence ws) == s.qSlice q

/-- The fence side of a command's end (R286, R287): `code`, 0 for a normal completion, goes to its own fence, and without one the
record's code into PENDING_ERR. -/
def State.endFence (s : State) (q : Nat) (ws : List Word) (code recCode : Nat) : State :=
  if code = 0 then
    if s.ownFence q ws then
      let p := s.qPendingErr q
      if p = 0 then s.signalFence (cmdFence ws) 0 else (s.signalFence (cmdFence ws) p).setPendingErr q 0
    else s
  else if s.ownFence q ws then s.signalFence (cmdFence ws) code
  else if s.qPendingErr q = 0 then s.setPendingErr q recCode
  else s

/-- The completion record of a command (R285). -/
def cplRecord (s : State) (q : Nat) (rc : RunCmd) (code : Nat) : List Word :=
  let c := s.qCtx q
  let energy := (s.ctxWord c 1).toNat
  let own := rc.energy / 1000000
  let phase := 1 - (s.queueRun q).records / 2 ^ s.cqLog2 q % 2
  [setBits 63 63 phase (setBits 62 61 (bit01 (code ≠ 0)) (setBits 47 32 code (setBits 29 16 q (setBits 15 0 rc.index 0)))),
   word energy, word (own % 2 ^ 32), word s.clock.gtb]

/-- Write the completion record of a command at CQ_TAIL, with the PASID of the queue's context (R278, R285). A PASID that is
no longer mapped to the slice issues no DMA: 0x0603, and the queue becomes FAULTED (R41). -/
def State.postCompletion (s : State) (q : Nat) (rc : RunCmd) (code : Nat) : State :=
  if cfgPasidOk s.regs (s.ctxPasid (s.qCtx q)) (s.qSlice q) = false then
    let s := s.err 0x0603 (s.qSlice q) (word q)
    if s.qState q = 2 then s.faultQueue q 0x0603 else s
  else
  let irq := s.qIrqEn q && (cmdIrq rc.words || decide (code ≠ 0))
  let i := s.cqTail q + s.cplInFlight q
  let rec_ := cplRecord s q rc code
  let s := s.modQueueRun q (fun r => { r with records := r.records + 1 })
  s.postWrite (.completion q irq) (s.cqBase q + 32 * (i % 2 ^ s.cqLog2 q)) (some (s.ctxPasid (s.qCtx q))) rec_

/-- A queue whose teardown is over is FREE; alone, it posts DONE. -/
def State.queueGone (s : State) (q : Nat) (alone : Bool) : State :=
  let sl := s.qSlice q
  let s : State := { s with hif := { s.hif with queues := mapErase s.hif.queues q } }
  let s := s.freeQueue q
  if alone then s.notice 2 1 0 sl q else s

/-- The running command of `q` completes (R284–R286, R289): `recCode` goes into the record, `fenceCode` into its fence. The queue stops if DEACTIVATE waits; else it goes on. -/
def State.completeCmd (s : State) (q recCode fenceCode : Nat) : State :=
  match (s.queueRun q).running with
  | none => s
  | some rc =>
    let s := s.endFence q rc.words fenceCode recCode
    let s := if cmdOpcode rc.words = 9 then s else s.postCompletion q rc recCode
    let s := forEach rc.pins s (fun o s => s.unpin o)
    let stopping := (s.queueRun q).stopping
    let s := s.modQueueRun q (fun r => { r with running := none, stopping := false })
    let s := { s with xlt := { s.xlt with extents := mapErase s.xlt.extents q } }
    if s.qState q = 5 then (if s.ctxState (s.qCtx q) = 4 then s else s.queueGone q true)
    else if stopping ∧ s.qState q = 2 then s.stopQueue q 0 else s.pumpQueue q

/-- A tile of the running command has ended with `code`, 0 for a commit; the command completes with its last tile and
its first error (R286). -/
def State.tileOfCmd (s : State) (q code : Nat) : State :=
  match (s.queueRun q).running with
  | none => s
  | some rc =>
    let code' := if rc.code = 0 then code else rc.code
    let s := s.modQueueRun q (fun r => { r with running := some { rc with tilesLeft := rc.tilesLeft - 1, code := code' } })
    if rc.tilesLeft ≤ 1 then s.completeCmd q code' code' else s

/-! ## Residents -/

/-- The resident slot of a context. -/
def State.residentOf (s : State) (ctx : Nat) : Option (Nat × Resident) :=
  s.sched.residents.find? (fun e => e.2.ctx == ctx)

def State.modResident (s : State) (ctx : Nat) (f : Resident → Resident) : State :=
  { s with sched := { s.sched with residents := s.sched.residents.map (fun e => if e.2.ctx = ctx then (e.1, f e.2) else e) } }

/-- The physical cores of a context's range, in position order (R214, R230). -/
def State.ctxCores (s : State) (ctx : Nat) : List Nat :=
  ((cfgCores s.regs (s.ctxSlice ctx)).drop (s.scFirst ctx)).take (s.scCount ctx)

/-- The byte range of a context's share in a core (R216). -/
def State.shareFirst (s : State) (ctx : Nat) : Nat := s.scBase ctx * 65536
def State.shareLast (s : State) (ctx : Nat) : Nat := (s.scBase ctx + s.scUnits ctx) * 65536 - 1

/-- A leaving context that is at a boundary on every core of its range, and whose preload is over, has its share zeroed (R229,
R235). -/
def State.leaveStep (s : State) (ctx : Nat) : State :=
  match s.residentOf ctx with
  | some (_, r) =>
    if r.leaving && !r.zeroing && !s.sched.tiles.any (fun t => t.2.ctx == ctx) && !s.sched.preloads.any (fun p => p.ctx == ctx) then
      let s := s.modResident ctx (fun r => { r with zeroing := true })
      forEach (s.ctxCores ctx) s (fun c s => s.emit (.sramWrite (s.physical c) (s.shareFirst ctx) (s.shareLast ctx) true))
    else s
  | none => s

/-! ## Choosing tiles (R223) -/

/-- The tile running on a core, or ended there and not yet committed. -/
def State.tileOf (s : State) (core : Nat) : Option Tile :=
  (s.sched.tiles.find? (fun t => t.1 == core)).map (·.2)

def State.modTile (s : State) (core : Nat) (f : Tile → Tile) : State :=
  { s with sched := { s.sched with tiles := s.sched.tiles.map (fun t => if t.1 = core then (t.1, f t.2) else t) } }

/-- The slots of the resident contexts with a ready tile for a core, that may run now (R212, R213, R312). -/
def State.candidates (s : State) (core : Nat) : List Nat :=
  (s.sched.residents.filter (fun e =>
    let r := e.2
    decide (r.state ≠ .preloading) && decide (r.state ≠ .suspended) && !r.leaving &&
    cfgCoreTag s.regs core == r.slice && decide (s.fld .TEN_SLICE_STATE_STATE r.slice ≤ 1) &&
    s.sched.ready.any (fun t => t.1 == core && t.2.ctx == r.ctx))).map (·.1)

/-- The context in a resident slot. -/
def State.slotCtx (s : State) (r : Nat) : Nat :=
  match s.sched.residents.find? (fun e => e.1 == r) with
  | some e => e.2.ctx
  | none => 8192

/-- A resident slot holds a contract and a positive credit. -/
def State.slotCredit (s : State) (r : Nat) : Bool :=
  match s.sched.residents.find? (fun e => e.1 == r) with
  | some e => s.scHasContract e.2.ctx && decide (0 < e.2.credit)
  | none => false

/-- Start the first ready tile of a slot's context on a core (R221): its watchdog starts now. -/
def State.startTile (s : State) (core slot : Nat) : State :=
  let ctx := s.slotCtx slot
  let mine := fun (t : Nat × Tile) => t.1 == core && t.2.ctx == ctx
  match s.sched.ready.find? mine with
  | none => s
  | some t =>
    let tile := { t.2 with startAt := s.clock.gtb, ended := false, checkpoint := false, logAt := 0 }
    { s with sched := { s.sched with ready := eraseFirst mine s.sched.ready,
                                     tiles := s.sched.tiles ++ [(core, tile)],
                                     rotors := mapPut s.sched.rotors core slot } }

/-- What serves a core has failed, and its substitute does not serve yet (R233). -/
def State.coreLost (s : State) (c : Nat) : Bool := s.spr.badCores.contains (s.physical c)

/-- No tile starts on a core that is lost, or whose station has stopped (R233, R388). -/
def State.coreDown (s : State) (c : Nat) : Bool :=
  s.coreLost c || s.spr.coreSubs.any (fun x => x.core == c) || (s.cluster (s.stationOf c)).stopped

/-- The failure of a core has interrupted its tile, which waits for the substitute (R233). -/
def State.interrupted (s : State) (c : Nat) : Bool := s.spr.coreSubs.any (fun x => x.core == c && x.replays)

/-- A core chooses its next tile (R223). A core that a passed set unbinds gets none (R60). -/
def State.schedule (s : State) (core : Nat) : State :=
  if s.sched.tiles.any (fun t => t.1 == core) || s.coreDeparting core || s.coreDown core then s
  else
    let cands := s.candidates core
    let a := cands.filter s.slotCredit
    let last := mapGet 47 s.sched.rotors core
    if cands.isEmpty then s
    else match rotate last a with
      | some r => s.startTile core r
      | none =>
        let (owner, till) := mapGet (48, 0) s.sched.quanta core
        if cands.contains owner && decide (s.clock.gtb < till) then s.startTile core owner
        else match rotate last cands with
          | some r =>
            let till := s.clock.gtb + s.scQuantumUs (s.slotCtx r) * 1000
            ({ s with sched := { s.sched with quanta := mapPut s.sched.quanta core (r, till) } }).startTile core r
          | none => s

/-- Every core of a slice chooses. -/
def State.scheduleSlice (s : State) (sl : Nat) : State :=
  forEach (cfgCores s.regs sl) s (fun c s => s.schedule c)

/-! ## Ends of a tile -/

/-- Charge a tile's core-ns up to now (R403): energy, and SCH_RES_USE but for replays (R222). -/
def State.chargeTile (s : State) (t : Tile) : State :=
  let ns := if t.ended then t.ranNs else s.clock.gtb - t.startAt
  let pj := s.fld .MON_COEF_CORE * ns
  if t.replay then s.charge 8192 pj
  else
    let s := (s.charge t.ctx pj).chargeCmd t.queue pj
    match s.residentOf t.ctx with
    | some (r, _) => s.wr .SCH_RES_USE r (s.rd .SCH_RES_USE r + word ns)
    | none => s

/-- An access belongs to the tile of a core. -/
def PortAccess.ofTile (a : PortAccess) (core : Nat) : Bool := a.core == core && !a.internal

/-- A verify token belongs to the tile of a core. -/
def Token.ofTile (t : Token) (core : Nat) : Bool := t.core == core && decide (t.txn < 4096)

/-- Whatever the requests of a core's tile have under way at its station is dropped with the tile, but what `keep` selects. -/
def State.dropSome (s : State) (core : Nat) (keep : Flight → Bool) : State :=
  s.modCluster (s.stationOf core) (fun c => { c with
    retry := c.retry.filter (fun d => !d.acc.ofTile core),
    stalled := c.stalled.filter (fun d => !d.acc.ofTile core),
    flights := (c.flights.filter (fun f => !f.acc.ofTile core || keep f)).map (fun f =>
      if f.acc.ofTile core then { f with ghost := true } else f),
    views := c.views.filter (fun v => !v.acc.ofTile core || c.flights.any (fun f => f.acc.seq == v.acc.seq && keep f)),
    tokens := c.tokens.filter (fun t => !t.ofTile core || c.flights.any (fun f => f.acc.seq == t.seq && keep f)) })

def State.dropRequests (s : State) (core : Nat) : State := s.dropSome core (fun _ => false)

/-- What a replay leaves of its tile's requests (R251): the logged atomics under way go on and fill the log, and an acquire
read that has not verified is issued again. -/
def State.replayRequests (s : State) (core : Nat) : State :=
  let again := ((s.cluster (s.stationOf core)).flights.filter (fun f => f.acc.ofTile core && f.acc.req.opc != 4)).filterMap
    (fun f => f.acc.slot)
  let s := s.dropSome core (fun f => f.acc.req.opc == 4 && f.acc.slot.isSome)
  s.modTile core (fun t => { t with log := (List.range t.log.length).zip t.log |>.map (fun x =>
    if again.contains x.1 then { x.2 with have_ := false } else x.2) })

/-- A core is at a tile boundary (R219): one that a passed set unbinds empties its cache, for its tile may have filled it since CHECK
passed (R258), and so does one whose station has stopped (R388). -/
def State.atTileEnd (s : State) (core : Nat) : State :=
  let s := s.coreBoundary core
  if s.coreDeparting core || (s.cluster (s.stationOf core)).stopped then s.emptyCache core else s

/-- The tile of a core ends with `code`, 0 for a commit: its command is told, the core is at a boundary (R219), and it
chooses again. -/
def State.finishTile (s : State) (core code : Nat) : State :=
  match s.tileOf core with
  | none => s
  | some t =>
    let s := (s.chargeTile t).dropRequests core
    let s := { s with sched := { s.sched with tiles := s.sched.tiles.filter (fun x => x.1 ≠ core) } }
    let s := s.tileOfCmd t.queue code
    let s := s.atTileEnd core
    (s.leaveStep t.ctx).schedule core

/-- A tile is aborted with a code (R56): held writes are discarded, released ones stay (R163). -/
def State.abortTile (s : State) (core code : Nat) : State :=
  let s := (s.discardHeld core).finishTile core code
  s.modCluster (s.stationOf core) (fun c => { c with
    released := c.released.map (fun r => if r.core = core then { r with orphan := true } else r) })

/-- The tile commits when it has ended and every token has cleared with PASS: its held writes are released, and when each
has its RSP its command is told (R162). -/
def State.tryCommit (s : State) (core : Nat) : State :=
  match s.tileOf core with
  | none => s
  | some t =>
    let c := s.cluster (s.stationOf core)
    if t.ended && !s.interrupted core && !c.tokens.any (fun x => x.ofTile core) then
      let s := s.releaseCore core
      if (s.cluster (s.stationOf core)).released.any (fun x => x.core == core) then s
      else s.finishTile core t.code
    else s

/-- A tile is replayed on its core from its retained inputs (R164, R231): the watchdog restarts, and the time is not
charged to credit. -/
def State.replayTile (s : State) (core : Nat) : State :=
  match s.tileOf core with
  | none => s
  | some t =>
    let s := s.chargeTile t
    let s := (s.discardHeld core).replayRequests core
    let s := s.bump .SCH_SLICE_COUNT_REPLAYS t.slice
    s.modTile core (fun t => { t with startAt := s.clock.gtb, ended := false, replay := true, logAt := 0,
                                      checkpoint := false, code := 0 })

/-- A tile is parked by a translation fault (R127). -/
def State.parkTile (s : State) (core : Nat) : State :=
  match s.tileOf core with
  | none => s
  | some t =>
    let s := s.chargeTile t
    let s := (s.discardHeld core).dropRequests core
    let s := { s with sched := { s.sched with
      tiles := s.sched.tiles.filter (fun x => x.1 ≠ core),
      parked := s.sched.parked ++ [(core, { t with ended := false, checkpoint := false })] } }
    let s := s.atTileEnd core
    (s.leaveStep t.ctx).schedule core

/-- A parked tile of a core and context waits again, for the core its position has now (R133, R230). -/
def State.unparkTile (s : State) (core ctx : Nat) : State :=
  let mine := fun (t : Nat × Tile) => t.1 == core && t.2.ctx == ctx
  match s.sched.parked.find? mine with
  | none => s
  | some t =>
    let c := (s.ctxCores ctx).getD t.2.pos core
    let s := { s with sched := { s.sched with parked := eraseFirst mine s.sched.parked,
                                              ready := (c, t.2) :: s.sched.ready } }
    s.schedule c

/-- A parked tile ends with a code (R133). -/
def State.killParked (s : State) (core ctx code : Nat) : State :=
  let mine := fun (t : Nat × Tile) => t.1 == core && t.2.ctx == ctx
  match s.sched.parked.find? mine with
  | none => s
  | some t =>
    ({ s with sched := { s.sched with parked := eraseFirst mine s.sched.parked } }).tileOfCmd t.2.queue code

/-- The station kills the tile of a core (R220). -/
def State.killTile (s : State) (core : Nat) : State :=
  match s.tileOf core with
  | none => s
  | some t =>
    let s := s.wr .SCH_LAST_KILL 0 (setBits 63 48 0x0B01 (setBits 47 40 t.slice (setBits 39 30 core
      (setBits 28 16 t.ctx (setBits 15 0 t.decl 0)))))
    let s := s.bump .SCH_SLICE_COUNT_KILLS t.slice
    let s := s.raise .error 0x0B01 t.slice (32 + s.stationOf core) (word core)
    s.abortTile core 0x0B01

/-- A checkpoint of a core (R163): its held writes are released once no token is outstanding. -/
def State.tryCheckpoint (s : State) (core : Nat) : State :=
  match s.tileOf core with
  | none => s
  | some t =>
    if t.checkpoint && !(s.cluster (s.stationOf core)).tokens.any (fun x => x.ofTile core) then
      (s.releaseCore core).modTile core (fun t => { t with checkpoint := false })
    else s

end Sys2Proof.Machine
end

