-- ==== Sys2Proof/Machine/DroverOps.lean ====
section
/-! DEFINITION. The Drover's shared operations: the descriptors' fields (R187, R188), home cores and movers (R197), errors
(R211), what parks or stops a phase, and the recovery of movers, stores and expert cores (R206). -/

namespace Sys2Proof.Machine

open Sys2Proof

/-! ## Descriptors (R187, R188) -/

def dWord (ws : List Word) (w hi lo : Nat) : Nat := getBits hi lo (ws.getD w 0)
def dTokens (ws : List Word) : Nat := dWord ws 1 63 52
def dTopk (ws : List Word) : Nat := dWord ws 1 51 48
def dPolicy (ws : List Word) : Nat := dWord ws 1 47 46
def dRenorm (ws : List Word) : Bool := dWord ws 1 45 45 == 1
def dCf (ws : List Word) : Nat := dWord ws 1 31 16
def dExperts (ws : List Word) : Nat := dWord ws 1 10 0
def dRtCore (ws : List Word) : Nat := dWord ws 2 41 32
def dRtOff (ws : List Word) : Nat := dWord ws 2 22 0
def dPerCore (ws : List Word) : Nat := dWord ws 3 63 52
def dStep (ws : List Word) : Nat := dWord ws 3 51 45
def dCore0 (ws : List Word) : Nat := dWord ws 3 44 35
def dTokOff (ws : List Word) : Nat := dWord ws 3 22 0
def dRowSect (ws : List Word) : Nat := dWord ws 4 43 32
def dStride (ws : List Word) : Nat := dWord ws 4 31 16
def dExpMap (ws : List Word) : Nat := dWord ws 5 47 0
def dTtlUs (ws : List Word) : Nat := dWord ws 6 63 32
def dJtag (ws : List Word) : Nat := dWord ws 6 15 0
def cResFmt (ws : List Word) : Nat := dWord ws 1 23 20
def cOutFmt (ws : List Word) : Nat := dWord ws 1 19 16
def cJtag (ws : List Word) : Nat := dWord ws 1 15 0
def cOutSect (ws : List Word) : Nat := dWord ws 2 43 32
def cResStride (ws : List Word) : Nat := dWord ws 2 31 16
def cResOff (ws : List Word) : Nat := dWord ws 3 22 0

/-- The journal tag a Drover command names. -/
def droverJtag (ws : List Word) : Nat := if cmdOpcode ws = 4 then dJtag ws else cJtag ws

/-- Expert-map fields (R192). -/
def eValid (e : List Word) : Bool := dWord e 0 63 63 == 1
def eChip (e : List Word) : Nat := dWord e 0 59 54
def eCore (e : List Word) : Nat := dWord e 0 53 44
def eCap (e : List Word) : Nat := dWord e 0 43 32
def eInOff (e : List Word) : Nat := dWord e 0 22 0
def eSpillCap (e : List Word) : Nat := dWord e 1 43 32
def eOutOff (e : List Word) : Nat := dWord e 1 22 0
def eInStride (e : List Word) : Nat := dWord e 3 31 16
def eOutStride (e : List Word) : Nat := dWord e 3 15 0

/-- Home core number of token `t` in a core order. -/
def homeNumber (order : List Nat) (ws : List Word) (t : Nat) : Nat :=
  order.findIdx (fun c => c == dCore0 ws) + dStep ws * (t / dPerCore ws)

/-- Home core of a token of a journal, in the core order of its dispatch. -/
def Journal.homeCore (j : Journal) (t : Nat) : Nat := j.cores.getD (homeNumber j.cores j.words t) 0

/-- SRAM offset of a token's row in its home core, and of its result row (R187, R188). -/
def homeRow (ws : List Word) (t : Nat) : Nat := dTokOff ws + dStride ws * 32 * (t % dPerCore ws)
def resultRow (ws cws : List Word) (t : Nat) : Nat := cResOff cws + cResStride cws * 32 * (t % dPerCore ws)

/-- SRAM offset of an input and an output slot, and DVA of a spill row (R192). -/
def inSlot (e : List Word) (slot : Nat) : Nat := eInOff e + 32 * eInStride e * slot
def outSlot (e : List Word) (slot : Nat) : Nat := eOutOff e + 32 * eOutStride e * slot
def spillRow (ws e : List Word) (row : Nat) : Nat := dWord e 2 47 0 + 32 * dRowSect ws * row

/-- The map entry of an expert that received a route. -/
def Journal.expert (j : Journal) (e : Nat) : List Word := mapGet [] j.experts e

/-- The expert's core is on this chip. -/
def State.expertHere (s : State) (e : List Word) : Bool := eChip e == s.fld .CMP_CHIPNUM_CHIPNUM

/-- The cluster station whose mover serves station `k` (R206). -/
def State.moverAt (s : State) (k : Nat) : Nat :=
  match s.spr.moverSubs.find? (fun y => y.1 == k) with
  | some y => y.2
  | none => k

/-- The mover that issues a route's transfer: that of its source core's cluster (R197). A combine's source is the expert's
core, or for a spill row and a remote expert the home core. -/
def State.moverOf (s : State) (j : Journal) (r : Route) : Nat :=
  let e := j.expert r.expert
  let core := if j.state = .combining ∧ r.kind ≠ 1 ∧ s.expertHere e then eCore e else j.homeCore r.token
  s.moverAt (s.stationOf core)

/-- The mover of a token's home core. -/
def State.homeMover (s : State) (j : Journal) (t : Nat) : Nat := s.moverAt (s.stationOf (j.homeCore t))

/-! ## Journals (R204, R205) -/

/-- Bytes of a journal. -/
def journalBytes (routes : Nat) : Nat := 64 + 16 * routes

/-- Bytes and copies in store `k`; 68 is the planner's. -/
def State.storeBytes (s : State) (k : Nat) : Nat :=
  s.drv.journals.foldl (fun n j => n + (bit01 (j.primary == k) + bit01 (j.mirror == k)) * journalBytes j.routes.length) 0
def State.storeCopies (s : State) (k : Nat) : Nat :=
  s.drv.journals.foldl (fun n j => n + bit01 (j.primary == k) + bit01 (j.mirror == k)) 0

/-- Room for another copy. -/
def State.storeRoom (s : State) (k bytes : Nat) : Bool :=
  if k = 68 then decide (s.storeBytes k + bytes ≤ 262144)
  else decide (s.storeBytes k + bytes ≤ 131072) && decide (s.storeCopies k < 16)

/-- The stores of a new journal: TOK_CORE0's cluster, and the mirror R204 chooses. -/
def State.storesFor (s : State) (sl core0 : Nat) : Nat × Nat :=
  let p := s.stationOf core0
  let others := ((cfgCores s.regs sl).map s.stationOf).filter (· ≠ p)
  let far := others.filter (fun k => domainOf .cluster k != domainOf .cluster p)
  let mirror := if !far.isEmpty then s.moverAt (maxOf 0 far) else if !others.isEmpty then s.moverAt (maxOf 0 others) else 68
  (s.moverAt p, mirror)

/-- The live journal of a context and tag. -/
def State.journal (s : State) (ctx jtag : Nat) : Option Journal :=
  s.drv.journals.find? (fun j => j.ctx == ctx && j.jtag == jtag)

def State.modJournal (s : State) (ctx jtag : Nat) (f : Journal → Journal) : State :=
  { s with drv := { s.drv with journals := s.drv.journals.map (fun j => if j.ctx = ctx ∧ j.jtag = jtag then f j else j) } }

def State.freeJournal (s : State) (ctx jtag : Nat) : State :=
  let s := s.landAll ((s.drv.journals.filter (fun j => j.ctx == ctx && j.jtag == jtag)).flatMap (fun j => j.routes.flatMap (·.access)))
  { s with drv := { s.drv with journals := s.drv.journals.filter (fun j => !(j.ctx == ctx && j.jtag == jtag)) } }

/-- The command of queue `q` leaves the planner, and what the planner reads for it goes nowhere. -/
def State.leavePlanner (s : State) (q : Nat) : State :=
  let s := s.landAll ((s.drv.mapReads.filter (fun x => x.1 == q)).flatMap (fun x => x.2.map (fun n => (68, n))))
  { s with drv := { s.drv with planQ := s.drv.planQ.filter (· ≠ q), mapReads := s.drv.mapReads.filter (fun x => x.1 ≠ q) } }

/-! ## Errors (R211) -/

/-- The ERROR record of a Drover code, and DRV_LAST_ERR where the code is one of R211. -/
def State.drvErr (s : State) (code slice jtag ctx sub token expert : Nat) : State :=
  if code / 256 = 0x0A then
    let s := s.wr .DRV_LAST_ERR 0 (setBits 63 48 code (setBits 47 40 slice (setBits 31 16 jtag (setBits 12 0 ctx 0))))
    let s := s.wr .DRV_LAST_ERR_INFO 0 (setBits 63 48 sub (setBits 31 16 token (setBits 15 0 expert 0)))
    s.err code slice (word ctx)
  else s

/-- Words of the running command of a queue. -/
def State.runningWords (s : State) (q : Nat) : List Word := ((s.queueRun q).running.map (·.words)).getD []

/-- The Drover command of queue `q` fails: the journal of its phase, and the one a COMBINE names, are freed, and its fence takes
the code (R205, R211). -/
def State.failDrover (s : State) (q code sub token expert : Nat) : State :=
  let c := s.qCtx q
  let jtag := droverJtag (s.runningWords q)
  let s := s.drvErr code (s.qSlice q) jtag c sub token expert
  let combine := cmdOpcode (s.runningWords q) == 5
  let mine := fun (j : Journal) => decide (j.queue = some q) || (combine && j.queue.isNone && j.ctx == c && j.jtag == jtag)
  let s := forEach (s.drv.journals.filter mine) (s.leavePlanner q) (fun j s => s.freeJournal j.ctx j.jtag)
  s.completeCmd q code code

/-! ## Transfers (R185) -/

/-- A route's transfer is in flight. -/
def Route.flying (r : Route) : Bool := r.stage == 1 || r.stage == 3

/-- Transfers of a journal in flight that `p` selects by their route and whether they are re-sent rows. -/
def Journal.flights (j : Journal) (p : Route → Bool → Bool) : Nat :=
  (j.routes.filter (fun r => r.flying && p r false)).length +
  (j.resend.filter (fun x => x.2 && (match j.routes[x.1]? with
    | some r => p r true
    | none => false))).length

/-- Transfers in flight at the mover of station `k`, and in all. -/
def State.moverFlights (s : State) (k : Nat) : Nat :=
  s.drv.journals.foldl (fun n j => n + j.flights (fun r again => (if again then s.homeMover j r.token else s.moverOf j r) == k)) 0
def State.droverFlights (s : State) : Nat := s.drv.journals.foldl (fun n j => n + j.flights (fun _ _ => true)) 0

/-- A translation fault has parked the Drover command of a queue (R211): a dispatch's journal goes, a combine's goes back to
DISPATCHED, for a RETRY plans again from the start. -/
def State.parkDrover (s : State) (q : Nat) : State :=
  let s := s.landAll ((s.drv.journals.filter (fun j => decide (j.queue = some q))).flatMap (fun j => j.routes.flatMap (·.access)))
  let s := s.leavePlanner q
  { s with drv := { s.drv with
    journals := (s.drv.journals.filter (fun j => !(decide (j.queue = some q) && decide (j.state ≠ .combining)))).map (fun j =>
      if j.queue = some q then
        { j with queue := none, state := .dispatched, routes := j.routes.map (fun r => { r with stage := 0, row := [], access := [] }) }
      else j) } }

/-! ## Failures (R206) -/

/-- The store that a journal's lost copy is written to anew: the one R204 chooses now. -/
def State.newStore (s : State) (j : Journal) (lost : Nat) : Journal :=
  let (a, b) := s.storesFor j.slice (dCore0 j.words)
  { j with primary := if j.primary = lost then a else j.primary, mirror := if j.mirror = lost then b else j.mirror }

/-- The mover and store of station `k` are lost: transfers in flight there are issued again by the substitute, and journal copies are
written anew. -/
def State.moveDrover (s : State) (k x : Nat) : State :=
  let mine := fun (j : Journal) (r : Route) => r.flying && s.moverOf j r == k
  let again := fun (j : Journal) (y : Nat × Bool) => y.2 && (match j.routes[y.1]? with
    | some r => s.homeMover j r.token == k
    | none => false)
  let n := s.drv.journals.foldl (fun n j => n + (j.routes.filter (mine j)).length + (j.resend.filter (again j)).length) 0
  let t := s.landAll (s.drv.journals.flatMap (fun j => (j.routes.filter (mine j)).flatMap (·.access)))
  let t : State := { t with drv := { t.drv with journals := t.drv.journals.map (fun j =>
    { s.newStore j k with
      routes := j.routes.map (fun r => if mine j r then { r with stage := 0, access := [] } else r),
      resend := j.resend.map (fun y => if again j y then (y.1, false) else y) }) } }
  t.bump .DRV_ST_COUNT_RESENT x n

/-- The planner's store is lost with PD22's power: its copies are gone (R30). Once the domain is on the planner writes them again
(R206). -/
def State.planStoreLost (s : State) : State :=
  { s with drv := { s.drv with journals := s.drv.journals.map (fun j => { j with mirror := if j.mirror = 68 then 69 else j.mirror }) } }
def State.planStoreBack (s : State) : State :=
  { s with drv := { s.drv with planQ := [], mapReads := [], journals := s.drv.journals.map (fun j => s.newStore j 69) } }

/-- The rows of a journal that the slots of an expert core of this chip have received. -/
def State.rowsOf (s : State) (j : Journal) (core : Nat) : List Nat :=
  (List.range j.routes.length).filter (fun i => match j.routes[i]? with
    | some r => r.kind != 1 && eCore (j.expert r.expert) == core && s.expertHere (j.expert r.expert) &&
        (decide (j.state ≠ .planned) || r.stage == 2)
    | none => false)

/-- The expert core `core` is replaced: every dispatched row of its slots is sent again from the journals (R206). -/
def State.resendRows (s : State) (core : Nat) : State :=
  let s := forEach s.drv.journals s (fun j s =>
    forEach (s.rowsOf j core) s (fun i s => match j.routes[i]? with
      | some r => s.bump .DRV_ST_COUNT_RESENT (s.homeMover j r.token)
      | none => s))
  { s with drv := { s.drv with journals := s.drv.journals.map (fun j =>
    { j with resend := j.resend ++ ((s.rowsOf j core).filter (fun i => !j.resend.any (fun y => y.1 == i))).map (fun i => (i, false)) }) } }

/-- Every row of an expert core that is to be sent again has been. -/
def State.resent (s : State) (core : Nat) : Bool :=
  !s.drv.journals.any (fun j => j.resend.any (fun y => (s.rowsOf j core).contains y.1))

end Sys2Proof.Machine
end

