-- ==== Sys2Proof/Machine/Granary.lean ====
section
/-! DEFINITION. The spare manager's operations (R384–R391): what a substitution records, the choice of substitutes, and
what a failure of a core, a cluster station, a mover or a memory port starts. -/

namespace Sys2Proof.Machine

open Sys2Proof

/-! ## Records (R385) -/

/-- Move the oldest waiting record set into Moot slot 0, if that is free: it takes a ticket and goes to CHECK at once. -/
def State.pumpRecords (s : State) : State :=
  match s.spr.records with
  | [] => s
  | es :: rest =>
    if (s.slot 0).state = .free then
      let t := s.freshTicket
      let s : State := { s with spr := { s.spr with records := rest },
                                moot := { s.moot with nextTicket := ticketAfter t } }
      s.modSlot 0 (fun _ => { CsSlot.init with state := .checking, ticket := t, writer := .steward, entries := es, record := true })
    else s

/-- Stage a record change set. -/
def State.stageRecord (s : State) (es : List Entry) : State :=
  ({ s with spr := { s.spr with records := s.spr.records ++ [es] } } : State).pumpRecords

/-- A substitution of a kind (SPR_LAST.KIND) is recorded: ERROR 0x1001, SPARE_NOTICE, SPR_LAST. -/
def State.substituted (s : State) (kind failed subst : Nat) : State :=
  let d := setBits 63 60 kind (setBits 59 48 failed (setBits 47 36 subst (setBits 31 0 s.clock.gtb 0)))
  let s := s.err 0x1001 0 d
  (s.wr .SPR_LAST 0 d).emit (.fmSpare kind failed subst s.clock.gtb)

/-- No spare of a kind is left (R390): ERROR 0x1004, EXHAUSTED. -/
def State.noSpare (s : State) (kind failed : Nat) (slice : Nat := 0) : State :=
  (s.wr .SPR_STATUS 0 (s.rd .SPR_STATUS 0 ||| word (1 <<< kind))).err 0x1004 slice (setBits 63 60 kind (setBits 59 48 failed 0))

/-! ## Cores (R233, R386) -/

/-- Spare clusters of a cluster station's domain that are healthy, powered and not taken whole. -/
def State.spareClustersFor (s : State) (k : Nat) : List Nat :=
  s.ledger.otp.spareClusters.filter (fun x => domainOf .cluster x == domainOf .cluster k && x != k &&
    s.stationOn .cluster x && !s.spr.badClusters.contains x && !s.spr.usedClusters.contains x)

/-- The substitute for a core of cluster `k`: the spare core of the cluster, then the cores of the domain's spare cluster. -/
def State.pickCore (s : State) (k : Nat) : Option Nat :=
  let own := if (s.cluster k).stopped then [] else [s.spareCoreOf k]
  let cands := own ++ (s.spareClustersFor k).flatMap (fun x => List.range' (9 * x) 9)
  cands.find? (fun c => !s.spr.badCores.contains c && !s.spr.usedCores.contains c && cfgCoreTag s.regs c == 0xFF)

/-- A REG entry. -/
def regEntry (r : Reg) (i : Nat) (v : Word) : Entry := ⟨setBits 63 60 1 (word (regAddr r i)), v⟩

/-- The entry that takes a core's tag to 0xFF. -/
def State.unbindEntry (s : State) (c : Nat) : Entry :=
  let i := c % 8
  regEntry .CMP_CORE_SLICE (c / 8) (setBits (8 * i + 7) (8 * i) 0xFF (s.rd .CMP_CORE_SLICE (c / 8)))

/-- The failure of core `l` interrupts its tile: it is charged up to now, and ends without committing, to be replayed (R222, R233). A
tile whose commit has begun goes on: its held writes are out (R162). -/
def State.interruptTile (s : State) (l : Nat) : Bool × State :=
  match s.tileOf l with
  | none => (s.interrupted l, s)
  | some t =>
    let c := s.cluster (s.stationOf l)
    if t.ended ∧ !s.interrupted l ∧ !c.tokens.any (fun x => x.ofTile l) ∧ !c.held.any (fun h => h.core == l) then (false, s)
    else
      let s := ((s.chargeTile t).discardHeld l).replayRequests l
      (true, s.modTile l (fun t => { t with ended := true, ranNs := 0, replay := true, checkpoint := false }))

/-- Physical core `c` has failed. A core that serves no position is only marked. Its substitute's cache is empty, so the failed core's
is flushed first: a core that does not answer loses its M lines (R233, R253, R257; DEDUCED, log 91). -/
def State.coreFail (s : State) (c : Nat) : State :=
  if s.spr.badCores.contains c then s
  else
    let l := s.logicalCore c
    let s : State := { s with spr := { s.spr with badCores := s.spr.badCores ++ [c] } }
    if cfgCoreTag s.regs l = 0xFF then s
    else
      match s.pickCore (s.stationOf l) with
      | some q =>
        let (hit, s) := s.interruptTile l
        let s := s.emptyCache l
        let subs := s.spr.coreSubs.filter (fun x => x.core ≠ l) ++ [⟨l, q, hit⟩]
        let s : State := { s with spr := { s.spr with coreSubs := subs, usedCores := s.spr.usedCores ++ [q] } }
        s.substituted 0 l q
      | none =>
        let s := ((s.noSpare 0 l (cfgCoreTag s.regs l)).abortTile l 0x1004).emptyCache l
        s.stageRecord [s.unbindEntry l]

/-- The failed core's index now names its substitute, whose station serves under the epoch in force (DESIGN CHOICE, log 87). -/
def State.alias (s : State) (core subst : Nat) : State :=
  let s := s.modCluster (subst / 9) (fun c => if c.epoch = s.epoch then c else { c with prevEpoch := c.epoch, epoch := s.epoch })
  s.wr .SPR_CORE_ALIAS core (setBits 63 63 1 (setBits 9 0 subst 0))

/-! ## Cluster stations and movers (R206, R388) -/

/-- The Hedge, TLB or held-write buffer of cluster station `k` has failed. -/
def State.clusterFail (s : State) (k : Nat) : State :=
  if s.spr.badClusters.contains k then s
  else
    let s := s.modCluster k (fun c => { c with stopped := true })
    let s := forEach ((List.range' (9 * k) 9).filter (fun c => cfgCoreTag s.regs c ≠ 0xFF && s.stationOf c == k)) s (fun c s => s.emptyCache c)
    let s : State := { s with spr := { s.spr with badClusters := s.spr.badClusters ++ [k] } }
    match (s.spareClustersFor k).find? (fun x => !(List.range' (9 * x) 8).any (fun c =>
        s.spr.usedCores.contains c || s.spr.badCores.contains c)) with
    | some x =>
      let s : State := { s with spr := { s.spr with usedClusters := s.spr.usedClusters ++ [x],
                                                    clusterSubs := s.spr.clusterSubs ++ [(k, x)] } }
      s.substituted 2 k x
    | none => s.noSpare 2 k

/-- The mover unit or journal store of cluster station `k` has failed: the spare cluster's station serves, and the journal
copies that stood there are written anew there. -/
def State.moverFail (s : State) (k : Nat) : State :=
  if s.spr.badMovers.contains k then s
  else
    let s : State := { s with spr := { s.spr with badMovers := s.spr.badMovers ++ [k] } }
    match (s.spareClustersFor k).find? (fun x => !s.spr.moverSubs.any (fun y => y.2 == x) && !s.spr.badMovers.contains x) with
    | some x =>
      let s : State := { s with spr := { s.spr with moverSubs := s.spr.moverSubs ++ [(k, x)] } }
      ((s.moveDrover k x).substituted 1 k x).stageRecord []
    | none => s.noSpare 1 k

/-! ## Memory channels (R384, R391) -/

/-- The spare port for port `p`: the lowest of its domain, or else of any. -/
def State.pickPort (s : State) (p : Nat) : Option Nat :=
  let free := s.ledger.otp.sparePorts.filter (fun q => q != p && s.stationOn .memory q && s.portSpare s.regs q)
  match free.find? (fun q => domainOf .memory q == domainOf .memory p) with
  | some q => some q
  | none => free.head?

/-- Memory port `p` fails: its channel is rebuilt onto a spare port, whose station gets the upper node; without one it stays (R390). -/
def State.portFail (s : State) (p : Nat) : State :=
  if s.spr.badPorts.contains p ∨ s.fld .SPR_REBUILD_BUSY = 1 then s
  else match (List.range 64).find? (fun j => (cfgChanOwner s.regs j).tag != 0xFF && cfgChanPort s.regs j == p) with
    | none => { s with spr := { s.spr with badPorts := s.spr.badPorts ++ [p] } }
    | some j =>
      match s.pickPort p with
      | none => ({ s with spr := { s.spr with badPorts := s.spr.badPorts ++ [p] } } : State).noSpare 3 j (cfgChanOwner s.regs j).tag
      | some q =>
        let m := s.memSt p
        let s := s.modMem q (fun x => { x with root := m.root, upper := m.upper })
        let s := s.wr .SPR_REBUILD 0 (setBits 63 63 1 (setBits 55 50 j (setBits 49 43 p (setBits 42 36 q 0))))
        s.substituted 3 p q

/-- Count an event of a port in the current second of the GTB. -/
def countInSecond (now : Nat) (l : List (Nat × Nat)) (p : Nat) : Nat :=
  let v := mapGet 0 l p
  let sec := now / 1000000000
  if v / 2 ^ 32 = sec ∧ v ≠ 0 then v + 1 else sec * 2 ^ 32 + 1

/-- A poison report (0x0806) of a port: 16 in a second fail it. -/
def State.poisonReport (s : State) (p : Nat) : State :=
  let v := countInSecond s.clock.gtb s.spr.poisons p
  let s : State := { s with spr := { s.spr with poisons := mapPut s.spr.poisons p v } }
  if 16 ≤ v % 2 ^ 32 then s.portFail p else s

/-- A corrected error of a port's DRAM. -/
def State.ceReport (s : State) (p : Nat) : State :=
  let v := countInSecond s.clock.gtb s.spr.ces p
  let s : State := { s with spr := { s.spr with ces := mapPut s.spr.ces p v } }
  if s.fld .SPR_CTL_MEMCH_CE_LIMIT < v % 2 ^ 32 then s.portFail p else s

end Sys2Proof.Machine
end

