-- ==== Sys2Proof/Machine/SaveOps.lean ====
section
/-! DEFINITION. Shared operations of SAVE (R315–R318): the end of a TEN_CMD, the image's records and its host buffers, and
the reads of the granule key list and of the granules' lines. -/

namespace Sys2Proof.Machine

open Sys2Proof

/-! ## A TEN_CMD that runs (R311) -/

/-- State of a slice (R311); 0 where the tag is no tenant's. -/
def State.sliceState (s : State) (sl : Nat) : Nat := if 1 ≤ sl ∧ sl ≤ 128 then s.fld .TEN_SLICE_STATE_STATE sl else 0

/-- The running TEN_CMD ends or stops with a code. -/
def State.tenOver (s : State) (code : Nat) : State :=
  let s : State := { s with ten := { s.ten with run := none },
                            hif := { s.hif with reads := s.hif.reads.filter (fun e => decide (e.2.1 ≠ .migImage)) } }
  (((s.setFld .TEN_STATUS_BUSY 0 0).setFld .TEN_STATUS_BUF_WAIT 0 0).setFld .TEN_STATUS_RESULT 0 code).setCause 0x14 2

/-- A TEN_CMD runs on. -/
def State.tenBegin (s : State) (op sl : Nat) : State :=
  (({ s with ten := { s.ten with run := some ⟨op, sl⟩ } } : State).setFld .TEN_STATUS_BUSY 0 1).setFld .TEN_STATUS_PROGRESS 0 0

/-- The keys of a SAVE are gone (R315), and what is left of its image. -/
def State.endSave (s : State) : State :=
  { s with ten := { s.ten with session := { s.ten.session with imageId := [], dek := none, macKey := [] }, save := none } }

/-- The slice whose SAVE runs. -/
def State.savingSlice (s : State) : Nat :=
  match s.ten.run with
  | some r => r.slice
  | none => 0

/-- The SAVE stops with a code and leaves its slice FROZEN (R317, R318). -/
def State.stopSave (s : State) (code : Nat) : State := ((s.setSliceState s.savingSlice 3).endSave).tenOver code

/-! ## The host buffer (R318) -/

/-- The first granule of a slice's window. -/
def State.windowGranule (s : State) (sl : Nat) : Nat := (cfgMemset s.regs ⟨sl, 0⟩).1 * 4096

/-- A write to the host buffer of the image, `at_` bytes from its start. -/
def State.imageWrite (s : State) (addr : Nat) (data : List Word) : State :=
  s.postWrite .image addr (some (s.fld .TEN_MIG_PASID_PASID)) data

def State.setSave (s : State) (x : SaveRun) : State := { s with ten := { s.ten with save := some x } }

/-- The image's writes on their way. -/
def State.imagePosts (s : State) : Nat := s.inFlight (fun u => decide (u = .image))

/-- The buffer is full and holds all that was written to it, and the image goes on: TEN waits for another. -/
def State.saveWait (s : State) : State :=
  match s.ten.save with
  | some x => if 8 ≤ x.rest.length ∧ x.len ≤ x.pos ∧ s.imagePosts = 0 then s.setFld .TEN_STATUS_BUF_WAIT 0 1 else s
  | none => s

/-- Write what the buffer in hand has room for, in whole words. -/
def State.saveFlush (s : State) : State :=
  match s.ten.save with
  | some x =>
    let n := min (x.rest.length / 8 * 8) (x.len - x.pos)
    if n = 0 then s.saveWait
    else
      (s.imageWrite (x.base + x.pos) (bytesWords (n / 8) (x.rest.take n))).setSave
        { x with rest := x.rest.drop n, pos := x.pos + n }
  | none => s

/-- The SAVE goes on in the buffer that the registers name. -/
def State.saveBuffer (s : State) : State :=
  match s.ten.save with
  | some x =>
    (s.setSave { x with base := (s.rd .TEN_MIG_BUF 0).toNat, len := s.fld .TEN_MIG_LEN_PAGES * 4096, pos := 0 }).saveFlush
  | none => s

/-! ## Records (R316) -/

/-- A record's header. -/
def imageHeader (type seq len index : Nat) : List Byte :=
  leBytes 4 type ++ leBytes 4 seq ++ leBytes 8 len ++ leBytes 8 index ++ leBytes 8 0

/-- What of a record follows its header: HEAD's payload in the clear, every other one encrypted, and the tag. -/
def imageSealed (k : Key) (imageId : List Byte) (type seq : Nat) (header payload : List Byte) : List Byte × List Byte :=
  let iv := leBytes 4 seq ++ slice imageId 0 8
  let r := if type = 1 then Config.gcm k iv (header ++ payload) [] else Config.gcm k iv header payload
  (if type = 1 then payload else fit payload.length r.1, beBytes 16 r.2.toNat)

/-- The image grows by a record. -/
def State.saveRecord (s : State) (type index : Nat) (payload : List Byte) : State :=
  match s.ten.save, s.ten.session.dek with
  | some x, some k =>
    let h := imageHeader type x.seq payload.length index
    let r := imageSealed k s.ten.session.imageId type x.seq h payload
    ((s.setFld .TEN_STATUS_PROGRESS 0 (x.seq + 1)).setSave
      { x with seq := x.seq + 1, sealed := x.sealed ++ h ++ r.2, rest := x.rest ++ h ++ r.1 ++ r.2 }).saveFlush
  | _, _ => s

/-- GRANULE's payload: the KeyID, the line map of 2 bits a line, and the data lines. -/
def granulePayload (keyid : Nat) (lines : List (Nat × Line)) : List Byte :=
  leBytes 2 keyid ++ leBytes 6 0 ++
  (List.range 4096).map (fun i =>
    BitVec.ofNat 8 ((List.range 4).foldl (fun n j => n + (lines.getD (4 * i + j) (0, 0)).1 * 4 ^ j) 0)) ++
  (lines.filter (fun x => x.1 == 1)).flatMap (fun x => leBytes 128 x.2.toNat)

/-- JOURNAL's payload: the journal with what is left of its lifetime, which stopped when its slice froze. -/
def State.journalPayload (s : State) (j : Journal) : List Byte :=
  Config.imageJournal j.ctx (j.ttlNs - (j.frozenAt.getD s.clock.gtb - j.created))
    (j.routes.map (fun r => [r.token, r.rank, r.kind, r.expert, r.slot, r.weight])) j.words j.experts

/-- Put a journal among journals, by ascending JTAG. -/
def insertJournal (j : Journal) : List Journal → List Journal
  | [] => [j]
  | y :: t => if j.jtag ≤ y.jtag then j :: y :: t else y :: insertJournal j t

/-- The live journals of a slice, by ascending JTAG. -/
def State.savedJournals (s : State) (sl : Nat) : List Journal :=
  (s.drv.journals.filter (fun j => j.slice == sl)).foldr insertJournal []

/-- A mailbox word that an image carries: the indices, the proposal and the rings. -/
def mailboxSaved (w : Nat) : Bool := decide (w < 4) || (decide (704 ≤ w) && decide (w < 712)) || (decide (1024 ≤ w) && decide (w < 2048))

/-- MAILBOX's payload. -/
def State.mailboxPayload (s : State) (sl : Nat) : List Byte :=
  wordsBytes (((List.range 2048).filter mailboxSaved).map (fun w => s.mbx sl w))

/-- The records after the granules: JOURNAL, MAILBOX, END. The image is padded to a whole word of the host's. -/
def State.saveTail (s : State) : State :=
  let sl := s.savingSlice
  let s := forEach (s.savedJournals sl) s (fun j s => s.saveRecord 6 j.jtag (s.journalPayload j))
  let s := s.saveRecord 7 0 (s.mailboxPayload sl)
  match s.ten.save with
  | some x =>
    let s := s.saveRecord 8 0 (hmac384 s.ten.session.macKey x.sealed)
    match s.ten.save with
    | some x =>
      let pad := (8 - x.rest.length % 8) % 8
      (s.setSave { x with rest := x.rest ++ List.replicate pad 0, ended := true }).saveFlush
    | none => s
  | none => s

/-! ## Reading the slice's memory (R317) -/

/-- KeyID of a granule of the window in the key list that has been read. -/
def SaveRun.keyOf (x : SaveRun) (granule : Nat) : Nat :=
  lineGet (x.list.getD (granule / 64) 0) (2 * (granule % 64)) 2 % 1024

/-- Read a line through the Mill as the manager. -/
def State.saveRead (s : State) (image keyid pa : Nat) : State :=
  match s.place pa with
  | some (p, line) => s.present p (MemOp.fresh s.epoch (.save image) 0x3FF 0 8192 keyid line (pa / 128) .read 0 0)
  | none => s.stopSave 0x0508

/-- The next read: the key list's lines, then each granule's; when there is none, the last records. -/
def State.saveGo (s : State) : State :=
  match s.ten.save with
  | none => s
  | some x =>
    if x.list.length < x.listLen then s.saveRead x.image 0 ((s.rd .TEN_MIG_GKEY 0).toNat + 128 * x.list.length)
    else match x.granules with
      | g :: _ =>
        s.saveRead x.image (x.keyOf g) ((s.windowGranule s.savingSlice + g) * 2097152 + 128 * x.lines.length)
      | [] => s.saveTail

/-- A line of the image has been read: its code in the line map, and its data. A granule that is whole gives its record. -/
def State.saveLine (s : State) (image code : Nat) (d : Line) : State :=
  match s.ten.save with
  | none => s
  | some x =>
    if x.image ≠ image then s
    else if x.list.length < x.listLen then
      (if code = 2 then s.stopSave 0x0802 else (s.setSave { x with list := x.list ++ [d] }).saveGo)
    else
      let x := { x with lines := x.lines ++ [(code, d)] }
      match x.granules with
      | g :: rest =>
        if x.lines.length < 16384 then (s.setSave x).saveGo
        else ((s.setSave { x with granules := rest, lines := [] }).saveRecord 5 g (granulePayload (x.keyOf g) x.lines)).saveGo
      | [] => s

/-- Plaintext of a line whose verdict is still due. -/
def State.saveData (s : State) (image : Nat) (d : Line) : State :=
  match s.ten.save with
  | some x => if x.image = image then s.setSave { x with data := d } else s
  | none => s

/-- A read of the image has its verdict: a REPLAY reads the line once more; a FAIL stops the SAVE. -/
def State.saveVerdict (s : State) (image : Nat) (v : Verdict) (zero : Bool) : State :=
  match s.ten.save with
  | none => s
  | some x =>
    if x.image ≠ image then s
    else match v with
      | .pass => s.saveLine image (if zero ∧ x.data = 0 then 0 else 1) x.data
      | .replay => s.saveGo
      | .fail => s.stopSave 0x0801

/-- A read of the image ends in an error: a line in the pound is saved as one. -/
def State.saveError (s : State) (image code : Nat) : State :=
  match s.ten.save with
  | none => s
  | some x => if x.image ≠ image then s else if code = 0x0802 then s.saveLine image 2 0 else s.stopSave code

end Sys2Proof.Machine
end

