-- ==== Sys2Proof/Machine/Hedge.lean ====
section
/-! DEFINITION. The Hedge (R53–R57) and the life of a granted request at its cluster station: checkpoints and fences
(R163, R248), reads, writes and atomics (R239–R249), the atomic log (R251, R252). -/

namespace Sys2Proof.Machine

open Sys2Proof

/-! ## The check (R54) -/

/-- An answer of the Hedge, with what the station needs to go on. -/
inductive Hdg where
  | grant (g : Grant) (link : Option Nat)
  | sram (core offset : Nat)
  | deny (code pa : Nat)
  /-- `recheck`: a hit that does not permit the access (R112). -/
  | defer (recheck : Bool)
  deriving DecidableEq, Repr

/-- The context a request of a core runs in: its tile's; a mover's is that of a running Drover phase of the slice. 8192
where there is none. -/
def State.requestCtx (s : State) (r : Req) (core tag : Nat) : Nat :=
  if r.mover then
    match s.drv.journals.find? (fun j => j.slice == tag && j.queue.isSome) with
    | some j => j.ctx
    | none => 8192
  else match s.tileOf core with
    | some t => t.ctx
    | none => 8192

/-- The requester that a request of a port comes from: the core its index names (R233), or the station's mover. -/
def State.requester (s : State) (r : Req) : Nat := if r.mover then moverCore r.port r.core else s.logicalCore r.physCore

/-- Stamp a request (R36). -/
def State.stamp (s : State) (r : Req) (beats : List (Line × ByteMask)) (operand compare : Word) : PortAccess :=
  let core := s.requester r
  let tag := s.coreTag r.physCore
  ⟨r, core, s.requestCtx r core tag, tag, (s.cluster r.port).epoch, beats, operand, compare, (s.cluster r.port).nextSeq, none⟩

/-- A request of one of the block's own engines, in the form of a port's. -/
def engineReq (port opc akind core engine beatsM1 txn : Nat) (mover : Bool) (addr : Word) : Req :=
  ⟨port, BitVec.ofNat 32 (opc * 2 ^ 28 + akind * 2 ^ 26 + core % 9 * 2 ^ 22 + engine * 2 ^ 20 + beatsM1 * 2 ^ 8 +
    (if mover then 4 else 0)), txn, addr⟩

/-- The station has taken a request: the next one gets the next number. -/
def State.numbered (s : State) (k : Nat) : State := s.modCluster k (fun c => { c with nextSeq := c.nextSeq + 1 })

/-- The KeyID of accesses to a granule: the commons' own, or the leaf's (R107). -/
def State.keyFor (s : State) (o : Owner) (leaf : Nat) : Nat :=
  if o.tag = 0xFE then s.fld .CMP_COMMONS_CTL_KEYID o.cid else leaf

/-- The owner of the granule of a local PA in the committed table (R47). -/
def State.ownerOf (s : State) (pa : Nat) : Owner := ownerAt s.comp.owners (pa % 2 ^ 39 / 2097152)

/-- A request of a DMA engine begins a descriptor, or touches the start of a 4 KiB page of its extent (R121). -/
def pageStart (off bytes : Nat) : Bool := decide ((off + bytes - 1) / 4096 * 4096 ≥ off)

/-- The DMA descriptor of the tile of a core. -/
def State.dmaOf (s : State) (core : Nat) : Option DmaXlt :=
  match s.tileOf core with
  | some t => (s.xlt.extents.find? (fun e => e.1 == t.queue)).map (·.2)
  | none => none

/-- What the station's TLB, or the descriptor's extents, say of a request: the entry as a TLB entry, if any, and the PA. An
extent whose generation is not the context's serves no request that reaches a 4 KiB boundary (R121). -/
def State.lookup (s : State) (k : Nat) (a : PortAccess) : Option (TlbEntry × Nat) :=
  if a.req.akind = 1 then
    match s.dmaOf a.core with
    | some d =>
      (match d.list.find? (fun x => x.1 == getBits 63 60 a.req.addr) with
      | some (_, e) =>
        let off := getBits 39 0 a.req.addr
        if off < e.entry.size ∧ e.host = false ∧ (d.gen = s.ctxGen a.ctx ∨ pageStart off (128 * (a.req.beatsM1 + 1)) = false) then
          some (e.entry, e.entry.pa + off)
        else none
      | none => none)
    | none => none
  else
    let dva := getBits 47 0 a.req.addr
    match (s.cluster k).tlb.find? (fun e => e.ctx == a.ctx && decide (e.va ≤ dva) && decide (dva < e.va + e.size)) with
    | some e => some (e, e.pa + (dva - e.va))
    | none => none

/-- The permission bits admit the access (R102). -/
def permits (e : TlbEntry) : AccessKind → Bool
  | .read => e.r
  | .write => e.w
  | .atomic => e.r && e.w && e.a

/-- The Hedge's answer to a request (R54). A fence and an allocator request name no memory: they are granted to a bound
core. A request of the previous epoch is judged by that epoch's core table, links and memberships, which the stub holds, and
by the owners as its TLB entry has them (R52, R63; DEDUCED, log 87). What HDG_LAST_DENY and the ERROR record show for 0x0509
and 0x0501 the rules leave open: PA 0 (DESIGN CHOICE, log 86). -/
def State.hedge (s : State) (k : Nat) (a : PortAccess) : Hdg :=
  let r := a.req
  let m := s.cfgFor k a.epoch
  let here := s.fld .CMP_CHIPNUM_CHIPNUM
  if r.formatBad then .deny 0x0509 0
  else if a.slice = 0xFF then .deny 0x0501 0
  else if r.opc = 5 ∨ r.opc = 6 then .grant ⟨0, 0, none⟩ none
  else if r.akind = 2 then
    (if cfgCoreTag m r.targetCore = a.slice then .sram r.targetCore r.targetOffset else .deny 0x0506 0)
  else match s.lookup k a with
    | none => .defer false
    | some (e, pa) =>
      if permits e r.accessKind = false then .defer true
      else if pa / 2 ^ 50 ≠ here then
        (let ports := linkCandidates m a.slice (pa / 2 ^ 50)
        if bitOf (pa / 2 ^ 50) (regGet m .CMP_CHIPS a.slice) && !(cfgLinks m a.slice).isEmpty then
          (match ports[pa % 2 ^ 50 / 8192 % ports.length]? with
          | some p => .grant ⟨pa, e.keyid, none⟩ (some p)
          | none => .deny 0x0507 pa)
        else .deny 0x0507 pa)
      else if pa % 2 ^ 50 / 2 ^ 39 ≠ 0 then .deny 0x0508 pa
      else if e.ownerValid = false then .defer false
      else if e.owner = 0xFF then .deny 0x0503 pa
      else if e.owner = 0xFE then
        (if r.accessKind ≠ .read then .deny 0x0504 pa
        else if cfgMember m e.cid a.slice then .grant ⟨pa, e.keyid, some e.cid⟩ none
        else .deny 0x0505 pa)
      else if e.owner = a.slice then .grant ⟨pa, e.keyid, none⟩ none
      else .deny 0x0502 pa

/-! ## Bus errors -/

/-- A bus error to the requesting engine: RSP, and the tile is aborted (R56). An access of the block's own engines ends with
its code. An atomic whose tile has been replayed since is issued again when the replay comes to it. -/
def State.busError (s : State) (k : Nat) (a : PortAccess) (code : Nat) : State :=
  if a.internal then s.engineEnd k a (code, 0, 0)
  else
    let ghost := match (s.cluster k).flight a.seq with
      | some f => f.ghost
      | none => false
    let s := s.modCluster k (fun c => c.land a.seq)
    if ghost then s else (s.answer k a.req.txn a.core 1 code).abortTile a.core code

/-- A record of the coherence subsystem, with COH_LAST_ERR and the line concerned (R265). -/
def State.cohErr (s : State) (cls : EventClass) (code slice core line source : Nat) (detail : Word) : State :=
  let s := s.wr .COH_LAST_ERR 0 (setBits 63 48 code (setBits 47 40 slice (setBits 9 0 (s.physical core) 0)))
  let s := s.wr .COH_LAST_ERR_PA 0 (setBits 55 7 line 0)
  s.raise cls code slice source detail

/-- Source of a station's records (R409): the planner's requests, at 68, are the Drover's. -/
def stationSource (k : Nat) : Nat := if k < 68 then 32 + k else 0x0A

/-- A bus error with its ERROR record. -/
def State.busErrorRecord (s : State) (k : Nat) (a : PortAccess) (code : Nat) (detail : Word := 0) : State :=
  (s.raise .error code a.slice (stationSource k) detail).busError k a code

/-- A bus error of the coherence subsystem (R265): COH_LAST_ERR names the line of the access. -/
def State.cohBusError (s : State) (k : Nat) (a : PortAccess) (code pa : Nat) : State :=
  (s.cohErr .error code a.slice a.core (pa / 128) (stationSource k) 0).busError k a code

/-- The station whose Hedge registers show a denial: the planner has none of its own, and shows it at that of the core which holds its
command's routing table (DESIGN CHOICE, log 55). -/
def State.denyStation (s : State) (k : Nat) (a : PortAccess) : Nat :=
  if k < 68 then k
  else match s.drv.mapReads.find? (fun x => x.2.contains a.seq) with
    | some (q, _) => s.stationOf (dWord (((s.queueRun q).running.map (·.words)).getD []) 2 41 32)
    | none => 0

/-- A DENY (R56): the counters, HDG_LAST_DENY, the ERROR record and the bus error. -/
def State.denyAccess (s : State) (k : Nat) (a : PortAccess) (code pa : Nat) : State :=
  let h := s.denyStation k a
  let s := (s.bump .HDG_COUNT_DENY h).setCause 0x05 0
  let s := s.bump .CMP_EPOCH_STAT_DENIES 0
  let s := s.wr .HDG_LAST_DENY h (setBits 63 56 a.slice (setBits 55 0 pa 0))
  let s := s.wr .HDG_LAST_DENY_INFO h (setBits 47 32 code (setBits 3 0 a.req.core 0))
  s.busErrorRecord k a code (setBits 59 56 a.req.core (setBits 55 0 pa 0))

/-- The flight of an access whose epoch is neither its station's own nor the previous one (R66). -/
def State.staleFlight (s : State) (k seq : Nat) : Option PortAccess :=
  let c := s.cluster k
  match c.flight seq with
  | some f => if f.acc.epoch = c.epoch ∨ f.acc.epoch = c.prevEpoch then none else some f.acc
  | none => none

/-- A response of a stale epoch is refused: a bus error with an ALARM, whose DETAIL is the transaction (R66; the rule names no
DETAIL: DESIGN CHOICE, log 86). -/
def State.refuseStale (s : State) (k : Nat) (a : PortAccess) : State :=
  (s.raise .alarm 0x0602 a.slice (stationSource k) (word a.req.txn)).busError k a 0x0602

/-! ## The atomic buffer (R244) -/

/-- Write back every line of a station's atomic buffer. -/
def State.flushAtomics (s : State) (k : Nat) : State :=
  forEach (s.cluster k).atomics s (fun a s => s.writeBackAtomic k a)

/-! ## Issuing a granted access -/

/-- A flight for an access, with the bytes that its core holds of the lines it reads (R239). -/
def State.addFlight (s : State) (k : Nat) (a : PortAccess) (keyid left : Nat) (link : Option Nat) (pa : Nat := 0) : State :=
  s.modCluster k (fun c => { c with flights := c.flights ++ [⟨a, keyid, left, false, link, [],
    (if a.req.opc = 1 ∨ a.req.opc = 2 then (List.range left).map (fun i => heldOver c a.core (pa / 128 + i)) else []),
    false, none⟩] })

/-- A core cache keeps the line of a read: not the DMA engine's, nor a mover's. -/
def PortAccess.cached (a : PortAccess) : Bool := a.req.engine != 3 && !a.req.mover && !a.internal

/-- Read the lines of an access: from the atomic buffer, from memory through the filter, or over a link (R116, R244,
R256, R262). -/
def State.issueRead (s : State) (k : Nat) (a : PortAccess) (g : Grant) (link : Option Nat) : State :=
  let n := a.req.beatsM1 + 1
  match link with
  | some p =>
    if s.linkOpen p then
      let s := s.addFlight k a g.keyid n link g.pa
      let s := if a.cached then
          forEach (List.range n) s (fun i s => s.setFilter (g.pa / 128 + i) a.core (some .rr) a.slice g.keyid)
        else s
      (s.linkCharge a.ctx a.core 1).linkSend p 1 (some ⟨k, false, a.seq, a.epoch⟩)
    else s.busErrorRecord k a 0x0D02
  | none =>
    let s := s.addFlight k a g.keyid n none g.pa
    forEach (List.range n) s (fun i s =>
      let line := g.pa / 128 + i
      match (s.cluster k).atomics.find? (fun x => x.line == line) with
      | some x => s.deliver k a.seq i line false false x.data
      | none =>
        match s.placeAt k a.epoch (line * 128) with
        | some (p, l) =>
          s.filterRead p (MemOp.fresh a.epoch (.core k a.seq i) a.core a.slice a.ctx g.keyid l line .read 0 0) g.cid
            (a.req.opc == 2) a.cached
        | none => s.busErrorRecord k a 0x0508)

/-- Hold the beats of a write (R162). -/
def State.holdWrite (s : State) (k : Nat) (a : PortAccess) (g : Grant) (dest : WriteDest) : State :=
  s.modCluster k (fun c =>
    let hs := (List.range a.beats.length).zip a.beats |>.map (fun x =>
      (⟨c.nextId + x.1, a.req.txn, a.core, a.slice, a.ctx, g.keyid, (g.pa / 128 + x.1) * 128, dest, x.2.1, x.2.2,
        a.req.alloc && decide (dest = .memory), g.cid⟩ : Held))
    { c with held := c.held ++ hs, nextId := c.nextId + hs.length })

/-- Where a granted write goes. -/
def writeDest (a : PortAccess) (link : Option Nat) : WriteDest :=
  if a.req.akind = 2 then .sram a.req.targetCore
  else match link with
    | some p => .remote p
    | none => .memory

/-- A write of an access: held until its tile commits; a releasing write of CLUSTER scope or wider goes out at once,
after its checkpoint, and so does a mover's; those are answered with their last RSP (R239, R248, R256). -/
def State.issueWrite (s : State) (k : Nat) (a : PortAccess) (g : Grant) (dest : WriteDest) : State :=
  let first := (s.cluster k).nextId
  let s := s.holdWrite k a g dest
  if a.req.mover || a.internal || (a.releases && decide (2 ≤ a.req.scope)) then
    let mine := (s.cluster k).held.filter (fun h => decide (first ≤ h.id) && h.core == a.core)
    forEach mine (s.addFlight k a g.keyid mine.length none) (fun h s => s.releaseWrite k h (some a.seq))
  else s.answer k a.req.txn a.core 0 0

/-- An atomic performed by the station needs the line: read it (R243, R244). -/
def State.issueView (s : State) (k : Nat) (a : PortAccess) (g : Grant) (link : Option Nat) (buffer : Bool) : State :=
  let s := s.modCluster k (fun c => { c with views := c.views ++ [⟨a, g, link, buffer, none⟩] })
  let s := s.addFlight k a g.keyid 1 link
  match link with
  | some p => (s.linkCharge a.ctx a.core 1).linkSend p 1 (some ⟨k, false, a.seq, a.epoch⟩)
  | none =>
    match (s.cluster k).atomics.find? (fun x => x.line == g.pa / 128) with
    | some x => s.deliver k a.seq 0 (g.pa / 128) false false x.data
    | none =>
      match s.placeAt k a.epoch g.pa with
      | some (p, l) =>
        s.filterRead p (MemOp.fresh a.epoch (.core k a.seq 0) a.core a.slice a.ctx g.keyid l (g.pa / 128) .read 0 0) g.cid
          false false
      | none => s.busErrorRecord k a 0x0508

/-- An atomic of CLUSTER scope on local memory: in the station's buffer, which evicts its oldest line if it is full (R244). -/
def State.issueBuffer (s : State) (k : Nat) (a : PortAccess) (g : Grant) : State :=
  let c := s.cluster k
  match c.atomics.find? (fun x => x.line == g.pa / 128) with
  | some x =>
    let (old, l) := atomicOn a (g.pa % 128) x.data
    let x' := { x with data := l, be := x.be ||| byteMask (g.pa % 128) a.req.size }
    (s.setCluster k { c with atomics := c.atomics.map (fun y => if y.line = x.line then x' else y) }).answerAtomic k a old
  | none =>
    let s := match c.atomics with
      | x :: _ => if 8 ≤ c.atomics.length + (c.views.filter (fun (v : View) => v.buffer)).length then s.writeBackAtomic k x else s
      | [] => s
    s.issueView k a g none true

/-- An atomic at the memory station (R242): a line of the cluster's own atomic buffer is written back first (R244, DEDUCED: log
87). -/
def State.issueMemAtomic (s : State) (k : Nat) (a : PortAccess) (g : Grant) : State :=
  let s := match (s.cluster k).atomics.find? (fun x => x.line == g.pa / 128) with
    | some x => s.writeBackAtomic k x
    | none => s
  match s.placeAt k a.epoch g.pa with
  | some (p, l) =>
    (s.addFlight k a g.keyid 1 none).filterWrite p (MemOp.fresh a.epoch (.core k a.seq 0) a.core a.slice a.ctx g.keyid l
      (g.pa / 128) (.atomic a.req.aop a.req.asize8 (g.pa % 128) a.operand a.compare) 0 0) g.cid
  | none => s.busErrorRecord k a 0x0508

/-- An atomic by its scope (R242–R244): on the merged view, in the atomic buffer, at the memory station, or at the owning
chip. -/
def State.issueAtomic (s : State) (k : Nat) (a : PortAccess) (g : Grant) (link : Option Nat) : State :=
  let open_ := match link with
    | some p => s.linkOpen p
    | none => true
  if open_ = false then s.busErrorRecord k a 0x0D02
  else if a.req.scope ≤ 1 then s.issueView k a g link false
  else match link with
    | some p =>
      ((s.addFlight k a g.keyid 1 link).linkCharge a.ctx a.core 1).linkSend p 1 (some ⟨k, false, a.seq, a.epoch⟩)
    | none => if a.req.scope = 2 then s.issueBuffer k a g else s.issueMemAtomic k a g

/-- A read of another core's SRAM. What the SRAM holds stands outside the model: it returns free lines. -/
def State.issueSramRead (s : State) (k : Nat) (a : PortAccess) : State :=
  let n := a.req.beatsM1 + 1
  let (f, s) := s.takeFresh
  let lines := (List.range n).map (fun i => Config.freeLine (f * 64 + i))
  let s := forEach ((List.range n).zip lines) s (fun x s => s.emit (.rdat k a.req.txn x.1 false x.2))
  s.fillLog a.core a.slot 0 lines

/-- An access issues: everything it waits for has happened. -/
def State.issue (s : State) (k : Nat) (a : PortAccess) (g : Grant) (link : Option Nat) : State :=
  if a.req.opc = 5 then s.answer k a.req.txn a.core 0 0
  else if a.req.opc = 3 then s.issueWrite k a g (writeDest a link)
  else if a.req.akind = 2 then s.issueSramRead k a
  else if a.req.opc = 4 then s.issueAtomic k a g link
  else s.issueRead k a g link

/-! ## Checkpoints and fences (R163, R248, R249) -/

/-- The access is preceded by a checkpoint. -/
def PortAccess.checkpoints (a : PortAccess) : Bool :=
  decide (2 ≤ a.req.scope) && (a.req.opc == 4 || a.releases)

/-- The access drops the core's RR lines first. -/
def PortAccess.dropsRr (a : PortAccess) : Bool := a.req.scope == 4 && a.acquires

/-- The access carries an acquire of CLUSTER scope or wider. -/
def PortAccess.acquiring (a : PortAccess) : Bool := a.acquires && decide (2 ≤ a.req.scope)

/-- `a` comes before `b` in the order of one engine. -/
def PortAccess.before (a b : PortAccess) : Bool :=
  a.core == b.core && a.req.engine == b.req.engine && decide (a.seq < b.seq)

/-- Two accesses name a line in common. -/
def PortAccess.meets (a b : PortAccess) : Bool :=
  let x := getBits 63 7 a.req.addr
  let y := getBits 63 7 b.req.addr
  a.req.akind == b.req.akind && decide (x ≤ y + b.req.beatsM1) && decide (y ≤ x + a.req.beatsM1)

/-- An earlier access of its engine keeps an access back: an acquire that is not complete (R248), one to the same place that
has not issued (R238), or, before a checkpoint, any that is not complete. -/
def Cluster.earlier (c : Cluster) (a : PortAccess) : Bool :=
  (c.retry.map (·.acc) ++ c.stalled.map (·.acc)).any (fun b => b.before a && (a.checkpoints || b.acquiring || b.meets a)) ||
  c.flights.any (fun f => f.acc.before a && !f.ghost && decide (0 < f.left) && (a.checkpoints || f.acc.acquiring))

/-- An atomic of the station on one of the access's lines is not performed: one of its core (R243), or one that brings its line
into the atomic buffer (R244). -/
def Cluster.viewed (c : Cluster) (a : PortAccess) (pa : Nat) : Bool :=
  a.req.akind != 2 && c.views.any (fun v => (v.buffer || v.acc.core == a.core) &&
    decide (pa / 128 ≤ v.grant.pa / 128) && decide (v.grant.pa / 128 ≤ pa / 128 + a.req.beatsM1))

/-- The held-write buffer has room for what the access will hold: 1,024 lines (R162, R243). -/
def Cluster.room (c : Cluster) (a : PortAccess) : Bool :=
  let n := if a.req.opc = 3 then a.beats.length else if a.req.opc = 4 ∧ a.req.scope ≤ 1 then 1 else 0
  n == 0 || decide (c.held.length + (c.views.filter (fun v => !v.buffer)).length + n ≤ 1024)

/-- The atomic buffer has room for the line of an access: not all its 8 lines are on their way (R244). -/
def Cluster.bufferRoom (c : Cluster) (a : PortAccess) (link : Option Nat) (pa : Nat) : Bool :=
  decide (a.req.opc ≠ 4) || decide (a.req.scope ≠ 2) || link.isSome || c.atomics.any (fun x => x.line == pa / 128) ||
  decide ((c.views.filter (fun v => v.buffer)).length < 8)

/-- Nothing of a core is held, released without its RSP, or unverified: its checkpoint is over (R163). -/
def Cluster.clean (c : Cluster) (core : Nat) : Bool :=
  !(c.held.any (fun h => h.core == core) || c.released.any (fun r => r.core == core) || c.tokens.any (fun t => t.ofTile core))

/-- A stalled access may go. -/
def Cluster.mayIssue (c : Cluster) (x : Stalled) : Bool :=
  x.drop.isNone && !c.earlier x.acc && !c.viewed x.acc x.grant.pa && c.room x.acc && c.bufferRoom x.acc x.link x.grant.pa &&
  (!x.acc.checkpoints || c.clean x.acc.core) &&
  (!(x.acc.releases && decide (3 ≤ x.acc.req.scope)) || c.backs.isEmpty)

/-- Begin a checkpoint of a core. -/
def State.checkpointCore (s : State) (core : Nat) : State :=
  (s.modTile core (fun t => { t with checkpoint := true })).tryCheckpoint core

/-- A stalled access goes, if it may; a checkpoint that it needs begins once the earlier accesses of its engine are out, or the
held-write buffer is full (R163, R248). -/
def State.resumeOne (k seq : Nat) (s : State) : State :=
  let c := s.cluster k
  match c.stalled.find? (fun y => y.acc.seq == seq) with
  | none => s
  | some y =>
    if c.mayIssue y then
      (s.setCluster k { c with stalled := c.stalled.filter (fun z => z.acc.seq ≠ seq) }).issue k y.acc y.grant y.link
    else if !c.earlier y.acc && ((y.acc.checkpoints && !c.clean y.acc.core) || !c.room y.acc) then s.checkpointCore y.acc.core
    else s

/-- Issue the stalled accesses of a station that may go, in the order in which they came. -/
def State.resumeStalled (s : State) (k : Nat) : State :=
  forEach ((s.cluster k).stalled.map (fun x => x.acc.seq)) s (fun seq s => State.resumeOne k seq s)

/-- Drop the RR lines of a core for a stalled access (R248). -/
def State.dropRr (s : State) (k : Nat) (a : PortAccess) : State :=
  let kept := s.coh.filter.filter (fun (e : FilterEntry) => !(e.core == a.core && decide (e.st = .rr)))
  let s := { s with coh := { s.coh with filter := kept } }
  s.snoopAll 0 [(a.core, 3)] (.drop k a.seq)

/-- Begin an access that may have to wait: the station's atomic buffer is written back for a release of SLICE or SYSTEM
scope, RR lines are dropped, a checkpoint is taken; then it issues. -/
def State.begin (s : State) (k : Nat) (a : PortAccess) (g : Grant) (link : Option Nat) : State :=
  let x : Stalled := ⟨a, g, link, if a.dropsRr then some s.coh.nextGroup else none⟩
  if a.checkpoints || a.dropsRr || !(s.cluster k).mayIssue x then
    let s := if a.releases && decide (3 ≤ a.req.scope) then s.flushAtomics k else s
    let x := { x with drop := if a.dropsRr then some s.coh.nextGroup else none }
    let s := s.modCluster k (fun c => { c with stalled := c.stalled ++ [x] })
    let s := if a.dropsRr then s.dropRr k a else s
    s.resumeStalled k
  else s.issue k a g link

/-- A line comes back to its station: a stale one is refused, another is delivered, and what waited for it goes on (R66,
R248). -/
def State.returnLine (s : State) (k seq beat paLine : Nat) (spec remote : Bool) (d : Line) : State :=
  match s.staleFlight k seq with
  | some a => s.refuseStale k a
  | none => (s.deliver k seq beat paLine spec remote d).resumeStalled k

/-! ## The atomic log (R251, R252) -/

/-- The log entry a replayed access must match, while a replay still answers from the log. -/
def Tile.replayEntry (t : Tile) : Option LogEntry := if t.replay then t.log[t.logAt]? else none

/-- The access matches a log entry in address, operation and size. -/
def PortAccess.matches (a : PortAccess) (e : LogEntry) : Bool :=
  e.addr == a.address && e.op == a.logOp && e.size == a.logSize

/-- Answer a replayed access from the log. -/
def State.answerLog (s : State) (k : Nat) (a : PortAccess) (e : LogEntry) : State :=
  let s := s.modTile a.core (fun t => { t with logAt := t.logAt + 1 })
  if a.req.opc = 1 then
    forEach ((List.range e.lines.length).zip e.lines) s (fun x s => s.emit (.rdat k a.req.txn x.1 false x.2))
  else s.answer k a.req.txn a.core 0 0 e.value

/-- A replay that diverges stops (R251). -/
def State.diverged (s : State) (k : Nat) (a : PortAccess) (pa : Nat) : State :=
  (s.cohErr .error 0x0C07 a.slice a.core (pa / 128) (32 + k) (word a.core)).abortTile a.core 0x0C07

/-- Send an access on past the log (R251, R252): a replay is answered from it, or fills an entry whose value it does not have; a
new entry is the next in issue order, and a 65th is a bus error. -/
def State.throughLog (s : State) (k : Nat) (a : PortAccess) (logged : Bool) (pa : Nat) (go : PortAccess → State → State) :
    State :=
  match s.tileOf a.core with
  | none => go a s
  | some t =>
    if logged = false ∨ a.internal ∨ a.req.mover then go a s
    else match t.replayEntry with
      | some e =>
        if a.matches e = false then s.diverged k a pa
        else if e.have_ then s.answerLog k a e
        else go { a with slot := some t.logAt } (s.modTile a.core (fun t => { t with logAt := t.logAt + 1 }))
      | none =>
        if 64 ≤ t.log.length then s.cohBusError k a 0x0C04 pa
        else go { a with slot := some t.log.length } (s.modTile a.core (fun t =>
          { t with log := t.log ++ [⟨a.address, a.logOp, a.logSize, 0, [], false⟩], logAt := t.logAt + 1 }))

/-! ## Starting a granted request -/

/-- R178 refuses an atomic: a reserved operation, an address not aligned for its size, an FADD of 8 bytes. -/
def atomicForm (op : Nat) (eight : Bool) (pa : Nat) : Bool :=
  decide (0xA < op) || decide (pa % (if eight then 8 else 4) ≠ 0) || (op == 3 && eight)
def atomicBad (r : Req) (pa : Nat) : Bool := atomicForm r.aop r.asize8 pa

/-- The access carries a SCOPE that is looked at. -/
def PortAccess.scoped (a : PortAccess) : Bool := a.req.opc == 4 || a.req.opc == 5 || decide (a.req.ord ≠ 0)

/-- A granted access to memory. -/
def State.start (s : State) (k : Nat) (a : PortAccess) (g : Grant) (link : Option Nat) : State :=
  if a.scoped && decide (4 < a.req.scope) then s.cohBusError k a 0x0C06 g.pa
  else if a.req.opc = 4 ∧ atomicBad a.req g.pa then s.busErrorRecord k a 0x0809
  else s.throughLog k a a.logged g.pa (fun a s => s.begin k a g link)

/-- The share of an SRAM access's context covers it, or SHARE_FENCE is 0 (R216): the share lies in the cores of its range. -/
def State.shareOk (s : State) (ctx core first bytes : Nat) : Bool :=
  s.fld .SCH_CTL_SHARE_FENCE == 0 ||
  ((s.ctxCores ctx).contains core && decide (s.shareFirst ctx ≤ first) && decide (first + bytes ≤ s.shareLast ctx + 1))

/-- A granted access to another core's SRAM (R54, R216, R246). -/
def State.startSram (s : State) (k : Nat) (a : PortAccess) (target offset : Nat) : State :=
  if a.scoped && decide (4 < a.req.scope) then s.cohBusError k a 0x0C06 0
  else if a.req.opc = 4 then s.cohBusError k a 0x0C03 0
  else if !s.shareOk a.ctx target offset (128 * (a.req.beatsM1 + 1)) then s.busErrorRecord k a 0x0B05
  else s.throughLog k a a.logged 0 (fun a s => s.begin k a ⟨offset, 0, none⟩ none)

/-- Act on a Hedge answer; `live` says that the answer goes out on CPk_HDG_ANS now, else it is a re-evaluation (R55). -/
def State.onAnswer (s : State) (k : Nat) (a : PortAccess) (live : Bool) : State :=
  let ans := fun (s : State) (n : Nat) => if live && !a.internal then s.emit (.hdgAns k a.req.txn n) else s
  match s.hedge k a with
  | .deny code pa => (ans s 2).denyAccess k a code pa
  | .defer recheck =>
    if live then
      ((ans s 3).bump .HDG_COUNT_DEFER k).modCluster k (fun c =>
        { c with retry := c.retry ++ [⟨a, recheck, s.ctxGen a.ctx⟩] })
    else s
  | .sram t off => (ans s 1).startSram k a t off
  | .grant g link => (ans s 1).start k a g link

/-- The next access of a core's replayed tile must wait: the atomic it repeats is still under way (R251). -/
def State.ghostAhead (s : State) (k core : Nat) : Bool :=
  match s.tileOf core with
  | some t => t.replay && (s.cluster k).flights.any (fun f => f.ghost && f.acc.core == core && f.acc.slot == some t.logAt)
  | none => false

/-- The station accepts a request of the core now: it is powered, its check logic is sound, its retry queue has room, and
no checkpoint of the core is under way (R29, R55, R163, R388, R419). -/
def State.accepts (s : State) (r : Req) : Bool :=
  let c := s.cluster r.port
  let core := s.requester r
  s.isReady && s.stationOn .cluster r.port && !c.stopped && decide (c.retry.length < 32) &&
  !c.stalled.any (fun x => x.acc.core == core) && !s.ghostAhead r.port core &&
  (match s.tileOf core with
  | some t => !t.checkpoint
  | none => true)

/-- A request on a cluster port. -/
def State.request (s : State) (r : Req) (beats : List (Line × ByteMask)) (operand compare : Word) : State :=
  if s.accepts r = false then s
  else (s.numbered r.port).onAnswer r.port (s.stamp r beats operand compare) true

/-! ## Verdicts and RSPs (R162, R164, R165) -/

/-- Whatever of a core's waited for a token or an RSP may go on. -/
def State.coreProgress (s : State) (core : Nat) : State :=
  ((s.tryCheckpoint core).resumeStalled (s.stationOf core)).tryCommit core

/-- A token clears with PASS. -/
def State.passToken (s : State) (k : Nat) (t : Token) : State :=
  let s := s.modCluster k (fun c => { c with tokens := eraseFirst (fun x => x == t) c.tokens })
  let s := match (s.cluster k).views.find? (fun v => v.acc.seq == t.seq && v.buffer) with
    | some v => (match v.got with
      | some d => s.performView k v d
      | none => s)
    | none => s
  let s := match (s.cluster k).flight t.seq with
    | some f => s.flightDone k f
    | none => s
  s.coreProgress t.core

/-- A token ends in FAIL (R165, R254): the deferred bus error, the fill dropped, the tile aborted with 0x0801. -/
def State.failToken (s : State) (k : Nat) (t : Token) (code : Nat) : State :=
  let s := s.modCluster k (fun c => { c with tokens := eraseFirst (fun x => x == t) c.tokens })
  if 4096 ≤ t.txn then
    match (s.cluster k).flight t.seq with
    | some f => (s.modCluster k (fun c => { c with tokens := c.tokens.filter (fun x => x.seq ≠ t.seq) })).engineEnd k f.acc
        (code, 0, 0)
    | none => s
  else
    let s := s.answer k t.txn t.core 3 code
    let s := if s.coh.filter.any (fun e => e.line == t.line && e.core == t.core) then
        s.askFilter (.flush t.line (some t.core))
      else s
    s.abortTile t.core code

/-- A declared time (Q8.8 µs) in ns. -/
def declNs (decl : Nat) : Nat := decl * 1000 / 256

/-- A REPLAY verdict for a core's tile: it is replayed (R164), unless its watchdog has run out, when the kill wins (R235). -/
def State.replayOrKill (s : State) (core : Nat) : State :=
  match s.tileOf core with
  | some t => if !t.ended && decide (t.startAt + 4 * declNs t.decl ≤ s.clock.gtb) then s.killTile core else s.replayTile core
  | none => s

/-- A verdict of the current or the previous epoch reaches station `k` for a token. On REPLAY an engine of the block reads again
(R201). -/
def State.takeVerdict (s : State) (k : Nat) (t : Token) (v : Verdict) (code : Nat) : State :=
  match v with
  | .pass => s.passToken k t
  | .replay =>
    if 4096 ≤ t.txn ∨ 1024 ≤ t.core then
      let f := (s.cluster k).flight t.seq
      let s := s.modCluster k (fun c => { c with tokens := c.tokens.filter (fun x => x.seq ≠ t.seq),
                                                 flights := c.flights.filter (fun f => f.acc.seq ≠ t.seq) })
      (match f with
      | some f =>
        if f.acc.internal then s.onAnswer k { f.acc with epoch := (s.cluster k).epoch } true
        else s
      | none => s)
    else (s.modCluster k (fun c => { c with tokens := eraseFirst (fun x => x == t) c.tokens })).replayOrKill t.core
  | .fail => s.failToken k t code

/-- A verdict reaches station `k` for a token; one of a stale epoch is refused with a bus error and an ALARM (R66). -/
def State.onVerdict (s : State) (k : Nat) (t : Token) (v : Verdict) (code : Nat) : State :=
  let c := s.cluster k
  if t.epoch ≠ c.epoch ∧ t.epoch ≠ c.prevEpoch then
    (s.raise .alarm 0x0602 (s.coreTag t.core) (stationSource k) (word t.txn)).failToken k t 0x0602
  else s.takeVerdict k t v code

/-- The RSP of a write that answers its access, the last of them with a completion (R248). -/
def State.answerWrite (s : State) (k : Nat) (f : Flight) : State :=
  let f' := { f with left := f.left - 1 }
  let s := s.modCluster k (fun c => { c with flights := modifyFirst (fun g => g.acc.seq == f.acc.seq) (fun _ => f') c.flights })
  if f'.left = 0 then
    (if f.acc.internal then s.engineEnd k f.acc (0, 0, 0)
     else (s.modCluster k (fun c => c.land f.acc.seq)).answer k f.acc.req.txn f.acc.core 0 0)
  else s

/-- The RSP of a released write (R66, R162, R170): a bus error ends its tile with that code, and so does a response of a stale
epoch, with an ALARM. -/
def State.onRelease (s : State) (k : Nat) (r : Released) (code : Nat) : State :=
  let c := s.cluster k
  let stale := decide (r.epoch ≠ c.epoch) && decide (r.epoch ≠ c.prevEpoch)
  let s := if stale then s.raise .alarm 0x0602 (s.coreTag r.core) (32 + k) (word r.txn) else s
  let code := if stale then 0x0602 else code
  let s := s.modCluster k (fun c => { c with released := c.released.filter (fun x => x.id ≠ r.id) })
  let flight := match r.access with
    | some q => (s.cluster k).flight q
    | none => none
  if code = 0 then
    (match flight with
    | some f => s.answerWrite k f
    | none => s).coreProgress r.core
  else match flight with
    | some f => s.busError k f.acc code
    | none =>
      let s := s.answer k r.txn r.core 1 code
      match s.tileOf r.core with
      | some t =>
        if r.orphan then s.coreProgress r.core
        else if t.ended then
          (s.modTile r.core (fun t => { t with code := if t.code = 0 then code else t.code })).coreProgress r.core
        else s.abortTile r.core code
      | none => s

end Sys2Proof.Machine
end

