-- ==== Sys2Proof/Machine/Gate.lean ====
section
/-! DEFINITION. When a register command takes effect (R438), and the counters' clear commands' shared loop. -/

namespace Sys2Proof.Machine

open Sys2Proof

/-- The blocks whose BAR0 writes are taken before READY: GLB, LCS, IRQ and STW (R438). -/
def earlyBlock (off : Nat) : Bool := [0x0, 0xF, 0x12, 0x15].contains (off / 0x80000)

/-- A write of `path` at a BAR0 offset is taken now (R438): the host's from STEP 3 on, before READY only in the early
blocks; the Steward's once Opgar runs (STEP 9). -/
def State.taken (s : State) (path : Path) (off : Nat) : Bool :=
  s.alive &&
  (match path with
  | .host => decide (3 ≤ s.step) && (s.step == 10 || earlyBlock off)
  | .steward => s.step == 9 || s.step == 10
  | .fm => false)

/-- A host write that comes before READY in another block is discarded with 0x1505 (R438). -/
def State.discardEarly (s : State) (path : Path) (off : Nat) : State :=
  if s.alive && decide (path = .host) && decide (3 ≤ s.step) then s.err 0x1505 0 (word off) else s

/-- A register command: its effect where the write is taken, else R438's discard. -/
def State.gated (s : State) (path : Path) (off : Nat) (t : State) : State :=
  if s.taken path off then t else s.discardEarly path off

/-- Clear a register array's elements `first` to `last`. -/
def State.clearArray (s : State) (r : Reg) (first count : Nat) : State :=
  forEach (List.range' first count) s (fun i s => s.wr r i 0)

end Sys2Proof.Machine
end

