-- ==== Sys2Proof/Machine/Ranges.lean ====
section
/-! DEFINITION. The ranges of the commands' operands: which ports, stations, cores, records and registers exist (R19, R35,
R266), and which payloads a message has. A command outside them names nothing the block has. -/

namespace Sys2Proof

/-- Cluster, memory and link stations; cores; contexts, queues; tenant slices; link ports. -/
def clusterOk (k : Nat) : Bool := decide (k < 68)
def memoryOk (p : Nat) : Bool := decide (p < 72)
def linkOk (p : Nat) : Bool := decide (p < 16)
def coreOk (c : Nat) : Bool := decide (c < 612)
def contextOk (c : Nat) : Bool := decide (c < 8192)
def queueOk (q : Nat) : Bool := decide (q < 16384)
def tenantOk (sl : Nat) : Bool := decide (1 ≤ sl) && decide (sl ≤ 128)
def txnOk (t : Nat) : Bool := decide (t < 4096)
/-- A cluster station, or 68, the Drover's planner as a requester; and its transactions, those of the ports and above them those
of the block's own engines. -/
def requesterOk (k : Nat) : Bool := decide (k < 69)
def engineTxnOk (t : Nat) : Bool := decide (t < 8192)
def u16Ok (n : Nat) : Bool := decide (n < 65536)
def u32Ok (n : Nat) : Bool := decide (n < 4294967296)
def domainOk (n : Nat) : Bool := decide (n < 24)

/-- The paths that write registers: BAR0 and the Steward's (R71). -/
def pathOk (p : Path) : Bool := decide (p ≠ .fm)

/-- A station of a kind (R19). -/
def stationOk (kind : StationKind) (k : Nat) : Bool :=
  match kind with
  | .cluster => clusterOk k
  | .memory => memoryOk k
  | .link => linkOk k

/-- A request of a row whose OPC is `opc`: the port and core exist, and OPC is the row's own or one that no row has
(R420). -/
def reqOk (opc : Nat) (r : Req) : Bool :=
  clusterOk r.port && decide (r.core ≤ 8) && txnOk r.txn && (r.opc == opc || decide (r.opc = 0 ∨ 6 < r.opc))

/-- A write's beats are BEATS_M1 + 1 in number. -/
def writeOk (r : Req) (beats : List (Line × ByteMask)) : Bool := reqOk 3 r && beats.length == r.beatsM1 + 1

/-- OP of an allocator request (R292). -/
def Req.heapOp (r : Req) : Nat := Machine.getBits 63 62 r.addr

/-- ALLOC stands for every request but OP FREE. -/
def allocOk (r : Req) : Bool := reqOk 6 r && r.heapOp != 2
def freeOk (r : Req) : Bool := reqOk 6 r && r.heapOp == 2

/-- What ends a Drover transfer: nothing, or a code of the Hedge, the composition fabric, the Mill, the scheduler, coherence or a link
(R211). -/
def rspCodeOk (code : Nat) : Bool := decide (code = 0) || [0x05, 0x06, 0x08, 0x0B, 0x0C, 0x0D].contains (code / 256)

/-- A verdict carries a code exactly when it is FAIL. -/
def verdictOk (port txn : Nat) (v : Verdict) (code : Nat) : Bool :=
  requesterOk port && engineTxnOk txn && u16Ok code && (decide (v = .fail) == decide (code ≠ 0))

end Sys2Proof
end

