-- ==== Sys2Proof/Machine/Xlt.lean ====
section
/-! DEFINITION. Translation (chapter 4): walks and fills, translation faults, page migration, range invalidation, and the
fault ring's driver side. -/

namespace Sys2Proof.Machine

open Sys2Proof

/-! ## The walks (R104, R106, R111) -/

/-- Index of the shared-cache entry of a DVA at a level. -/
def cacheIndex (dva level : Nat) : Nat := dva / 2 ^ (48 - 9 * level)

/-- The shared cache's entry for (ctx, dva, level). -/
def State.cached (s : State) (ctx dva level : Nat) : Option Word :=
  (s.xlt.cache.find? (fun e => e.ctx == ctx && e.level == level && e.index == cacheIndex dva level)).map (·.entry)

/-- The bank of a context: bit 0 of its resident slot (R113). -/
def State.bankOf (s : State) (ctx : Nat) : Nat :=
  match s.residentOf ctx with
  | some (r, _) => r % 2
  | none => 0

/-- Put an entry into the shared cache: it replaces the old one; a bank holds 8,192, and a full one drops the entry that came
first (R113; which one the rule leaves open: DESIGN CHOICE, log 89). -/
def State.cacheFill (s : State) (ctx dva level : Nat) (e : Word) : State :=
  let old := s.xlt.cache.filter (fun x => !(x.ctx == ctx && x.level == level && x.index == cacheIndex dva level))
  let bank := s.bankOf ctx
  let mine := old.filter (fun x => s.bankOf x.ctx == bank)
  let old := if 8192 ≤ mine.length then
      match mine.getLast? with
      | some v => old.filter (fun x => decide (x ≠ v))
      | none => old
    else old
  { s with xlt := { s.xlt with cache := ⟨ctx, level, cacheIndex dva level, e⟩ :: old } }

/-- Fields of a KPT entry (R101). -/
def kptKeyid (e : Word) : Nat := getBits 63 54 e
def kptAddr (e : Word) : Nat := getBits 53 10 e * 4096
def kptCont (e : Word) : Nat := getBits 8 6 e
def kptLocal (e : Word) : Bool := bitOf 5 e
def kptLeaf (e : Word) : Bool := bitOf 1 e
def kptValid (e : Word) : Bool := bitOf 0 e
def kptPermits (e : Word) : AccessKind → Bool
  | .read => bitOf 2 e
  | .write => bitOf 3 e
  | .atomic => bitOf 2 e && bitOf 3 e && bitOf 4 e

/-- Page size of a leaf's level (R102). -/
def levelSize (level : Nat) : Nat := if level = 2 then 2 ^ 30 else if level = 3 then 2 ^ 21 else 4096

/-- The table's PA is local and in a granule of the manager (R103). -/
def State.tableOk (s : State) (pa : Nat) : Bool :=
  pa / 2 ^ 50 == s.fld .CMP_CHIPNUM_CHIPNUM && pa % 2 ^ 50 / 2 ^ 39 == 0 && (s.ownerOf pa).tag == 0

/-! ### The walkers (R104, R113) -/

def State.walkOf (s : State) (id : Nat) : Option TableWalk := s.xlt.walks.find? (fun w => w.id == id)

def State.setWalk (s : State) (w : TableWalk) : State :=
  { s with xlt := { s.xlt with walks := s.xlt.walks.map (fun x => if x.id = w.id then w else x) } }

/-- A walk's entry at its level lies here. -/
def TableWalk.entryAt (w : TableWalk) : Nat := w.table + 8 * (w.dva / 2 ^ (48 - 9 * w.level) % 512)

/-- The shared cache serves the walk's level: not with a leaf that is to be read again, nor with one that denies the access
(R112, DEDUCED: log 90). -/
def State.walkHit (s : State) (w : TableWalk) : Option Word :=
  match s.cached w.ctx w.dva w.level with
  | some e => if kptLeaf e && (w.recheck || !kptPermits e w.access) then none else some e
  | none => none

/-- What an entry says at a level (R104): the walk's end, or the next table. -/
def walkUse (w : TableWalk) (e : Word) : TableWalk :=
  let stop := fun (code : Nat) => { w with last := e, ended := some (.fault code w.level e) }
  if kptValid e = false then stop 0x0701
  else if kptLeaf e = false then
    if w.level = 4 ∨ kptKeyid e ≠ 0 ∨ kptCont e ≠ 0 ∨ getBits 4 2 e ≠ 0 then stop 0x0703
    else { w with last := e, level := w.level + 1, table := kptAddr e, device := kptLocal e }
  else if w.level = 1 ∨ 4 < kptCont e ∨ kptAddr e % levelSize w.level ≠ 0 then stop 0x0703
  else if kptPermits e w.access = false then stop 0x0702
  else { w with last := e, ended := some (.leaf e w.level w.device w.entryAt) }

/-- The walk has found what R104 refuses in the entry, and not its permissions. -/
def TableWalk.malformed (w : TableWalk) : Bool :=
  match w.ended with
  | some (.fault code _ _) => code != 0x0702
  | _ => false

/-- Read the entry of a walk's level: through the Mill as the manager, under XLT_MGR_KEYID, used once its line has verified
(R103); or on HP_ with the context's PASID, which must be mapped to its slice (R41, R104). -/
def State.walkRead (s : State) (w : TableWalk) : State :=
  if w.device then
    match s.place w.entryAt with
    | some (p, l) =>
      s.filterRead p (MemOp.fresh s.epoch (.walk w.id) 0x3FF 0 8192 (s.fld .XLT_MGR_KEYID_KEYID) l (w.entryAt / 128) .read 0 0)
        none false false
    | none => s.setWalk { w with ended := some (.fault 0x070B w.level w.last) }
  else if cfgPasidOk s.regs (s.ctxPasid w.ctx) (s.ctxSlice w.ctx) then
    s.hostRead (.walk w.id) w.entryAt 2 (some (s.ctxPasid w.ctx))
  else s.setWalk { w with ended := some (.fault 0x070B w.level w.last) }

/-- A walk goes on from its level: through the levels that the shared cache serves, to its end or to a read. -/
def State.walkRun (id : Nat) : Nat → State → State
  | 0, s => s
  | n + 1, s =>
    match s.walkOf id with
    | none => s
    | some w =>
      if w.ended.isSome then s
      else if w.device && !s.tableOk w.table then s.setWalk { w with ended := some (.fault 0x0703 w.level w.last) }
      else match s.walkHit w with
        | some e => State.walkRun id n (s.setWalk (walkUse w e))
        | none => s.walkRead w

/-- A walk's entry has been read: it fills the shared cache, if the walk can use it, and the walk goes on (R104, R113). -/
def State.walkGot (s : State) (id : Nat) (e : Word) : State :=
  match s.walkOf id with
  | none => s
  | some w =>
    let w' := walkUse w e
    let s := if w'.malformed then s else s.cacheFill w.ctx w.dva w.level e
    State.walkRun id 5 (s.setWalk w')

/-- The line of a device-resident table has verified (R103). -/
def State.walkEntry (s : State) (id : Nat) (d : Line) : State :=
  match s.walkOf id with
  | none => s
  | some w => s.walkGot id (word (lineGet d (w.entryAt % 128) 8))

/-- A read of a walk has failed, or taken over 100 µs (R104). -/
def State.walkFailed (s : State) (id : Nat) : State :=
  match s.walkOf id with
  | none => s
  | some w => s.setWalk { w with ended := some (.fault 0x070B w.level w.last) }

/-- A free walker in a context's bank (R113). -/
def State.walkerFree (s : State) (ctx : Nat) : Bool :=
  decide ((s.xlt.walks.filter (fun w => w.bank == s.bankOf ctx)).length < 32)

/-- Begin an upper walk (R104). -/
def State.walkBegin (s : State) (who : WalkFor) (ctx dva : Nat) (access : AccessKind) (recheck : Bool) : State :=
  let tr0 := s.ctxWord ctx 8
  let id := s.xlt.nextWalk
  let w : TableWalk := ⟨id, s.bankOf ctx, who, ctx, dva, access, recheck, s.ctxGen ctx, 1, getBits 55 12 tr0 * 4096, bitOf 5 tr0,
    0, none⟩
  let s := { s with xlt := { s.xlt with walks := s.xlt.walks ++ [w], nextWalk := id + 1 } }
  State.walkRun id 5 s

/-- A walk leaves its walker. -/
def State.walkEnd (s : State) (id : Nat) : State :=
  { s with xlt := { s.xlt with walks := s.xlt.walks.filter (fun w => w.id ≠ id) } }

/-- R106 refuses the leaf's KEYID for a slice. A remote granule's owner is not known here, so KEYID 0 is left to the
owning chip (R333). -/
def State.keyDenied (s : State) (slice keyid pa : Nat) : Bool :=
  if pa / 2 ^ 50 ≠ s.fld .CMP_CHIPNUM_CHIPNUM then keyid != 0 && cfgKeyOwner s.regs keyid != slice
  else if (s.ownerOf pa).tag = 0xFE then false
  else keyid == 0 || cfgKeyOwner s.regs keyid != slice

/-! ### The lower walk (R109–R111, R115) -/

/-- The host format descriptor of a context: its words (R109). -/
def State.hfmt (s : State) (ctx : Nat) : Word × Word :=
  let i := getBits 2 0 (s.ctxWord ctx 8)
  (s.rd .XLT_HFMT_W0 i, s.rd .XLT_HFMT_W1 i)

/-- Begin a lower walk of a context: a fault with its code and LEVEL, or the walk at the root table (R111). -/
def State.lowerBegin (s : State) (ctx hva : Nat) (write : Bool) : Sum (Nat × Nat) LowerWalk :=
  let (w0, w1) := s.hfmt ctx
  if bitOf 0 w1 = false then .inl (0x0710, 0)
  else if hva / 2 ^ (getBits 35 30 w0 + 1) ≠ 0 then .inl (0x0708, 0)
  else .inr ⟨hva, write, 0, getBits 55 12 (s.ctxWord ctx 9) * 4096⟩

/-- Bits below the index of a level. -/
def lowerShift (w0 : Word) (level : Nat) : Nat := 12 + (getBits 24 22 w0 - 1 - level) * getBits 29 26 w0

/-- Read the entry of a lower walk's level, on HP_ with the context's PASID, which must be mapped to its slice (R41, R111). -/
def State.lowerRead (s : State) (use : DmaUse) (ctx : Nat) (w : LowerWalk) : Option State :=
  let (w0, _) := s.hfmt ctx
  let width := if bitOf 25 w0 then 4 else 8
  let idx := w.hva / 2 ^ lowerShift w0 w.level % 2 ^ getBits 29 26 w0
  if cfgPasidOk s.regs (s.ctxPasid ctx) (s.ctxSlice ctx) then
    some (s.hostRead use (w.table + width * idx) (width / 4) (some (s.ctxPasid ctx)))
  else none

/-- How a lower walk goes on from an entry (R111): a fault with its code and LEVEL; the next level; or a host physical address
with the number of its page's offset bits. -/
inductive LowerStep where
  | fault (code level : Nat)
  | next (w : LowerWalk)
  | found (pa shift : Nat)
  deriving DecidableEq, Repr

def lowerUse (w0 w1 : Word) (w : LowerWalk) (e : Word) : LowerStep :=
  let e := if bitOf 25 w0 then word (getBits 31 0 e) else e
  let last := decide (getBits 24 22 w0 ≤ w.level + 1)
  let shift := lowerShift w0 w.level
  let hi := getBits 63 58 w1
  let lo := getBits 57 52 w1
  let addr := bits hi lo e.toNat * 2 ^ lo
  let leaf := last || (bitOf 42 w0 && bitOf (getBits 48 43 w0) e)
  if bitOf (getBits 41 36 w0) e = false then .fault 0x0705 (8 + w.level)
  else if leaf && !last && !bitOf (47 + w.level) w1 then .fault 0x0705 (8 + w.level)
  else if leaf then
    if w.write && bitOf 50 w0 && bitOf (getBits 56 51 w0) e != bitOf 49 w0 then .fault 0x0706 (8 + w.level)
    else if w.write && bitOf 57 w0 && !bitOf (getBits 63 58 w0) e then .fault 0x0707 (8 + w.level)
    else .found (addr + w.hva % 2 ^ shift) shift
  else .next { w with level := w.level + 1, table := addr }

/-! ## Faults (R127–R129) -/

/-- ACCESS of a fault record. -/
def accessCode : AccessKind → Nat
  | .read => 1
  | .write => 2
  | .atomic => 3

/-- A fault record of an access of a core, or of a mover. -/
def State.accessFault (s : State) (k : Nat) (a : PortAccess) (code level : Nat) (word2 : Word) : FaultInfo :=
  { slice := a.slice, access := accessCode a.req.accessKind, level := level, dva := getBits 47 0 a.req.addr, code := code,
    station := if a.req.mover then 0xFF else k, core := if a.req.mover then 0xF else a.core % 9, engine := a.req.engine, drover := a.req.mover,
    pasid := s.ctxPasid a.ctx, ctx := a.ctx, word2 := word2 }

/-- Queue whose command an access belongs to. -/
def State.accessQueue (s : State) (a : PortAccess) : Nat :=
  if a.req.mover then
    match s.drv.journals.find? (fun j => j.ctx == a.ctx && j.queue.isSome) with
    | some j => j.queue.getD 0
    | none => 0
  else match s.tileOf a.core with
    | some t => t.queue
    | none => 0

/-- The core or the queue of an access has a fault outstanding, or a migration under way: another one of it waits (R127). -/
def State.faultAhead (s : State) (a : PortAccess) : Bool :=
  if a.internal then false
  else if a.req.mover then s.xlt.faults.any (fun f => f.core.isNone && f.queue == s.accessQueue a)
  else s.sched.parked.any (fun t => t.1 == a.core)

/-- A translation fault of an access (R127, R128): RSP with status FAULT, one record, the tile parked with the fault
outstanding. A fault of a Drover phase drops what else of the phase waits for translation. -/
def State.faultAccess (s : State) (k : Nat) (a : PortAccess) (code level : Nat) (word2 : Word) : State :=
  if a.internal then s.engineEnd k a (code, level, word2)
  else
    let queue := s.accessQueue a
    let s := s.answer k a.req.txn a.core 2 code
    let (seq, s) := s.postFault (s.accessFault k a code level word2)
    let s := if code = 0x070B ∧ cfgPasidOk s.regs (s.ctxPasid a.ctx) (s.ctxSlice a.ctx) = false then
        s.err 0x0603 a.slice (word a.ctx)
      else s
    let core := if a.req.mover then none else some a.core
    let s : State := { s with xlt := { s.xlt with faults := s.xlt.faults ++ [⟨a.ctx, seq, code, core, queue⟩] } }
    if a.req.mover then
      let s : State := { s with clusters := s.clusters.map (fun e => (e.1, { e.2 with
        retry := e.2.retry.filter (fun d => !(d.acc.req.mover && d.acc.ctx == a.ctx)) })) }
      s.parkDrover queue
    else s.parkTile a.core

/-! ## Fills (R105, R107, R108) -/

/-- Every granule of [pa, pa + size) has the owner of its first. -/
def State.uniform (s : State) (pa size : Nat) : Bool :=
  let o := s.ownerOf pa
  (cutAt s.comp.owners (pa % 2 ^ 39 / 2097152) ((pa % 2 ^ 39 + size - 1) / 2097152)).all (fun r =>
    decide (ownerAt s.comp.owners r.1 = o))

/-- The entry a leaf fills (R105, R107, R108, R115). -/
def State.fillEntry (s : State) (ctx dva : Nat) (e : Word) (level : Nat) : TlbEntry :=
  let size := levelSize level
  let va := dva / size * size
  let pa := kptAddr e
  let here := pa / 2 ^ 50 == s.fld .CMP_CHIPNUM_CHIPNUM
  let n := 2 ^ kptCont e
  let back := va / size % n * size
  let run := decide (back ≤ pa) && decide ((pa - back) % (n * size) = 0) && (!here || s.uniform (pa - back) (n * size))
  let (va, pa, size) :=
    if run then (va - back, pa - back, n * size)
    else if here && !s.uniform pa size then
      (dva / 2097152 * 2097152, pa + (dva - va) / 2097152 * 2097152, 2097152)
    else (va, pa, size)
  let o := s.ownerOf pa
  ⟨ctx, va, size, pa, bitOf 2 e, bitOf 3 e, bitOf 4 e, if here then s.keyFor o (kptKeyid e) else kptKeyid e, o.tag, true,
    o.cid, kptKeyid e⟩

/-- Install an entry in a station's TLB of 256 entries, in place of any that overlaps it; a full TLB drops the entry that came
first (R108 leaves open which one: DESIGN CHOICE, log 89). -/
def State.tlbFill (s : State) (k : Nat) (e : TlbEntry) : State :=
  s.modCluster k (fun c =>
    let rest := c.tlb.filter (fun x => !(x.ctx == e.ctx && decide (x.va < e.va + e.size) && decide (e.va < x.va + x.size)))
    { c with tlb := (e :: rest).take 256 })

/-- A deferred request leaves the retry queue and is judged again; it returns to the queue if the Hedge still defers
(R55). -/
def State.reevaluate (s : State) (k : Nat) (d : Deferred) : State :=
  match s.hedge k d.acc with
  | .defer r => s.modCluster k (fun c => { c with retry := c.retry.map (fun x =>
      if x.acc.seq = d.acc.seq then { x with recheck := r } else x) })
  | _ =>
    ((s.modCluster k (fun c => { c with retry := c.retry.filter (fun x => x.acc.seq ≠ d.acc.seq) })).onAnswer k d.acc
      false).resumeStalled k

/-! ## Migration by page (R135–R138) -/

/-- Entries of a slice's migration pool, if it has one. PROD and CONS count modulo 65,536, and the entry of a count is its
residue modulo the ring's size (R138 leaves the modulus open: DESIGN CHOICE, log 89). -/
def State.poolSize (s : State) (sl : Nat) : Nat :=
  let l := s.fld .XLT_MIG_RING_LOG2_SIZE sl
  if 6 ≤ l ∧ l ≤ 16 then
    idxSub (s.fld .XLT_MIG_IDX_PROD sl) (s.fld .XLT_MIG_IDX_CONS sl) else 0

/-- Address of the pool entry of a count. -/
def State.poolAt (s : State) (sl n : Nat) : Nat :=
  s.fld .XLT_MIG_RING_BASE sl * 4096 + 8 * (n % 2 ^ s.fld .XLT_MIG_RING_LOG2_SIZE sl)

def State.migrationOf (s : State) (id : Nat) : Option Migration := s.xlt.migrations.find? (fun m => m.id == id)

def State.setMigration (s : State) (m : Migration) : State :=
  { s with xlt := { s.xlt with migrations := s.xlt.migrations.map (fun x => if x.id = m.id then m else x) } }

/-- The migration is over: its record goes. -/
def State.dropMigration (s : State) (m : Migration) : State :=
  { s with xlt := { s.xlt with migrations := s.xlt.migrations.filter (fun x => x.id ≠ m.id) } }

/-- The migration's page goes back to the pool: CONS steps back to it, and where another page was taken after it the entry is
written anew, through the Mill as the manager (R136, R137; the way is a DESIGN CHOICE, log 90). -/
def State.returnPage (s : State) (m : Migration) : State :=
  match m.page with
  | none => s
  | some (pa, n) =>
    let sl := m.acc.slice
    let cons := (s.fld .XLT_MIG_IDX_CONS sl + 65535) % 65536
    let s := s.setFld .XLT_MIG_IDX_CONS sl cons
    if cons = n then s
    else
      let at_ := s.poolAt sl cons
      match s.place at_ with
      | some (p, l) =>
        s.filterWrite p (MemOp.fresh s.epoch .none 0x3FF 0 8192 (s.fld .XLT_MGR_KEYID_KEYID) l (at_ / 128) .write
          (BitVec.ofNat 1024 (pa * 2 ^ (8 * (at_ % 128)))) (byteMask (at_ % 128) 8)) none
      | none => s

/-- The shared cache forgets the leaf of a migration. -/
def State.forgetLeaf (s : State) (m : Migration) : State :=
  let dva := getBits 47 0 m.acc.req.addr
  { s with xlt := { s.xlt with cache := s.xlt.cache.filter (fun e =>
    !(e.ctx == m.acc.ctx && e.level == 4 && e.index == cacheIndex dva 4)) } }

/-- A fault of a migration: the tile is parked already, the page goes back, and the leaf is read anew (R136). -/
def State.migrationFault (s : State) (m : Migration) (code : Nat) (level : Nat := 4) (word2 : Option Word := none) : State :=
  let s := ((s.dropMigration m).returnPage m).forgetLeaf m
  let (seq, s) := s.postFault (s.accessFault (s.stationOf m.core) m.acc code level (word2.getD m.leaf))
  let queue := match s.sched.parked.find? (fun t => t.1 == m.core && t.2.ctx == m.acc.ctx) with
    | some t => t.2.queue
    | none => 0
  { s with xlt := { s.xlt with faults := s.xlt.faults ++ [⟨m.acc.ctx, seq, code, some m.core, queue⟩] } }

/-- Read the pool's next entry for a migration, as the manager (R138). -/
def State.poolRead (s : State) (m : Migration) : State :=
  let sl := m.acc.slice
  if s.poolSize sl = 0 then s.migrationFault m 0x070E
  else
    let n := s.fld .XLT_MIG_IDX_CONS sl
    let s := s.setFld .XLT_MIG_IDX_CONS sl (n + 1)
    let s := s.setMigration { m with stage := .pool n }
    match s.place (s.poolAt sl n) with
    | some (p, l) =>
      s.filterRead p (MemOp.fresh s.epoch (.pool m.id) 0x3FF 0 8192 (s.fld .XLT_MGR_KEYID_KEYID) l (s.poolAt sl n / 128) .read 0 0)
        none false false
    | none => s.migrationFault m 0x070B

/-- Begin a migration (R135): the tile is parked, and the pool is read. -/
def State.migrate (s : State) (a : PortAccess) (e : Word) (device : Bool) (at_ : Nat) : State :=
  let m : Migration := ⟨s.xlt.nextWalk, a.core, a, kptAddr e + getBits 11 0 a.req.addr, none, device, at_, e, [], .pool 0⟩
  let s : State := { s with xlt := { s.xlt with migrations := s.xlt.migrations ++ [m], nextWalk := m.id + 1 } }
  (s.parkTile a.core).poolRead m

/-- Read the next table of a migration's lower walk. -/
def State.migrationLower (s : State) (m : Migration) (w : LowerWalk) : State :=
  match (s.setMigration { m with stage := .lower w }).lowerRead (.lowerMigration m.id) m.acc.ctx w with
  | some t => t
  | none => s.migrationFault m 0x070B (8 + w.level) (some (word m.hva))

/-- The pool entry has verified: its page, if it lies in the slice's granules, and the lower walk; else the next entry (R135,
R138). -/
def State.poolEntry (s : State) (id : Nat) (d : Line) : State :=
  match s.migrationOf id with
  | none => s
  | some m =>
    match m.stage with
    | .pool n =>
      let sl := m.acc.slice
      let e := word (lineGet d (s.poolAt sl n % 128) 8)
      let pa := getBits 55 12 e * 4096
      if pa / 2 ^ 50 = s.fld .CMP_CHIPNUM_CHIPNUM ∧ pa % 2 ^ 50 / 2 ^ 39 = 0 ∧ (s.ownerOf pa).tag = sl then
        let m := { m with page := some (pa, n) }
        let s := s.setMigration m
        (match s.lowerBegin m.acc.ctx m.hva (decide (m.acc.req.accessKind ≠ .read)) with
        | .inl (code, level) => s.migrationFault m code level (some (word m.hva))
        | .inr w => s.migrationLower m w)
      else (s.raise .error 0x0704 sl 0x07 e).poolRead m
    | _ => s

/-- The new leaf: L = 1 and the page's address (R135). -/
def migratedLeaf (m : Migration) : Word := setBits 53 10 ((m.page.getD (0, 0)).1 / 4096) (setBits 5 5 1 m.leaf)

/-- The whole page has arrived: its 32 lines are written through the Mill under the leaf's KEYID, which must be the slice's, and
the leaf is swapped (R106, R135). -/
def State.swapLeaf (s : State) (m : Migration) : State :=
  let ws := (List.range 8).flatMap (fun i => mapGet [] m.got i)
  let keyid := kptKeyid m.leaf
  let page := (m.page.getD (0, 0)).1
  if keyid = 0 ∨ cfgKeyOwner s.regs keyid ≠ m.acc.slice then s.migrationFault m 0x0704
  else
    let s : State := forEach (List.range 32) s (fun i s =>
      let d : Line := BitVec.ofNat 1024 (leNat (wordsBytes ((ws.drop (16 * i)).take 16)))
      match s.place (page + 128 * i) with
      | some (p, l) =>
        s.filterWrite p (MemOp.fresh s.epoch .none 0x3FF m.acc.slice m.acc.ctx keyid l (page / 128 + i) .write d fullMask) none
      | none => s)
    let s := s.setMigration { m with stage := .swap }
    if m.device then
      match s.place m.leafAt with
      | some (p, l) =>
        s.filterWrite p (MemOp.fresh s.epoch (.migration m.id) 0x3FF 0 8192 (s.fld .XLT_MGR_KEYID_KEYID) l (m.leafAt / 128)
          (.atomic 1 true (m.leafAt % 128) (migratedLeaf m) m.leaf) 0 0) none
      | none => s.migrationFault m 0x070B
    else
      let tag := s.hostTag
      let pasid := some (s.ctxPasid m.acc.ctx)
      { s with hif := { s.hif with reads := mapPut s.hif.reads tag (.migrationCas m.id, 2), nextTag := (tag + 1) % 1024 },
               out := s.out ++ [Output.hostCas tag m.leafAt pasid m.leaf (migratedLeaf m)] }

/-- An entry of a migration's lower walk has come: the walk goes on, or the page is read (R111, R135). -/
def State.lowerMigration (s : State) (id : Nat) (e : Option Word) : State :=
  match s.migrationOf id with
  | none => s
  | some m =>
    match m.stage with
    | .lower w =>
      (match e with
      | none => s.migrationFault m 0x070B (8 + w.level) (some (word m.hva))
      | some e =>
        match lowerUse (s.hfmt m.acc.ctx).1 (s.hfmt m.acc.ctx).2 w e with
        | .fault code level => s.migrationFault m code level (some (word m.hva))
        | .next w => s.migrationLower m w
        | .found host _ =>
          forEach (List.range 8) (s.setMigration { m with stage := .page }) (fun i s =>
            s.hostRead (.migrationRead id i) (host / 4096 * 4096 + 512 * i) 128 (some (s.ctxPasid m.acc.ctx))))
    | _ => s

/-- The compare-and-swap of a migration has ended (R135, R136): with the swap the shared cache holds the new leaf. -/
def State.finishMigration (s : State) (id : Nat) (r : CasResult) : State :=
  match s.migrationOf id with
  | none => s
  | some m =>
    if m.stage ≠ .swap then s
    else match r with
      | .swapped =>
        let s := (s.dropMigration m).cacheFill m.acc.ctx (getBits 47 0 m.acc.req.addr) 4 (migratedLeaf m)
        let (_, s) := s.postFault (s.accessFault (s.stationOf m.core) m.acc 0x0711 0 (word (m.page.getD (0, 0)).1))
        s.unparkTile m.core m.acc.ctx
      | .differs => s.migrationFault m 0x070D
      | .unsupported => s.migrationFault m 0x070F

/-! ## DMA descriptors (R99, R120, R121) -/

def State.dmaDesc (s : State) (q : Nat) : Option DmaXlt := (s.xlt.extents.find? (fun e => e.1 == q)).map (·.2)

def State.setDma (s : State) (q : Nat) (d : DmaXlt) : State :=
  { s with xlt := { s.xlt with extents := mapPut s.xlt.extents q d } }

/-- The ranges of a descriptor that are still to be translated from byte `pos` on: the source into extents 0–7, the destination
into 8–15, of a fill into 0–15 (DESIGN CHOICE, log 90). -/
def DmaXlt.ranges (d : DmaXlt) (pos : Nat) : List (Nat × Nat × Bool × Nat) :=
  if d.len ≤ pos then []
  else if d.fill.isSome then [(d.dst + pos, d.len - pos, true, 0)]
  else [(d.src + pos, d.len - pos, false, 0), (d.dst + pos, d.len - pos, true, 8)]

/-- A descriptor's translation begins, at its submission, or again from byte `pos` on, under the generation then current
(R120, R121). -/
def State.dmaTranslate (s : State) (q pos : Nat) : State :=
  match s.dmaDesc q with
  | none => s
  | some d => s.setDma q { d with gen := s.ctxGen d.ctx, todo := d.ranges pos, list := [], lower := none, busy := false }

/-- The core that runs, or would run, a queue's DMA tile, or on which it is parked. -/
def State.dmaCore (s : State) (q : Nat) : Option Nat :=
  ((s.sched.tiles ++ s.sched.ready ++ s.sched.parked).find? (fun t => t.2.queue == q)).map (·.1)

/-- The tile of a queue's DMA command is parked, wherever it is (R127). -/
def State.parkDma (s : State) (q core : Nat) : State :=
  if s.sched.tiles.any (fun t => t.2.queue == q) then s.parkTile core
  else match s.sched.ready.find? (fun t => t.2.queue == q) with
    | some t => { s with sched := { s.sched with ready := eraseFirst (fun x => x == t) s.sched.ready,
                                                 parked := s.sched.parked ++ [t] } }
    | none => s

/-- A descriptor's translation has faulted (R127): a record of a submission, the tile parked. While its core has another tile
parked it waits. -/
def State.dmaFault (s : State) (q : Nat) (d : DmaXlt) (code level dva : Nat) (word2 : Word) : State :=
  let s := s.setDma q { d with busy := false, lower := none, list := [], todo := [] }
  match s.dmaCore q with
  | none => s
  | some core =>
    if s.sched.parked.any (fun t => t.1 == core) then s
    else
      let (seq, s) := s.postFault ⟨d.slice, 4, level, dva, code, 0xFF, core % 9, 3, false, s.ctxPasid d.ctx, d.ctx, word2⟩
      let s := if code = 0x070B ∧ cfgPasidOk s.regs (s.ctxPasid d.ctx) d.slice = false then s.err 0x0603 d.slice (word d.ctx) else s
      let s : State := { s with xlt := { s.xlt with faults := s.xlt.faults ++ [⟨d.ctx, seq, code, some core, q⟩] } }
      s.parkDma q core

/-- The last index of the half that an index lies in. -/
def DmaXlt.limit (d : DmaXlt) (idx : Nat) : Nat := if d.fill.isNone ∧ idx < 8 then 8 else 16

/-- An extent has been found for the first `n` bytes of the range in hand; requests that waited for it are judged again. -/
def State.dmaExtent (s : State) (q : Nat) (d : DmaXlt) (e : Extent) (n : Nat) : State :=
  match d.todo with
  | [] => s
  | (dva, bytes, wr, idx) :: rest =>
    let todo := if n < bytes ∧ idx + 1 < d.limit idx then (dva + n, bytes - n, wr, idx + 1) :: rest else rest
    let s := s.setDma q { d with todo := todo, list := d.list ++ [(idx, e)], lower := none, busy := false }
    match s.dmaCore q with
    | none => s
    | some core =>
      let k := s.stationOf core
      forEach ((s.cluster k).retry.filter (fun x => x.acc.core == core && x.acc.req.akind == 1)) s (fun x s => s.reevaluate k x)

/-- Read the next table of a descriptor's lower walk. -/
def State.dmaLower (s : State) (q : Nat) (d : DmaXlt) (e : Word) (level : Nat) (w : LowerWalk) : State :=
  match (s.setDma q { d with lower := some (e, level, w) }).lowerRead (.lowerExtent q) d.ctx w with
  | some t => t
  | none => s.dmaFault q d 0x070B (8 + w.level) (match d.todo with
      | r :: _ => r.1
      | [] => 0) (word w.hva)

/-- An entry of a descriptor's lower walk has come. A range in host memory has the smaller of the KPT page and the host page
(R115). -/
def State.lowerExtent (s : State) (q : Nat) (e : Option Word) : State :=
  match s.dmaDesc q with
  | none => s
  | some d =>
    match d.lower, d.todo with
    | some (leaf, level, w), (dva, bytes, _, _) :: _ =>
      (match e with
      | none => s.dmaFault q d 0x070B (8 + w.level) dva (word w.hva)
      | some e =>
        match lowerUse (s.hfmt d.ctx).1 (s.hfmt d.ctx).2 w e with
        | .fault code level => s.dmaFault q d code level dva (word w.hva)
        | .next w => s.dmaLower q d leaf level w
        | .found host shift =>
          let page := min (levelSize level) (2 ^ shift)
          let n := min bytes (page - dva % page)
          s.dmaExtent q d ⟨⟨d.ctx, dva, n, host, bitOf 2 leaf, bitOf 3 leaf, bitOf 4 leaf, 0, 0, true, 0, 0⟩, true⟩ n)
    | _, _ => s

/-- The upper walk of a descriptor's range has ended: an extent, a fault, or a lower walk for a range in host memory (R99,
R104, R106, R115, R120). -/
def State.dmaWalked (s : State) (q : Nat) (d : DmaXlt) (w : TableWalk) : State :=
  match d.todo, w.ended with
  | (dva, bytes, wr, _) :: _, some r =>
    (match r with
    | .fault code level word2 => s.dmaFault q d code level dva word2
    | .leaf e level _ _ =>
      if kptLocal e then
        let x := s.fillEntry d.ctx dva e level
        let n := min bytes (x.va + x.size - dva)
        if s.keyDenied d.slice (kptKeyid e) (x.pa + (dva - x.va)) then s.dmaFault q d 0x0704 level dva e
        else s.dmaExtent q d ⟨{ x with va := dva, pa := x.pa + (dva - x.va), size := n }, false⟩ n
      else match s.lowerBegin d.ctx (kptAddr e + dva % levelSize level) wr with
        | .inl (code, lv) => s.dmaFault q d code lv dva (word (kptAddr e + dva % levelSize level))
        | .inr lw => s.dmaLower q d e level lw)
  | _, _ => s

/-! ## The translation core goes on -/

/-- The request that a walk serves still waits. -/
def State.walkWanted (s : State) (w : TableWalk) : Bool :=
  match w.who with
  | .request k seq => (s.cluster k).retry.any (fun d => d.acc.seq == seq)
  | .extent q => (s.dmaDesc q).isSome

/-- A deferred request waits for a walk: it names memory by DVA, in a context. -/
def Deferred.walks (d : Deferred) : Bool := d.acc.req.akind == 0 && decide (d.acc.ctx < 8192)

/-- One step of the translation core: a descriptor's walk that has ended is used; a descriptor's next range, or a deferred
request, gets a walker of its bank (R113). -/
def State.xltStep (s : State) : State :=
  match s.xlt.walks.findSome? (fun w => match w.who with
      | .extent q => if w.ended.isSome then some (q, w) else none
      | .request _ _ => none) with
  | some (q, w) =>
    let s := s.walkEnd w.id
    (match s.dmaDesc q with
    | some d =>
      if w.gen = s.ctxGen d.ctx then s.dmaWalked q d w else s.setDma q { d with busy := false }
    | none => s)
  | none =>
    match s.xlt.extents.find? (fun e => !e.2.busy && !e.2.todo.isEmpty && s.walkerFree e.2.ctx) with
    | some (q, d) =>
      (match d.todo with
      | (dva, _, wr, _) :: _ =>
        (s.setDma q { d with busy := true }).walkBegin (.extent q) d.ctx dva (if wr then .write else .read) false
      | [] => s)
    | none =>
      match s.clusters.findSome? (fun e => (e.2.retry.find? (fun d => d.walks && s.walkerFree d.acc.ctx &&
          !s.xlt.walks.any (fun w => decide (w.who = .request e.1 d.acc.seq)))).map (fun d => (e.1, d))) with
      | some (k, d) => s.walkBegin (.request k d.acc.seq) d.acc.ctx (getBits 47 0 d.acc.req.addr) d.acc.req.accessKind d.recheck
      | none => s

/-- Walks whose request has gone leave their walkers, and walkers that are free serve what waits for them. -/
def State.pumpXlt (s : State) : State :=
  let s : State := { s with xlt := { s.xlt with walks := s.xlt.walks.filter s.walkWanted } }
  let n := (s.clusters.map (fun e => e.2.retry.length)).sum + 34 * s.xlt.extents.length + s.xlt.walks.length + 1
  iterate State.xltStep n s

/-! ## Transfers that reach host memory (R99) -/

/-- The extent of a descriptor that holds a DVA, among its sources or its destinations. -/
def DmaXlt.extentOf (d : DmaXlt) (dst : Bool) (dva : Nat) : Option (Nat × Extent) :=
  d.list.find? (fun x => decide (x.2.entry.va ≤ dva) && decide (dva < x.2.entry.va + x.2.entry.size) &&
    (d.fill.isSome || (dst == decide (8 ≤ x.1))))

/-- The transaction number of the host interface's accesses to device memory for a core's DMA engine. -/
def dmaTxn (core : Nat) : Nat := 4096 + core % 9

/-- An access of the host interface to device memory at a byte of an extent, for a core's DMA engine: it is judged, ordered and
carried out as the engine's own would be (R54, R99). -/
def State.dmaAccess (s : State) (core : Nat) (d : DmaXlt) (opc idx off : Nat) (beats : List (Line × ByteMask)) : Nat × State :=
  let k := s.stationOf core
  let addr := word (idx * 2 ^ 60 + off)
  let r := engineReq k opc 1 core 3 0 (dmaTxn core) false addr
  let seq := (s.cluster k).nextSeq
  let a : PortAccess := ⟨r, core, d.ctx, d.slice, (s.cluster k).epoch, beats, 0, 0, seq, none⟩
  (seq, (s.numbered k).onAnswer k a true)

/-- `n` bytes of a list as a line whose byte `off` is the first, with their mask. -/
def lineOfBytes (off : Nat) (bs : List Byte) : Line × ByteMask :=
  (BitVec.ofNat 1024 (leNat bs * 2 ^ (8 * off)), byteMask off bs.length)

/-- The data of a piece have been read: they are written to host memory on HP_, or to device memory (R99). -/
def State.dmaWrite (s : State) (q core : Nat) (d : DmaXlt) (bs : List Byte) : State :=
  match d.extentOf true (d.dst + d.done) with
  | none => s
  | some (idx, e) =>
    let off := d.dst + d.done - e.entry.va
    if e.host then
      let id := s.hif.nextPost
      let s := s.setDma q { d with chunk := some ⟨bs.length, none, some bs⟩ }
      let s : State := { s with hif := { s.hif with posts := s.hif.posts ++ [⟨id, .dma q, []⟩], nextPost := id + 1 } }
      s.emit (.hostBytes id (e.entry.pa + off) (some (s.ctxPasid d.ctx)) bs)
    else
      let (l, be) := lineOfBytes ((e.entry.pa + off) % 128) bs
      let (seq, s) := s.dmaAccess core d 3 idx off [(l, be)]
      s.setDma q { d with chunk := some ⟨bs.length, some seq, some bs⟩ }

/-- The next piece of a descriptor: what has host memory on either side the host interface carries, a line at most at a time; the
rest is the core's own. -/
def State.dmaNext (s : State) (q core : Nat) (d : DmaXlt) : State :=
  let src := d.extentOf false (d.src + d.done)
  match d.extentOf true (d.dst + d.done), (if d.fill.isSome then some (0, ⟨⟨0, 0, 0, 0, true, true, true, 0, 0, true, 0, 0⟩, false⟩) else src) with
  | some (_, t), some (i, f) =>
    let left := min (d.len - d.done) (t.entry.va + t.entry.size - (d.dst + d.done))
    let left := if d.fill.isSome then left else min left (f.entry.va + f.entry.size - (d.src + d.done))
    if t.host = false ∧ f.host = false then s.setDma q { d with done := d.done + left }
    else
      let dpa := t.entry.pa + (d.dst + d.done - t.entry.va)
      let spa := f.entry.pa + (d.src + d.done - f.entry.va)
      let n := min left (128 - dpa % 128)
      match d.fill with
      | some w => s.dmaWrite q core d (((List.range n).map (fun j => (leBytes 8 w.toNat).getD ((d.done + j) % 8) 0)))
      | none =>
        let n := min n (128 - spa % 128)
        if f.host then
          (s.setDma q { d with chunk := some ⟨n, none, none⟩ }).hostRead (.dma q) (spa / 4 * 4) ((spa % 4 + n + 3) / 4)
            (some (s.ctxPasid d.ctx))
        else
          let (seq, s) := s.dmaAccess core d 1 i (d.src + d.done - f.entry.va) []
          s.setDma q { d with chunk := some ⟨n, some seq, none⟩ }
  | _, _ => s

/-- A piece has been written: the next one. -/
def State.dmaDone (s : State) (q : Nat) (d : DmaXlt) : State :=
  let n := match d.chunk with
    | some c => c.bytes
    | none => 0
  s.setDma q { d with done := d.done + n, chunk := none }

/-- The tile of a DMA transfer ends with a code. -/
def State.dmaError (s : State) (core code : Nat) : State := s.abortTile core code

/-- Host data for a piece have come (R99, R426). -/
def State.dmaHostData (s : State) (q : Nat) (ok : Bool) (data : List Word) : State :=
  match s.dmaDesc q, (s.sched.tiles.find? (fun t => t.2.queue == q)).map (·.1) with
  | some d, some core =>
    (match d.chunk, d.extentOf false (d.src + d.done) with
    | some c, some (_, e) =>
      let spa := e.entry.pa + (d.src + d.done - e.entry.va)
      if ok then s.dmaWrite q core d (((wordsBytes data).drop (spa % 4)).take c.bytes) else s.dmaError core 0x0103
    | _, _ => s)
  | _, _ => s

/-- One step of the host interface's transfers: an access to device memory that has ended is taken, or the next piece begins. A
generation that has moved stops the transfer at a 4 KiB boundary (R121). -/
def State.dmaStep (q : Nat) (s : State) : State :=
  match s.dmaDesc q, s.sched.tiles.find? (fun t => t.2.queue == q) with
  | some d, some (core, _) =>
    let k := s.stationOf core
    (match d.chunk with
    | some c =>
      (match c.access.bind (fun seq => (s.cluster k).flight seq) with
      | some f =>
        (match f.outcome with
        | none => s
        | some (code, _, _) =>
          let s := s.modCluster k (fun x => x.land f.acc.seq)
          if code ≠ 0 then s.dmaError core code
          else if c.data.isSome then s.dmaDone q d
          else
            let spa := match d.extentOf false (d.src + d.done) with
              | some (_, e) => e.entry.pa + (d.src + d.done - e.entry.va)
              | none => 0
            s.dmaWrite q core d (leBytes c.bytes (lineGet (f.lines.headD 0) (spa % 128) c.bytes)))
      | none => s)
    | none =>
      if d.done < d.len ∧ !((d.gen != s.ctxGen d.ctx) && ((d.src + d.done) % 4096 == 0 || (d.dst + d.done) % 4096 == 0)) then
        s.dmaNext q core d
      else s)
  | _, _ => s

/-- The host interface's transfers go on as far as they can. -/
def State.pumpDma (s : State) : State :=
  forEach (s.xlt.extents.map (·.1)) s (fun q s => iterate (State.dmaStep q) 20 s)

/-! ## Preloads of shares (R228) -/

/-- The transaction number of a preload's reads for a core. -/
def preloadTxn (core : Nat) : Nat := 4105 + core % 9

/-- One preload is replaced. -/
def State.setPreload (s : State) (p : Preload) : State :=
  { s with sched := { s.sched with preloads := s.sched.preloads.map (fun x => if x.ctx = p.ctx ∧ x.core = p.core then p else x) } }

/-- Read the next 4 KiB of a share image, as the context (R228); a DVA beyond 48 bits is 0x070C (R97). -/
def State.preloadRead (s : State) (p : Preload) : State :=
  let dva := p.dva + p.done
  if 2 ^ 48 ≤ dva then s.setPreload { p with failed := some (0x070C, 0, 0) }
  else
    let k := s.stationOf p.core
    let r := engineReq k 1 0 p.core 3 31 (preloadTxn p.core) false (word dva)
    let seq := (s.cluster k).nextSeq
    let a : PortAccess := ⟨r, p.core, p.ctx, s.ctxSlice p.ctx, (s.cluster k).epoch, [], 0, 0, seq, none⟩
    ((s.setPreload { p with access := some seq }).numbered k).onAnswer k a true

/-- One step of a preload: a read that has ended is copied into the core's share once its lines have verified, or the next one
begins, unless the context is to leave. -/
def State.preloadStep (ctx core : Nat) (s : State) : State :=
  match s.sched.preloads.find? (fun p => p.ctx == ctx && p.core == core) with
  | none => s
  | some p =>
    let k := s.stationOf core
    match p.access with
    | some seq =>
      (match (s.cluster k).flight seq with
      | some f =>
        (match f.outcome with
        | none => s
        | some (0, _, _) =>
          let s := (s.modCluster k (fun c => c.land seq)).setPreload { p with access := none, done := p.done + 128 * f.lines.length }
          forEach ((List.range f.lines.length).zip f.lines) s (fun x s =>
            s.emit (.sramData (s.physical core) (s.shareFirst ctx + p.done + 128 * x.1) x.2 fullMask))
        | some out => (s.modCluster k (fun c => c.land seq)).setPreload { p with access := none, failed := some out })
      | none => s)
    | none =>
      if p.failed.isNone ∧ p.done < p.bytes ∧ !s.sched.residents.any (fun r => r.2.ctx == ctx && r.2.leaving) then s.preloadRead p
      else s

/-- The preloads go on as far as they can. -/
def State.pumpPreloads (s : State) : State :=
  if s.sched.preloads.isEmpty then s
  else (forEach (s.sched.preloads.map (fun p => (p.ctx, p.core))) s (fun p s => iterate (State.preloadStep p.1 p.2) 2 s)).pumpXlt

/-- The translation core, the host interface and the preloads go on: after every command that may have given them work. -/
def State.pumpEngines (s : State) : State := s.pumpXlt.pumpDma.pumpPreloads

/-! ## Walk commands -/

/-- The walk of a deferred request has ended (R104–R108, R112, R114). -/
def State.walkDone (s : State) (k : Nat) (d : Deferred) (w : WalkEnd) : State :=
  let a := d.acc
  let dva := getBits 47 0 a.req.addr
  let gone := fun (s : State) => s.modCluster k (fun c => { c with retry := c.retry.filter (fun x => x.acc.seq ≠ a.seq) })
  match w with
  | .fault code level word2 => (gone s).faultAccess k a code level word2
  | .leaf e level device at_ =>
    if kptLocal e = false then
      if level = 4 ∧ s.ctxMigEn a.ctx ∧ a.req.mover = false ∧ a.internal = false then (gone s).migrate a e device at_
      else (gone s).faultAccess k a 0x0709 level e
    else
      let pa := kptAddr e + dva % levelSize level
      if s.keyDenied a.slice (kptKeyid e) pa then (gone s).faultAccess k a 0x0704 level e
      else (s.tlbFill k (s.fillEntry a.ctx dva e level)).reevaluate k d

/-- A walk's end needs a fault or a migration of its request. -/
def WalkEnd.stops (s : State) (a : PortAccess) : WalkEnd → Bool
  | .fault _ _ _ => true
  | .leaf e level _ _ => !kptLocal e || s.keyDenied a.slice (kptKeyid e) (kptAddr e + getBits 47 0 a.req.addr % levelSize level)

/-- The deferred request of a transaction. -/
def State.deferredOf (s : State) (k txn : Nat) : Option Deferred :=
  (s.cluster k).retry.find? (fun d => d.acc.req.txn == txn && d.walks)

/-- The walk of a deferred request. -/
def State.walkFor (s : State) (k : Nat) (d : Deferred) : Option TableWalk :=
  s.xlt.walks.find? (fun w => decide (w.who = .request k d.acc.seq))

/-- The walk of a request ends, if it has its entries; one whose context's GEN has moved is discarded and starts again (R114);
one that would fault while its core or queue has a fault outstanding waits (R127). -/
def State.completeWalk (s : State) (k : Nat) (d : Deferred) : State :=
  match s.walkFor k d with
  | none => s
  | some w =>
    match w.ended with
    | none => s
    | some r =>
      if w.gen ≠ s.ctxGen d.acc.ctx then s.walkEnd w.id
      else if r.stops s d.acc && s.faultAhead d.acc then s
      else (s.walkEnd w.id).walkDone k d r

def execWalkComplete (port txn : Nat) (s : State) : Host.Outcome State Fault Refusal :=
  onUnit s (requesterOk port && engineTxnOk txn)
    (match s.pumpXlt.deferredOf port txn with
    | none => s
    | some d => (s.pumpXlt.completeWalk port d).pumpEngines)

/-- A host table read took over 100 µs: 0x070B (R104, R111). The walk of a deferred request, or the lower walk of a parked
access's migration, has failed. -/
def State.walkTimeout (s : State) (k txn : Nat) : State :=
  match s.deferredOf k txn with
  | some d =>
    (match s.walkFor k d with
    | some w =>
      if w.ended.isNone ∧ w.device = false then
        (((s.advance 100000).walkFailed w.id).completeWalk k d).pumpEngines
      else s
    | none => s)
  | none =>
    match s.xlt.migrations.find? (fun m => m.acc.req.port == k && m.acc.req.txn == txn) with
    | some m =>
      (match m.stage with
      | .lower _ => (s.advance 100000).lowerMigration m.id none
      | _ => s)
    | none => s

def execWalkReadTimeout (port txn : Nat) (s : State) : Host.Outcome State Fault Refusal :=
  onUnit s (requesterOk port && engineTxnOk txn) (s.walkTimeout port txn)

/-- The compare-and-swap on a host-resident table ends (R136). -/
def execMigrationCasResult (core : Nat) (result : CasResult) (s : State) : Host.Outcome State Fault Refusal :=
  onUnit s (coreOk core)
    (match s.xlt.migrations.find? (fun m => m.core == core && decide (m.stage = .swap) && !m.device) with
    | some m =>
      let s : State := { s with hif := { s.hif with reads := s.hif.reads.filter (fun e => decide (e.2.1 ≠ DmaUse.migrationCas m.id)) } }
      (s.finishMigration m.id result).pumpEngines
    | none => s)

/-- The rest of the descriptor that a core's DMA engine runs is translated again, from a 4 KiB boundary or the end of its
extents on (R120, R121). -/
def State.retranslate (s : State) (core pos : Nat) : State :=
  match s.tileOf core with
  | some t => (s.dmaTranslate t.queue pos).pumpEngines
  | none => s

def execExtentRetranslate (core pos : Nat) (s : State) : Host.Outcome State Fault Refusal :=
  onUnit s (coreOk core) (s.retranslate core pos)

/-- A context is destroyed: its translations under way, its outstanding faults and its migrations go (R133). -/
def State.dropContextXlt (s : State) (ctx : Nat) : State :=
  let ms := s.xlt.migrations.filter (fun m => m.acc.ctx == ctx)
  let s := forEach ms s (fun m s => (s.dropMigration m).returnPage m)
  { s with xlt := { s.xlt with walks := s.xlt.walks.filter (fun w => w.ctx ≠ ctx),
                               faults := s.xlt.faults.filter (fun f => f.ctx ≠ ctx),
                               extents := s.xlt.extents.filter (fun e => e.2.ctx ≠ ctx) } }

/-! ## Range invalidation (R123–R125) -/

/-- Domain of an acknowledger (R123): 0–67 TLBs, 68–135 movers, 136 the planner, 137 and 138 the banks. -/
def ackDomain (n : Nat) : Nat :=
  if n < 68 then domainOf .cluster n else if n < 136 then domainOf .cluster (n - 68)
  else if n = 136 then 22 else n - 119

/-- An invalidation covers the DVA range [va, va + size) of a context. -/
def covers (s : State) (i : Inval) (ctx va size : Nat) : Bool :=
  if i.scope = 5 then false
  else if i.scope = 1 then i.ctx == ctx && overlap va (va + size - 1) i.start (i.start + (i.pagesM1 + 1) * 4096 - 1)
  else if i.scope = 2 then false
  else if i.scope = 3 then i.ctx == ctx
  else s.ctxSlice ctx == i.slice

/-- Every entry within the scope is dropped as the invalidation arrives (R124); a migration whose HVA it covers before its
compare-and-swap is abandoned, and its tile restarts (R137). -/
def State.dropCovered (s : State) (i : Inval) : State :=
  let s : State := { s with clusters := s.clusters.map (fun e =>
    (e.1, { e.2 with tlb := e.2.tlb.filter (fun t => !covers s i t.ctx t.va t.size) })) }
  let s : State := { s with xlt := { s.xlt with cache := s.xlt.cache.filter (fun e =>
    !covers s i e.ctx (e.index * 2 ^ (48 - 9 * e.level)) (2 ^ (48 - 9 * e.level))) } }
  let hit := s.xlt.migrations.filter (fun m => i.scope == 2 && decide (m.stage ≠ .swap) && s.ctxPasid m.acc.ctx == i.pasid &&
    overlap m.hva m.hva i.start (i.start + (i.pagesM1 + 1) * 4096 - 1))
  forEach hit s (fun m s => ((s.dropMigration m).returnPage m).unparkTile m.core m.acc.ctx)

/-- The number under which the invalidation of a KeyID's retirement waits for its acknowledgements (R183): no register names
it. -/
def retireSeq : Nat := 2 ^ 32

/-- DONE: the highest n with every invalidation up to n complete; INV_DONE (R124). -/
def State.invProgress (s : State) : State :=
  let left := s.xlt.invals.filter (fun i => !i.missing.isEmpty)
  let named := fun (l : List Inval) => l.filter (fun i => i.seq != retireSeq)
  let same := decide ((named left).length = (named s.xlt.invals).length)
  let s : State := { s with xlt := { s.xlt with invals := left } }
  if same then s
  else
    let done := match named left with
      | i :: _ => (i.seq + 4294967295) % 4294967296
      | [] => s.fld .XLT_INV_SEQ_ISSUED
    (s.setFld .XLT_INV_SEQ_DONE 0 done).setCause 0x07 1

/-- What an acknowledger has issued or granted under a translation so far and not completed (R124): of a station's TLB and DMA
engines the accesses let out, those granted and stalled, and the released writes without their RSP; of a mover unit, or of the planner,
its own accesses. -/
def State.granted (s : State) (p : Flight → Bool) : List (Nat × Nat) :=
  s.clusters.flatMap (fun e =>
    let unit := fun (a : PortAccess) => if e.1 = 68 then 136 else if a.req.mover then 68 + e.1 else e.1
    ((e.2.flights.filter (fun f => f.acc.req.akind != 2 && f.outcome.isNone && p f)).map (fun f => (unit f.acc, f.acc.seq))) ++
    ((e.2.stalled.filter (fun x => x.acc.req.akind != 2)).map (fun x => (unit x.acc, x.acc.seq))) ++
    (e.2.released.map (fun r => (e.1, 2 ^ 40 + r.id))))

/-- The acknowledgers whose domains are on are asked (R123, R124). -/
def State.awaitAcks (s : State) (seq scope ctx pasid slice start pagesM1 : Nat) (p : Flight → Bool) : State :=
  let missing := (List.range 139).filter (fun n => s.pdOn (ackDomain n))
  let i : Inval := ⟨seq, scope, ctx, pasid, slice, start, pagesM1, missing, s.granted p⟩
  let s : State := { s with xlt := { s.xlt with invals := s.xlt.invals ++ [i] } }
  (s.dropCovered i).invProgress

/-- Contexts whose GEN an invalidation advances (R123). -/
def State.genContexts (s : State) (scope ctx slice : Nat) : List Nat :=
  if scope = 1 ∨ scope = 3 then [ctx]
  else if scope = 4 then s.liveContexts.filter (fun c => s.ctxSlice c == slice)
  else []

/-- Issue an invalidation; a ninth is ignored and sets INV_FULL (R125). -/
def State.invalidate (s : State) (scope ctx pasid slice pagesM1 : Nat) : State :=
  if 8 ≤ (s.xlt.invals.filter (fun i => i.seq != retireSeq)).length then s.setFld .XLT_STATUS_INV_FULL 0 1
  else
    let seq := (s.fld .XLT_INV_SEQ_ISSUED + 1) % 2 ^ 32
    let s := s.setFld .XLT_INV_SEQ_ISSUED 0 seq
    let s := forEach (s.genContexts scope ctx slice) s (fun c s => s.bumpGen c)
    s.awaitAcks seq scope ctx pasid slice (getBits 63 12 (s.rd .XLT_INV_ADDR 0) * 4096) pagesM1 (fun _ => true)

def execInvDvaRange (path : Path) (context pagesM1 : Nat) (s : State) : Host.Outcome State Fault Refusal :=
  onUnit s (pathOk path && contextOk context && decide (pagesM1 < 2 ^ 20))
    (s.gated path 0x380028 (s.invalidate 1 context 0 0 pagesM1))

def execInvHvaRange (path : Path) (pasid pagesM1 : Nat) (s : State) : Host.Outcome State Fault Refusal :=
  onUnit s (pathOk path && decide (pasid < 2 ^ 20) && decide (pagesM1 < 2 ^ 20))
    (s.gated path 0x380028 (s.invalidate 2 0 pasid 0 pagesM1))

def execInvContext (path : Path) (context : Nat) (s : State) : Host.Outcome State Fault Refusal :=
  onUnit s (pathOk path && contextOk context) (s.gated path 0x380028 (s.invalidate 3 context 0 0 0))

def execInvSlice (path : Path) (slice : Nat) (s : State) : Host.Outcome State Fault Refusal :=
  onUnit s (pathOk path && decide (slice < 256)) (s.gated path 0x380028 (s.invalidate 4 0 0 slice 0))

/-- An access of an acknowledger has not completed. -/
def State.unfinished (s : State) (n seq : Nat) : Bool :=
  let c := s.cluster (if n = 136 then 68 else if 68 ≤ n then n - 68 else n)
  c.flights.any (fun f => f.acc.seq == seq && f.outcome.isNone) || c.stalled.any (fun x => x.acc.seq == seq) ||
  c.released.any (fun r => 2 ^ 40 + r.id == seq)

/-- An acknowledger may acknowledge: the requests it had issued or granted before the invalidation have completed (R124). -/
def ackReady (s : State) (i : Inval) (n : Nat) : Bool := !i.waits.any (fun w => w.1 == n && s.unfinished n w.2)

def execInvAck (seq acknowledger : Nat) (s : State) : Host.Outcome State Fault Refusal :=
  onUnit s (decide (acknowledger < 139))
    (let s : State := { s with xlt := { s.xlt with invals := s.xlt.invals.map (fun i =>
      if i.seq = seq ∧ ackReady s i acknowledger then { i with missing := i.missing.filter (· ≠ acknowledger) } else i) } }
    s.invProgress)

/-- R113. -/
def execCacheFlush (path : Path) (s : State) : Host.Outcome State Fault Refusal :=
  onUnit s (pathOk path) (s.gated path 0x380000 (s.setFld .XLT_CTL_CACHE_FLUSH 0 1))

def execCacheFlushDone (s : State) : Host.Outcome State Fault Refusal :=
  onUnit s true
    (if s.fld .XLT_CTL_CACHE_FLUSH = 1 then
      ({ s with xlt := { s.xlt with cache := [] } } : State).setFld .XLT_CTL_CACHE_FLUSH 0 0
    else s)

/-! ## Resolving faults (R133) -/

/-- The outstanding fault a resolve names, and the state without it; a stale resolve is an ERROR 0x0712. -/
def State.resolve (s : State) (ctx seq : Nat) (act : OutFault → State → State) : State :=
  match s.xlt.faults.find? (fun f => f.ctx == ctx && f.seq == seq) with
  | some f => act f { s with xlt := { s.xlt with faults := eraseFirst (fun x => x == f) s.xlt.faults } }
  | none => s.err 0x0712 (s.ctxSlice ctx) (word (ctx + seq * 2 ^ 32))

/-! ## The fault ring (R131, R132) -/

def execFaultRingTail (path : Path) (index : Nat) (s : State) : Host.Outcome State Fault Refusal :=
  onUnit s (pathOk path && u16Ok index) (s.gated path 0x380050 (s.setFld .XLT_FR_TAIL_INDEX 0 index).pumpFaults)

/-- 10 µs after the first record since FAULT_BATCH was last cleared (R132). -/
def execFaultBatchTimer (s : State) : Host.Outcome State Fault Refusal :=
  onUnit s true (if 0 < s.xlt.batch then (s.advanceTo (s.xlt.batchAt + 10000)).setCause 0x07 0 else s)

end Sys2Proof.Machine
end

