-- ==== Sys2Proof/Machine/Mill.lean ====
section
/-! DEFINITION. The Mill and the counter tree (chapter 5): keystream, MACs and node tags, the operations of a memory
station from acceptance to their last response, the counter cache, the pound, scrubs, raw access and KeyID retirement. -/

namespace Sys2Proof.Machine

open Sys2Proof

/-! ## Where things lie in a channel (R139–R141) -/

/-- Offset of a level's nodes and node tags from 0x2_2492_0000, for levels 3–5. -/
def highNode (level : Nat) : Nat := if level = 3 then 0 else if level = 4 then 0x4000 else 0x4100
def highTag (level : Nat) : Nat := if level = 3 then 0x8000 else if level = 4 then 0x8800 else 0x8820

/-- Channel-local address of a node, in the primary area or in the mirror area. -/
def nodeAddr (mirror : Bool) (level index : Nat) : Nat :=
  64 * index +
  (if level = 1 then (if mirror then 0x225000000 else 0x220000000)
   else if level = 2 then (if mirror then 0x229800000 else 0x224800000)
   else 0x224920000 + highNode level)

/-- Channel-local address of a node's tag. -/
def nodeTagAddr (mirror : Bool) (level index : Nat) : Nat :=
  8 * index +
  (if level = 1 then (if mirror then 0x229000000 else 0x224000000)
   else if level = 2 then (if mirror then 0x229900000 else 0x224900000)
   else 0x224920000 + highTag level)

/-- Channel-local address of a line's tag word. -/
def tagAddr (line : Nat) : Nat := 0x200000000 + 8 * line

/-- Index of the level-ℓ node over a line; level 0 is the line itself (R140). -/
def nodeIndex (line level : Nat) : Nat := line / 64 ^ level

/-- Sectors of the line that hold bytes [a, a + n). -/
def sectorMask (a n : Nat) : Nat :=
  (List.range 4).foldl (fun m i => if a % 128 < 32 * i + 32 ∧ 32 * i < a % 128 + n then m + 2 ^ i else m) 0

/-! ## Nodes (R151–R153) -/

/-- A node's 64 bytes as a number. -/
def Node.bits (n : Node) : Nat := n.major + 2 ^ 64 * (n.minors.reverse.foldl (fun v m => v * 128 + m) 0)

/-- The node whose bytes these are. -/
def nodeOfBits (level index v : Nat) : Node :=
  ⟨level, index, v % 2 ^ 64, (List.range 64).map (fun i => v / 2 ^ (64 + 7 * i) % 128), false⟩

/-- A child node in its initial state (R153). -/
def initialNode (root level index : Nat) : Node := ⟨level, index, root, List.replicate 64 0, false⟩

/-- A cached node. -/
def MemStation.node (m : MemStation) (level index : Nat) : Option Node :=
  m.nodes.find? (fun n => n.level == level && n.index == index)

/-- Major and minors of the node above a node of a level, the upper node above level 5. -/
def MemStation.above (m : MemStation) (line level : Nat) : Nat × List Nat :=
  if level = 5 then (m.root, m.upper)
  else match m.node (level + 1) (nodeIndex line (level + 1)) with
    | some n => (n.major, n.minors)
    | none => (m.root, [])

/-- Version of a node of a level over a line, or of the line (level 0) (R154). -/
def MemStation.version (m : MemStation) (line level : Nat) : Nat × Nat :=
  let a := m.above line level
  (a.1, a.2.getD (nodeIndex line level % 64) 0)

/-- Change the minors above a node of a level, marking that node dirty. -/
def MemStation.setAbove (m : MemStation) (line level : Nat) (major : Nat) (minors : List Nat) : MemStation :=
  if level = 5 then { m with root := major, upper := minors }
  else { m with nodes := m.nodes.map (fun n =>
    if n.level = level + 1 ∧ n.index = nodeIndex line (level + 1) then { n with major := major, minors := minors, dirty := true }
    else n) }

/-- The minors with one replaced. -/
def setMinor (l : List Nat) (i v : Nat) : List Nat :=
  (List.range 64).map (fun j => if j = i then v else l.getD j 0)

/-! ## AES blocks, keystream and MACs (R147–R150, R158) -/

/-- An AES input block (R148). -/
def aesBlock (dom keyid port line major minor sector half : Nat) : BitVec 128 :=
  BitVec.ofNat 128 (dom * 2 ^ 126 + keyid * 2 ^ 116 + port * 2 ^ 109 + line * 2 ^ 83 + major * 2 ^ 19 + minor * 2 ^ 12 +
    sector * 2 + half)

/-- A 16-byte block of memory as a 128-bit value whose bit 127 is the most significant bit of byte 0, and back. -/
def blockOf (n : Nat) : BitVec 128 := BitVec.ofNat 128 (beNat (leBytes 16 n))
def blockBytes (b : BitVec 128) : Nat := leNat (beBytes 16 b.toNat)

/-- The keystream of a line (R149). -/
def keystream (k : Key) (keyid port line major minor : Nat) : Line :=
  BitVec.ofNat 1024 ((List.range 8).foldl (fun n i =>
    n + blockBytes (Config.aes256 k (aesBlock 0 keyid port line major minor (i / 2) (i % 2))) * 2 ^ (128 * i)) 0)

/-- GHASH subkey of a key (R147). -/
def subkey (k : Key) : BitVec 128 := Config.aes256 k (aesBlock 3 0 0 0 0 0 0 0)

/-- The sectors of a line whose bit in `zmap` is 0, as 16-byte blocks in order. -/
def sectorBlocks (zmap : Nat) (c : Line) : List (BitVec 128) :=
  ((List.range 8).filter (fun i => !zmap.testBit (i / 2))).map (fun i => blockOf (lineGet c (16 * i) 16))

/-- The line MAC (R150). -/
def lineMac (k : Key) (keyid port line major minor zmap : Nat) (c : Line) : Nat :=
  let x0 := BitVec.ofNat 128 (keyid * 2 ^ 118 + port * 2 ^ 111 + line * 2 ^ 85 + zmap * 2 ^ 81)
  let x1 := BitVec.ofNat 128 (major * 2 ^ 64 + minor * 2 ^ 57)
  let bs := sectorBlocks zmap c
  let len := BitVec.ofNat 128 (128 * bs.length)
  let m := Config.aes256 k (aesBlock 1 keyid port line major minor 0 0)
  ((ghash (subkey k) ([x0, x1] ++ bs ++ [len])) ^^^ m).toNat / 2 ^ 68

/-- A node tag (R158). -/
def nodeTag (kt : Key) (port level index major minor v : Nat) : Word :=
  let y0 := BitVec.ofNat 128 (level * 2 ^ 125 + port * 2 ^ 118 + index * 2 ^ 92)
  let y1 := BitVec.ofNat 128 (major * 2 ^ 64 + minor * 2 ^ 57)
  let bs := (List.range 4).map (fun i => blockOf (v / 2 ^ (128 * i) % 2 ^ 128))
  let m := Config.aes256 kt (aesBlock 2 level port index major minor 0 0)
  word (((ghash (subkey kt) ([y0, y1] ++ bs ++ [BitVec.ofNat 128 512])) ^^^ m).toNat / 2 ^ 64)

/-- ZMAP of a plaintext (R144). -/
def zmapOf (d : Line) : Nat :=
  (List.range 4).foldl (fun m i => if lineGet d (32 * i) 32 = 0 then m + 2 ^ i else m) 0

/-- A line with the sectors of a map set to zero. -/
def clearSectors (zmap : Nat) (d : Line) : Line :=
  BitVec.ofNat 1024 ((List.range 4).foldl (fun n i =>
    if zmap.testBit i then n else n + lineGet d (32 * i) 32 * 2 ^ (256 * i)) 0)

/-- Zero sectors of a map. -/
def zeroSectors (zmap : Nat) : Nat := ((List.range 4).filter (fun i => zmap.testBit i)).length

/-- Key of a KeyID in the Mill key tables (R147). -/
def State.millKey (s : State) (keyid : Nat) : Key := mapGet 0 s.well.mill keyid

/-- KT of a station (R355). -/
def State.treeKeyOf (s : State) (p : Nat) : Key := (s.memSt p).treeKey.getD 0

/-- Tag word of a line in its tag line. -/
def tagOf (line : Nat) (t : Line) : Word := word (lineGet t (8 * (line % 16)) 8)

/-! ## DRAM commands (R424) -/

/-- Beats of 64 bytes that the sectors of a mask need. -/
def beatsOf (smask : Nat) : Nat := (((List.range 4).filter (fun i => smask.testBit i)).length + 1) / 2

/-- A command finds room in the FIFOs of the crossing (R425): 64 commands, 128 beats of write data, 256 of read data. -/
def MemPort.room (x : MemPort) (c : PortCmd) : Bool :=
  decide (x.cmds.length < 64) &&
  (if c.write then decide ((x.cmds.map (·.2)).sum + beatsOf c.smask ≤ 128)
   else decide ((x.reads.map (·.2.2)).sum + beatsOf c.smask ≤ 256))

/-- The lowest command tag that no read uses. -/
def MemPort.freeTag (x : MemPort) : Nat := ((List.range 1024).find? (fun i => !x.reads.any (fun r => r.1 == i))).getD 0

/-- The oldest command of a port enters the FIFOs, and with that goes out on MPk_CMD, if there is room (R424, R425; the instant
is a DESIGN CHOICE, log 88). -/
def State.portStep (q : Nat) (s : State) : State :=
  let x := (s.memSt q).port
  match x.unsent with
  | [] => s
  | c :: rest =>
    if x.room c then
      let tag := if c.write then 0 else x.freeTag
      let x' : MemPort := ⟨rest, x.cmds ++ [(if c.write then none else some tag, if c.write then beatsOf c.smask else 0)],
        if c.write then x.reads else x.reads ++ [(tag, c.serial, beatsOf c.smask)]⟩
      (s.modMem q (fun m => { m with port := x' })).emit (.memCmd q c.write c.addr c.smask tag c.data)
    else s

def State.pumpPort (s : State) (q : Nat) : State := iterate (State.portStep q) (s.memSt q).port.unsent.length s

/-- A command for port `q`. -/
def State.portCmd (s : State) (q : Nat) (c : PortCmd) : State :=
  (s.modMem q (fun m => { m with port := { m.port with unsent := m.port.unsent ++ [c] } })).pumpPort q

/-- Write sectors of a line of port `q`. -/
def State.memWrite (s : State) (q addr smask : Nat) (d : Line) : State :=
  if smask = 0 then s else s.portCmd q ⟨true, addr / 128, smask, 0, d⟩

/-- Send a read command on port `q`; answer the number its data return under. -/
def State.memRead (s : State) (q addr smask : Nat) : Nat × State :=
  let n := (s.memSt q).nextTag
  (n, (s.modMem q (fun m => { m with nextTag := n + 1 })).portCmd q ⟨false, addr / 128, smask, n, 0⟩)

/-- Read data have come under a tag: the controller has taken every command up to theirs, and the next ones go out. Answers the
station's number of the read. -/
def State.readBack (s : State) (q tag : Nat) : Option Nat × State :=
  let x := (s.memSt q).port
  match x.reads.find? (fun r => r.1 == tag) with
  | none => (none, s)
  | some r =>
    let cmds := if x.cmds.any (fun c => c.1 == some tag) then (x.cmds.dropWhile (fun c => c.1 != some tag)).drop 1 else x.cmds
    (some r.2.1, (s.modMem q (fun m => { m with port := { m.port with
      cmds := cmds, reads := m.port.reads.filter (fun y => y.1 ≠ tag) } })).pumpPort q)

/-- The controllers of the memory ports take every command in the FIFOs: what a step on an empty queue does (DESIGN CHOICE, log
88). -/
def State.tick (s : State) : State :=
  forEach ((s.mems.filter (fun e => !e.2.port.cmds.isEmpty)).map (·.1)) s (fun q s =>
    (s.modMem q (fun m => { m with port := { m.port with cmds := [] } })).pumpPort q)

/-- The port that mirrors the channel of a port (R141). -/
def State.mirrorOf (s : State) (p : Nat) : Option Nat :=
  ((List.range 64).find? (fun j => (cfgChanOwner s.regs j).tag != 0xFF && cfgChanPort s.regs j == p)).map
    (fun j => cfgChanPort s.regs ((j + 1) % 64))

/-- The operation in a slot, and its replacement. -/
def MemStation.op (m : MemStation) (slot : Nat) : Option MemOp := (m.slots.find? (fun e => e.1 == slot)).map (·.2)
def State.setOp (s : State) (p slot : Nat) (o : MemOp) : State :=
  s.modMem p (fun m => { m with slots := mapPut m.slots slot o })

/-- One read for an operation, from port `q`. -/
def State.fetchFor (p q slot : Nat) (what : Fetch) (addr bytes : Nat) (s : State) : State :=
  let (tag, s) := s.memRead q addr (sectorMask addr bytes)
  s.modMem p (fun m => { m with slots := m.slots.map (fun e =>
    if e.1 = slot then (slot, { e.2 with cmds := e.2.cmds ++ [(q, tag, what)] }) else e) })

/-- Reads of a node and its tag, from the primary copy or the mirror. -/
def State.fetchNode (s : State) (p slot line level : Nat) (mirror : Bool) : State :=
  let q := if mirror then (s.mirrorOf p).getD p else p
  let i := nodeIndex line level
  (s.fetchFor p q slot (.node level) (nodeAddr mirror level i) 64).fetchFor p q slot (.nodeTag level)
    (nodeTagAddr mirror level i) 8

/-! ## Counters, charges and events -/

/-- MIL_ST_LAST_FAIL. -/
def State.lastFail (s : State) (p code : Nat) (o : MemOp) : State :=
  s.wr .MIL_ST_LAST_FAIL p (setBits 63 48 code (setBits 47 40 o.slice (setBits 39 30 o.keyid (setBits 26 0 o.line 0))))

/-- Charge sectors to the context of an operation and to the command of its requester, scrubs and writebacks without one to the
manager (R403). -/
def State.chargeSectors (s : State) (ctx core n : Nat) : State := s.chargeWork ctx core (n * s.fld .MON_COEF_MEM)

/-- The record of an event at a memory station. -/
def State.millEvent (s : State) (cls : EventClass) (code p : Nat) (o : MemOp) : State :=
  (s.lastFail p code o).raise cls code o.slice (100 + p) (setBits 63 54 o.keyid (setBits 26 0 o.line 0))

/-! ## The counter cache (R157) -/

/-- Leaves the cache must keep: those of operations that have begun and of buffered lines. -/
def pinnedLeaf (m : MemStation) (index : Nat) : Bool :=
  m.slots.any (fun e => e.2.started && e.2.line / 64 == index) || m.buf.any (fun b => b.line / 64 == index)

/-- A node may be evicted: no cached node below it, and no pinned leaf. -/
def evictable (m : MemStation) (n : Node) : Bool :=
  !m.nodes.any (fun c => c.level + 1 == n.level && c.index / 64 == n.index) && !(n.level == 1 && pinnedLeaf m n.index)

/-- The last element that satisfies a predicate. -/
def lastSome {α : Type} (p : α → Bool) (l : List α) : Option α := (l.filter p).getLast?

/-- The change of a node tag when its node's version changes: GHASH is linear in the version block. -/
def tagDelta (kt : Key) (port level index major minor major' minor' : Nat) : Word :=
  nodeTag kt port level index major minor 0 ^^^ nodeTag kt port level index major' minor' 0

/-- Queue a metadata rewrite. -/
def State.addPatch (s : State) (p q : Nat) (kind : PatchKind) : State :=
  s.modMem p (fun m => { m with patches := m.patches ++ [⟨q, kind, [], [], false⟩] })

/-- Rewrites of a node's tag on its primary copy and, for levels 1 and 2, on its mirror. -/
def State.patchTag (s : State) (p level index : Nat) (kind : Nat → PatchKind) : State :=
  let s := s.addPatch p p (kind (nodeTagAddr false level index))
  if level ≤ 2 then
    match s.mirrorOf p with
    | some q => s.addPatch p q (kind (nodeTagAddr true level index))
    | none => s
  else s

/-- A child of a node of level `level + 1` is written: its minor rises; at 126 the major rises and the other children's
tags are rewritten (R156). Answers the child's new version. -/
def State.bumpNode (s : State) (p line level : Nat) : State :=
  let m := s.memSt p
  let (major, minors) := m.above line level
  let i := nodeIndex line level % 64
  let v := minors.getD i 0
  if v < 126 then s.modMem p (fun m => m.setAbove line level major (setMinor minors i (v + 1)))
  else
    let major' := (major + 1) % 2 ^ 64
    let minors' := (List.range 64).map (fun j =>
      let x := minors.getD j 0
      if j = i then 1 else if 1 ≤ x ∧ x ≤ 126 then 1 else x)
    let s := s.modMem p (fun m => m.setAbove line level major' minors')
    let base := nodeIndex line level / 64 * 64
    forEach ((List.range 64).filter (fun j => j != i && decide (1 ≤ minors.getD j 0) && decide (minors.getD j 0 ≤ 126))) s
      (fun j s => s.patchTag p level (base + j) (fun a =>
        .xorTag a (tagDelta (s.treeKeyOf p) p level (base + j) major (minors.getD j 0) major' 1)))

/-- Write a dirty node back: the parent's minor, the node and its tag on the primary copy, and on the mirror for levels 1
and 2 (R157). -/
def State.writeBackNode (s : State) (p : Nat) (n : Node) : State :=
  if n.dirty = false then s
  else
    let line := n.index * 64 ^ n.level
    let s := s.bumpNode p line n.level
    let (major, minor) := (s.memSt p).version line n.level
    let tag := nodeTag (s.treeKeyOf p) p n.level n.index major minor n.bits
    let put := fun (mirror : Bool) (q : Nat) (s : State) =>
      let a := nodeAddr mirror n.level n.index
      s.memWrite q a (sectorMask a 64) (BitVec.ofNat 1024 (n.bits * 2 ^ (8 * (a % 128))))
    let s := put false p s
    let s := match (if n.level ≤ 2 then s.mirrorOf p else none) with
      | some q => put true q s
      | none => s
    s.patchTag p n.level n.index (fun a => .setTag a tag)

/-- A leaf as it enters the cache after a scrub (R159, R177). -/
def scrubLeaf (m : MemStation) (n : Node) : Node :=
  if n.level ≠ 1 then n
  else
    let times := (m.scrubbed.filter (fun r => decide (r.1 ≤ n.index) && decide (n.index ≤ r.2))).length
    let n := if 0 < times then
        { n with major := (n.major + times) % 2 ^ 64, minors := List.replicate 64 0, dirty := true }
      else n
    if m.zeroed.any (fun l => l / 64 == n.index) || m.pounds.any (fun l => l / 64 == n.index) then
      { n with dirty := true, minors := (List.range 64).map (fun j =>
          if m.zeroed.contains (64 * n.index + j) then 0
          else if m.pounds.contains (64 * n.index + j) then 127
          else n.minors.getD j 0) }
    else n

/-- Ranges without [a, b]. -/
def cutRanges (a b : Nat) (l : List (Nat × Nat)) : List (Nat × Nat) :=
  l.flatMap (fun r =>
    if r.2 < a ∨ b < r.1 then [r]
    else (if r.1 < a then [(r.1, a - 1)] else []) ++ (if b < r.2 then [(b + 1, r.2)] else []))

/-- Put a node into the cache, most recently used first; a full cache evicts its least recently used node that it may, and
writes it back if dirty (R157). -/
def State.putNode (s : State) (p : Nat) (n : Node) : State :=
  let m := s.memSt p
  let n := scrubLeaf m n
  let s := if m.nodes.length < 1024 then s
    else match lastSome (evictable m) m.nodes with
      | some v => (s.writeBackNode p v).modMem p (fun m => { m with nodes := m.nodes.filter (fun x =>
          !(x.level == v.level && x.index == v.index)) })
      | none => s
  s.modMem p (fun m => { m with
    nodes := n :: m.nodes.filter (fun x => !(x.level == n.level && x.index == n.index)),
    scrubbed := if n.level = 1 then cutRanges n.index n.index m.scrubbed else m.scrubbed,
    zeroed := if n.level = 1 then m.zeroed.filter (fun l => l / 64 ≠ n.index) else m.zeroed,
    pounds := if n.level = 1 then m.pounds.filter (fun l => l / 64 ≠ n.index) else m.pounds })

/-- Leaves below a node. -/
def leavesOf (level index : Nat) : Nat × Nat := (index * 64 ^ (level - 1), (index + 1) * 64 ^ (level - 1) - 1)

/-- Every leaf below a node has been scrubbed since. -/
def coveredBy (m : MemStation) (level index : Nat) : Bool :=
  let r := leavesOf level index
  m.scrubbed.any (fun x => decide (x.1 ≤ r.1) && decide (r.2 ≤ x.2))

/-- How far the nodes over a line are in the cache. -/
inductive PathEnd where
  | ready | pound
  | missing (level : Nat)
  deriving DecidableEq, Repr

/-- Bring the initial nodes of a path into the cache, from level `n` down (R153). -/
def State.resolve5 (p line : Nat) : Nat → State → PathEnd × State
  | 0, s => (.ready, s)
  | n + 1, s =>
    let m := s.memSt p
    let i := nodeIndex line (n + 1)
    match m.node (n + 1) i with
    | some x =>
      let s := s.modMem p (fun m => { m with nodes := x :: m.nodes.filter (fun y => !(y.level == n + 1 && y.index == i)) })
      State.resolve5 p line n s
    | none =>
      let (major, minors) := m.above line (n + 1)
      let v := minors.getD (i % 64) 0
      if v = 127 then
        if coveredBy m (n + 1) i then
          let s := s.modMem p (fun m => m.setAbove line (n + 1) major (setMinor minors (i % 64) 0))
          State.resolve5 p line n (s.putNode p (initialNode m.root (n + 1) i))
        else (.pound, s)
      else if v = 0 then State.resolve5 p line n (s.putNode p (initialNode m.root (n + 1) i))
      else (.missing (n + 1), s)

def State.resolvePath (s : State) (p line : Nat) : PathEnd × State := State.resolve5 p line 5 s

/-- Leaf minor of a line whose leaf is cached. -/
def State.minorOf (s : State) (p line : Nat) : Nat := ((s.memSt p).version line 0).2

/-- Put the line, or the subtree of a node of a level over it, into the pound (R170, R172). -/
def State.pound (s : State) (p line level : Nat) : State :=
  let m := s.memSt p
  let (major, minors) := m.above line level
  let s := s.modMem p (fun m => m.setAbove line level major (setMinor minors (nodeIndex line level % 64) 127))
  let s := if level = 0 then s
    else
      let r := leavesOf level (nodeIndex line level)
      s.modMem p (fun m => { m with scrubbed := cutRanges r.1 r.2 m.scrubbed })
  -- what the atomic line buffer holds of it is in the pound too (R175)
  let s := s.modMem p (fun m => { m with buf := m.buf.filter (fun b => nodeIndex b.line level ≠ nodeIndex line level) })
  s.bump .CTR_ST_STATUS_POUND_UNITS p

/-- Put one line into the pound wherever its leaf is (R257, R392). -/
def State.poundLine (s : State) (p line : Nat) : State :=
  if ((s.memSt p).node 1 (line / 64)).isSome then s.pound p line 0
  else
    (s.modMem p (fun m => { m with buf := m.buf.filter (fun b => b.line ≠ line),
                                   pounds := line :: m.pounds.filter (· ≠ line), zeroed := m.zeroed.filter (· ≠ line) })).bump
      .CTR_ST_STATUS_POUND_UNITS p

/-! ## The ends of an operation -/

/-- An operation leaves its slot. -/
def State.endOp (s : State) (p slot : Nat) : State :=
  s.modMem p (fun m => { m with slots := mapErase m.slots slot })

/-- A write has been performed: its RSP. -/
def State.ackWrite (s : State) (o : MemOp) : State :=
  match o.origin with
  | .released k id => s.modCluster k (fun c => { c with rsps := c.rsps ++ [(id, 0)] })
  | .link p _ => (s.linkCharge o.ctx o.core 1).linkSend p 2 none
  | .back k line => (s.modCluster k (fun c => { c with backs := c.backs.erase line })).resumeStalled k
  | .raw jtag pa => s.emit (.raw jtag pa 0 0)
  | _ => s

/-- An operation ends in a bus error to its requester. -/
def State.failOp (s : State) (p slot code : Nat) (o : MemOp) : State :=
  let s := s.endOp p slot
  match o.origin with
  | .core k seq _ =>
    (match (s.cluster k).flight seq with
    | some f => s.busError k f.acc code
    | none => s)
  | .released k id => s.modCluster k (fun c => { c with rsps := c.rsps ++ [(id, code)] })
  | .fill k h => (s.modCluster k (fun c => { c with rsps := c.rsps ++ [(h.id, code)] })).fillEnd (h.addr / 128)
  | .link q _ => (s.linkCharge o.ctx o.core 1).linkSend q 2 none
  | .back k line => (s.modCluster k (fun c => { c with backs := c.backs.erase line })).resumeStalled k
  | .migration i =>
    (match s.xlt.migrations.find? (fun m => m.id == i) with
    | some m => s.migrationFault m 0x070B
    | none => s)
  | .walk i => s.walkFailed i
  | .pool i =>
    (match s.xlt.migrations.find? (fun m => m.id == i) with
    | some m => s.migrationFault m 0x070B
    | none => s)
  | .raw jtag pa => s.emit (.raw jtag pa code 0)
  | .save image => s.saveError image code
  | .none => s

/-- An operation's line may be used only once it has verified: it carries no token. -/
def MemOrigin.waits : MemOrigin → Bool
  | .fill _ _ => true
  | .walk _ => true
  | .pool _ => true
  | _ => false

/-- Leaf minor of an operation's line. -/
def State.opMinor (s : State) (o : MemOp) : Nat :=
  match s.place (o.paLine * 128) with
  | some (p, line) => s.minorOf p line
  | none => 0

/-- A read's plaintext goes back to its requester. -/
def State.answerRead (s : State) (o : MemOp) (spec : Bool) (d : Line) : State :=
  match o.origin with
  | .core k seq beat => s.returnLine k seq beat o.paLine spec false d
  | .link q _ => (s.linkCharge o.ctx o.core 2).linkSend q 3 none
  | .fill k h => (s.fillCache k h d).fillEnd (h.addr / 128)
  | .walk i => s.walkEntry i d
  | .pool i => s.poolEntry i d
  | .raw jtag pa => s.emit (.raw jtag pa 0 d)
  | .save image => if spec then s.saveData image d else s.saveLine image (if s.opMinor o = 0 ∧ d = 0 then 0 else 1) d
  | _ => s

/-- The verdict of a read goes back to its requester (R160). -/
def State.answerVerdict (s : State) (o : MemOp) (v : Verdict) (code : Nat) : State :=
  match o.origin with
  | .core k seq _ => s.modCluster k (fun c => { c with verdicts := c.verdicts ++ [(seq, v, code)] })
  | .link q _ => (s.linkCharge o.ctx o.core 1).linkSend q 2 none
  | .save image => s.saveVerdict image v (s.opMinor o == 0)
  | _ => s

/-! ## Writes (R156, R167) -/

/-- The tag word of a line: into the tag cache and to DRAM; a tag line that the cache does not hold is read into it first
(R145). -/
def State.putTag (s : State) (p line : Nat) (v : Word) : State :=
  let m := s.memSt p
  match m.tagCache.find? (fun e => e.1 == line / 16) with
  | some e =>
    let t := linePut e.2 (8 * (line % 16)) 8 v.toNat
    let s := s.modMem p (fun m => { m with tagCache := (line / 16, t) :: m.tagCache.filter (fun x => x.1 ≠ line / 16) })
    s.memWrite p (tagAddr line) (sectorMask (tagAddr line) 8) t
  | none => s.addPatch p p (.tagWord line v)

/-- Raise the minor of a line; at 126 the leaf gets a new major and its other lines are re-encrypted (R156). -/
def State.bumpLine (s : State) (p line keyid : Nat) : State :=
  let m := s.memSt p
  let (major, minors) := m.above line 0
  let i := line % 64
  let v := minors.getD i 0
  if v < 126 then s.modMem p (fun m => m.setAbove line 0 major (setMinor minors i (v + 1)))
  else
    let major' := (major + 1) % 2 ^ 64
    let minors' := (List.range 64).map (fun j =>
      let x := minors.getD j 0
      if j = i then 1 else if 1 ≤ x ∧ x ≤ 126 then 1 else x)
    let s := s.modMem p (fun m => m.setAbove line 0 major' minors')
    let base := line / 64 * 64
    -- an operation of the leaf that has begun keeps the version its line was read under
    let s := s.modMem p (fun m => { m with slots := m.slots.map (fun e =>
      if e.2.started ∧ e.2.line / 64 = line / 64 ∧ e.2.line ≠ line ∧ e.2.ver = none then
        (e.1, { e.2 with ver := some (major, minors.getD (e.2.line % 64) 0) })
      else e) })
    forEach ((List.range 64).filter (fun j => j != i && decide (1 ≤ minors.getD j 0) && decide (minors.getD j 0 ≤ 126))) s
      (fun j s => s.addPatch p p (.recrypt (base + j) keyid major (minors.getD j 0) major'))

/-- Write a whole line whose leaf is cached (R144, R146, R167). -/
def State.writeLine (s : State) (p line keyid ctx core : Nat) (d : Line) : State :=
  let s := s.bumpLine p line keyid
  -- a line that is written anew need not be encrypted again
  let s := s.modMem p (fun m => { m with patches := m.patches.filter (fun x => match x.kind with
    | .recrypt l _ _ _ _ => l != line
    | _ => true) })
  let (major, minor) := (s.memSt p).version line 0
  let z := zmapOf d
  let k := s.millKey keyid
  let c := if keyid = 0 then d else clearSectors z (d ^^^ keystream k keyid p line major minor)
  let mac := if keyid = 0 then 0 else lineMac k keyid p line major minor z c
  let s := s.memWrite p (128 * line) (15 - z) c
  let s := s.putTag p line (word (mac * 16 + z))
  (s.bump .MIL_ST_SKIPPED_SECTORS p (zeroSectors z)).chargeSectors ctx core (4 - zeroSectors z)

/-- Write a line of the atomic line buffer back (R179). -/
def State.flushBuf (s : State) (p : Nat) (b : LineBuf) : State :=
  (s.writeLine p b.line b.keyid b.ctx 0x3FF b.data).modMem p (fun m => { m with buf := m.buf.filter (fun x => x.line ≠ b.line) })

/-! ## Atomics (R178, R179) -/

/-- Old value and new line of an atomic. -/
def atomicLine (op : Nat) (eight : Bool) (offset : Nat) (operand compare : Word) (d : Line) : Word × Line :=
  let n := if eight then 8 else 4
  let old := lineGet d offset n
  (word old, linePut d offset n (atomicValue op n old (operand.toNat % 2 ^ (8 * n)) (compare.toNat % 2 ^ (8 * n))))

/-- Answer an atomic with its old value. -/
def State.answerOld (s : State) (o : MemOp) (old : Word) (swapped : Bool) : State :=
  match o.origin with
  | .core k seq _ =>
    (match s.staleFlight k seq, (s.cluster k).flight seq with
    | some a, _ => s.refuseStale k a
    | none, some f => (s.answerAtomic k f.acc old).resumeStalled k
    | none, none => s)
  | .link q _ => (s.linkCharge o.ctx o.core 1).linkSend q 2 none
  | .migration i => s.finishMigration i (if swapped then .swapped else .differs)
  | _ => s

/-- Perform an operation on a line in the atomic line buffer. -/
def State.onBuffer (s : State) (p slot : Nat) (o : MemOp) (b : LineBuf) : State :=
  let put := fun (d : Line) (s : State) => s.modMem p (fun m => { m with
    buf := { b with data := d } :: m.buf.filter (fun x => x.line ≠ b.line) })
  match o.kind with
  | .atomic op eight off a c =>
    let (old, d) := atomicLine op eight off a c b.data
    let same := decide (old = c)
    (((put d s).endOp p slot).answerOld o old same)
  | .write => (((put (mergeLine b.data o.data o.be) s).endOp p slot).ackWrite o)
  | .read =>
    if o.keyid = 0 ∨ o.origin.waits then (s.endOp p slot).answerRead o false b.data
    else (s.setOp p slot { o with started := true, due := true, zero := true }).answerRead o true b.data
  | .rawRead => (s.endOp p slot).answerRead o false b.data

/-- Bring a verified line into the atomic line buffer, evicting the least recently used of 16, and operate there. -/
def State.intoBuffer (s : State) (p slot : Nat) (o : MemOp) (d : Line) : State :=
  let s := match (s.memSt p).buf.getLast? with
    | some b => if 16 ≤ (s.memSt p).buf.length then s.flushBuf p b else s
    | none => s
  let b : LineBuf := ⟨o.line, o.keyid, o.slice, o.ctx, d⟩
  (s.modMem p (fun m => { m with buf := b :: m.buf })).onBuffer p slot o b

/-! ## Ready operations -/

/-- The data and tag line of an operation. -/
def MemOp.fetched (o : MemOp) (w : Fetch) : Option Line :=
  match o.got.find? (fun g => decide (g.what = w)) with
  | some g => some g.data
  | none => none

/-- Something of the line came poisoned. -/
def MemOp.poisoned (o : MemOp) : Bool :=
  o.got.any (fun g => g.poison && (decide (g.what = .data) || decide (g.what = .tagLine)))

/-- The line's tag word, as the operation has it. -/
def MemOp.tag (o : MemOp) : Word := tagOf o.line ((o.fetched .tagLine).getD 0)

/-- ZMAP and stored bytes of the line, with zero sectors as zero. -/
def MemOp.zmap (o : MemOp) : Nat := getBits 3 0 o.tag
def MemOp.stored (o : MemOp) : Line := clearSectors o.zmap ((o.fetched .data).getD 0)

/-- The version under which an operation's line was written when it was read (R154, R156). -/
def State.opVersion (s : State) (p : Nat) (o : MemOp) : Nat × Nat := o.ver.getD ((s.memSt p).version o.line 0)

/-- Decrypt the line of an operation. -/
def State.plain (s : State) (p : Nat) (o : MemOp) : Line :=
  if o.keyid = 0 then o.stored
  else
    let (major, minor) := s.opVersion p o
    clearSectors o.zmap (o.stored ^^^ keystream (s.millKey o.keyid) o.keyid p o.line major minor)

/-- Its line MAC matches. -/
def State.macOk (s : State) (p : Nat) (o : MemOp) : Bool :=
  let (major, minor) := s.opVersion p o
  lineMac (s.millKey o.keyid) o.keyid p o.line major minor o.zmap o.stored == getBits 63 4 o.tag

/-- The version under which DRAM holds a line that waits to be encrypted anew (R156). -/
def MemStation.oldVersion (m : MemStation) (line : Nat) : Option (Nat × Nat) :=
  m.patches.findSome? (fun x => match x.kind with
    | .recrypt l _ major minor _ => if l = line then some (major, minor) else none
    | _ => none)

/-- Read the line, unless it is written whole, and its tag line again, without the tag cache (R169, R425). -/
def State.rereadLine (s : State) (p slot : Nat) (o : MemOp) : State :=
  let s := s.modMem p (fun m => { m with tagCache := m.tagCache.filter (fun e => e.1 ≠ o.line / 16) })
  let got := o.got.filter (fun g => decide (g.what ≠ .data) && decide (g.what ≠ .tagLine))
  let whole := decide (o.kind = .write) && decide (o.be = fullMask)
  let s := s.setOp p slot { o with got := got, ver := (s.memSt p).oldVersion o.line }
  let s := s.chargeSectors o.ctx o.core (if whole then 4 else 8)
  let s := if whole then s else State.fetchFor p p slot .data (128 * o.line) 128 s
  State.fetchFor p p slot .tagLine (0x200000000 + 128 * (o.line / 16)) 128 s

/-- A refused operation: the ERROR record and the bus error. -/
def State.refuseOp (s : State) (p slot code : Nat) (o : MemOp) : State :=
  let s := if code = 0x0806 then (s.bump .MIL_ST_COUNT_POISON p).poisonReport p else s
  (s.millEvent .error code p o).failOp p slot code o

/-- Act on a verified line, or on one that needs no verification. -/
def State.actOn (s : State) (p slot : Nat) (o : MemOp) (d : Line) : State :=
  match o.kind with
  | .write => ((s.writeLine p o.line o.keyid o.ctx o.core (mergeLine d o.data o.be)).endOp p slot).ackWrite o
  | .atomic _ _ _ _ _ => s.intoBuffer p slot o d
  | .read => (s.endOp p slot).answerRead o false d
  | .rawRead => (s.endOp p slot).answerRead o false d

/-- A tag line with the tag words that are on their way to it. -/
def MemStation.overlayTags (m : MemStation) (tagLine : Nat) (d : Line) : Line :=
  m.patches.foldl (fun d x => match x.kind with
    | .tagWord line v => if line / 16 = tagLine then linePut d (8 * (line % 16)) 8 v.toNat else d
    | _ => d) d

/-- A tag line that has come enters the tag cache, unless it is there (R145). -/
def State.cacheTags (s : State) (p tagLine : Nat) (d : Line) : State :=
  s.modMem p (fun m => if m.tagCache.any (fun e => e.1 == tagLine) then m
    else { m with tagCache := ((tagLine, m.overlayTags tagLine d) :: m.tagCache).take 1024 })

/-- Everything the operation fetched has arrived and its nodes have verified. What came poisoned is read once again before the
operation is refused with 0x0806; a line of minor 0 needs nothing of what was read (R153, R168). -/
def State.proceed (s : State) (p slot : Nat) (o : MemOp) : State :=
  let minor := (s.opVersion p o).2
  let whole := decide (o.kind = .write) && decide (o.be = fullMask)
  if minor = 127 then s.refuseOp p slot 0x0802 o
  else if minor = 0 ∧ whole = false then
    (if decide (o.kind = .read) && o.keyid != 0 && !o.origin.waits then
      (s.setOp p slot { o with due := true, zero := true }).answerRead o true 0
     else s.actOn p slot o 0)
  else if o.poisoned then
    (if o.repoison then s.refuseOp p slot 0x0806 o else s.rereadLine p slot { o with repoison := true })
  else
    let s := match o.fetched .tagLine with
      | some t => s.cacheTags p (o.line / 16) t
      | none => s
    if whole then s.actOn p slot o 0
    else if o.kind = .rawRead then s.actOn p slot o o.stored
    else if o.keyid = 0 then s.actOn p slot o o.stored
    else if o.due then s
    else
      let s := s.setOp p slot { o with due := true }
      if o.kind = .read ∧ o.origin.waits = false then s.answerRead o true (s.plain p o) else s

/-- The node of a level that an operation has fetched verifies under its parent's version. -/
def State.nodeOk (s : State) (p : Nat) (o : MemOp) (level : Nat) : Option Node :=
  let i := nodeIndex o.line level
  let a := nodeAddr false level i
  let t := nodeTagAddr false level i
  match o.got.find? (fun g => decide (g.what = .node level)), o.got.find? (fun g => decide (g.what = .nodeTag level)) with
  | some n, some g =>
    let v := lineGet n.data (a % 128) 64
    let (major, minor) := (s.memSt p).version o.line level
    if n.poison ∨ g.poison ∨ nodeTag (s.treeKeyOf p) p level i major minor v ≠ word (lineGet g.data (t % 128) 8) then none
    else some (nodeOfBits level i v)
  | _, _ => none

/-- Reads of a level's node so far, and whether the primary copy came poisoned. -/
def MemOp.triesOf (o : MemOp) (level : Nat) : Nat × Bool :=
  match o.tries.find? (fun t => t.1 == level) with
  | some t => t.2
  | none => (1, o.got.any (fun g => g.poison && (decide (g.what = .node level) || decide (g.what = .nodeTag level))))

/-- A copy of a node that failed is rewritten from the other (R172). -/
def State.rewriteCopy (s : State) (p : Nat) (o : MemOp) (n : Node) (poison : Bool) : State :=
  let a := nodeAddr false n.level n.index
  let s := s.memWrite p a (sectorMask a 64) (BitVec.ofNat 1024 (n.bits * 2 ^ (8 * (a % 128))))
  let (major, minor) := (s.memSt p).version o.line n.level
  let s := s.addPatch p p (.setTag (nodeTagAddr false n.level n.index)
    (nodeTag (s.treeKeyOf p) p n.level n.index major minor n.bits))
  let s := s.bump .CTR_ST_STATUS_REWRITES p
  if poison then s.raise .error 0x0903 0 (100 + p) (word n.index)
  else (s.bump .CTR_ST_COUNT_NODE_TAMPER p).raise .alarm 0x0904 0 (100 + p) (word n.index)

/-- Verify the fetched nodes of an operation from level `n` down, then go on; a node that fails is read again (R172). -/
def State.checkNodes (p slot : Nat) : Nat → State → State
  | 0, s =>
    (match (s.memSt p).op slot with
    | some o => s.proceed p slot o
    | none => s)
  | n + 1, s =>
    match (s.memSt p).op slot with
    | none => s
    | some o =>
      let m := s.memSt p
      let i := nodeIndex o.line (n + 1)
      if (m.node (n + 1) i).isSome then State.checkNodes p slot n s
      else
        let (major, minors) := m.above o.line (n + 1)
        let v := minors.getD (i % 64) 0
        if v = 127 ∧ coveredBy m (n + 1) i = false then s.refuseOp p slot 0x0802 o
        else if v = 0 ∨ v = 127 then
          let s := if v = 0 then s
            else s.modMem p (fun m => m.setAbove o.line (n + 1) major (setMinor minors (i % 64) 0))
          State.checkNodes p slot n (s.putNode p (initialNode m.root (n + 1) i))
        else
          let (k, poison) := o.triesOf (n + 1)
          match s.nodeOk p o (n + 1) with
          | some x =>
            let s := s.putNode p x
            let s := if k = 2 then s.bump .CTR_ST_COUNT_NODE_REREAD_PASS p
              else if 3 ≤ k then s.rewriteCopy p o x poison
              else s
            State.checkNodes p slot n s
          | none =>
            let last := if n + 1 ≤ 2 ∧ (s.mirrorOf p).isSome then 4 else 2
            if k < last then
              let o' := { o with
                got := o.got.filter (fun g => decide (g.what ≠ .node (n + 1)) && decide (g.what ≠ .nodeTag (n + 1))),
                tries := (n + 1, k + 1, poison) :: o.tries.filter (fun t => t.1 ≠ n + 1) }
              (s.setOp p slot o').fetchNode p slot o.line (n + 1) (decide (2 ≤ k))
            else
              let s := (s.pound p o.line (n + 1)).raise .alarm 0x0901 o.slice (100 + p) (setBits 58 56 (n + 1) (word i))
              s.refuseOp p slot 0x0802 o

/-! ## Starting operations (R160, R166) -/

/-- A read of a node is outstanding. -/
def MemOp.fetchesNode (o : MemOp) : Bool :=
  o.cmds.any (fun c => match c.2.2 with
    | .node _ => true
    | .nodeTag _ => true
    | _ => false)

/-- An operation must wait: an earlier one of its line is not finished, or metadata is being rewritten. -/
def mustWait (m : MemStation) (o : MemOp) : Bool :=
  m.slots.any (fun e => e.2.line == o.line && decide (e.2.id < o.id)) || !m.patches.isEmpty

/-- Begin the reads of an operation whose path is cached down to `level` (0: all of it). -/
def State.beginFetch (s : State) (p slot : Nat) (o : MemOp) (level : Nat) : State :=
  let m := s.memSt p
  let whole := decide (o.kind = .write) && decide (o.be = fullMask)
  let minor := if level = 0 then s.minorOf p o.line else 1
  let cached := (m.tagCache.find? (fun e => e.1 == o.line / 16)).map (·.2)
  let tagWait := cached.isNone && m.slots.any (fun e => e.2.line / 16 == o.line / 16 &&
    e.2.cmds.any (fun c => decide (c.2.2 = .tagLine)))
  if (0 < level ∧ m.slots.any (fun e => e.2.fetchesNode)) ∨ tagWait then s
  else
    let got : List Got := match cached with
      | some t => [⟨.tagLine, t, false⟩]
      | none => []
    let o := { o with started := true, got := got }
    let s := s.setOp p slot o
    if minor = 127 ∨ (minor = 0 ∧ whole = false) then s.proceed p slot o
    else
      let s := forEach (List.range level) s (fun i s => s.fetchNode p slot o.line (level - i) false)
      let s := if cached.isSome then s
        else State.fetchFor p p slot .tagLine (0x200000000 + 128 * (o.line / 16)) 128 (s.chargeSectors o.ctx o.core 4)
      let mask := match cached with
        | some t => 15 - getBits 3 0 (tagOf o.line t)
        | none => 15
      let s := if whole ∨ mask = 0 then s
        else
          let (tag, s) := s.memRead p (128 * o.line) mask
          let z := zeroSectors (15 - mask)
          let s := (s.bump .MIL_ST_SKIPPED_SECTORS p z).chargeSectors o.ctx o.core (4 - z)
          s.modMem p (fun m => { m with slots := m.slots.map (fun e =>
            if e.1 = slot then (slot, { e.2 with cmds := e.2.cmds ++ [(p, tag, Fetch.data)] }) else e) })
      match (s.memSt p).op slot with
      | some o => if o.cmds.isEmpty then s.proceed p slot o else s
      | none => s

/-- Start the operation in a slot if it may. -/
def State.tryStart (p slot : Nat) (s : State) : State :=
  match (s.memSt p).op slot with
  | none => s
  | some o =>
    if o.started ∨ mustWait (s.memSt p) o then s
    else
      let b := (s.memSt p).buf.find? (fun b => b.line == o.line)
      match b.filter (fun b => b.keyid == o.keyid) with
      | some b => s.onBuffer p slot o b
      | none =>
        -- a line buffered under another KeyID is written back first
        let s := match b with
          | some b => s.flushBuf p b
          | none => s
        if mustWait (s.memSt p) o then s
        else match s.resolvePath p o.line with
          | (.pound, s) => s.refuseOp p slot 0x0802 o
          | (.ready, s) => s.beginFetch p slot o 0
          | (.missing l, s) => s.beginFetch p slot o l

/-- Slots in the order of their operations' acceptance. -/
def slotOrder : List (Nat × MemOp) → List (Nat × MemOp)
  | [] => []
  | x :: t =>
    let rec ins (l : List (Nat × MemOp)) : List (Nat × MemOp) := match l with
      | [] => [x]
      | y :: r => if x.2.id ≤ y.2.id then x :: y :: r else y :: ins r
    ins (slotOrder t)

/-! ## Metadata rewrites -/

/-- The version of a node is at hand: its parent is the root or is in the cache. -/
def MemStation.parentAt (m : MemStation) (level index : Nat) : Bool :=
  level == 5 || (m.node (level + 1) (index / 64)).isSome

/-- Finish the first rewrite: everything it read has come. -/
def State.finishPatch (s : State) (p : Nat) (x : Patch) : State :=
  let get := fun (w : Fetch) => match x.got.find? (fun g => decide (g.1 = w)) with
    | some g => g.2
    | none => (0 : Line)
  match x.kind with
  | .setTag a v =>
    s.memWrite x.port a (sectorMask a 8) (linePut (get .data) (a % 128) 8 v.toNat)
  | .xorTag a v =>
    s.memWrite x.port a (sectorMask a 8) (linePut (get .data) (a % 128) 8 (lineGet (get .data) (a % 128) 8 ^^^ v.toNat))
  | .tagWord line v =>
    let t := linePut (match (s.memSt p).tagCache.find? (fun e => e.1 == line / 16) with
      | some e => e.2
      | none => (s.memSt p).overlayTags (line / 16) (get .tagLine)) (8 * (line % 16)) 8 v.toNat
    let s := s.modMem p (fun m => { m with
      tagCache := ((line / 16, t) :: m.tagCache.filter (fun x => x.1 ≠ line / 16)).take 1024 })
    s.memWrite p (tagAddr line) (sectorMask (tagAddr line) 8) t
  | .refetch level index =>
    if ((s.memSt p).node level index).isSome || !(s.memSt p).parentAt level index then s
    else
    let line := index * 64 ^ level
    let (major, minor) := (s.memSt p).version line level
    let v := lineGet (get (.node level)) (nodeAddr false level index % 128) 64
    let t := lineGet (get (.nodeTag level)) (nodeTagAddr false level index % 128) 8
    if nodeTag (s.treeKeyOf p) p level index major minor v = word t then s.putNode p (nodeOfBits level index v)
    else
      let s := (s.pound p line level).raise .alarm 0x0901 0 (100 + p) (setBits 58 56 level (word index))
      s.modMem p (fun m => { m with nodes := m.nodes.filter (fun n =>
        !(decide (n.level < level) && n.index / 64 ^ (level - n.level) == index)) })
  | .recrypt line keyid major minor major' =>
    let t := get .tagLine
    let tag := tagOf line t
    let z := getBits 3 0 tag
    if keyid = 0 then s
    else
      let k := s.millKey keyid
      let c := clearSectors z (get .data)
      let c' := clearSectors z (c ^^^ keystream k keyid p line major minor ^^^ keystream k keyid p line major' 1)
      let mac := getBits 63 4 tag ^^^ lineMac k keyid p line major minor z c ^^^ lineMac k keyid p line major' 1 z c'
      let t' := linePut t (8 * (line % 16)) 8 (mac * 16 + z)
      let s := s.memWrite p (128 * line) (15 - z) c'
      let s := s.memWrite p (tagAddr line) (sectorMask (tagAddr line) 8) t'
      s.modMem p (fun m => { m with tagCache := m.tagCache.map (fun e =>
        if e.1 = line / 16 then (e.1, linePut e.2 (8 * (line % 16)) 8 (mac * 16 + z)) else e) })

/-- Begin the first rewrite of a station, if none has begun. -/
def State.beginPatch (s : State) (p : Nat) : State :=
  match (s.memSt p).patches with
  | [] => s
  | x :: rest =>
    if x.begun then s
    else
      let reads : List (Fetch × Nat × Nat) := match x.kind with
        | .setTag a _ => [(.data, a, 8)]
        | .xorTag a _ => [(.data, a, 8)]
        | .recrypt line _ _ _ _ => [(.data, 128 * line, 128), (.tagLine, 0x200000000 + 128 * (line / 16), 128)]
        | .tagWord line _ => [(.tagLine, 0x200000000 + 128 * (line / 16), 128)]
        | .refetch level index => [(.node level, nodeAddr false level index, 64), (.nodeTag level, nodeTagAddr false level index, 8)]
      let (cmds, s) := reads.foldl (fun (acc : List (Nat × Fetch) × State) r =>
        let (tag, s) := acc.2.memRead x.port r.2.1 (sectorMask r.2.1 r.2.2)
        (acc.1 ++ [(tag, r.1)], s)) (([] : List (Nat × Fetch)), s)
      s.modMem p (fun m => { m with patches := { x with begun := true, cmds := cmds } :: rest })

/-- A station goes on: rewrites first, then the operations in order of acceptance. -/
def State.runStation (s : State) (p : Nat) : State :=
  let s := forEach (slotOrder (s.memSt p).slots) s (fun e s => State.tryStart p e.1 s)
  s.beginPatch p

/-! ## The commands of a memory station -/

/-- The lowest free slot of 256. -/
def MemStation.freeSlot (m : MemStation) : Option Nat :=
  (List.range 256).find? (fun i => !m.slots.any (fun e => e.1 == i))

/-- The station may take an operation under its KeyID: the KeyID is LOADED, or retires and the operation is no new request of a
core or of a peer (R171, R183). -/
def State.keyServes (s : State) (o : MemOp) : Bool :=
  o.keyid == 0 || keyStateOf s.regs o.keyid == 1 ||
  (keyStateOf s.regs o.keyid == 2 && (match o.origin with
    | .core _ _ _ => false
    | .link _ _ => false
    | _ => true))

/-- An operation with an epoch that is neither the station's own nor the previous one is refused, with an ALARM (R66). -/
def State.refuseStaleOp (s : State) (p slot : Nat) (o : MemOp) : State :=
  (s.raise .alarm 0x0602 o.slice (100 + p) (word o.line)).failOp p slot 0x0602 o

/-- R160, R166: the oldest waiting operation of a line is accepted. -/
def execMemoryOpAccept (port op : Nat) (s : State) : Host.Outcome State Fault Refusal :=
  onUnit s (memoryOk port)
    (let m := s.memSt port
    match m.waiting.find? (fun o => o.id == op), m.freeSlot with
    | some o, some slot =>
      if s.stationOn .memory port = false ∨ m.waiting.any (fun x => x.line == o.line && decide (x.id < o.id)) then s
      else
        let marked := s.mon.marked.contains (domainOf .memory port)
        let o := { o with id := m.nextId, marked := marked }
        let s := s.setMem port { m with waiting := m.waiting.filter (fun x => x.id ≠ op),
                                        slots := mapPut m.slots slot o, nextId := m.nextId + 1 }
        if o.epoch ≠ m.epoch ∧ o.epoch ≠ m.prevEpoch then s.refuseStaleOp port slot o
        else if s.keyServes o then s.runStation port
        else s.refuseOp port slot 0x0804 o
    | _, _ => s)

/-- Find who waits for a read's data: an operation of a station, or a rewrite. -/
def findRead (s : State) (port tag : Nat) : Option (Nat × Option Nat × Fetch) :=
  s.mems.findSome? (fun e =>
    match e.2.slots.findSome? (fun x => (x.2.cmds.find? (fun c => c.1 == port && c.2.1 == tag)).map
        (fun c => (e.1, some x.1, c.2.2))) with
    | some r => some r
    | none => (match e.2.patches with
      | x :: _ => if x.port = port then (x.cmds.find? (fun c => c.1 == tag)).map (fun c => (e.1, none, c.2)) else none
      | [] => none))

/-- Read data for a number reach who waits for them. -/
def State.readData (s : State) (port tag : Nat) (data : Line) (poison : Bool) : State :=
  match findRead s port tag with
    | none => s
    | some (p, some slot, what) =>
      (match (s.memSt p).op slot with
      | none => s
      | some o =>
        let o := { o with cmds := o.cmds.filter (fun c => !(c.1 == port && c.2.1 == tag)), got := o.got ++ [⟨what, data, poison⟩] }
        let s := s.setOp p slot o
        if o.cmds.isEmpty then (State.checkNodes p slot 5 s).runStation p else s)
    | some (p, none, what) =>
      (match (s.memSt p).patches with
      | x :: rest =>
        let x := { x with cmds := x.cmds.filter (fun c => c.1 ≠ tag), got := x.got ++ [(what, data)] }
        if x.cmds.isEmpty then
          (((s.modMem p (fun m => { m with patches := rest })).finishPatch p x).beginPatch p).runStation p
        else s.modMem p (fun m => { m with patches := x :: rest })
      | [] => s)

/-- Read data arrive (R160, R169, R172). -/
def execDramReadReturn (port tag : Nat) (data : Line) (poison : Bool) (s : State) : Host.Outcome State Fault Refusal :=
  onUnit s (memoryOk port)
    (match s.readBack port tag with
    | (none, s) => s
    | (some n, s) => s.readData port n data poison)

/-- The line MAC of an operation is complete (R160, R161, R169, R170, R398). The line under a WRITE with ALLOC is one under a
partial write. -/
def State.verdict (s : State) (p slot : Nat) (o : MemOp) : State :=
  if o.zero then
    (s.endOp p slot).answerVerdict o (if o.marked then .replay else .pass) 0
  else if s.macOk p o then
    let s := if o.reread then (s.bump .MIL_ST_COUNT_REPLAY p).millEvent .log 0x0808 p o else s
    if o.kind = .read ∧ o.origin.waits = false then
      (s.endOp p slot).answerVerdict o (if o.reread ∨ o.marked then .replay else .pass) 0
    else s.actOn p slot o (s.plain p o)
  else if o.reread = false then s.rereadLine p slot { o with reread := true }
  else
    let fill := match o.origin with
      | .fill _ _ => true
      | _ => false
    if o.kind = .read ∧ fill = false then
      let s := (s.bump .MIL_ST_COUNT_MAC_FAIL p).millEvent .alarm 0x0801 p o
      if o.origin.waits then s.failOp p slot 0x0801 o else (s.endOp p slot).answerVerdict o .fail 0x0801
    else
      let s := s.pound p o.line 0
      let s := (s.bump .MIL_ST_COUNT_MERGE_FAIL p).millEvent .alarm 0x0803 p o
      s.failOp p slot 0x0803 o

def execMacVerdict (port slot : Nat) (s : State) : Host.Outcome State Fault Refusal :=
  onUnit s (memoryOk port && decide (slot < 256))
    (match (s.memSt port).op slot with
    | some o => if o.due ∧ o.cmds.isEmpty then (s.verdict port slot o).runStation port else s
    | none => s)

/-- R179. -/
def execAtomicBufferIdle (port line : Nat) (s : State) : Host.Outcome State Fault Refusal :=
  onUnit s (memoryOk port)
    (match (s.memSt port).buf.find? (fun b => b.line == line) with
    | some b => ((s.advance 1000).flushBuf port b).runStation port
    | none => s)

/-! ## Scrubs and the pound (R159, R177) -/

/-- Scrub leaves [a, b] of a station, each with a new major (R159): cached ones at once, the others as they enter the cache. -/
def State.scrubLeaves (s : State) (p a b : Nat) : State :=
  s.modMem p (fun m => { m with
    nodes := m.nodes.map (fun n =>
      if n.level = 1 ∧ a ≤ n.index ∧ n.index ≤ b then
        { n with major := (n.major + 1) % 2 ^ 64, minors := List.replicate 64 0, dirty := true }
      else n),
    pounds := m.pounds.filter (fun l => decide (l / 64 < a) || decide (b < l / 64)),
    scrubbed := m.scrubbed ++ forEach (m.nodes.filter (fun n => n.level == 1)) [(a, b)]
      (fun n l => cutRanges n.index n.index l) })

/-- Port and leaf of 8 KiB block `i` of a scrubbed granule, by the layout in force before T. -/
def Scrub.block (x : Scrub) (granule i : Nat) : Option (Nat × Nat) :=
  let n := x.ports.length
  let b := (granule * 2097152 - x.base) / 8192 + i
  if n = 0 then none else (x.ports[b % n]?).map (fun p => (p, b / n))

/-- The scrub of a granule ends (R159): it leaves the list, and what waited for it may pass. -/
def execScrubDone (granule : Nat) (s : State) : Host.Outcome State Fault Refusal :=
  onUnit s (decide (granule < 262144))
    (match s.comp.scrubbing.find? (fun x => decide (x.first ≤ granule) && decide (granule ≤ x.last)) with
    | none => s
    | some x =>
      let s := forEach (List.range 256) s (fun i s =>
        match x.block granule i with
        | some (p, leaf) => (s.scrubLeaves p leaf leaf).chargeSectors 8192 0x3FF 256
        | none => s)
      let left := s.comp.scrubbing.flatMap (fun (y : Scrub) =>
        if y.first ≤ granule ∧ granule ≤ y.last then
          (if y.first < granule then [{ y with last := granule - 1 }] else []) ++
          (if granule < y.last then [{ y with first := granule + 1 }] else [])
        else [y])
      let s : State := { s with comp := { s.comp with scrubbing := left } }
      (s.emit (.scrub granule)).releaseHeld)

/-- Granules of the lines below a node of a level (level 0: the line) on a port: the port's logical channel, if bound. -/
def State.poundOwners (s : State) (port level line : Nat) : List Owner :=
  match (List.range 64).find? (fun j => (cfgChanOwner s.regs j).tag != 0xFF && cfgChanPort s.regs j == port) with
  | none => []
  | some j =>
    let (j0, n) := cfgMemset s.regs (cfgChanOwner s.regs j)
    let lo := line / 64 ^ level * 64 ^ level
    let hi := min (lo + 64 ^ level - 1) (2 ^ 26 - 1)
    let g := fun l => (j0 * 8589934592 + ((l / 64) * n + (j - j0)) * 8192) / 2097152
    (cutAt s.comp.owners (g lo) (g hi)).map (fun r => ownerAt s.comp.owners r.1)

/-- A write of CTR_POUND_CLEAR (R177). -/
def execPoundClear (path : Path) (port level line : Nat) (s : State) : Host.Outcome State Fault Refusal :=
  onUnit s (pathOk path && decide (port < 128) && decide (level < 8) && decide (line < 2 ^ 27))
    (s.gated path 0x480008
      (if s.fld .CTR_POUND_STATUS_BUSY = 1 ∨ 6 ≤ level then s
      else if 71 < port ∨ 2 ^ 26 ≤ line ∨ (s.poundOwners port level line).any (fun o => o.tag ≠ 0 ∧ o.tag ≠ 0xFF) then
        ((s.setFld .CTR_POUND_STATUS_REASON 0 0x0905).err 0x0905 0 (word line)).setCause 0x09 0
      else
        let s := s.wr .CTR_POUND_CLEAR 0 (setBits 63 57 port (setBits 56 54 level (setBits 26 0 line 0)))
        s.setFld .CTR_POUND_STATUS_BUSY 0 1))

/-- The clear of a line or of a subtree. -/
def State.clearPound (s : State) (port level line : Nat) : State :=
  if level = 0 then
    s.modMem port (fun m =>
      match m.node 1 (line / 64) with
      | some n => m.setAbove line 0 n.major (setMinor n.minors (line % 64) 0)
      | none => { m with zeroed := line :: m.zeroed.filter (· ≠ line), pounds := m.pounds.filter (· ≠ line) })
  else
    let i := nodeIndex line level
    let r := leavesOf level i
    let s := s.scrubLeaves port r.1 r.2
    let m := s.memSt port
    let known := level = 5 ∨ (m.node (level + 1) (nodeIndex line (level + 1))).isSome
    let (major, minors) := m.above line level
    if known ∧ minors.getD (i % 64) 0 = 127 then
      s.modMem port (fun m => m.setAbove line level major (setMinor minors (i % 64) 0))
    else s

/-- The clear completes (R177). -/
def execPoundClearDone (s : State) : Host.Outcome State Fault Refusal :=
  onUnit s true
    (if s.fld .CTR_POUND_STATUS_BUSY = 1 then
      let port := s.fld .CTR_POUND_CLEAR_PORT
      let level := s.fld .CTR_POUND_CLEAR_LEVEL
      let line := s.fld .CTR_POUND_CLEAR_LINE
      let s := (s.clearPound port level line).emit (.scrubLines port level line)
      let s := s.setFld .CTR_POUND_STATUS_DONE 0 (s.fld .CTR_POUND_STATUS_DONE + 1)
      ((s.setFld .CTR_POUND_STATUS_BUSY 0 0).setFld .CTR_POUND_STATUS_REASON 0 0).setCause 0x09 0
    else s)

/-! ## Raw access (R180, R181, R369) -/

/-- The raw master may run. -/
def State.rawAllowed (s : State) (jtag : Bool) : Bool :=
  s.alive &&
  (if jtag then [3, 4, 6].contains s.ledger.lc || (s.ledger.lc == 5 && bitOf 1 (word (s.fld .LCS_DBG_STATUS_OPEN)))
   else s.functional)

/-- The PA is no raw master's (R181). -/
def State.rawBlocked (s : State) (pa : Nat) : Bool :=
  pa / 2 ^ 50 != s.fld .CMP_CHIPNUM_CHIPNUM || pa % 2 ^ 50 / 2 ^ 39 != 0 ||
  (cfgChanOwner s.regs (pa % 2 ^ 39 / 8589934592)).tag == 0xFF

/-- A valid MIL_RANGE entry with VIEW = 1 covers a granule (R180). -/
def State.viewCovers (s : State) (pa : Nat) : Bool :=
  (List.range 16).any (fun i => s.fld .MIL_RANGE_LO_VALID i == 1 && s.fld .MIL_RANGE_LO_VIEW i == 1 &&
    decide (s.fld .MIL_RANGE_LO_GRANULE i ≤ pa / 2097152) && decide (pa / 2097152 ≤ s.fld .MIL_RANGE_HI_GRANULE i))

/-- A raw access ends with 0x0805. -/
def State.rawRefuse (s : State) (jtag : Bool) (pa : Nat) : State :=
  (s.raise .error 0x0805 (s.ownerOf pa).tag 0x08 (word pa)).emit (.raw jtag pa 0x0805 0)

/-- A raw operation: a write takes effect as a write of the granule's owner (R237). -/
def State.rawOp (s : State) (jtag : Bool) (pa : Nat) (kind : MemKind) (d : Line) (be : ByteMask) : State :=
  match s.place pa with
  | some (p, line) =>
    let o := MemOp.fresh s.epoch (.raw jtag pa) 0x3FF (s.ownerOf pa).tag 8192 0 line (pa / 128) kind d be
    if kind = .write then s.filterWrite p o none else s.present p o
  | none => s.rawRefuse jtag pa

def execRawRead (jtag : Bool) (pa : Nat) (s : State) : Host.Outcome State Fault Refusal :=
  onUnit s (decide (pa < 2 ^ 56))
    (if s.rawAllowed jtag = false then s
    else if s.rawBlocked pa then s.rawRefuse jtag pa
    else
      let t := (s.ownerOf pa).tag
      if t = 0 ∨ t = 0xFF ∨ s.viewCovers pa then s.rawOp jtag pa .rawRead 0 0 else s.rawRefuse jtag pa)

def execRawWrite (jtag : Bool) (pa : Nat) (data : Line) (be : ByteMask) (s : State) : Host.Outcome State Fault Refusal :=
  onUnit s (decide (pa < 2 ^ 56))
    (if s.rawAllowed jtag = false then s
    else if s.rawBlocked pa then s.rawRefuse jtag pa
    else
      let t := (s.ownerOf pa).tag
      if t = 0 ∨ t = 0xFF then s.rawOp jtag pa .write data be else s.rawRefuse jtag pa)

/-! ## Retiring a KeyID (R182–R184) -/

/-- Set the state of a KeyID in MIL_KEYSTATE. -/
def State.setKeyState (s : State) (k v : Nat) : State :=
  s.wr .MIL_KEYSTATE (k / 32) (setBits (2 * (k % 32) + 1) (2 * (k % 32)) v (s.rd .MIL_KEYSTATE (k / 32)))

/-- R184. -/
def State.retireRefused (s : State) (k : Nat) : Bool :=
  cfgKeyOwner s.regs k != 0xFF ||
  (List.range' 1 127).any (fun n => s.fld .CMP_COMMONS_CTL_ENABLE n == 1 && s.fld .CMP_COMMONS_CTL_KEYID n == k) ||
  s.fld .XLT_MGR_KEYID_KEYID == k || keyStateOf s.regs k != 1 || s.fld .MIL_RETIRE_STATUS_BUSY == 1

/-- A shared-cache entry carries a KeyID: its leaf's KEYID, or the KEYID of a commons that owns a granule it maps (R183). -/
def State.entryCarries (s : State) (k : Nat) (c : CacheEntry) : Bool :=
  kptLeaf c.entry && (kptKeyid c.entry == k ||
    (kptLocal c.entry &&
      (cutAt s.comp.owners (kptAddr c.entry % 2 ^ 39 / 2097152)
        ((kptAddr c.entry + levelSize c.level - 1) % 2 ^ 39 / 2097152)).any
        (fun r => s.keyFor (ownerAt s.comp.owners r.1) (kptKeyid c.entry) == k)))

/-- A TLB entry or extent runs under a KeyID. -/
def TlbEntry.carries (t : TlbEntry) (k : Nat) : Bool := t.leafKey == k || t.keyid == k

/-- Drop every translation under a KeyID, wait for the acknowledgements as R124 states, and make the core caches give its lines
up (R183 steps 1 and 2). -/
def State.dropKey (s : State) (k : Nat) : State :=
  let s : State := { s with clusters := s.clusters.map (fun e =>
    (e.1, { e.2 with tlb := e.2.tlb.filter (fun t => !t.carries k) })) }
  let exts := s.xlt.extents.map (fun e => (e.1, { e.2 with list := e.2.list.filter (fun x => !x.2.entry.carries k) }))
  let kept := s.xlt.cache.filter (fun e => !s.entryCarries k e)
  let s : State := { s with xlt := { s.xlt with cache := kept, extents := exts } }
  let s := s.awaitAcks retireSeq 5 0 0 0 0 0 (fun f => f.keyid == k)
  s.flushLines (fun e => e.keyid == k && decide (e.st ≠ .rr)) (fun _ => true) none

def execKeyidRetire (path : Path) (keyid : Nat) (s : State) : Host.Outcome State Fault Refusal :=
  onUnit s (pathOk path && decide (keyid < 1024))
    (s.gated path 0x400008
      (if keyid = 0 then s
      else if s.retireRefused keyid then
        let s := s.setFld .MIL_RETIRE_STATUS_KEYID 0 keyid
        ((s.setFld .MIL_RETIRE_STATUS_REASON 0 0x0807).err 0x0807 0 (word keyid)).setCause 0x08 0
      else
        let s := (s.setKeyState keyid 2).setFld .MIL_RETIRE_STATUS_KEYID 0 keyid
        let s := (s.setFld .MIL_RETIRE_STATUS_BUSY 0 1).setFld .MIL_RETIRE_STATUS_REASON 0 0
        let s : State := { s with well := { s.well with retiring := keyid } }
        s.dropKey keyid))

/-- A request to the filter runs under a KeyID. -/
def FilterReq.keyid : FilterReq → Option Nat
  | .read _ o _ _ _ => some o.keyid
  | .write _ o _ => some o.keyid
  | .alloc _ h => some h.keyid
  | .flush _ _ => none

/-- What waits for a group of snoops runs under a KeyID. -/
def SnoopThen.keyid : SnoopThen → Option Nat
  | .op _ o _ => some o.keyid
  | .alloc _ h => some h.keyid
  | _ => none

/-- Something still carries a KeyID: a request, a stalled grant, a held or released write, a buffered line, an operation, a line
that is being encrypted anew, what waits at the snoop filter, a cached line (R183 step 3). -/
def State.keyInUse (s : State) (k : Nat) : Bool :=
  s.clusters.any (fun e => e.2.flights.any (fun f => f.keyid == k) || e.2.held.any (fun h => h.keyid == k) ||
    e.2.released.any (fun r => r.keyid == k) || e.2.atomics.any (fun a => a.keyid == k) ||
    e.2.stalled.any (fun x => x.grant.keyid == k) || e.2.views.any (fun v => v.grant.keyid == k)) ||
  s.mems.any (fun e => e.2.waiting.any (fun o => o.keyid == k) || e.2.slots.any (fun x => x.2.keyid == k) ||
    e.2.buf.any (fun b => b.keyid == k) || e.2.patches.any (fun x => match x.kind with
      | .recrypt _ y _ _ _ => y == k
      | _ => false)) ||
  s.coh.queue.any (fun q => q.keyid == some k) || s.coh.groups.any (fun g => g.next.keyid == some k) || s.flushUnderWay ||
  s.xlt.invals.any (fun v => v.seq == retireSeq)

/-- The retirement completes (R183 steps 4 and 5). -/
def execRetirementDone (s : State) : Host.Outcome State Fault Refusal :=
  onUnit s true
    (let k := s.well.retiring
    if s.fld .MIL_RETIRE_STATUS_BUSY = 1 ∧ s.keyInUse k = false then
      let s : State := { s with well := { s.well with mill := mapErase s.well.mill k } }
      let s := (s.setKeyState k 0).setFld .MIL_RETIRE_STATUS_BUSY 0 0
      let s := s.setFld .MIL_RETIRE_STATUS_REASON 0 0
      (s.setFld .MIL_RETIRE_STATUS_DONE 0 (s.fld .MIL_RETIRE_STATUS_DONE + 1)).setCause 0x08 0
    else s)

/-! ## Clearing counters (R171, R173) -/

def execMilCntClear (path : Path) (s : State) : Host.Outcome State Fault Refusal :=
  onUnit s (pathOk path)
    (s.gated path 0x400000 ((s.clearArray .MIL_ST_COUNT 0 72).clearArray .MIL_ST_SKIPPED 0 72))

def execCtrCntClear (path : Path) (s : State) : Host.Outcome State Fault Refusal :=
  onUnit s (pathOk path) (s.gated path 0x480000 (s.clearArray .CTR_ST_COUNT 0 72))

end Sys2Proof.Machine
end

