-- ==== Sys2Proof/Machine/Cluster.lean ====
section
/-! DEFINITION. The commands of a cluster port and its station (chapters 2, 5, 8, 9): requests, the device-side allocator,
checkpoints, verdicts, RSPs, and the drain of the previous epoch. -/

namespace Sys2Proof.Machine

open Sys2Proof

/-! ## Requests -/

/-- A request on a cluster port, and what the translation core has to do for it. -/
def State.portRequest (s : State) (r : Req) (beats : List (Line × ByteMask)) (operand compare : Word) : State :=
  if s.accepts r = false then s else (s.request r beats operand compare).pumpEngines

def execRead (r : Req) (s : State) : Host.Outcome State Fault Refusal := onUnit s (reqOk 1 r) (s.portRequest r [] 0 0)

def execReadUnique (r : Req) (s : State) : Host.Outcome State Fault Refusal := onUnit s (reqOk 2 r) (s.portRequest r [] 0 0)

def execWrite (r : Req) (beats : List (Line × ByteMask)) (s : State) : Host.Outcome State Fault Refusal :=
  onUnit s (writeOk r beats) (s.portRequest r beats 0 0)

def execAtomic (r : Req) (operand compare : Word) (s : State) : Host.Outcome State Fault Refusal :=
  onUnit s (reqOk 4 r) (s.portRequest r [] operand compare)

def execFence (r : Req) (s : State) : Host.Outcome State Fault Refusal := onUnit s (reqOk 5 r) (s.portRequest r [] 0 0)

/-! ## The allocator (R291–R293) -/

/-- Words of a heap entry of a context (R268, R291). -/
def heapWordAt (heap w : Nat) : Nat := 272 + 4 * heap + w
def State.heapWord (s : State) (c heap w : Nat) : Word := s.ctxWord c (heapWordAt heap w)
def State.heapValid (s : State) (c heap : Nat) : Bool := bitOf 63 (s.heapWord c heap 0)
def State.heapBase (s : State) (c heap : Nat) : Nat := getBits 47 16 (s.heapWord c heap 0) * 65536
def State.heapGranules (s : State) (c heap : Nat) : Nat := getBits 15 0 (s.heapWord c heap 0) + 1

/-- Key of a heap's granule in the maps, and its code: 0 free, 1 first, 2 continuing (R291). -/
def heapKey (c heap g : Nat) : Nat := (c * 8 + heap) * 65536 + g
def State.heapCode (s : State) (c heap g : Nat) : Nat := mapGet 0 s.obj.heaps (heapKey c heap g)
/-- The line of memory, by PA / 128, that holds the code of a heap's granule: 2 bits each from MAP on (R291). -/
def State.heapMapLine (s : State) (c heap g : Nat) : Nat := getBits 55 12 (s.heapWord c heap 1) * 32 + g / 512
def State.setHeap (s : State) (c heap g v : Nat) : State :=
  let l := s.heapMapLine c heap g
  { s with obj := { s.obj with heaps := mapSet 0 s.obj.heaps (heapKey c heap g) v,
                               dirtyMaps := if s.obj.dirtyMaps.contains l then s.obj.dirtyMaps else s.obj.dirtyMaps ++ [l] } }

/-- FREE of a heap entry changes by `d`. -/
def State.addFree (s : State) (c heap : Nat) (d : Int) : State :=
  s.setCtxWord c (heapWordAt heap 2) (setBits 31 0 ((getBits 31 0 (s.heapWord c heap 2) : Int) + d).toNat
    (s.heapWord c heap 2))

/-- The lowest-addressed run of `n` free granules: `run` free granules end just below `g`. -/
def findRun (code : Nat → Nat) (n : Nat) : Nat → Nat → Nat → Option Nat
  | 0, _, _ => none
  | fuel + 1, g, run =>
    if code g = 0 then (if run + 1 = n then some (g + 1 - n) else findRun code n fuel (g + 1) (run + 1))
    else findRun code n fuel (g + 1) 0

/-- Length of the run that continues from `g` (granules of code 2). -/
def runTail (code : Nat → Nat) : Nat → Nat → Nat
  | 0, _ => 0
  | fuel + 1, g => if code g = 2 then 1 + runTail code fuel (g + 1) else 0

/-- The reply word (R292): STATUS and DVA. -/
def heapReply (status dva : Nat) : Word := setBits 63 62 status (setBits 47 0 dva 0)

/-- BAD: the reply and its ERROR record (R292). -/
def State.heapBad (s : State) (a : PortAccess) : Word × State :=
  (heapReply 3 0, s.objErr 0x0209 a.slice 0 (a.ctx % 8192))

/-- Serve an allocator request (R292). -/
def State.serveHeap (s : State) (a : PortAccess) : Word × State :=
  let w := a.req.addr
  let heap := getBits 61 59 w
  let c := a.ctx
  if 8192 ≤ c ∨ s.heapValid c heap = false then s.heapBad a
  else if a.req.heapOp = 1 then
    let n := getBits 55 48 w + 1
    match findRun (s.heapCode c heap) n (s.heapGranules c heap) 0 0 with
    | none => (heapReply 1 0, s)
    | some g =>
      let s := forEach (List.range n) s (fun i s => s.setHeap c heap (g + i) (if i = 0 then 1 else 2))
      (heapReply 0 (s.heapBase c heap + g * 65536), s.addFree c heap (-(n : Int)))
  else if a.req.heapOp = 2 then
    let dva := getBits 47 0 w
    let base := s.heapBase c heap
    let g := (dva - base) / 65536
    if dva < base ∨ dva % 65536 ≠ 0 ∨ s.heapGranules c heap ≤ g ∨ s.heapCode c heap g ≠ 1 then s.heapBad a
    else
      let n := 1 + runTail (s.heapCode c heap) (s.heapGranules c heap - g - 1) (g + 1)
      let s := forEach (List.range n) s (fun i s => s.setHeap c heap (g + i) 0)
      (heapReply 0 0, s.addFree c heap n)
  else s.heapBad a

/-- A request reaches its heap, which serves one at a time in the order of arrival, 80 ns each: the 25th that waits or is in
service is answered BUSY (R293; that each takes the 80 ns the rule allows is a DESIGN CHOICE, log 35). -/
def State.heapService (s : State) (a : PortAccess) : Word × State :=
  let key := a.ctx * 8 + getBits 61 59 a.req.addr
  let now := s.clock.gtb
  let busy := (mapGet [] s.obj.served key).filter (fun t => decide (now < t))
  if 24 ≤ busy.length then (heapReply 2 0, s)
  else
    let done := (busy.getLast?.getD now) + 80
    let s : State := { s with obj := { s.obj with served := mapSet [] s.obj.served key (busy ++ [done]) } }
    s.serveHeap a

/-- An allocator request on a port: judged by the Hedge, answered from the log on a replay, logged, and counted toward
the 64 entries (R292, R293). -/
def State.heapRequest (s : State) (r : Req) : State :=
  if s.accepts r = false then s
  else
    let a := s.stamp r [] 0 0
    let s := s.numbered r.port
    (match s.hedge r.port a with
    | .grant _ _ =>
      (s.emit (.hdgAns r.port r.txn 1)).throughLog r.port a true 0 (fun a s =>
        let (reply, s) := s.heapService a
        (s.answer r.port r.txn a.core 0 0 reply).fillLog a.core a.slot reply [])
    | _ => s.onAnswer r.port a true).pumpEngines

def execAlloc (r : Req) (s : State) : Host.Outcome State Fault Refusal := onUnit s (allocOk r) (s.heapRequest r)

def execFree (r : Req) (s : State) : Host.Outcome State Fault Refusal := onUnit s (freeOk r) (s.heapRequest r)

/-! ## Checkpoints, verdicts and RSPs -/

/-- R163. -/
def execCheckpoint (core : Nat) (s : State) : Host.Outcome State Fault Refusal :=
  onUnit s (coreOk core) ((s.checkpointCore core).coreProgress core).pumpEngines

/-- The verdict's message is consumed; without one, only a token of a remote read takes it. -/
def execVerifyVerdict (port txn : Nat) (v : Verdict) (code : Nat) (s : State) : Host.Outcome State Fault Refusal :=
  onUnit s (verdictOk port txn v code)
    (let c := s.cluster port
    let mine := c.tokens.filter (fun t => t.txn == txn)
    match mine.find? (fun t => c.verdicts.contains (t.seq, v, code)) with
    | some t =>
      ((s.setCluster port { c with verdicts := eraseFirst (· == (t.seq, v, code)) c.verdicts }).onVerdict port t v code).pumpEngines
    | none =>
      match mine.find? (·.remote) with
      | some t => (s.onVerdict port t v code).pumpEngines
      | none => s.setCluster port { c with verdicts := c.verdicts.filter (fun x => c.tokens.any (fun t => t.seq == x.1)) })

/-- The RSP's message is consumed; without one, only a write to remote memory takes it. -/
def execReleasedWriteRsp (port id code : Nat) (s : State) : Host.Outcome State Fault Refusal :=
  onUnit s (clusterOk port && u16Ok code)
    (let c := s.cluster port
    match c.released.find? (fun r => r.id == id) with
    | some r =>
      if c.rsps.contains (id, code) then
        ((s.setCluster port { c with rsps := eraseFirst (· == (id, code)) c.rsps }).onRelease port r code).pumpEngines
      else if r.remote then (s.onRelease port r code).pumpEngines
      else s
    | none => s.setCluster port { c with rsps := eraseFirst (· == (id, code)) c.rsps })

/-- R244. -/
def execClusterAtomicBufferIdle (station line : Nat) (s : State) : Host.Outcome State Fault Refusal :=
  onUnit s (clusterOk station)
    (match (s.cluster station).atomics.find? (fun a => a.line == line) with
    | some a => (s.advance 1000).writeBackAtomic station a
    | none => s)

/-! ## The drain (R63, R64) -/

/-- Previous-epoch requests of a cluster station: those let out, stalled or deferred, and the released writes, under another epoch
than its own. -/
def oldAccesses (c : Cluster) : List PortAccess :=
  ((c.flights.filter (fun f => f.outcome.isNone)).map (·.acc) ++ c.stalled.map (·.acc) ++ c.retry.map (·.acc)).filter
    (fun a => a.epoch ≠ c.epoch)
def oldReleased (c : Cluster) : List Released := c.released.filter (fun r => r.epoch ≠ c.epoch)
def oldDrain (c : Cluster) : Nat := (oldAccesses c).length + (oldReleased c).length

/-- Previous-epoch operations of a memory station, waiting and in its slots; a waiting one has slot 256. -/
def oldOps (m : MemStation) : List (Nat × MemOp) :=
  ((m.waiting.map (fun o => (256, o))) ++ m.slots).filter (fun e => e.2.epoch ≠ m.epoch)

/-- Previous-epoch transactions of a link station. -/
def oldTxns (l : LinkStation) : List LinkTxn := (l.txns ++ l.outq.filterMap (·.2)).filter (fun t => t.epoch ≠ l.epoch)

/-- A station's drain count (R63). -/
def State.drainCount (s : State) (kind : StationKind) (k : Nat) : Nat :=
  match kind with
  | .cluster => oldDrain (s.cluster k)
  | .memory => (oldOps (s.memSt k)).length
  | .link => (oldTxns (s.link k)).length

/-- The station holds a forwarding stub. -/
def State.hasStub (s : State) (kind : StationKind) (k : Nat) : Bool :=
  match kind with
  | .cluster => (s.cluster k).stub
  | .memory => (s.memSt k).stub
  | .link => (s.link k).stub

def State.dropStub (s : State) (kind : StationKind) (k : Nat) : State :=
  match kind with
  | .cluster => s.modCluster k (fun c => { c with stub := false })
  | .memory => s.modMem k (fun m => { m with stub := false })
  | .link => s.modLink k (fun l => { l with stub := false })

def execStubRelease (kind : StationKind) (k : Nat) (s : State) : Host.Outcome State Fault Refusal :=
  onUnit s (stationOk kind k) (if s.hasStub kind k ∧ s.drainCount kind k = 0 then s.dropStub kind k else s)

/-- A previous-epoch request ends in a bus error, 0x0601, and is counted. Its tile is aborted with it, and so ends once with what
else the tile has out. -/
def State.drainAccess (s : State) (k : Nat) (a : PortAccess) (detail : Word) : State :=
  let c := s.cluster k
  let s := s.bump .CMP_EPOCH_STAT_DRAIN_TIMEOUTS 0
  if (oldAccesses c).any (fun b => b.seq == a.seq) then
    (s.modCluster k (fun c => { c with stalled := c.stalled.filter (fun x => x.acc.seq ≠ a.seq),
                                       retry := c.retry.filter (fun x => x.acc.seq ≠ a.seq) })).busErrorRecord k a 0x0601 detail
  else
    let s := s.raise .error 0x0601 a.slice (32 + k) detail
    if a.internal then s else s.answer k a.req.txn a.core 1 0x0601

/-- A previous-epoch released write ends in a bus error, 0x0601, and is counted. -/
def State.drainReleased (s : State) (k : Nat) (r : Released) (detail : Word) : State :=
  ((s.bump .CMP_EPOCH_STAT_DRAIN_TIMEOUTS 0).raise .error 0x0601 (s.coreTag r.core) (32 + k) detail).onRelease k r 0x0601

/-- A previous-epoch operation of a memory station ends in a bus error, 0x0601, and is counted. -/
def State.drainOp (s : State) (p : Nat) (e : Nat × MemOp) (detail : Word) : State :=
  let s := s.modMem p (fun m => { m with waiting := m.waiting.filter (fun o => o.id ≠ e.2.id) })
  ((s.bump .CMP_EPOCH_STAT_DRAIN_TIMEOUTS 0).raise .error 0x0601 e.2.slice (100 + p) detail).failOp p e.1 0x0601 e.2

/-- A previous-epoch transaction of a link port ends in a bus error, 0x0601, and is counted. -/
def State.drainTxn (s : State) (p : Nat) (t : LinkTxn) (detail : Word) : State :=
  let s := s.modLink p (fun l => { l with txns := l.txns.filter (fun x => x ≠ t), outq := l.outq.filter (fun x => x.2 ≠ some t) })
  if t.write then
    match (s.cluster t.k).released.find? (fun r => r.id == t.id) with
    | some r => s.drainReleased t.k r detail
    | none => s
  else match (s.cluster t.k).flight t.id with
    | some f => s.drainAccess t.k f.acc detail
    | none => s

/-- Every previous-epoch request of a station ends in a bus error, 0x0601 (R64). The DETAIL of its ERROR record, which the rule
leaves open, is the station's number (DESIGN CHOICE, log 86). -/
def State.drainOut (s : State) (kind : StationKind) (k : Nat) : State :=
  match kind with
  | .cluster =>
    let accs := oldAccesses (s.cluster k)
    let s := forEach accs s (fun a s => s.drainAccess k a (word k))
    forEach (oldReleased (s.cluster k)) s (fun r s => s.drainReleased k r (word k))
  | .memory => forEach (oldOps (s.memSt k)) s (fun e s => s.drainOp k e (word k))
  | .link => forEach (oldTxns (s.link k)) s (fun t s => s.drainTxn k t (word k))

def execDrainTimeout (kind : StationKind) (k : Nat) (s : State) : Host.Outcome State Fault Refusal :=
  onUnit s (stationOk kind k)
    (if s.hasStub kind k ∧ 0 < s.drainCount kind k then
      let s := s.advanceTo ((s.rd .STG_LAST_T 0).toNat + 50000)
      ((s.drainOut kind k).dropStub kind k).pumpEngines
    else s)

/-- R56. -/
def execHdgCntClear (path : Path) (s : State) : Host.Outcome State Fault Refusal :=
  onUnit s (pathOk path) (s.gated path 0x280000 (s.clearArray .HDG_COUNT 0 68))

/-! ## Cores unbound at T (R60) -/

def execCoreSramZeroDone (core : Nat) (s : State) : Host.Outcome State Fault Refusal :=
  onUnit s (coreOk core)
    (if s.comp.zeroing.contains core then
      let s := { s with comp := { s.comp with zeroing := s.comp.zeroing.filter (· ≠ core) } }
      s.releaseHeld
    else s)

end Sys2Proof.Machine
end

