-- ==== Sys2Proof/Machine/Coh.lean ====
section
/-! DEFINITION. The snoop filter's answers (R256, R257, R261): snoop responses, writebacks and evictions, and the snoop
that times out. -/

namespace Sys2Proof.Machine

open Sys2Proof

/-- What a core holds of a line. -/
def State.filterEntry (s : State) (line core : Nat) : Option FilterEntry :=
  s.coh.filter.find? (fun e => e.line == line && e.core == core)

/-- A record about a cache line: its DETAIL is the line's PA (R265). -/
def State.lineErr (s : State) (cls : EventClass) (code slice core line : Nat) : State :=
  s.cohErr cls code slice core line 0x0C (setBits 55 7 line 0)

/-- The accesses that may go on with a group's end: a request of a station's, or an access that waited for RR lines to go (R248). -/
def State.groupResumes (s : State) (next : SnoopThen) : State :=
  match next with
  | .op _ o _ =>
    (match o.origin with
    | .core k _ _ => s.resumeStalled k
    | _ => s)
  | .drop k _ => s.resumeStalled k
  | _ => s

/-- A group's snoop has been answered: with the last one, what waited goes on, and after it the next request of the line. -/
def State.groupAnswered (s : State) (group : Nat) (dirty : Option Line) : State :=
  match s.coh.groups.find? (fun g => g.id == group) with
  | none => s
  | some g =>
    let d := if dirty.isSome then dirty else g.dirty
    if g.left ≤ 1 then
      let s : State := { s with coh := { s.coh with groups := s.coh.groups.filter (fun x => x.id ≠ group) } }
      ((s.snoopDone g.next d).filterNext g.line).groupResumes g.next
    else
      { s with coh := { s.coh with groups := s.coh.groups.map (fun x =>
        if x.id = group then { x with left := x.left - 1, dirty := d } else x) } }

/-- A snoop ends: `left` is the state the core keeps, `dirty` its data. A flushed dirty line that nothing waits for is
written through the Mill. -/
def State.endSnoop (s : State) (x : Snoop) (left : Option LineState) (dirty : Option Line) : State :=
  let s := ({ s with coh := { s.coh with snoops := s.coh.snoops.filter (fun y => y.sid ≠ x.sid) } } : State).pumpSnoops
  let entry := s.filterEntry x.line x.core
  let s := match entry with
    | some e => s.setFilter x.line x.core left e.tag e.keyid
    | none => s
  let flush := s.coh.groups.any (fun g => g.id == x.group && decide (g.next = .flush))
  let s := match flush, entry, dirty with
    | true, some e, some d =>
      (match s.placeFlushed (x.line * 128) with
      | some (p, line) => s.present p (MemOp.fresh s.epoch .none x.core e.tag 8192 e.keyid line x.line .write d fullMask)
      | none => s)
    | _, _, _ => s
  s.groupAnswered x.group dirty

/-- The snoop a response names: its SID, and the core behind the port. -/
def State.snoopOf (s : State) (port core sid : Nat) : Option Snoop :=
  s.coh.snoops.find? (fun x => x.sid == sid && s.physical x.core == 9 * port + core)

/-- ACK_I (R259): the core holds the line no longer. -/
def execAckI (port core sid : Nat) (s : State) : Host.Outcome State Fault Refusal :=
  onUnit s (clusterOk port && decide (core < 9) && decide (sid < 256))
    (match s.snoopOf port core sid with
    | some x => (s.endSnoop x none none).pumpEngines
    | none => s)

/-- ACK_S: the core holds the line clean. -/
def execAckS (port core sid : Nat) (s : State) : Host.Outcome State Fault Refusal :=
  onUnit s (clusterOk port && decide (core < 9) && decide (sid < 256))
    (match s.snoopOf port core sid with
    | some x => (s.endSnoop x (some .s) none).pumpEngines
    | none => s)

/-- DATA_DIRTY: the core's M data; it keeps the line clean after SNP_SHARE. -/
def execDataDirty (port core sid : Nat) (data : Line) (s : State) : Host.Outcome State Fault Refusal :=
  onUnit s (clusterOk port && decide (core < 9) && decide (sid < 256))
    (match s.snoopOf port core sid with
    | some x => (s.endSnoop x (if x.opc = 0 then some .s else none) (some data)).pumpEngines
    | none => s)

/-- WB_ACK goes to a core (R256, R261). -/
def State.wbAck (s : State) (k txnCore : Nat) : State := s.emit (.rsp k 0 txnCore 4 0 0)

/-- A snoop takes the data of the writeback that crosses it, then WB_ACK goes out (R261). -/
def State.crossSnoop (s : State) (x : Snoop) (port core : Nat) (data : Line) : State :=
  let s := s.bump .COH_FS_COUNT_WB_CROSS (filterSlice x.line)
  let s : State := { s with coh := { s.coh with heldWb := s.coh.heldWb.filter (fun h =>
    !(h.1 == port && h.2.1 == core && h.2.2.1 == x.line)) } }
  (s.endSnoop x none (some data)).wbAck port core

/-- WB_PENDING (R261): the snoop waits for the writeback, or takes it. -/
def execWbPending (port core sid : Nat) (s : State) : Host.Outcome State Fault Refusal :=
  onUnit s (clusterOk port && decide (core < 9) && decide (sid < 256))
    (match s.snoopOf port core sid with
    | none => s
    | some x =>
      match s.coh.heldWb.find? (fun h => h.1 == port && h.2.1 == core && h.2.2.1 == x.line) with
      | some h => (s.crossSnoop x port core h.2.2.2).pumpEngines
      | none => { s with coh := { s.coh with snoops := s.coh.snoops.map (fun y =>
          if y.sid = sid then { y with wbPending := true } else y) } })

/-- A core's writeback (R256, R261): a snoop of the line to that core takes its data, at once where it has not gone out yet; else
they are written through the Mill. -/
def State.takeWriteback (s : State) (port core : Nat) (e : FilterEntry) (data : Line) : State :=
  let mine := fun (x : Snoop) => x.line == e.line && x.core == e.core
  match s.coh.snoops.find? mine with
  | some x =>
    if x.wbPending then s.crossSnoop x port core data
    else { s with coh := { s.coh with heldWb := s.coh.heldWb ++ [(port, core, e.line, data)] } }
  | none =>
    let s := s.setFilter e.line e.core none 0 0
    match s.coh.unsent.find? mine with
    | some x =>
      let s : State := { s with coh := { s.coh with unsent := s.coh.unsent.filter (fun y => !mine y) } }
      ((s.bump .COH_FS_COUNT_WB_CROSS (filterSlice x.line)).groupAnswered x.group (some data)).wbAck port core
    | none =>
      (s.presentLine e.core e.tag (s.requestCtx ⟨port, 0, 0, 0⟩ e.core e.tag) e.keyid e.line data).wbAck port core

/-- WRITEBACK (R256, R261, R265). -/
def execWriteback (port core line : Nat) (data : Line) (s : State) : Host.Outcome State Fault Refusal :=
  onUnit s (clusterOk port && decide (core < 9) && decide (line < 2 ^ 49))
    (let c := s.logicalCore (9 * port + core)
    match s.filterEntry line c with
    | some e =>
      if e.st ≠ .m then s.lineErr .error 0x0C02 e.tag c line else (s.takeWriteback port core e data).pumpEngines
    | none => s.lineErr .error 0x0C02 (s.coreTag (9 * port + core)) c line)

/-- EVICT (R256, R265): the entry is cleared. -/
def execEvict (port core line : Nat) (s : State) : Host.Outcome State Fault Refusal :=
  onUnit s (clusterOk port && decide (core < 9) && decide (line < 2 ^ 49))
    (let c := s.logicalCore (9 * port + core)
    match s.filterEntry line c with
    | some e => if e.st = .m then s.lineErr .error 0x0C02 e.tag c line else s.setFilter line c none 0 0
    | none => s.lineErr .error 0x0C02 (s.coreTag (9 * port + core)) c line)

/-- A snoop unanswered at 10 µs (R257): it ends as if answered ACK_I, the core has failed, its lines are gone, and those it
held in M are in the pound. -/
def State.snoopFails (s : State) (x : Snoop) : State :=
  let s := s.advance 10000
  let phys := s.physical x.core
  let s := s.lineErr .alarm 0x0C01 (cfgCoreTag s.regs x.core) x.core x.line
  let lost := s.coh.filter.filter (fun (e : FilterEntry) => e.core == x.core && decide (e.st = .m))
  let kept := s.coh.filter.filter (fun (e : FilterEntry) => e.core != x.core)
  let wbs := s.coh.heldWb.filter (fun h => !(h.1 == phys / 9 && h.2.1 == phys % 9))
  let s : State := { s with coh := { s.coh with filter := kept, heldWb := wbs } }
  let s := forEach lost s (fun e s => match s.place (e.line * 128) with
    | some (p, l) => s.poundLine p l
    | none => s)
  ((s.endSnoop x none none).coreFail phys).pumpEngines

/-- A core that has answered WB_PENDING has answered: its snoop does not time out. -/
def execSnoopTimeout (sid : Nat) (s : State) : Host.Outcome State Fault Refusal :=
  onUnit s (decide (sid < 256))
    (match s.coh.snoops.find? (fun x => x.sid == sid && !x.wbPending) with
    | some x => s.snoopFails x
    | none => s)

/-- R253's counters. -/
def execCohCntClear (path : Path) (s : State) : Host.Outcome State Fault Refusal :=
  onUnit s (pathOk path) (s.gated path 0x600000 (s.clearArray .COH_FS_COUNT 0 16))

end Sys2Proof.Machine
end

