-- ==== Sys2Proof/Machine/Objects.lean ====
section
/-! DEFINITION. The object manager (chapter 9): the object commands, residency (R213–R215, R229), teardown (R294, R295, R39),
deferred free (R290), and the record window (R266, R267). -/

namespace Sys2Proof.Machine

open Sys2Proof

/-! ## Waiters of fences (R287) -/

/-- The FENCE_WAIT of queue `q` completes with its fence's outcome. -/
def State.finishWait (s : State) (q f : Nat) : State :=
  match (s.queueRun q).running with
  | none => s
  | some rc =>
    if s.fState f = 1 then s.completeCmd q 0 0
    else
      let halt := bitOf 16 (rc.words.getD 1 0)
      let s := if halt ∧ s.qState q = 2 then s.stopQueue q 0x0207 else s
      s.completeCmd q 0x0207 (s.fCode f)

/-- Queues whose running command waits for a fence. -/
def State.waitersOf (s : State) (f : Nat) : List Nat :=
  (s.hif.queues.filter (fun e => match e.2.running with
    | some rc => rc.waitFence == some f
    | none => false)).map (·.1)

/-- A fence goes: an UNSIGNALLED one ends with a code first, so every waiter completes (R288). -/
def State.destroyFence (s : State) (f code : Nat) : State :=
  let s := s.breakFence f code
  let s := forEach (s.waitersOf f) s (fun q s => s.finishWait q f)
  s.freeFence f

/-! ## Deferred free (R290) -/

/-- A memory object enters RELEASING, with the tails of its slice's queues as they stand. -/
def State.releaseMemobj (s : State) (o : Nat) : State :=
  let tails := (s.liveQueues.filter (fun q => s.qSlice q == s.mSlice o && decide (0 < s.sqCount q))).map
    (fun q => (q, s.sqTail q))
  let s := s.putM o 0 62 61 2
  { s with obj := { s.obj with releasing := s.obj.releasing ++ [⟨o, tails⟩] } }

/-- Everything doorbelled on queue `q` before its tail was `t` has been fetched or discarded. -/
def State.tailPassed (s : State) (q t : Nat) : Bool :=
  let d := idxSub t (s.sqHead q)
  decide (s.qState q < 2) || decide (s.qState q = 5) || d == 0 || decide (s.sqCount q < d)

/-- A dying process whose contexts and objects are gone posts DONE (R295). -/
def State.processStep (s : State) : State :=
  let ended := fun (d : Nat × Nat) =>
    !(s.liveContexts.any (fun c => s.ctxSlice c == d.1 && s.ctxProcess c == d.2)) &&
    !(s.obj.releasing.any (fun r => s.mSlice r.index == d.1 && s.mProcess r.index == d.2))
  let gone := s.obj.dying.filter ended
  let s : State := { s with obj := { s.obj with dying := s.obj.dying.filter (fun d => !ended d) } }
  forEach gone s (fun d s => s.notice 5 1 0 d.1 d.2)

/-- R290: the object is free. -/
def State.freeReleased (s : State) (o : Nat) : State :=
  let sl := s.mSlice o
  let s : State := { s with obj := { s.obj with releasing := s.obj.releasing.filter (fun r => r.index ≠ o) } }
  ((s.freeMemobj o).notice 4 1 0 sl o).processStep

def execMemoryObjectFreed (index : Nat) (s : State) : Host.Outcome State Fault Refusal :=
  onUnit s (decide (index < 262144))
    (match s.obj.releasing.find? (fun r => r.index == index) with
    | some r => if s.mPin index = 0 ∧ r.tails.all (fun t => s.tailPassed t.1 t.2) then s.freeReleased index else s
    | none => s)

/-! ## Residency (R213–R215, R228, R229) -/

/-- Two ranges of positions share one, and their shares overlap. -/
def shareClash (s : State) (a b : Nat) : Bool :=
  overlap (s.scFirst a) (s.scFirst a + s.scCount a - 1) (s.scFirst b) (s.scFirst b + s.scCount b - 1) &&
  overlap (s.scBase a) (s.scBase a + s.scUnits a - 1) (s.scBase b) (s.scBase b + s.scUnits b - 1)

/-- The scheduler's refusal of a context, or 0 (R213, R215). -/
def State.residencyCode (s : State) (c : Nat) : Nat :=
  let sl := s.ctxSlice c
  if (cfgCores s.regs sl).length < s.scFirst c + s.scCount c ∨ 96 < s.scBase c + s.scUnits c ∨
      s.scQuantumUs c < 500 ∨ 100000 < s.scQuantumUs c ∨
      s.sched.residents.any (fun r => r.2.slice == sl && shareClash s c r.2.ctx) ∨ 48 ≤ s.sched.residents.length then 0x0B04
  else if s.scHasContract c ∧ (ctValid s.regs (s.scContract c) = false ∨ ctSlice s.regs (s.scContract c) ≠ sl) then 0x0B08
  else 0

/-- The lowest free resident slot. -/
def State.freeResident (s : State) : Nat :=
  ((List.range 48).find? (fun i => !s.sched.residents.any (fun r => r.1 == i))).getD 47

/-- A resident context whose share is loaded: RESIDENT notice, and its queues fetch (R275). -/
def State.residentReady (s : State) (c : Nat) : State :=
  let s := (s.modResident c (fun r => { r with state := .idle })).notice 1 5 0 (s.ctxSlice c) c
  let s := forEach (s.liveQueues.filter (fun q => s.qCtx q == c && decide (0 < s.sqCount q))) s (fun q s => s.needSlot q)
  s.pumpContext c

/-- The copies that load a context's share: for the core at each position of its range, from PRELOAD_DVA by the position in the
slice's core order (R214, R228; DEDUCED, log 90). -/
def State.sharePreloads (s : State) (c : Nat) : List Preload :=
  let bytes := s.scUnits c * 65536
  let cores := s.ctxCores c
  (List.range cores.length).zip cores |>.map (fun x => ⟨c, x.2, s.scPreloadDva c + (s.scFirst c + x.1) * bytes, bytes, 0, none, none⟩)

/-- The object manager asks for residency (R215, R228, R275). -/
def State.makeResident (s : State) (c : Nat) : State :=
  let sl := s.ctxSlice c
  let code := s.residencyCode c
  if code ≠ 0 then (s.err code sl (word c)).notice 1 4 code sl c
  else
    let r := s.freeResident
    let pre := s.scPreloadEn c
    let s := s.setCtxState c 3
    let s : State := { s with obj := s.obj.want ((List.range 32).map (fun i => 32 * c + i)) }
    let s : State := { s with sched := { s.sched with
      residents := mapPut s.sched.residents r ⟨c, sl, if pre then .preloading else .idle, 0, false, false, none⟩ } }
    let s := s.wr .SCH_RES_USE r 0
    if pre then ({ s with sched := { s.sched with preloads := s.sched.preloads ++ s.sharePreloads c } } : State).pumpEngines
    else s.residentReady c

/-- The preloads of a context are over; reads of theirs that are under way go nowhere. -/
def State.dropPreloads (s : State) (c : Nat) : State :=
  let mine := s.sched.preloads.filter (fun p => p.ctx == c)
  let s := forEach mine s (fun p s => match p.access with
    | some seq => s.modCluster (s.stationOf p.core) (fun x => x.land seq)
    | none => s)
  { s with sched := { s.sched with preloads := s.sched.preloads.filter (fun p => p.ctx ≠ c) } }

/-- The context's slot is free (R229): it is non-resident, LIVE unless it aborts. No core has a quantum left for the slot. -/
def State.leaveDone (s : State) (c : Nat) : State :=
  let slots := (s.sched.residents.filter (fun r => r.2.ctx == c)).map (·.1)
  let s := s.dropPreloads c
  let s : State := { s with sched := { s.sched with residents := s.sched.residents.filter (fun r => r.2.ctx ≠ c),
                                                    quanta := s.sched.quanta.filter (fun q => !slots.contains q.2.1) } }
  if s.ctxState c = 3 then s.setCtxState c 2 else s

/-- A resident context is to leave at the next boundary. -/
def State.leave (s : State) (c : Nat) : State :=
  (s.modResident c (fun r => { r with leaving := true })).leaveStep c

def execShareZeroDone (slot : Nat) (s : State) : Host.Outcome State Fault Refusal :=
  onUnit s (decide (slot < 48))
    (match s.sched.residents.find? (fun r => r.1 == slot) with
    | some r => if r.2.zeroing then s.leaveDone r.2.ctx else s
    | none => s)

/-- A preload has ended: every copy is complete, or none is under way and one has failed, or its context is to leave. -/
def State.preloadOver (s : State) (r : Resident) : Bool :=
  let mine := s.sched.preloads.filter (fun p => p.ctx == r.ctx)
  mine.all (fun p => p.access.isNone) &&
  (r.leaving || mine.any (fun p => p.failed.isSome) || mine.all (fun p => p.done == p.bytes))

/-- A preload has failed (R228): the context is SUSPENDED. A FAIL gives an ERROR record with 0x0801; a translation fault is posted
with the DVA read, its ENGINE, which no rule gives, a free value; a denial by the Hedge has been recorded already (R56). -/
def State.preloadFails (s : State) (r : Resident) (p : Preload) (out : Nat × Nat × Word) : State :=
  let s := (s.modResident r.ctx (fun r => { r with state := .suspended })).setCause 0x0B 1
  if out.1 = 0x0801 then s.raise .error 0x0801 r.slice 0x0B (word r.ctx)
  else if out.1 / 256 = 0x07 then
    let (i, s) := s.takeFresh
    (s.postFault ⟨r.slice, 1, out.2.1, (p.dva + p.done) % 2 ^ 48, out.1, s.stationOf p.core, p.core % 9,
      (Config.freeWord i).toNat % 4, false, s.ctxPasid r.ctx, r.ctx, out.2.2⟩).2
  else s

/-- A preload ends (R228): the context is ready or SUSPENDED; one that is to leave leaves (R235). -/
def State.endPreload (s : State) (r : Resident) : State :=
  let failed := s.sched.preloads.findSome? (fun p => if p.ctx = r.ctx then p.failed.map (fun x => (p, x)) else none)
  let s := s.dropPreloads r.ctx
  match failed with
  | some (p, out) => (s.preloadFails r p out).leaveStep r.ctx
  | none => if r.leaving then s.leaveStep r.ctx else s.residentReady r.ctx

def execPreloadDone (slot : Nat) (s : State) : Host.Outcome State Fault Refusal :=
  onUnit s (decide (slot < 48))
    (match s.sched.residents.find? (fun r => r.1 == slot) with
    | none => s
    | some r => if r.2.state = .preloading ∧ s.preloadOver r.2 then s.endPreload r.2 else s)

/-! ## Teardown (R294) -/

/-- The running command of a queue that is torn down, and what it has fetched, are discarded with a code; a command whose
tiles still run keeps going. -/
def State.discardCommands (s : State) (q code : Nat) : State :=
  let r := s.queueRun q
  let s := match r.fetched with
    | some ws => if s.ownFence q ws then s.breakFence (cmdFence ws) code else s
    | none => s
  let s := forEach r.pins s (fun o s => s.unpin o)
  let s := s.modQueueRun q (fun r => { r with fetched := none, fetchTag := none, waiting := false, pins := [], pinBad := 0 })
  match r.running with
  | none => s
  | some rc =>
    let mine := fun (t : Nat × Tile) => t.2.queue == q
    let dropped := s.sched.ready.any mine || s.sched.parked.any mine
    let s : State := { s with sched := { s.sched with ready := s.sched.ready.filter (fun t => !mine t),
                                                      parked := s.sched.parked.filter (fun t => !mine t) } }
    let left := (s.sched.tiles.filter mine).length
    if 0 < left then
      s.modQueueRun q (fun r => { r with running := some { rc with
        tilesLeft := left, code := if dropped ∧ rc.code = 0 then code else rc.code } })
    else
      let s := if s.ownFence q rc.words then s.breakFence (cmdFence rc.words) code else s
      let s := forEach rc.pins s (fun o s => s.unpin o)
      s.modQueueRun q (fun r => { r with running := none, resident := false })

/-- A queue enters ABORTING: fetching stops, queued commands are discarded. -/
def State.abortQueue (s : State) (q code : Nat) : State := (s.setQState q 5).discardCommands q code

/-- Journals of a context are freed (R205), and what the Drover reads and writes for it stops (R294). -/
def State.freeJournals (s : State) (c : Nat) : State :=
  let js := s.drv.journals.filter (fun j => j.ctx == c)
  let qs := js.filterMap (·.queue)
  let s := s.landAll (js.flatMap (fun j => j.routes.flatMap (·.access)))
  let gone := fun (q : Nat) => s.qCtx q == c || qs.contains q
  let s := s.landAll ((s.drv.mapReads.filter (fun x => gone x.1)).flatMap (fun x => x.2.map (fun n => (68, n))))
  { s with drv := { s.drv with journals := s.drv.journals.filter (fun j => j.ctx ≠ c),
                               lost := s.drv.lost.filter (fun x => x.1 ≠ c),
                               planQ := s.drv.planQ.filter (fun q => !gone q),
                               mapReads := s.drv.mapReads.filter (fun x => !gone x.1) } }

/-- Queues of a context that hold a record. -/
def State.ctxQueues (s : State) (c : Nat) : List Nat :=
  (recordsOf 8 s.obj.queues).filter (fun q => decide (2 ≤ s.qState q) && s.qCtx q == c)

/-- A context enters ABORTING (R294): its queues too; tiles not running go, its outstanding faults go, its journals go, it
leaves residency, and an invalidation of scope 3 runs. -/
def State.abortContext (s : State) (c code : Nat) : State :=
  let s := s.setCtxState c 4
  let s := forEach (s.ctxQueues c) s (fun q s => s.abortQueue q code)
  let s := s.freeJournals c
  let s : State := { s with xlt := { s.xlt with faults := s.xlt.faults.filter (fun f => f.ctx ≠ c) } }
  (s.leave c).invalidate 3 c 0 0 0

/-- Lines of memory, by PA / 128, of the map of each valid heap of a context (R291). -/
def State.mapLines (s : State) (c : Nat) : List Nat :=
  (List.range 8).flatMap (fun h =>
    if bitOf 63 (s.ctxWord c (272 + 4 * h)) then
      (List.range ((getBits 15 0 (s.ctxWord c (272 + 4 * h)) + 512) / 512)).map (fun i =>
        getBits 55 12 (s.ctxWord c (273 + 4 * h)) * 32 + i)
    else [])

/-- Heap maps of a context are clear (R291). -/
def State.clearHeaps (s : State) (c : Nat) : State :=
  { s with obj := { s.obj with heaps := s.obj.heaps.filter (fun e => e.1 / 65536 / 8 ≠ c),
                               served := s.obj.served.filter (fun e => e.1 / 8 ≠ c),
                               dirtyMaps := s.obj.dirtyMaps ++ (s.mapLines c).filter (fun l => !s.obj.dirtyMaps.contains l) } }

/-- Host DMA that carries the PASID of a context is under way (R294): ring reads, table reads, migrations, the transfers of DMA
engines, completion writes. -/
def State.hostBusy (s : State) (c : Nat) : Bool :=
  s.hif.reads.any (fun e => match e.2.1 with
    | .ringFetch q => s.qCtx q == c
    | .lowerExtent q => s.qCtx q == c
    | .dma q => s.qCtx q == c
    | .walk id => s.xlt.walks.any (fun w => w.id == id && w.ctx == c)
    | _ => false) ||
  s.xlt.migrations.any (fun m => m.acc.ctx == c) ||
  s.hif.posts.any (fun x => match x.use with
    | .completion q _ => s.qCtx q == c
    | .dma q => s.qCtx q == c
    | _ => false)

/-- Nothing of an aborting context is left: no tile, no resident slot, no invalidation, no host DMA for it (R294). -/
def State.teardownOver (s : State) (c : Nat) : Bool :=
  !(s.sched.tiles.any (fun t => t.2.ctx == c)) && (s.residentOf c).isNone &&
  !(s.xlt.invals.any (fun i => i.scope == 3 && i.ctx == c)) &&
  !(s.hif.queues.any (fun e => s.qCtx e.1 == c && e.2.running.isSome)) && !s.hostBusy c

/-- The records of a context and its queues become FREE (R294 step 5). -/
def State.contextGone (s : State) (c : Nat) : State :=
  let sl := s.ctxSlice c
  let s := forEach (s.ctxQueues c) s (fun q s => s.queueGone q false)
  (((((s.clearHeaps c).dropContextXlt c).freeContext c).notice 1 1 0 sl c)).processStep

def execContextTeardownDone (context : Nat) (s : State) : Host.Outcome State Fault Refusal :=
  onUnit s (contextOk context)
    (if s.ctxState context = 4 ∧ s.teardownOver context then s.contextGone context else s)

/-! ## Object commands (R272–R274, R294, R295) -/

/-- A slice that may own objects. -/
def State.sliceOk (s : State) (sl : Nat) : Bool := tenantOk sl && cfgEnabled s.regs sl

/-- Records of a kind. -/
def kindCount (kind : Nat) : Nat := if kind = 1 then 8192 else if kind = 2 then 16384 else if kind = 3 then 65536 else 262144

/-- A command of the other writer is being accepted: one that came at this same instant (R272; that an acceptance ends within the
instant of its write is a DESIGN CHOICE, log 46). -/
def State.objBusy (s : State) (path : Path) : Bool :=
  match s.obj.accepted with
  | some (p, t) => decide (p ≠ path) && t == s.clock.gtb
  | none => false

/-- The end of an object command's acceptance: RESULT, DONE, CMD_DONE (R272, R448). -/
def State.objDone (s : State) (path : Path) (code : Nat) : State :=
  let s : State := { s with obj := { s.obj with accepted := some (path, s.clock.gtb) } }
  let s := s.setFld .OBJ_CMD_STATUS_RESULT 0 code
  (s.setFld .OBJ_CMD_STATUS_DONE 0 (s.fld .OBJ_CMD_STATUS_DONE + 1)).setCause 0x02 1

/-- An object command: ignored with REJECTED while BUSY is 1; else a refusal code or the new state. -/
def State.objAccept (s : State) (path : Path) (kind index : Nat) (r : Sum Nat State) : State :=
  if s.fld .OBJ_CTL_ENABLE = 0 then s
  else if s.objBusy path then s.setFld .OBJ_CMD_STATUS_REJECTED 0 1
  else if kind ≤ 4 ∧ kindCount kind ≤ index then s.objDone path 0x020B
  else match r with
    | .inl code => s.objDone path code
    | .inr t => t.objDone path 0

/-- FREE of every valid heap of a context, as CREATE sets it (R291). -/
def State.initHeaps (s : State) (c : Nat) : State :=
  forEach (List.range 8) s (fun h s =>
    let w := s.ctxWord c (272 + 4 * h)
    if bitOf 63 w then s.putCtx c (272 + 4 * h + 2) 31 0 (getBits 15 0 w + 1) else s)

def State.objCreate (s : State) (kind index : Nat) : Sum Nat State :=
  if kind = 1 then
    (if s.ctxState index ≠ 1 ∨ s.sliceOk (s.ctxSlice index) = false then .inl 0x020B
     else if cfgPasidOk s.regs (s.ctxPasid index) (s.ctxSlice index) = false then .inl 0x0603
     else
      let s : State := { s with xlt := { s.xlt with seqs := mapErase s.xlt.seqs index } }
      .inr (((s.setCtxState index 2).clearHeaps index).initHeaps index))
  else if kind = 2 then
    (let ok := fun n => decide (6 ≤ n) && decide (n ≤ 16)
     let cs := s.ctxState (s.qCtx index)
     if s.qState index ≠ 1 ∨ ¬(cs = 2 ∨ cs = 3) ∨ s.sliceOk (s.qSlice index) = false ∨ ok (s.sqLog2 index) = false ∨
        ok (s.cqLog2 index) = false then .inl 0x020B
     else .inr (s.setQState index 2))
  else if kind = 3 then
    (if s.fLife index ≠ .defined ∨ s.sliceOk (s.fSlice index) = false then .inl 0x020B
     else .inr ((s.setFLife index .live).touchFence index))
  else if kind = 4 then
    (if s.mLife index ≠ .defined ∨ s.sliceOk (s.mSlice index) = false ∨
        2 ^ 48 < s.mBase index + (s.mPagesM1 index + 1) * 4096 then .inl 0x020B
     else .inr ((s.setMLife index .live).putM index 0 62 61 1))
  else .inl 0x020B

def execObjCreate (path : Path) (kind index : Nat) (s : State) : Host.Outcome State Fault Refusal :=
  onUnit s (pathOk path && decide (kind < 16) && u32Ok index)
    (s.gated path 0x100018 (s.objAccept path kind index (s.objCreate kind index)))

def State.objActivate (s : State) (kind index : Nat) : Sum Nat State :=
  if kind = 1 then (if s.ctxState index = 2 then .inr (s.makeResident index) else .inl 0x020B)
  else if kind = 2 then
    (if s.qState index = 3 ∨ s.qState index = 4 then
      let s := s.setQState index 2
      .inr ((if 0 < s.sqCount index then s.needSlot index else s).pumpQueue index)
     else .inl 0x020B)
  else .inl 0x020B

def execObjActivate (path : Path) (kind index : Nat) (s : State) : Host.Outcome State Fault Refusal :=
  onUnit s (pathOk path && decide (kind < 16) && u32Ok index)
    (s.gated path 0x100018 (s.objAccept path kind index (s.objActivate kind index)))

def State.objDeactivate (s : State) (kind index : Nat) : Sum Nat State :=
  if kind = 1 then (if s.ctxState index = 3 then .inr (s.leave index) else .inl 0x020B)
  else if kind = 2 then
    (if s.qState index ≠ 2 then .inl 0x020B
     else
      let s := s.modQueueRun index (fun r => { r with fetched := none, fetchTag := none })
      .inr (if (s.queueRun index).running.isSome then s.modQueueRun index (fun r => { r with stopping := true })
        else s.stopQueue index 0))
  else .inl 0x020B

def execObjDeactivate (path : Path) (kind index : Nat) (s : State) : Host.Outcome State Fault Refusal :=
  onUnit s (pathOk path && decide (kind < 16) && u32Ok index)
    (s.gated path 0x100018 (s.objAccept path kind index (s.objDeactivate kind index)))

/-- The queue alone is torn down; a running command's tiles may still end. -/
def State.destroyQueue (s : State) (q : Nat) : State :=
  let s := s.abortQueue q 0x0203
  if (s.queueRun q).running.isSome then s else s.queueGone q true

/-- The records of a slice, or of a process in it, that are still DEFINED are FREE at once: they have nothing to tear down. -/
def State.freeDefined (s : State) (mine : Nat → Nat → Bool) : State :=
  let cs := (recordsOf 512 s.obj.contexts).filter (fun c => mine (s.ctxSlice c) (s.ctxProcess c))
  let qs := (recordsOf 8 s.obj.queues).filter (fun q => s.qState q == 1 && cs.contains (s.qCtx q))
  let s := forEach qs s (fun q s => s.freeQueue q)
  let s := forEach (cs.filter (fun c => s.ctxState c == 1)) s (fun c s => s.freeContext c)
  let fs := (s.obj.fenceLife.filter (fun e => decide (e.2 = .defined) && mine (s.fSlice e.1) (s.fProcess e.1))).map (·.1)
  let s := forEach fs s (fun f s => s.freeFence f)
  let ms := (s.obj.memLife.filter (fun e => decide (e.2 = .defined) && mine (s.mSlice e.1) (s.mProcess e.1))).map (·.1)
  forEach ms s (fun o s => s.freeMemobj o)

/-- The teardown of a process (R295): fences end with `code`. -/
def State.destroyProcess (s : State) (sl handle code : Nat) : State :=
  let fs := s.liveFences.filter (fun f => s.fSlice f == sl && s.fProcess f == handle)
  let s := forEach fs s (fun f s => s.destroyFence f code)
  let cs := (recordsOf 512 s.obj.contexts).filter (fun c => s.ctxSlice c == sl && s.ctxProcess c == handle)
  let s := forEach cs s (fun c s =>
    if s.ctxState c = 2 ∨ s.ctxState c = 3 then s.abortContext c 0x0203 else s)
  let s := s.freeDefined (fun sl' p => sl' == sl && p == handle)
  let ms := s.liveMemobjs.filter (fun o => s.mSlice o == sl && s.mProcess o == handle && s.mState o == 1)
  let s := forEach ms s (fun o s => s.releaseMemobj o)
  ({ s with obj := { s.obj with dying := s.obj.dying ++ [(sl, handle)] } } : State).processStep

def State.objDestroy (s : State) (kind index slice : Nat) (fences : List Nat) : Sum Nat State :=
  let queued := fun (sl : Nat) (s : State) => forEach fences s (fun f s => if s.fSlice f = sl then s.breakFence f 0x0203 else s)
  if kind = 1 then
    (if s.ctxState index = 1 then .inr ((s.freeContext index).notice 1 1 0 (s.ctxSlice index) index)
     else if s.ctxState index = 2 ∨ s.ctxState index = 3 then .inr (queued (s.ctxSlice index) (s.abortContext index 0x0203))
     else .inl 0x020B)
  else if kind = 2 then
    (if s.qState index = 1 then .inr ((s.freeQueue index).notice 2 1 0 (s.qSlice index) index)
     else if 2 ≤ s.qState index ∧ s.qState index ≤ 4 then
      .inr ((queued (s.qSlice index) s).destroyQueue index)
     else .inl 0x020B)
  else if kind = 3 then
    (if s.fLife index = .free then .inl 0x020B
     else .inr ((s.destroyFence index 0x0203).notice 3 1 0 (s.fSlice index) index))
  else if kind = 4 then
    (if s.mLife index = .defined then .inr ((s.freeMemobj index).notice 4 1 0 (s.mSlice index) index)
     else if s.mLife index = .live ∧ s.mState index = 1 ∧ s.obj.releasing.length < 256 then .inr (s.releaseMemobj index)
     else .inl 0x020B)
  else if kind = 5 then
    (let n := (s.liveMemobjs.filter (fun o => s.mSlice o == slice && s.mProcess o == index && s.mState o == 1)).length
     if 256 < s.obj.releasing.length + n then .inl 0x020B
     else .inr (queued slice (s.destroyProcess slice index 0x0205)))
  else .inl 0x020B

def execObjDestroy (path : Path) (kind index slice : Nat) (fences : List Nat) (s : State) : Host.Outcome State Fault Refusal :=
  onUnit s (pathOk path && decide (kind < 16) && u32Ok index && decide (slice < 256) && fences.all u16Ok)
    (s.gated path 0x100018 (s.objAccept path kind index (s.objDestroy kind index slice fences)))

def execObjSignal (path : Path) (kind index code : Nat) (s : State) : Host.Outcome State Fault Refusal :=
  onUnit s (pathOk path && decide (kind < 16) && u32Ok index && u16Ok code)
    (s.gated path 0x100018 (s.objAccept path kind index
      (if kind = 3 ∧ s.fLife index = .live then .inr (s.signalFence index code) else .inl 0x020B)))

/-- A fence is UNSIGNALLED again (R272). What waited for its signal, and has not woken, completes with the outcome it had (R287). -/
def State.resetFence (s : State) (f : Nat) : State :=
  let s := if s.fState f = 0 then s else forEach (s.waitersOf f) s (fun q s => s.finishWait q f)
  ((s.putF f 0 61 60 0).putF f 0 47 32 0).setFWord f 1 0

def execObjReset (path : Path) (kind index : Nat) (s : State) : Host.Outcome State Fault Refusal :=
  onUnit s (pathOk path && decide (kind < 16) && u32Ok index)
    (s.gated path 0x100018 (s.objAccept path kind index
      (if kind = 3 ∧ s.fLife index = .live then .inr (s.resetFence index) else .inl 0x020B)))

/-- OP 0 or 7–15: 0x020B (R273). -/
def execObjCmdOpInvalid (path : Path) (op : Nat) (s : State) : Host.Outcome State Fault Refusal :=
  onUnit s (pathOk path && decide (op = 0 ∨ (7 ≤ op ∧ op ≤ 15))) (s.gated path 0x100018 (s.objAccept path 0 0 (.inl 0x020B)))

/-! ## The record window (R266, R267) -/

/-- Words of a record of a kind. -/
def kindWords (kind : Nat) : Nat := if kind = 1 then 512 else if kind = 2 then 8 else if kind = 3 then 2 else if kind = 4 then 4 else 0

/-- Bits of word `i` of a record that the Elvarger keeps (R268–R271, R291). -/
def hardwareBits (kind i : Nat) : Word :=
  if kind = 1 then
    (if i = 0 then maskBits 63 61 else if i = 1 then maskBits 63 0
     else if 272 ≤ i ∧ i < 304 ∧ i % 4 = 2 then maskBits 31 0 else 0)
  else if kind = 2 then
    (if i = 0 then maskBits 63 61 else if i = 3 then maskBits 63 0 else if i = 4 then maskBits 63 32 else 0)
  else if kind = 3 then (if i = 0 then maskBits 61 60 ||| maskBits 47 32 else maskBits 63 0)
  else (if i = 0 then maskBits 62 61 else if i = 3 then maskBits 31 0 else 0)

/-- Bits of a record's words that hold a field: the others are reserved, read 0, and a 1 written to one is ignored (R6, R100, R118,
R214, R268–R271, R291). -/
def contextBits (i : Nat) : Word :=
  if i = 0 then maskBits 63 61 ||| maskBits 55 48 ||| maskBits 31 0
  else if i = 1 then maskBits 63 0
  else if i = 8 then maskBits 55 12 ||| maskBits 5 5 ||| maskBits 2 0
  else if i = 9 then maskBits 55 12
  else if i = 10 then maskBits 63 32 ||| maskBits 21 21 ||| maskBits 19 0
  else if i = 11 then maskBits 6 0
  else if i = 12 then maskBits 56 48 ||| maskBits 46 40 ||| maskBits 38 32 ||| maskBits 24 16 ||| maskBits 8 0
  else if i = 13 then maskBits 31 0
  else if i = 14 then maskBits 47 0
  else if i = 15 then maskBits 0 0
  else if i < 16 then 0
  else if i < 272 then
    (if i % 4 = 0 then maskBits 63 12 ||| maskBits 0 0 else if i % 4 = 1 then maskBits 47 12
     else if i % 4 = 2 then maskBits 31 0 else 0)
  else if i < 304 then
    (if i % 4 = 0 then maskBits 63 63 ||| maskBits 47 0 else if i % 4 = 1 then maskBits 55 12
     else if i % 4 = 2 then maskBits 31 0 else 0)
  else 0
def fieldBits (kind i : Nat) : Word :=
  if kind = 1 then contextBits i
  else if kind = 2 then
    (if i = 0 then maskBits 63 60 ||| maskBits 44 32
     else if i = 1 ∨ i = 2 then maskBits 63 12 ||| maskBits 4 0
     else if i = 3 then maskBits 63 0 else if i = 4 then maskBits 63 32 else 0)
  else if kind = 3 then (if i = 0 then maskBits 63 60 ||| maskBits 55 0 else maskBits 63 0)
  else (if i = 0 then maskBits 63 61 ||| maskBits 55 48 ||| maskBits 31 0
        else if i = 1 then maskBits 47 0 else if i = 2 then maskBits 35 0 else maskBits 31 0)

/-- Word `i` of a record. -/
def State.recWord (s : State) (kind index i : Nat) : Word :=
  if kindWords kind ≤ i ∨ kindCount kind ≤ index then 0
  else if kind = 1 then s.ctxWord index i
  else if kind = 2 then s.qWord index i
  else if kind = 3 then s.fWord index i
  else s.mWord index i

/-- The record is FREE or DEFINED. -/
def State.recOpen (s : State) (kind index : Nat) : Bool :=
  if kind = 1 then decide (s.ctxState index ≤ 1)
  else if kind = 2 then decide (s.qState index ≤ 1)
  else if kind = 3 then decide (s.fLife index ≠ .live)
  else if kind = 4 then decide (s.mLife index ≠ .live)
  else false

/-- A window write (R267). -/
def State.recWrite (s : State) (kind index i : Nat) (v : Word) : State :=
  if s.fld .OBJ_CTL_ENABLE = 0 ∨ kindWords kind ≤ i ∨ kindCount kind ≤ index ∨ s.recOpen kind index = false then s
  else
    let hw := hardwareBits kind i
    let w := (s.recWord kind index i &&& hw) ||| (v &&& ~~~ hw &&& fieldBits kind i)
    if kind = 1 then (s.setCtxWord index i w).setCtxState index 1
    else if kind = 2 then (s.setQWord index i w).setQState index 1
    else if kind = 3 then (s.setFWord index i w).setFLife index .defined
    else (s.setMWord index i w).setMLife index .defined

def execObjRecordWrite (path : Path) (i : Nat) (value : Word) (s : State) : Host.Outcome State Fault Refusal :=
  onUnit s (pathOk path && decide (i < 512))
    (s.gated path 0x101000 (s.recWrite (s.fld .OBJ_REC_SEL_KIND) (s.fld .OBJ_REC_SEL_INDEX) i value))

/-- OBJ_CTL.ENABLE (R266). -/
def execObjEnable (path : Path) (enable : Bool) (s : State) : Host.Outcome State Fault Refusal :=
  onUnit s (pathOk path)
    (s.gated path 0x100000
      (if enable = false then s.setFld .OBJ_CTL_ENABLE 0 0
       else
        let pa := getBits 55 21 (s.rd .OBJ_TABLE_BASE 0) * 2097152
        let g := pa % 2 ^ 39 / 2097152
        let local_ := pa / 2 ^ 50 == s.fld .CMP_CHIPNUM_CHIPNUM && pa % 2 ^ 50 / 2 ^ 39 == 0 && decide (g + 20 < 262144)
        if s.fld .OBJ_CTL_ENABLE = 1 then s
        else if local_ && s.managerOwns g (g + 20) then s.setFld .OBJ_CTL_ENABLE 0 1
        else s.objErr 0x020B 0 0 0))

def execNoticeRingTail (path : Path) (index : Nat) (s : State) : Host.Outcome State Fault Refusal :=
  onUnit s (pathOk path && u16Ok index) (s.gated path 0x100040 ((s.setFld .OBJ_NR_TAIL_INDEX 0 index).pumpNotices))

/-! ## The teardown of a disabled slice (R39) -/

/-- Process handles that a slice's objects name. -/
def State.sliceProcesses (s : State) (sl : Nat) : List Nat :=
  (((recordsOf 512 s.obj.contexts).filter (fun c => decide (2 ≤ s.ctxState c) && s.ctxSlice c == sl)).map s.ctxProcess ++
    (s.liveFences.filter (fun f => s.fSlice f == sl)).map s.fProcess ++
    (s.liveMemobjs.filter (fun o => s.mSlice o == sl)).map s.mProcess).eraseDups

/-- At T: fences end with 0x0203, contexts abort, resident slots and journals are freed, the slice is DISABLED and its
mailbox zero. -/
def State.disableSlice (s : State) (sl : Nat) : State :=
  let handles := s.sliceProcesses sl
  let s := forEach (s.liveFences.filter (fun f => s.fSlice f == sl)) s (fun f s => s.destroyFence f 0x0203)
  let cs := s.liveContexts.filter (fun c => s.ctxSlice c == sl)
  let s := forEach cs s (fun c s => (if s.ctxState c = 4 then s else s.abortContext c 0x0203).leaveDone c)
  let ms := s.liveMemobjs.filter (fun o => s.mSlice o == sl && s.mState o == 1)
  let s := (forEach ms s (fun o s => s.releaseMemobj o)).freeDefined (fun sl' _ => sl' == sl)
  let s := (s.setFld .TEN_SLICE_STATE_STATE sl 0).zeroMailbox sl
  { s with obj := { s.obj with dying := s.obj.dying.filter (fun d => d.1 ≠ sl) },
           comp := { s.comp with tearing := s.comp.tearing ++ [(sl, handles)] } }

/-- The teardown ends once nothing of the slice's contexts is left (R39, R294): they and their queues are FREE, and each process posts
DONE. -/
def execSliceTeardownDone (slice : Nat) (s : State) : Host.Outcome State Fault Refusal :=
  onUnit s (tenantOk slice)
    (match s.comp.tearing.find? (fun t => t.1 == slice) with
    | none => s
    | some t =>
      let cs := s.liveContexts.filter (fun c => s.ctxSlice c == slice)
      if cs.all s.teardownOver = false then s
      else
        let s := forEach cs s (fun c s => s.contextGone c)
        let s : State := { s with comp := { s.comp with tearing := s.comp.tearing.filter (fun x => x.1 ≠ slice) } }
        (forEach t.2 s (fun h s => s.notice 5 1 0 slice h)).releaseHeld)

end Sys2Proof.Machine
end

