-- ==== Sys2Proof/Machine/Moot.lean ====
section
/-! DEFINITION. The Moot's commands (chapter 3): opening, staging, checking and abandoning change sets (R69–R82), delivery
(R85), the commit instant (R62, R86), the fabric manager's messages (R67, R68), and the global time base (R87–R89). -/

namespace Sys2Proof.Machine

open Sys2Proof

/-! ## Opening and staging (R69–R75) -/

/-- A command of a change set by its path: FM_ messages are taken from STEP 3 on. -/
def State.csGated (s : State) (path : Path) (off : Nat) (t : State) : State :=
  match path with
  | .fm => if s.alive && decide (3 ≤ s.step) then t else s
  | _ => s.gated path off t

/-- The free slot an OPEN of `path` takes (R69, R74); none before READY (R438) and in a state without functional operation (R368). -/
def State.openSlot (s : State) (path : Path) : Option Nat :=
  if s.functional && s.isReady then
    (if path = .steward then [0, 1, 2, 3] else [1, 2, 3]).find? (fun i =>
      decide ((s.slot i).state = .free) || decide ((s.slot i).state = .refused))
  else none

/-- OPEN: ticket and slot, or ticket 0. STG_CS_OPENED.SLOT after a refused OPEN reads 0: the spec gives only TICKET 0. Mark:
DESIGN CHOICE (log 85). -/
def State.openSet (s : State) (path : Path) (seq : Nat) : State :=
  let r := s.openSlot path
  let t := s.freshTicket
  let s := match r with
    | some i =>
      let s : State := { s with moot := { s.moot with nextTicket := ticketAfter t, rotor := path } }
      s.modSlot i (fun _ => { CsSlot.init with state := .opened, ticket := t, writer := path })
    | none => s
  let opened := match r with
    | some i => (t, i)
    | none => (0, 0)
  match path with
  | .host => { s with moot := { s.moot with openedHost := opened, selHost := if r.isSome then r else s.moot.selHost } }
  | .steward =>
    { s with moot := { s.moot with openedSteward := opened, selSteward := if r.isSome then r else s.moot.selSteward } }
  | .fm =>
    let s : State := if r.isSome then { s with moot := { s.moot with fmSeq := mapPut s.moot.fmSeq t seq } } else s
    s.emit (.fmTicket seq opened.1)

def execCsOpen (path : Path) (seq : Nat) (s : State) : Host.Outcome State Fault Refusal :=
  onUnit s (u16Ok seq) (s.csGated path 0x180000 (s.openSet path seq))

/-- The slot of a set that `path` owns (R71). -/
def State.ownSet (s : State) (path : Path) (ticket : Nat) : Option Nat :=
  (s.slotOf ticket).filter (fun i => decide ((s.slot i).writer = path) && !(s.slot i).record)

/-- A wrong ticket, or a set that does not accept the command (R71, R73): 0x0314. The record's DETAIL, which the chapter does
not name, holds the ticket (0 on a register path without a selected set). Mark: DESIGN CHOICE (log 85). -/
def State.ticketErr (s : State) (path : Path) (seq ticket : Nat) : State :=
  let s := s.err 0x0314 0 (word ticket)
  if path = .fm then s.emit (.fmResult seq ticket 1 0x0314 0) else s

def execCsSelect (path : Path) (ticket : Nat) (s : State) : Host.Outcome State Fault Refusal :=
  onUnit s (pathOk path && u32Ok ticket)
    (s.gated path 0x180000
      (match (s.ownSet path ticket).filter (fun i => decide ((s.slot i).state = .opened)) with
      | some i =>
        if path = .host then { s with moot := { s.moot with selHost := some i } }
        else { s with moot := { s.moot with selSteward := some i } }
      | none => s.ticketErr path 0 ticket))

/-- An entry enters the set in slot `i`; the 4,097th and later are discarded (R72). -/
def State.pushEntry (s : State) (i : Nat) (e : Entry) : State :=
  s.modSlot i (fun x => if x.entries.length < 4096 then { x with entries := x.entries ++ [e] } else { x with overflow := true })

/-- An entry of a register path enters its selected set (R71, R73). -/
def State.stageSelected (s : State) (path : Path) (e : Entry) : State :=
  match (if path = .host then s.moot.selHost else s.moot.selSteward) with
  | some i => s.pushEntry i e
  | none => s.ticketErr path 0 0

/-- A path's STG_ENTRY_W0. -/
def State.setEntryW0 (s : State) (path : Path) (w0 : Word) : State :=
  if path = .host then { s with moot := { s.moot with w0Host := w0 } } else { s with moot := { s.moot with w0Steward := w0 } }

def execCsStage (path : Path) (ticket : Nat) (w0 w1 : Word) (seq : Nat) (s : State) : Host.Outcome State Fault Refusal :=
  onUnit s (u32Ok ticket && u16Ok seq)
    (s.csGated path 0x180018
      (if path = .fm then
        (match (s.ownSet .fm ticket).filter (fun i => decide ((s.slot i).state = .opened)) with
        | some i => s.pushEntry i ⟨w0, w1⟩
        | none => s.ticketErr .fm seq ticket)
      else (s.setEntryW0 path w0).stageSelected path ⟨w0, w1⟩))

/-- A write to a register with ST fields becomes a REG entry (R13, R75). -/
def execStFieldWrite (path : Path) (offset : Nat) (value : Word) (s : State) : Host.Outcome State Fault Refusal :=
  onUnit s (pathOk path && hasSt offset)
    (s.gated path offset (s.stageSelected path ⟨setBits 63 60 1 (word offset), value⟩))

def execCsCheck (path : Path) (ticket : Nat) (seq : Nat) (s : State) : Host.Outcome State Fault Refusal :=
  onUnit s (u32Ok ticket && u16Ok seq)
    (s.csGated path 0x180000
      (match (s.ownSet path ticket).filter (fun i => decide ((s.slot i).state = .opened)) with
      | some i =>
        let s : State := if path = .fm then { s with moot := { s.moot with fmSeq := mapPut s.moot.fmSeq ticket seq } } else s
        (s.modSlot i (fun x => { x with state := .checking, begun := false })).unselect i
      | none => s.ticketErr path seq ticket))

/-- A slot is free again. -/
def State.freeSlot (s : State) (i : Nat) : State :=
  let t := (s.slot i).ticket
  let s : State := { s with moot := { s.moot with fmSeq := mapErase s.moot.fmSeq t } }
  ((s.modSlot i (fun _ => CsSlot.init)).unselect i).pumpRecords

/-- ABANDON by the state of the set (R74). -/
def State.abandonSet (s : State) (i : Nat) : State :=
  let x := s.slot i
  match x.state with
  | .opened => s.freeSlot i
  | .checking => if x.begun then s.modSlot i (fun x => { x with abandon := true }) else s.freeSlot i
  | .waiting => s.freeSlot i
  | .pendingScrub => ((s.freeSlot i).recheckWaiting x.ticket).releaseHeld
  | .passed => s
  | .free => s
  | .refused => s

def execCsAbandon (path : Path) (ticket : Nat) (seq : Nat) (s : State) : Host.Outcome State Fault Refusal :=
  onUnit s (u32Ok ticket && u16Ok seq)
    (s.csGated path 0x180000
      (match s.ownSet path ticket with
      | some i => s.abandonSet i
      | none => s.ticketErr path seq ticket))

/-- A read of STG_CS_REFUSE[slot] through a path: the owner's turns STATE to FREE, and the reason stays (R74). -/
def State.refuseRead (s : State) (path : Path) (slot : Nat) : State :=
  if (s.slot slot).state = .refused ∧ (s.slot slot).writer = path then
    (s.modSlot slot (fun x => { x with state := .free })).pumpRecords
  else s

def execCsRefuseRead (path : Path) (slot : Nat) (s : State) : Host.Outcome State Fault Refusal :=
  onUnit s (pathOk path && decide (slot < 4)) (if s.alive then s.refuseRead path slot else s)

/-! ## The fabric manager's other messages (R67, R68) -/

/-- The answer to a message that names nothing: CS_RESULT REFUSED, 0x0315, ticket 0. -/
def State.messageRefused (s : State) (seq : Nat) : State := s.emit (.fmResult seq 0 1 0x0315 0)

/-- TYPE of a message that no row of R67 lists as one to the Elvarger. -/
def execMessageInvalid (type seq : Nat) (s : State) : Host.Outcome State Fault Refusal :=
  onUnit s (u16Ok seq && decide (type < 256) && decide (type = 0 ∨ 5 < type))
    (s.csGated .fm 0 (s.messageRefused seq))

/-- METER_REPORT of one row (R68). -/
def State.meterRow (s : State) (seq sl : Nat) : State :=
  s.emit (.fmMeter seq sl (s.rd .CMP_RES_TIME_NS sl) (s.rd .CMP_RES_CORE_US sl) (s.rd .CMP_RES_MEMCH_US sl)
    (s.rd .CMP_RES_LINK_US sl))

/-- METER_REPORT for the manager and each enabled tenant slice. -/
def State.meterAll (s : State) (seq : Nat) : State :=
  forEach (0 :: (List.range' 1 128).filter (cfgEnabled s.regs)) s (fun sl s => s.meterRow seq sl)

def execMeterPoll (tag seq : Nat) (s : State) : Host.Outcome State Fault Refusal :=
  onUnit s (u16Ok seq && decide (tag < 256))
    (s.csGated .fm 0
      (if tag ≤ 0x80 then s.meterRow seq tag
      else if tag = 0xFF then s.meterAll seq
      else s.messageRefused seq))

/-- The metering interval in ns, 0 for none. -/
def State.meterNs (s : State) : Nat := min 1000 (s.fld .CMP_METER_CTL_INTERVAL_MS) * 1000000

/-- The GTB reaches the next multiple of the interval. The SEQ of a report that answers nothing is a free value. -/
def execMeterReport (s : State) : Host.Outcome State Fault Refusal :=
  onUnit s true
    (if s.alive ∧ 0 < s.meterNs then
      let s := s.advanceTo ((s.clock.gtb / s.meterNs + 1) * s.meterNs)
      let (n, s) := s.takeFresh
      s.meterAll ((Config.freeWord n).toNat % 65536)
    else s)

/-! ## CHECK (R77–R80, R82–R84) -/

/-- The set whose check begins next: the lowest ticket of those that wait, while no check runs. -/
def State.nextCheck (s : State) : Option Nat :=
  if s.moot.slots.any (fun x => x.begun) then none
  else (List.range 4).foldl (fun (m : Option Nat) i =>
    let x := s.slot i
    if x.state = .checking then
      (match m with
      | some j => if x.ticket < (s.slot j).ticket then some i else m
      | none => some i)
    else m) none

/-- CHECK begins: the floor on PM_ is latched (R92). -/
def execCheckBegin (s : State) : Host.Outcome State Fault Refusal :=
  onUnit s true
    (match s.nextCheck with
    | some i => s.modSlot i (fun x => { x with begun := true, floor := s.fld .MON_CLOCK_FLOOR_MHZ })
    | none => s)

/-- The set in slot `i` passes: it is held (R84), or T is assigned. The caches of cores it unbinds are emptied (R258). -/
def State.passSet (s : State) (i : Nat) : State :=
  let x := s.slot i
  let k := s.chk x
  let ub := unboundCores k.base k.cand
  let adm := if x.record then [] else reeveWords x.floor k.base k.cand (k.evaluated x.floor)
  let s := s.modSlot i (fun x => { x with begun := false, passedAt := s.clock.gtb, admW := adm, unbound := ub,
                                          departing := ub.filter (fun c => !s.atBoundary c) })
  let s := forEach ub s (fun c s => s.emptyCache c)
  if held s (s.slot i) then
    ((s.modSlot i (fun x => { x with state := .pendingScrub })).setCause 0x03 0).fmResult x 2 0 0
  else s.assignT i

/-- The check of slot `i` ends (R79, R80, R95). A record set refuses nothing (R385). -/
def State.endCheck (s : State) (i : Nat) : State :=
  let x := s.slot i
  if x.abandon then s.freeSlot i
  else if x.record then s.passSet i
  else
    let k := s.chk x
    match k.consistency x.overflow with
    | some (code, detail) => (s.refuseSet i code detail false).pumpRecords
    | none =>
      let waits := (s.moot.slots.filter (fun y => decide (y.state = .pendingScrub) && conflicts s x y)).map (·.ticket)
      if waits.isEmpty then
        (match reeve s.spr x.floor k.base k.cand (k.evaluated x.floor) with
        | some (code, detail) => (s.refuseSet i code detail false).pumpRecords
        | none => s.passSet i)
      else s.modSlot i (fun x => { x with state := .waiting, begun := false, waitFor := waits })

def execCheckEnd (s : State) : Host.Outcome State Fault Refusal :=
  onUnit s true
    (match s.moot.slots.findIdx? (fun x => x.begun) with
    | some i => s.endCheck i
    | none => s)

/-! ## Delivery (R85) -/

/-- The passed set with the earliest T among those that `p` selects. -/
def State.firstPassed (s : State) (p : CsSlot → Bool) : Option Nat :=
  (List.range 4).foldl (fun (m : Option Nat) i =>
    let x := s.slot i
    if x.state = .passed ∧ p x then
      (match m with
      | some j => if x.t < (s.slot j).t then some i else m
      | none => some i)
    else m) none

/-- A station with a locked copy acknowledges the staged state (R85, R89). -/
def execStationAck (kind : StationKind) (k : Nat) (s : State) : Host.Outcome State Fault Refusal :=
  onUnit s (stationOk kind k)
    (let src := sourceOf kind k
    if s.clock.locked.contains src then
      -- an acknowledgement counts up to T − 2 µs
      (match s.firstPassed (fun x => x.unacked.contains src && decide (s.clock.gtb + 2000 ≤ x.t)) with
      | some i => s.modSlot i (fun x => { x with unacked := x.unacked.filter (· ≠ src) })
      | none => s)
    else s)

/-- An acknowledgement of a passed set is missing: a station's or the Well's. -/
def CsSlot.incomplete (x : CsSlot) : Bool := !x.unacked.isEmpty || x.wellFail

/-- CANCEL, and the refusal at T − 1 µs (R85). -/
def execDistributionTimeout (s : State) : Host.Outcome State Fault Refusal :=
  onUnit s true
    (match s.firstPassed CsSlot.incomplete with
    | some i =>
      let x := s.slot i
      let s := s.advanceTo (x.t - 1000)
      let first := x.unacked.foldl (fun (m : Nat) n => min m n) 1000
      (((s.refuseSet i 0x0312 (if x.unacked.isEmpty then 0x0E else first) true).releaseHeld).pumpRecords)
    | none => s)

/-- A set is still held 2 ms after its CHECK passed (R84). -/
def execScrubOverrun (slot : Nat) (s : State) : Host.Outcome State Fault Refusal :=
  onUnit s (decide (slot < 4))
    (if (s.slot slot).state = .pendingScrub then
      let s := s.advanceTo ((s.slot slot).passedAt + 2000000)
      (((s.refuseSet slot 0x0311 0 true).releaseHeld).pumpRecords)
    else s)

/-! ## The commit instant (R15, R17, R62, R86) -/

/-- A local granule range of a TLB entry's page meets one of `ranges`. -/
def TlbEntry.inRanges (e : TlbEntry) (chip : Nat) (ranges : List (Nat × Nat)) : Bool :=
  e.pa / 2 ^ 50 == chip &&
  ranges.any (fun r => overlap (e.pa % 2 ^ 39 / 2097152) ((e.pa % 2 ^ 39 + e.size - 1) / 2097152) r.1 r.2)

/-- Cluster station `k`, or the planner's requester station 68, switches: the epoch, the owner-valid bits of changed granules, and
the stub (R62, R63). -/
def State.switchCluster (ranges : List (Nat × Nat)) (k : Nat) (s : State) : State :=
  let chip := s.fld .CMP_CHIPNUM_CHIPNUM
  let s := s.modCluster k (fun c => { c with
    prevEpoch := c.epoch, epoch := s.fld .CMP_EPOCH_CURRENT,
    tlb := c.tlb.map (fun e => if e.inRanges chip ranges then { e with ownerValid := false } else e) })
  s.modCluster k (fun c => { c with stub := decide (k < 68) && decide (0 < oldDrain c) })

/-- Memory station `p` and link station `p` switch to the new epoch, and take a stub for what they have of the previous one (R62,
R63). -/
def State.switchMemory (p : Nat) (s : State) : State :=
  s.modMem p (fun m =>
    let m := { m with prevEpoch := m.epoch, epoch := s.epoch }
    { m with stub := !(oldOps m).isEmpty })
def State.switchLinkEpoch (p : Nat) (s : State) : State :=
  s.modLink p (fun l =>
    let l := { l with prevEpoch := l.epoch, epoch := s.epoch }
    { l with stub := !(oldTxns l).isEmpty })

/-- The window of an owner: first byte, and its ports in channel order. -/
def windowOf (m : List (Nat × Word)) (o : Owner) : Nat × List Nat :=
  ((cfgMemset m o).1 * 8589934592, (cfgChannels m o).map (cfgChanPort m))

/-- Slices whose contexts' GEN a changed granule advances (R122): its tenant owner, or the members of its commons. -/
def genSlices (m : List (Nat × Word)) (o : Owner) : List Nat :=
  if o.tag = 0xFE then (List.range' 1 128).filter (cfgMember m o.cid)
  else if 1 ≤ o.tag ∧ o.tag ≤ 0x80 then [o.tag] else []

/-- Granules change owner at T: GEN of the contexts concerned (R122), the flush of every cached line of theirs (R258), and the
scrub of released granules to come (R48, R159). -/
def State.switchGranules (s : State) (a b : Cfg) (changed : List (Nat × Nat × Owner × Owner)) : State :=
  let slices := (changed.flatMap (fun r =>
    genSlices a.regs r.2.2.1 ++ genSlices b.regs r.2.2.1 ++ genSlices a.regs r.2.2.2 ++ genSlices b.regs r.2.2.2)).eraseDups
  let s := forEach (s.liveContexts.filter (fun c => slices.contains (s.ctxSlice c))) s (fun c s => s.bumpGen c)
  let released := changed.filter (fun r => r.2.2.1.tag ≠ 0xFF)
  let scrubs := released.map (fun r =>
    (⟨r.1, r.2.1, (windowOf a.regs r.2.2.1).1, (windowOf a.regs r.2.2.1).2, r.2.2.1.tag⟩ : Scrub))
  let s : State := { s with comp := { s.comp with flushing := s.comp.flushing ++ scrubs } }
  let chip := s.fld .CMP_CHIPNUM_CHIPNUM
  let concerns := fun (line : Nat) => line / 2 ^ 43 == chip &&
    changed.any (fun r => overlap (line / 16384 % 262144) (line / 16384 % 262144) r.1 r.2.1)
  s.flushLines (fun e => decide (e.st ≠ .rr) && concerns e.line) concerns none

/-- Shadow keys of a set become live (R354): a Mill key, with MIL_KEYSTATE, or a link entry. -/
def State.liveKey (x : Nat × Nat × Nat × Key) (s : State) : State :=
  if x.2.1 = 0 then
    ({ s with well := { s.well with mill := mapPut s.well.mill x.2.2.1 x.2.2.2 } } : State).setKeyState x.2.2.1 1
  else s.modLink (x.2.1 - 1) (fun l => { l with keys := mapPut l.keys x.2.2.1 x.2.2.2 })

/-- Link port `p` at T (R331, R337): a change of TX_PHASE starts the count of groups anew and ends R327's hold; a port
in KEYING whose TX and RX entries of the phase are loaded goes UP with both FSNs 0. -/
def State.switchLink (old : Nat) (p : Nat) (s : State) : State :=
  let phase := s.fld .LNK_PORT_CFG_TX_PHASE p
  let has := fun (e : Nat) => (s.link p).keys.any (fun x => x.1 == e)
  let s := if phase ≠ old then
      (s.setFld .LNK_COUNT_GROUPS p 0).modLink p (fun l => { l with sealHold := false, sawPhase := false })
    else s
  let st := s.fld .LNK_PORT_STATUS_STATE p
  let busy := match s.kx with
    | some x => x.port == p
    | none => false
  if st = 1 ∧ has phase ∧ has (2 + phase) ∧ !busy then
    ((s.modLink p (fun l => { l with fsnTx := 0, fsnRx := 0, sealHold := false })).setFld .LNK_COUNT_GROUPS p 0).setFld
      .LNK_PORT_STATUS_STATE p 2
  else if st = 3 ∧ !(s.link p).sealHold ∧ !(s.link p).window then (s.setFld .LNK_PORT_STATUS_STATE p 2).pumpLink p
  else s

/-- The queues of a context have not yet failed with 0x0B06 (R230). -/
def State.rangeHeld (s : State) (ctx : Nat) : Bool :=
  s.liveQueues.any (fun q => s.qCtx q == ctx && decide (s.qState q < 5) &&
    !(s.qState q == 4 && getBits 63 48 (s.qWord q 4) == 0x0B06))

/-- A resident context whose range extends past its slice's cores is SUSPENDED, and its queues fault (R230); one that is SUSPENDED
for another reason likewise. -/
def State.rangeLost (s : State) (sl : Nat) : State :=
  let n := (cfgCores s.regs sl).length
  let lost := ((s.sched.residents.map (·.2)).filter (fun r => r.slice == sl && decide (n < s.scFirst r.ctx + s.scCount r.ctx) &&
    (decide (r.state ≠ .suspended) || s.rangeHeld r.ctx))).map (·.ctx)
  forEach lost s (fun c s =>
    let s := (s.modResident c (fun r => { r with state := .suspended })).setCause 0x0B 1
    let s := s.err 0x0B06 sl (word c)
    forEach (s.liveQueues.filter (fun q => s.qCtx q == c && decide (s.qState q < 5))) s (fun q s => s.faultQueue q 0x0B06))

/-- The positions of a slice's contexts are mapped to cores afresh (R230). -/
def State.remapTiles (s : State) (sl : Nat) : State :=
  { s with sched := { s.sched with ready := s.sched.ready.map (fun t =>
      if t.2.slice = sl then ((s.ctxCores t.2.ctx).getD t.2.pos t.1, t.2) else t) } }

/-- Cores unbound at T: their SRAM is zeroed (R60). -/
def State.zeroCores (s : State) (cores : List Nat) : State :=
  let s : State := { s with comp := { s.comp with zeroing := s.comp.zeroing ++ cores } }
  forEach cores s (fun c s => s.emit (.sramWrite (s.physical c) 0 6291455 true))

/-- CFG_DIGEST takes in the new epoch, T and the set's entries (R360). -/
def State.chainDigest (s : State) (x : CsSlot) : State :=
  let bytes := s.well.cfgDigest ++ leBytes 4 (s.fld .CMP_EPOCH_CURRENT) ++ leBytes 8 x.t ++
    x.entries.flatMap (fun e => wordBytes e.w0 ++ wordBytes e.w1)
  { s with well := { s.well with cfgDigest := sha384 bytes } }

/-- The commit of a rebuilt channel's PORT ends the rebuild: the failing port is marked failed (R391). -/
def State.endRebuild (s : State) (x : CsSlot) : State :=
  let j := s.fld .SPR_REBUILD_LCHAN
  if x.record ∧ s.fld .SPR_REBUILD_BUSY = 1 ∧ x.entries.any (fun e => e.offset == regAddr .CMP_MEMCH j) then
    let bad := s.fld .SPR_REBUILD_FROM
    let s : State := { s with spr := { s.spr with badPorts := s.spr.badPorts ++ [bad] } }
    (s.setFld .SPR_REBUILD_BUSY 0 0).setCause 0x10 1
  else s

/-- Slices from `a` to `b`: those disabled, those enabled, those touched and enabled. -/
def disabledSlices (a b : Cfg) : List Nat := (List.range' 1 128).filter (fun sl => cfgEnabled a.regs sl && !cfgEnabled b.regs sl)
def enabledSlices (a b : Cfg) : List Nat := (List.range' 1 128).filter (fun sl => !cfgEnabled a.regs sl && cfgEnabled b.regs sl)
def touchedSlices (a b : Cfg) : List Nat :=
  (List.range' 1 128).filter (fun sl => cfgEnabled b.regs sl && sliceTouched a b sl)

/-- The committed fields take their staged values: EPOCH-domain fields reset, the epoch advances, ADM_W and ADM_FLOOR
take what the Reeve held with the set (R15, R17, R86, R95). -/
def State.takeFields (s : State) (x : CsSlot) : State :=
  let new := s.cfg.apply x.entries
  let s : State := { s with regs := resetRegs .epoch new.regs, comp := { s.comp with owners := new.owners } }
  let e := s.fld .CMP_EPOCH_CURRENT
  let s := s.wr .CMP_EPOCH 0 (setBits 63 32 (if e = 0xFFFFFFFF then 1 else e + 1) (setBits 31 0 e 0))
  let s := s.wr .STG_LAST_T 0 (word x.t)
  let s := forEach x.admW s (fun w s => s.wr .ADM_W w.1 w.2)
  if x.record then s else s.setFld .ADM_FLOOR_FLOOR_MHZ 0 x.floor

/-- What a commit does to slices: teardown, start, SUSPENDED contexts, views and notices (R39, R230, R306, R307). -/
def State.switchSlices (s : State) (a b : Cfg) (x : CsSlot) : State :=
  let s := forEach (disabledSlices a b) s (fun sl s => s.disableSlice sl)
  let moved := (List.range' 1 128).filter (fun sl => cfgCores a.regs sl != cfgCores b.regs sl)
  let s := forEach moved s (fun sl s => (s.rangeLost sl).remapTiles sl)
  let s := forEach (touchedSlices a b) s (fun sl s =>
    if cfgEnabled a.regs sl then s.rewriteView sl else s.setSliceState sl 1)
  forEach (resizedSlices a b) s (fun sl s => s.resizeNotice sl 2 x.ticket x.t)

/-- The commit of the set in slot `i` at its T (R86). -/
def State.commitSet (s : State) (i : Nat) : State :=
  let x := s.slot i
  let s := s.advanceTo x.t
  let a := s.cfg
  let b := a.apply x.entries
  let s : State := { s with comp := { s.comp with prev := a.regs } }
  let changed := (ownDiff a.owners b.owners).filter (fun r => decide (r.2.2.1 ≠ r.2.2.2))
  let s := s.takeFields x
  let s := forEach (List.range 69) s (State.switchCluster (changed.map (fun r => (r.1, r.2.1))))
  let s := forEach (List.range 72) s State.switchMemory
  let s := forEach (List.range 16) s State.switchLinkEpoch
  let s := s.switchGranules a b changed
  let s := forEach (s.well.shadows.filter (fun k => k.1 == x.ticket)) s State.liveKey
  let s := s.dropShadows x.ticket
  let s := forEach (List.range 16) s (fun p s => State.switchLink (fldGet a.regs .LNK_PORT_CFG_TX_PHASE p) p s)
  let s := (s.zeroCores x.unbound).chainDigest x
  let s := (s.endRebuild x).freeSlot i
  let s := (s.setCause 0x03 1).emit (.fmCommitted (s.fld .CMP_EPOCH_CURRENT) x.t)
  let s := s.switchSlices a b x
  let s := forEach (touchedSlices a b) s (fun sl s => (s.scheduleSlice sl).pumpSlice sl)
  (s.recheckWaiting x.ticket).releaseHeld

/-- T of the earliest passed set, once every acknowledgement is held. -/
def execCommitInstant (s : State) : Host.Outcome State Fault Refusal :=
  onUnit s true
    (match s.firstPassed (fun _ => true) with
    | some i => if (s.slot i).incomplete then s else s.commitSet i
    | none => s)

/-- The flush of changed granules is complete: the scrubs start (R159, R258). -/
def execFlushComplete (s : State) : Host.Outcome State Fault Refusal :=
  onUnit s true
    (if s.comp.flushing ≠ [] ∧ s.flushUnderWay = false then
      { s with comp := { s.comp with scrubbing := s.comp.scrubbing ++ s.comp.flushing, flushing := [] } }
    else s)

/-! ## The global time base (R87–R89) -/

/-- CK_ACLK stops: the ring oscillator drives the GTB. The ALARM's code is a free value: no table gives it one. -/
def execAclkStopped (s : State) : Host.Outcome State Fault Refusal :=
  onUnit s true
    (if s.alive ∧ s.fld .STG_GTB_STATUS_FALLBACK = 0 then
      let (n, s) := (s.setFld .STG_GTB_STATUS_FALLBACK 0 1).takeFresh
      s.queueAlarm ((Config.freeWord n).toNat % 65536) 0 0x03 0
    else s)

/-- CK_ACLK runs again, and the master returns to it. -/
def execAclkRestored (s : State) : Host.Outcome State Fault Refusal :=
  onUnit s true (if s.alive then s.setFld .STG_GTB_STATUS_FALLBACK 0 0 else s)

/-- A copy's offset at a MARK is `skewPs`: it is locked where that is within the ±2 ns of R33, and MAX_SKEW_PS shows the
largest offset of the locked copies. -/
def State.lockCopy (s : State) (src skewPs : Nat) : State :=
  let c := s.clock
  let rest := c.skews.filter (fun x => x.1 ≠ src)
  let c := if skewPs ≤ 2000 then
      { c with locked := if c.locked.contains src then c.locked else c.locked ++ [src], skews := rest ++ [(src, skewPs)] }
    else { c with locked := c.locked.filter (· ≠ src), skews := rest }
  ({ s with clock := c } : State).setFld .STG_GTB_STATUS_MAX_SKEW_PS 0 (c.skews.foldl (fun m x => max m x.2) 0)

/-- A powered station's copy meets a MARK after its trim (R88). -/
def execGtbCopyLocked (kind : StationKind) (k : Nat) (skewPs : Nat) (s : State) : Host.Outcome State Fault Refusal :=
  onUnit s (stationOk kind k && u16Ok skewPs)
    (let src := sourceOf kind k
    if s.alive ∧ (s.stationOn kind k ∨ s.power.goingOn.contains (domainOf kind k)) then
      (s.advanceTo ((s.clock.gtb + 999) / 1000 * 1000)).lockCopy src skewPs
    else s)

end Sys2Proof.Machine
end

