-- ==== Sys2Proof/Machine/Transfers.lean ====
section
/-! DEFINITION. The transfers of the Drover's phases (R185, R197–R203): their checks, their issue, what they read and write, the
combines, and the requests of the planner and the movers to memory. -/

namespace Sys2Proof.Machine

open Sys2Proof

/-! ## Requests to memory (R192, R197) -/

/-- The pieces of a byte range that lie in one page of 4 KiB each: first byte and length. -/
def pagePieces (a n : Nat) : List (Nat × Nat) :=
  (List.range ((a % 4096 + n + 4095) / 4096)).map (fun i =>
    let lo := max a ((a / 4096 + i) * 4096)
    (lo, min (a + n) ((a / 4096 + i + 1) * 4096) - lo))

/-- The bytes of a range as beats: its lines, with the bytes of each that it holds. -/
def rangeBeats (a : Nat) (bs : List Byte) : List (Line × ByteMask) :=
  (List.range ((a % 128 + bs.length + 127) / 128)).map (fun i =>
    let lo := max a ((a / 128 + i) * 128)
    let hi := min (a + bs.length) ((a / 128 + i + 1) * 128)
    lineOfBytes (lo % 128) (slice bs (lo - a) (hi - lo)))

/-- Bytes of a range within the lines of an access from the line of its first byte on. -/
def spanBytes (a n : Nat) (lines : List Line) : List Byte := slice (lines.flatMap (fun l => leBytes 128 l.toNat)) (a % 128) n

/-- A transaction number of the engines that no access of the station uses. -/
def Cluster.engineTxn (c : Cluster) : Nat :=
  let used := c.flights.map (·.acc.req.txn) ++ c.retry.map (·.acc.req.txn) ++ c.stalled.map (·.acc.req.txn)
  let m := used.foldl max 4127
  if m < 8191 then m + 1 else 4128

/-- One request of the planner's (station 68) or a mover's, within a page, as a request of the commanding context's slice: its number. -/
def State.engineAccess (s : State) (k ctx slice opc dva bytes : Nat) (beats : List (Line × ByteMask)) : Nat × State :=
  let c := s.cluster k
  let n := (dva % 128 + bytes + 127) / 128
  let r := engineReq k opc 0 0 0 (n - 1) c.engineTxn true (word (dva / 128 * 128))
  let a : PortAccess := ⟨r, moverCore k 0, ctx, slice, c.epoch, beats, 0, 0, c.nextSeq, none⟩
  (c.nextSeq, (s.numbered k).onAnswer k a true)

/-- Read a byte range of a context's memory: the numbers of the accesses. -/
def State.engineRead (s : State) (k ctx slice dva bytes : Nat) : List Nat × State :=
  forEach (pagePieces dva bytes) ([], s) (fun x r =>
    let (n, t) := r.2.engineAccess k ctx slice 1 x.1 x.2 []
    (r.1 ++ [n], t))

/-- Write bytes to a context's memory. -/
def State.engineWrite (s : State) (k ctx sl dva : Nat) (bs : List Byte) : List Nat × State :=
  forEach (pagePieces dva bs.length) ([], s) (fun x r =>
    let (n, t) := r.2.engineAccess k ctx sl 3 x.1 x.2 (rangeBeats x.1 (slice bs (x.1 - dva) x.2))
    (r.1 ++ [n], t))

/-- How the accesses of a byte range have ended: none while one is under way; the first that failed, with the DVA it began at; or
their bytes. -/
def State.engineResult (s : State) (dva bytes : Nat) (accs : List (Nat × Nat)) : Option (Sum (Nat × Nat × Nat × Word) (List Byte)) :=
  let fs := accs.map (fun x => (s.cluster x.1).flight x.2)
  if fs.any (fun f => match f with
      | some f => f.outcome.isNone
      | none => true) then none
  else
    let ends := (pagePieces dva bytes).zip (fs.filterMap id)
    match ends.find? (fun e => match e.2.outcome with
        | some (code, _, _) => decide (code ≠ 0)
        | none => false) with
    | some (x, f) => f.outcome.map (fun o => .inl (x.1, o))
    | none => some (.inr (ends.flatMap (fun e => spanBytes e.1.1 e.1.2 e.2.lines)))

/-! ## Rows -/

/-- Sectors of a row that hold only zeros. -/
def zeroSectorsOf (row : List Byte) (n : Nat) : Nat :=
  ((List.range n).filter (fun i => (slice row (32 * i) 32).all (· == 0))).length

/-- Beats of 128 bytes of a row that hold anything else (R198). -/
def movedBeats (row : List Byte) : Nat :=
  ((List.range ((row.length + 127) / 128)).filter (fun i => !(slice row (128 * i) 128).all (· == 0))).length

/-- A row is written into a core's SRAM: its lines in ascending order, the destination station writing the sectors of zeros (R198,
R202). -/
def rowWrites (core off : Nat) (row : List Byte) : List Output :=
  let zero := fun (a : Nat) => (slice row (a - off) 32).all (· == 0)
  (List.range ((off % 128 + row.length + 127) / 128)).flatMap (fun i =>
    let line := (off / 128 + i) * 128
    let sects := ((List.range 4).map (fun j => line + 32 * j)).filter (fun a => decide (off ≤ a) && decide (a < off + row.length))
    let moved := sects.filter (fun a => !zero a)
    let data := moved.foldl (fun (d : Line × ByteMask) a =>
      let x := lineOfBytes (a % 128) (slice row (a - off) 32)
      (d.1 ||| x.1, d.2 ||| x.2)) (0, 0)
    (if moved.isEmpty then [] else [Output.sramData core line data.1 data.2]) ++
    (sects.filter zero).map (fun a => Output.sramWrite core a (a + 31) true))

/-! ## Checks (R54, R197, R216) -/

/-- The Hedge's refusal of an access to a core's SRAM for a journal's context, or the share fence's, or 0. -/
def State.coreDenied (s : State) (j : Journal) (core first bytes : Nat) : Nat :=
  if cfgCoreTag s.regs core ≠ j.slice then 0x0506 else if s.shareOk j.ctx core first bytes then 0 else 0x0B05

/-- The Hedge's refusal of an access to another chip for a slice, or 0 (R54, R199). -/
def State.chipDenied (s : State) (j : Journal) (chip : Nat) : Nat :=
  if bitOf chip (s.rd .CMP_CHIPS j.slice) && !(linkCandidates s.regs j.slice chip).isEmpty then 0 else 0x0507

/-- The refusal of the expert's side of a transfer, or 0: an input slot, or an output slot of `bytes` bytes. Spill rows are requests of
their own. -/
def State.expertDenied (s : State) (j : Journal) (r : Route) (bytes : Nat) : Nat :=
  let e := j.expert r.expert
  if r.kind = 1 then 0
  else if s.expertHere e = false then s.chipDenied j (eChip e)
  else s.coreDenied j (eCore e) (if j.state = .combining then outSlot e r.slot else inSlot e r.slot) bytes

/-- Elements and bytes of a result row. -/
def cElements (ws : List Word) : Nat := cOutSect ws * 32 / fmtBytes (cOutFmt ws)
def cResBytes (ws : List Word) : Nat := cElements ws * fmtBytes (cResFmt ws)

/-- The refusal of a route's transfer, or 0: of the home core's side, then of the expert's. -/
def State.routeDenied (s : State) (j : Journal) (r : Route) (cws : List Word) : Nat :=
  let home := j.homeCore r.token
  let own := if j.state = .combining then s.coreDenied j home (resultRow j.words cws r.token) (cResBytes cws)
    else s.coreDenied j home (homeRow j.words r.token) (32 * dRowSect j.words)
  if own ≠ 0 then own else s.expertDenied j r (32 * (if j.state = .combining then cOutSect cws else dRowSect j.words))

/-- A DENY of a mover's transfer at station `k`, as R56 records it. -/
def State.denyTransfer (s : State) (k slice code : Nat) : State :=
  let s := ((s.bump .HDG_COUNT_DENY k).setCause 0x05 0).bump .CMP_EPOCH_STAT_DENIES 0
  let s := s.wr .HDG_LAST_DENY k (setBits 63 56 slice 0)
  let s := s.wr .HDG_LAST_DENY_INFO k (setBits 47 32 code 0)
  s.raise .error code slice (32 + k)

/-- The phase of queue `q` stops at station `k` with the code of a token's route (R211): a code of the Hedge as 0x0A04, with that code
beside it. -/
def State.stopPhase (s : State) (q k code token expert : Nat) : State :=
  if code / 256 = 0x05 then (s.bump .DRV_ST_COUNT_DENIED k).failDrover q 0x0A04 code token expert
  else s.failDrover q code 0 token expert

/-- A transfer is refused at its issue. -/
def State.refuseTransfer (s : State) (q k : Nat) (j : Journal) (code token expert : Nat) : State :=
  let s := if code = 0x0B05 then s.raise .error code j.slice (32 + k) else s.denyTransfer k j.slice code
  s.stopPhase q k code token expert

/-- A translation fault parks the Drover command of a queue (R127, R211): DROVER is 1 and STATION 0xFF; its ENGINE, which no rule
gives, is a free value. -/
def State.phaseFault (s : State) (q access dva code level : Nat) (leaf : Word) : State :=
  let c := s.qCtx q
  let (i, s) := s.takeFresh
  let (seq, s) := s.postFault ⟨s.qSlice q, access, level, dva, code, 0xFF, 0xF, (Config.freeWord i).toNat % 4, true, s.ctxPasid c, c, leaf⟩
  let s := if code = 0x070B ∧ cfgPasidOk s.regs (s.ctxPasid c) (s.qSlice q) = false then s.err 0x0603 (s.qSlice q) (word c) else s
  ({ s with xlt := { s.xlt with faults := s.xlt.faults ++ [⟨c, seq, code, none, q⟩] } } : State).parkDrover q

/-! ## Combining (R203, R205) -/

/-- Write the result row of token `t` into its home core. -/
def State.writeResult (s : State) (q : Nat) (j : Journal) (t : Nat) : State :=
  let ws := s.runningWords q
  let rs := (List.range 8).flatMap (fun k => j.routes.filter (fun r => r.token == t && r.rank == k))
  let row := combineRow (dRenorm j.words) (cOutFmt ws) (cResFmt ws) (cElements ws) (rs.map (fun r => (r.weight, r.row)))
  s.emit (.sramRow (s.physical (j.homeCore t)) (resultRow j.words ws t) row)

/-- A combine whose every row has been gathered and written completes, and its journal is freed. -/
def State.endCombine (s : State) (q ctx jtag : Nat) : State :=
  match s.journal ctx jtag with
  | some j => if j.routes.all (fun r => r.stage == 2) then (s.freeJournal ctx jtag).completeCmd q 0 0 else s
  | none => s

/-- Rows of a home core that the tokens use. -/
def homeRows (ws : List Word) : Nat := min (dTokens ws) (dPerCore ws)

/-- R190 refuses a COMBINE, by its own fields. -/
def combineBad (ws : List Word) : Bool :=
  decide (cResFmt ws < 2 ∨ 4 < cResFmt ws ∨ 4 < cOutFmt ws ∨ cOutSect ws = 0 ∨ 2048 < cOutSect ws ∨ cResOff ws % 32 ≠ 0 ∨
    cOutSect ws * 32 % fmtBytes (cOutFmt ws) ≠ 0 ∨ cResStride ws * 32 < cResBytes ws)

/-- A result row would extend past the SRAM. -/
def combineOver (j : Journal) (ws : List Word) : Bool :=
  decide (0x600000 < cResOff ws + cResStride ws * 32 * (homeRows j.words - 1) + cResBytes ws)

/-- The COMBINE of queue `q` meets its journal; tokens without a route receive rows of zeros. -/
def State.combineOn (s : State) (q : Nat) (j : Journal) : State :=
  let ws := s.runningWords q
  if combineOver j ws then s.failDrover q 0x0A01 0 0xFFFF 0xFFFF
  else
    let s := s.modJournal j.ctx j.jtag (fun j => { j with state := .combining, queue := some q,
                                                          routes := j.routes.map (fun r => { r with stage := 0, row := [] }) })
    let empty := (List.range (dTokens j.words)).filter (fun t => !j.routes.any (fun r => r.token == t))
    match empty.find? (fun t => s.coreDenied j (j.homeCore t) (resultRow j.words ws t) (cResBytes ws) != 0) with
    | some t => s.refuseTransfer q (s.homeMover j t) j (s.coreDenied j (j.homeCore t) (resultRow j.words ws t) (cResBytes ws)) t 0xFFFF
    | none => (forEach empty s (fun t s => s.writeResult q { j with routes := [] } t)).endCombine q j.ctx j.jtag

/-- The COMBINE of queue `q` is looked at: it starts, waits for its journal's dispatch, or fails (R205, R208). -/
def State.tryCombine (s : State) (q : Nat) : State :=
  let ws := s.runningWords q
  let c := s.qCtx q
  let jtag := cJtag ws
  let s := s.leavePlanner q
  if combineBad ws then s.failDrover q 0x0A01 0 0xFFFF 0xFFFF
  else if s.drv.lost.contains (c, jtag) then
    ({ s with drv := { s.drv with lost := s.drv.lost.filter (· ≠ (c, jtag)) } } : State).completeCmd q 0x0A05 0x0A05
  else match s.journal c jtag with
    | none => s.failDrover q 0x0A06 0 0xFFFF 0xFFFF
    | some j =>
      if j.state = .dispatched ∧ j.queue.isNone then s.combineOn q j
      else { s with drv := { s.drv with planQ := s.drv.planQ ++ [q] } }

/-- Look again at every COMBINE that waits. -/
def State.wakeCombines (s : State) : State :=
  forEach (s.drv.planQ.filter (fun q => cmdOpcode (s.runningWords q) == 5)) s (fun q s => s.tryCombine q)

/-! ## Issue (R185, R197, R199) -/

/-- The link port of an expert's transfers: candidate e mod n (R199). -/
def State.expertPort (s : State) (j : Journal) (e : Nat) : Option Nat :=
  let ports := linkCandidates s.regs j.slice (eChip (j.expert e))
  ports[e % ports.length]?

/-- Messages go to the chip of an expert: a request, and with `data` what it carries. A port that is not open is 0x0D02. -/
def State.sendExpert (s : State) (q k : Nat) (j : Journal) (r : Route) (data : Bool) : State :=
  match s.expertPort j r.expert with
  | none => s.stopPhase q k 0x0D02 r.token r.expert
  | some p =>
    if s.linkOpen p = false then s.stopPhase q k 0x0D02 r.token r.expert
    else if data then ((s.linkCharge j.ctx 1024 2).linkSend p 1 none).linkSend p 3 none
    else (s.linkCharge j.ctx 1024 1).linkSend p 1 none

/-- Replace route `i` of a journal. -/
def State.modRoute (s : State) (j : Journal) (i : Nat) (f : Route → Route) : State :=
  s.modJournal j.ctx j.jtag (fun j => { j with routes := modifyAt j.routes i f })

/-- The transfer of a route is issued: its source is read (R197). -/
def State.issueRoute (s : State) (q : Nat) (j : Journal) (i : Nat) (r : Route) : State :=
  let cws := s.runningWords q
  let k := s.moverOf j r
  let e := j.expert r.expert
  let code := s.routeDenied j r cws
  if code ≠ 0 then s.refuseTransfer q k j code r.token r.expert
  else
    let s := s.modRoute j i (fun r => { r with stage := 1 })
    if j.state ≠ .combining then
      s.emit (.sramRead (s.physical (j.homeCore r.token)) (homeRow j.words r.token) (32 * dRowSect j.words))
    else if r.kind = 1 then
      let (accs, s) := s.engineRead k j.ctx j.slice (spillRow j.words e r.slot) (32 * cOutSect cws)
      s.modRoute j i (fun r => { r with access := accs.map (fun n => (k, n)) })
    else if s.expertHere e then s.emit (.sramRead (s.physical (eCore e)) (outSlot e r.slot) (32 * cOutSect cws))
    else s.sendExpert q k j r false

/-- A route of a journal's running phase that may be issued; a row that may be sent again. -/
def State.issuable (s : State) (j : Journal) (i : Nat) : Bool :=
  match j.routes[i]? with
  | some r => j.queue.isSome && r.stage == 0 && decide (s.moverFlights (s.moverOf j r) < 64)
  | none => false
def State.resendable (s : State) (j : Journal) (x : Nat × Bool) : Bool :=
  match j.routes[x.1]? with
  | some r => !x.2 && decide (s.moverFlights (s.homeMover j r.token) < 64)
  | none => false

/-- A row goes out again: its home row is read. -/
def State.issueResend (s : State) (j : Journal) (i : Nat) : State :=
  let s := s.modJournal j.ctx j.jtag (fun j => { j with resend := j.resend.map (fun y => if y.1 = i then (i, true) else y) })
  match j.routes[i]? with
  | some r => s.emit (.sramRead (s.physical (j.homeCore r.token)) (homeRow j.words r.token) (32 * dRowSect j.words))
  | none => s

/-- Issue one transfer, of the slice after the rotating pointer; rows that are sent again come first. -/
def State.transferStep (s : State) : State :=
  if 4096 ≤ s.droverFlights then s
  else
    let ready := s.drv.journals.filter (fun j => j.resend.any (s.resendable j) || (List.range j.routes.length).any (s.issuable j))
    match rotate s.drv.rotor (ready.map (·.slice)) with
    | none => s
    | some sl =>
      let t : State := { s with drv := { s.drv with rotor := sl } }
      match ready.find? (fun j => j.slice == sl) with
      | some j =>
        (match j.resend.find? (s.resendable j) with
        | some x => t.issueResend j x.1
        | none =>
          match (List.range j.routes.length).find? (s.issuable j), j.queue with
          | some i, some q =>
            (match j.routes[i]? with
            | some r => t.issueRoute q j i r
            | none => t)
          | _, _ => t)
      | none => s

/-- Issue every transfer that may be. -/
def State.pumpTransfers (s : State) : State :=
  iterate State.transferStep (s.drv.journals.foldl (fun n j =>
    n + (j.routes.filter (fun r => r.stage == 0)).length + j.resend.length) 0) s

/-! ## The end of a core's substitution (R206, R233) -/

/-- Every row of a substituted expert core has been sent again: the interrupted tile is replayed on the substitute. -/
def State.finishSub (s : State) (x : CoreSub) : State :=
  let s : State := { s with spr := { s.spr with coreSubs := s.spr.coreSubs.filter (fun y => y.core ≠ x.core) } }
  if x.replays then s.replayTile x.core else s.schedule x.core

def State.finishSubs (s : State) : State :=
  forEach (s.spr.coreSubs.filter (fun x => s.physical x.core == x.subst && s.resent x.core)) s (fun x s => s.finishSub x)

/-- The Drover goes on as far as it can. -/
def State.pumpDrover (s : State) : State :=
  (iterate (fun s => s.pumpTransfers.wakeCombines) (s.drv.planQ.length + 1) s).pumpTransfers.finishSubs.pumpEngines

end Sys2Proof.Machine
end

