-- ==== Sys2Proof/Machine/Spares.lean ====
section
/-! DEFINITION. The events of the Granary and the Tally (chapter 14): failures and substitutions (R384–R390), the rebuild of a
memory channel (R391–R393), the patrol (R395), the monitors (R396–R400), the audit (R401), and the reports (R402, R403). -/

namespace Sys2Proof.Machine

open Sys2Proof

/-! ## Cores (R233, R234, R384) -/

/-- An uncorrectable error reported by a core. -/
def execCoreUe (port core : Nat) (s : State) : Host.Outcome State Fault Refusal :=
  onUnit s (clusterOk port && decide (core < 9)) (if s.alive then s.coreFail (9 * port + core) else s)

/-- No heartbeat for 1 µs. -/
def execCoreHeartbeatTimeout (port core : Nat) (s : State) : Host.Outcome State Fault Refusal :=
  onUnit s (clusterOk port && decide (core < 9)) (if s.alive then (s.advance 1000).coreFail (9 * port + core) else s)

/-- A resident context whose share on a core holds a lost word: SUSPENDED, its interrupted tile ends with 0x0B07 (R234). -/
def State.replayLost (s : State) (core ctx : Nat) : State :=
  let sl := s.ctxSlice ctx
  let s := ((s.modResident ctx (fun r => { r with state := .suspended })).setCause 0x0B 1).alarm 0x0B07 sl (word ctx)
  match s.tileOf core with
  | some t => if t.ctx = ctx then s.abortTile core 0x0B07 else s
  | none => s

/-- The copy ends: the index names the substitute, contexts whose share has lost a word are SUSPENDED, and once the Drover has sent the
core's rows again the interrupted tile is replayed there (R206, R233, R234). -/
def State.coreSubDone (s : State) (x : CoreSub) (badUnits : List Nat) : State :=
  let s := s.alias x.core x.subst
  let lost := ((s.sched.residents.map (·.2.ctx)).filter (fun c => (s.ctxCores c).contains x.core &&
    badUnits.any (fun u => decide (s.scBase c ≤ u) && decide (u < s.scBase c + s.scUnits c))))
  let s := forEach lost s (fun c s => s.replayLost x.core c)
  ((s.resendRows x.core).stageRecord []).pumpDrover

def execCoreSubstitutionDone (core : Nat) (badUnits : List Nat) (s : State) : Host.Outcome State Fault Refusal :=
  onUnit s (coreOk core && badUnits.all (fun u => decide (u < 96)))
    (match s.spr.coreSubs.find? (fun x => x.core == core) with
    | some x =>
      if s.cacheEmpty core && s.physical core != x.subst then s.coreSubDone x badUnits else s
    | none => s)

/-! ## Cluster stations and movers (R206, R388) -/

/-- The duplicated check logic disagrees three times within 1 ms. -/
def execCheckLogicDisagree (station : Nat) (s : State) : Host.Outcome State Fault Refusal :=
  onUnit s (clusterOk station) (if s.alive then s.clusterFail station else s)

/-- The bound cores of a station that its spare cluster takes over. -/
def State.coresBehind (s : State) (k : Nat) : List Nat :=
  (List.range' (9 * k) 9).filter (fun c => cfgCoreTag s.regs c ≠ 0xFF && s.physical c / 9 == k)

/-- The copy into cores 0–7 of the spare cluster ends: the cores resume as aliases. -/
def State.clusterSubDone (s : State) (k x : Nat) : State :=
  let cs := s.coresBehind k
  let s : State := { s with spr := { s.spr with clusterSubs := s.spr.clusterSubs.filter (fun y => y.1 ≠ k) } }
  let s := forEach (cs.zip (List.range' (9 * x) 8)) s (fun p s => s.alias p.1 p.2)
  let s := s.moveDrover k x
  ((forEach cs s (fun c s => s.schedule c)).stageRecord []).pumpDrover

def execClusterSubstitutionDone (station : Nat) (s : State) : Host.Outcome State Fault Refusal :=
  onUnit s (clusterOk station)
    (match s.spr.clusterSubs.find? (fun y => y.1 == station) with
    | some (k, x) => if (s.coresBehind k).all (fun c => s.atBoundary c && s.cacheEmpty c) then s.clusterSubDone k x else s
    | none => s)

def execMoverSelfCheckFail (station : Nat) (s : State) : Host.Outcome State Fault Refusal :=
  onUnit s (clusterOk station) (if s.alive then (s.moverFail station).pumpDrover else s)

/-! ## Memory channels (R384, R391–R393) -/

def execMemoryCe (port : Nat) (s : State) : Host.Outcome State Fault Refusal :=
  onUnit s (memoryOk port) (if s.alive then s.ceReport port else s)

/-- A line that the rebuild loses: minor 127, and the record of R392. -/
def State.rebuildLost (s : State) (p sl : Nat) (mac : Bool) (line : Nat) : State :=
  let s := s.poundLine p line
  if mac then (s.bump .MIL_ST_COUNT_MAC_FAIL p).raise .alarm 0x0801 sl (100 + p) (word line)
  else (s.bump .MIL_ST_COUNT_POISON p).raise .error 0x0806 sl (100 + p) (word line)

/-- A cached node of port `p` is written at port `q`. -/
def State.moveNode (s : State) (q : Nat) (n : Node) : State := s.putNode q { n with dirty := true }

/-- Move leaf `leaf` of the rebuilding channel from `p` to `q`. A leaf of which `p` delivers no line is R393's. -/
def State.rebuildStep (s : State) (j p q leaf : Nat) (macLost poisonLost : List Nat) : State :=
  let sl := (cfgChanOwner s.regs j).tag
  let inLeaf := fun (o : MemOp) => o.line / 64 == leaf
  let s := forEach ((s.memSt p).buf.filter (fun b => b.line / 64 == leaf)) s (fun b s => s.flushBuf p b)
  let gone := (List.range' (64 * leaf) 64).all poisonLost.contains
  let s := forEach macLost s (fun l s => s.rebuildLost p sl true l)
  let s := if gone then
      (forEach poisonLost s (fun l s => s.poundLine p l)).raise .alarm 0x1003 sl 0x10 (word leaf)
    else forEach poisonLost s (fun l s => s.rebuildLost p sl false l)
  let m := s.memSt p
  let s := match m.node 1 leaf with
    | some n => s.moveNode q n
    | none => s.modMem q (fun x => { x with
        pounds := x.pounds ++ m.pounds.filter (fun l => l / 64 == leaf),
        zeroed := x.zeroed ++ m.zeroed.filter (fun l => l / 64 == leaf),
        scrubbed := if m.scrubbed.any (fun r => decide (r.1 ≤ leaf) && decide (leaf ≤ r.2)) then x.scrubbed ++ [(leaf, leaf)]
                    else x.scrubbed })
  let moved := m.waiting.filter inLeaf
  let s := s.modMem p (fun x => { x with waiting := x.waiting.filter (fun o => !inLeaf o) })
  let s := forEach moved s (fun o s => s.present q o)
  s.setFld .SPR_REBUILD_LEAF 0 (leaf + 1)

/-- After the last leaf: the upper nodes stand at the spare port, and the record set commits PORT (R391). -/
def State.rebuildEnd (s : State) (j p q : Nat) : State :=
  let s := forEach ((s.memSt p).nodes.filter (fun n => decide (2 ≤ n.level) &&
      !((s.memSt q).nodes.any (fun x => x.level == n.level && x.index == n.index)))) s (fun n s => s.moveNode q n)
  s.stageRecord [regEntry .CMP_MEMCH j (setBits 22 16 q (s.rd .CMP_MEMCH j))]

/-- One leaf of the rebuilding channel is moved; operations under way on it come first. -/
def execRebuildLeaf (macLost poisonLost : List Nat) (s : State) : Host.Outcome State Fault Refusal :=
  onUnit s ((macLost ++ poisonLost).all (fun l => decide (l < 2 ^ 26)))
    (let j := s.fld .SPR_REBUILD_LCHAN
    let p := s.fld .SPR_REBUILD_FROM
    let q := s.fld .SPR_REBUILD_TO
    let leaf := s.fld .SPR_REBUILD_LEAF
    if s.fld .SPR_REBUILD_BUSY = 1 ∧ leaf < 1048576 ∧ (macLost ++ poisonLost).all (fun l => l / 64 == leaf) ∧
        !(s.memSt p).slots.any (fun e => e.2.line / 64 == leaf) then
      let s := s.rebuildStep j p q leaf macLost poisonLost
      if leaf + 1 = 1048576 then s.rebuildEnd j p q else s
    else s)

/-! ## AES pipelines, Steward cores, SRAM rows (R384, R390) -/

/-- A pipeline has failed: pipeline 5 of a memory station, or pipeline 13 of a link direction, takes its place. -/
def State.pipeFail (s : State) (kind : StationKind) (k pipeline : Nat) : State :=
  let src := sourceOf kind k
  let link := decide (kind = .link)
  let spare := if link then 13 else 5
  let n := if link then pipeline % 14 else pipeline
  let same := fun (x : Nat × Nat) => x.1 == src && (!link || x.2 / 14 == pipeline / 14)
  let before := s.spr.badPipes.filter same
  if s.spr.badPipes.contains (src, pipeline) then s
  else
    let s : State := { s with spr := { s.spr with badPipes := s.spr.badPipes ++ [(src, pipeline)] } }
    if before.isEmpty then
      (if n = spare then s
      else
        let s := if link then s.setFld .LNK_PORT_STATUS_SPARE_FOR k n else s.setFld .MIL_ST_STATUS_SPARE_FOR k n
        (s.substituted (if link then 6 else 5) k spare).stageRecord [])
    else s.noSpare (if link then 6 else 5) k

def execAesPipelineFail (kind : StationKind) (k pipeline : Nat) (s : State) : Host.Outcome State Fault Refusal :=
  onUnit s (decide (kind ≠ .cluster) && stationOk kind k && decide (pipeline < (if kind = .memory then 6 else 28)))
    (if s.alive then s.pipeFail kind k pipeline else s)

/-- A Steward core has no heartbeat for 1 ms: the fifth core serves, once. -/
def State.stewardFail (s : State) (core : Nat) : State :=
  if s.spr.badStewards.contains core then s
  else
    let first := s.spr.badStewards.isEmpty
    let s : State := { s with spr := { s.spr with badStewards := s.spr.badStewards ++ [core] } }
    if first then (if core = 4 then s else (s.substituted 9 core 4).stageRecord []) else s.noSpare 9 core

def execStewardHeartbeatTimeout (core : Nat) (s : State) : Host.Outcome State Fault Refusal :=
  onUnit s (decide (core < 5)) (if s.alive then s.stewardFail core else s)

/-- A row of SRAM macro `sram` has failed: one of its four spare rows takes it. -/
def State.rowFail (s : State) (sram : Nat) : State :=
  let n := mapGet 0 s.spr.rows sram
  if n < 4 then
    let s : State := { s with spr := { s.spr with rows := mapPut s.spr.rows sram (n + 1) } }
    (s.substituted 8 sram n).stageRecord []
  else s.noSpare 8 sram

/-- More corrected symbols than ROW_CE_LIMIT in a row within 1 s: a spare row takes it (R384). -/
def State.rowsWorn (s : State) (worn : List (Nat × Nat)) : State :=
  forEach worn s (fun e s => if s.fld .SPR_CTL_ROW_CE_LIMIT < e.2 then s.rowFail e.1 else s)

/-- An OTP word outside the state area has failed: one of the 64 spare words takes its content (R384). -/
def State.otpWordFail (s : State) (w : Nat) : State :=
  let o := s.ledger.otp
  if o.remapped.contains w then s
  else if o.remapped.length < 64 then
    let s : State := { s with ledger := { s.ledger with otp := { o with remapped := o.remapped ++ [w] } } }
    (s.substituted 10 w o.remapped.length).stageRecord []
  else s.noSpare 10 w

/-! ## The patrol (R173, R206, R348, R394, R395) -/

/-- An uncorrectable word in a cached counter node. A clean one is dropped and fetched again from DRAM (R173): no other operation of
the station starts before it is back. A dirty one is lost with its subtree. -/
def State.nodeLost (s : State) (port level index : Nat) : State :=
  let s := s.bump .CTR_ST_COUNT_RS_UNCORRECTABLE port
  match (s.memSt port).node level index with
  | none => s
  | some n =>
    let self := fun (x : Node) => x.level == level && x.index == index
    let below := fun (x : Node) => decide (x.level ≤ level) && x.index / 64 ^ (level - x.level) == index
    if n.dirty then
      ((s.pound port (index * 64 ^ level) level).raise .alarm 0x0902 0 (100 + port) (word (index + level * 2 ^ 32))).modMem port
        (fun m => { m with nodes := m.nodes.filter (fun x => !below x) })
    else
      let again : List Patch := if (s.memSt port).parentAt level index then [⟨port, .refetch level index, [], [], false⟩] else []
      (s.modMem port (fun m => { m with nodes := m.nodes.filter (fun x => !self x), patches := m.patches ++ again })).beginPatch port

/-- More than 16 key slots are BAD: fewer than 256 healthy ones remain (R346). -/
def State.slotsLeft (s : State) (n : Nat) : State :=
  if 16 < (s.well.slots.filter (fun x => decide (x.2.state = .bad))).length ∧ bitOf 7 (s.rd .SPR_STATUS 0) = false then
    s.noSpare 7 n
  else s

/-- An SRAM macro: SPR_LAST numbers failed units in 12 bits. -/
def sramOk (sram : Nat) : Bool := decide (sram < 4096)

/-- The target exists. -/
def patrolOk : PatrolTarget → Bool
  | .keySlot n => decide (n < 272)
  | .counterNode p l i => memoryOk p && decide (1 ≤ l ∧ l ≤ 5) && decide (i < 2 ^ 20)
  | .tagLine p t => memoryOk p && decide (t < 2 ^ 22)
  | .journalStore k => clusterOk k
  | .otherRow sram row => sramOk sram && u32Ok row
  | .otpWord w => decide (w < 4096)

/-- The patrol meets an uncorrectable word. Rows of the stations' macros are numbered by source index. -/
def State.patrolLost (s : State) (t : PatrolTarget) : State :=
  match t with
  | .keySlot n => (s.badSlot n).slotsLeft n
  | .counterNode p l i => (s.nodeLost p l i).rowFail (100 + p)
  | .tagLine p t =>
    ((s.modMem p (fun m => { m with tagCache := m.tagCache.filter (fun e => e.1 ≠ t) })).bump
      .CTR_ST_COUNT_RS_UNCORRECTABLE p).rowFail (100 + p)
  | .journalStore k => s.moverFail k
  | .otherRow sram _ => s.rowFail sram
  | .otpWord w => s.otpWordFail w

/-- The symbols corrected in one period: all of them in the Granary's count, each memory station's in its own (R173, R395). -/
def State.symbolsCorrected (s : State) (corrected : Nat) (mills : List (Nat × Nat)) : State :=
  forEach mills (s.bump .SPR_RS_CORRECTED 0 corrected) (fun e s => s.bump .CTR_ST_COUNT_RS_CORRECTED e.1 e.2)

def execPatrol (corrected : Nat) (mills worn : List (Nat × Nat)) (uncorrectable : List PatrolTarget) (s : State) :
    Host.Outcome State Fault Refusal :=
  onUnit s (uncorrectable.all patrolOk && mills.all (fun e => memoryOk e.1) && worn.all (fun e => sramOk e.1))
    (if s.alive then
      let s := ((s.symbolsCorrected corrected mills).rowsWorn worn).bump .SPR_RS_UNCORRECTABLE 0 uncorrectable.length
      (forEach uncorrectable s (fun t s => s.patrolLost t)).pumpDrover
    else s)

/-! ## Monitors (R396–R400) -/

/-- A droop in a domain, or PM_DROOP_WARN: reads and writes under way in the memory stations of the domain carry marked
blocks. -/
def execDroop (domain : Option Nat) (monitor : Nat) (s : State) : Host.Outcome State Fault Refusal :=
  onUnit s ((match domain with
      | some n => domainOk n
      | none => true) && decide (monitor < 32))
    (if s.alive then
      let ds := match domain with
        | some n => [n]
        | none => List.range 24
      let s : State := { s with mon := { s.mon with marked := (s.mon.marked ++ ds).eraseDups } }
      let s := forEach ((List.range 72).filter (fun p => ds.contains (domainOf .memory p) && !(s.memSt p).slots.isEmpty)) s
        (fun p s => s.modMem p (fun m => { m with slots := m.slots.map (fun e => (e.1, { e.2 with marked := true })) }))
      let s := if domain.isSome then s.bump .MON_VOLT_DROOPS monitor else s
      s.raise .log 0x1103 0 0x11 (word monitor)
    else s)

/-- An in-band interrupt on the I3C bus (R428), once the target has an address. -/
def State.inBand (s : State) (code : Nat) : State := if s.mon.i3cAddr.isSome then s.emit (.i3cIbi code) else s

/-- Key state is zeroed (R356): every slot but BAD ones is EMPTY, and the working register, every sink and the private
halves held for an offer are zero. -/
def State.zeroKeys (s : State) : State :=
  let w := s.well
  let s : State := { s with
    well := { w with slots := w.slots.filter (fun x => decide (x.2.state = .bad)), working := 0, mill := [], shadows := [] },
    ten := { s.ten with session := { s.ten.session with offer := none } },
    links := s.links.map (fun e => (e.1, { e.2 with keys := [] })),
    mems := s.mems.map (fun e => (e.1, { e.2 with treeKey := none })) }
  s.clearArray .MIL_KEYSTATE 0 32

/-- A supply below TAMPER_MV, or a temperature below −40 °C (R399). -/
def execTamper (monitor : Nat) (millivolts : Nat) (cold : Bool) (s : State) : Host.Outcome State Fault Refusal :=
  onUnit s (decide (monitor < 48) && u16Ok millivolts)
    (if s.alive ∧ (cold ∨ millivolts < s.fld .MON_CTL_TAMPER_MV) then
      let s := (s.alarm 0x1104 0 (word monitor)).inBand 0x1104
      if s.fld .MON_CTL_ZEROIZE_EN = 1 then
        ({ s with mon := { s.mon with zeroize := true } } : State).zeroKeys
      else s
    else s)

/-- One temperature reading, in 1/8 °C. -/
def State.takeTemp (s : State) (i : Nat) (t : BitVec 16) : State :=
  let old := BitVec.ofNat 16 (s.fld .MON_TEMP_MAX i)
  let s := s.setFld .MON_TEMP_CURRENT i t.toNat
  let s := if old.toInt < t.toInt then s.setFld .MON_TEMP_MAX i t.toNat else s
  if (8 * s.fld .MON_CTL_WARN_C : Nat) < t.toInt then s.err 0x1101 0 (word i) else s

/-- One voltage reading, in mV. -/
def State.takeVolt (s : State) (i v : Nat) : State :=
  let s := s.setFld .MON_VOLT_CURRENT_MV i v
  if v < s.fld .MON_VOLT_MIN_MV i then s.setFld .MON_VOLT_MIN_MV i v else s

/-- A sample has all readings. -/
def sampleOk (m : MonitorSample) : Bool :=
  m.temps.length == 48 && m.volts.length == 32 && m.counts.length == 16 && m.volts.all u16Ok && m.counts.all u32Ok

/-- The next multiple of a period. -/
def State.toMultiple (s : State) (ns : Nat) : State := s.advanceTo ((s.clock.gtb / ns + 1) * ns)

def execTempSample (m : MonitorSample) (s : State) : Host.Outcome State Fault Refusal :=
  onUnit s (sampleOk m)
    (if s.alive then
      let s := s.toMultiple 10000
      let s := forEach (List.range 48) s (fun i s => s.takeTemp i (m.temps.getD i 0))
      let s := forEach (List.range 32) s (fun i s => s.takeVolt i (m.volts.getD i 0))
      forEach (List.range 16) s (fun i s => s.setFld .MON_PROC_COUNT i (m.counts.getD i 0))
    else s)

def execTempTrip (sensor : Nat) (s : State) : Host.Outcome State Fault Refusal :=
  onUnit s (decide (sensor < 48)) (if s.alive then (s.alarm 0x1102 0 (word sensor)).inBand 0x1102 else s)

/-! ## The floor, the audit, and the reports (R92, R400–R403) -/

/-- A PM_UPD pulse: floor and cap. A fall of the floor makes an audit due. -/
def execPmUpd (floorMhz capW : Nat) (s : State) : Host.Outcome State Fault Refusal :=
  onUnit s (u16Ok floorMhz && u16Ok capW)
    (if s.alive then
      let s : State := if floorMhz < s.fld .MON_CLOCK_FLOOR_MHZ then { s with mon := { s.mon with audit := true } } else s
      (s.setFld .MON_CLOCK_FLOOR_MHZ 0 floorMhz).setFld .MON_CLOCK_CAP_W 0 capW
    else s)

/-- The audit writes ADM_W of every valid contract and ADM_FLOOR, and TEN rewrites the views (R401). -/
def State.runAudit (s : State) : State :=
  let f := s.fld .MON_CLOCK_FLOOR_MHZ
  let m := s.regs
  let cs := (List.range 256).filter (ctValid m)
  let s := forEach cs s (fun c s => s.wr .ADM_W c (auditWord m f c))
  let s := s.setFld .ADM_FLOOR_FLOOR_MHZ 0 f
  let s := if cs.any (fun c => !bitOf 63 (auditWord m f c)) then s.setCause 0x04 0 else s
  let s := forEach (((cs.map (ctSlice m)).eraseDups).filter (fun sl => tenantOk sl && cfgEnabled m sl)) s (fun sl s => s.rewriteView sl)
  let s : State := { s with mon := { s.mon with audit := false } }
  s.raise .error 0x1105 0 0x11 (word f)

def execAudit (s : State) : Host.Outcome State Fault Refusal := onUnit s true (if s.alive ∧ s.mon.audit then s.runAudit else s)

def execClockMeasurement (mhz : Nat) (s : State) : Host.Outcome State Fault Refusal :=
  onUnit s (u16Ok mhz)
    (if s.alive then
      let s := (s.toMultiple 1000).setFld .MON_CLOCK_FCLK_MHZ 0 mhz
      if mhz < s.fld .MON_CLOCK_FLOOR_MHZ then s.alarm 0x1106 0 (word mhz) else s
    else s)

/-- The slack of a contract: (D − W) × 256 / D, from 0 to 255. -/
def State.contractSlack (s : State) (c : Nat) : Nat :=
  let d := ctD s.regs c
  let w := getBits 31 0 (s.rd .ADM_W c)
  if d = 0 then 0 else min 255 ((d - w) * 256 / d)

/-- One slice's hint (R402). -/
def State.slackOf (s : State) (sl : Nat) : State :=
  let slack := (cfgContractsOf s.regs sl).foldl (fun m c => min m (s.contractSlack c)) 255
  let behind := s.sched.residents.any (fun e => e.2.slice == sl && s.scHasContract e.2.ctx &&
    (match e.2.behindSince with
    | some t => decide (t + 1000000 ≤ s.clock.gtb)
    | none => false))
  let s := (s.setFld .MON_SLACK_SLACK sl slack).setFld .MON_SLACK_BEHIND sl (bit01 behind)
  s.emit (.pmHint sl slack behind)

/-- Tenant slices that are enabled. -/
def State.enabledTenants (s : State) : List Nat := (List.range' 1 128).filter (cfgEnabled s.regs)

def execSlackHint (s : State) : Host.Outcome State Fault Refusal :=
  onUnit s true
    (if s.alive then
      let s := s.toMultiple 100000
      forEach s.enabledTenants s (fun sl s => s.slackOf sl)
    else s)

/-- Each slice's total goes out on PM_ every 1 ms (R403). -/
def execSliceEnergyReport (s : State) : Host.Outcome State Fault Refusal :=
  onUnit s true
    (if s.alive then
      let s := s.toMultiple 1000000
      forEach (0 :: s.enabledTenants) s (fun sl s => s.emit (.pmEnergy sl (mapGet 0 s.mon.sliceUj sl)))
    else s)

end Sys2Proof.Machine
end

