-- ==== Sys2Proof/Machine/Power.lean ====
section
/-! DEFINITION. Power domains (R24–R30): requests and their refusal, switching on and off, and what a domain holds when it
comes on (R142, R155, R355, R415). -/

namespace Sys2Proof.Machine

open Sys2Proof

/-! ## The random source (R345) and the derived keys (R344) -/

/-- Draw 32 bytes. -/
def State.draw (s : State) : Key × State :=
  (Config.random s.well.draws, { s with well := { s.well with draws := s.well.draws + 1, requests := s.well.requests + 1 } })

/-- KT(p). -/
def State.treeKeyFor (s : State) (p : Nat) : Option Key :=
  s.well.cdi.map (fun cdi => bytesKey (hkdf cdi (keyBytes s.well.bootNonce) (ascii "KUMEN-TREE" ++ [BitVec.ofNat 8 p]) 32))

/-! ## Switching on -/

/-- Set elements `k` of registers to their reset values. -/
def State.resetStation (s : State) (rs : List Reg) (k : Nat) : State := forEach rs s (fun r s => s.wr r k (resetWord r k))

/-- Memory station `p` comes on: its key, its root and an upper node without minors. A source that has stopped draws no root:
its value is free. -/
def State.initMemory (s : State) (p : Nat) : State :=
  let key := s.treeKeyFor p
  let (root, s) :=
    if s.well.entropyOk then
      let (k, s) := s.draw
      (k.toNat % 2 ^ 64, s)
    else
      let (i, s) := s.takeFresh
      ((Config.freeWord i).toNat, s)
  let s := s.resetStation [.MIL_ST_STATUS, .MIL_ST_COUNT, .MIL_ST_LAST_FAIL, .MIL_ST_SKIPPED, .CTR_ST_STATUS, .CTR_ST_COUNT] p
  s.setMem p { MemStation.init with root := root, upper := List.replicate 64 0, treeKey := key, epoch := s.epoch, prevEpoch := s.epoch }

/-- One station comes on. A cluster station's epoch is its register's reset value, 0; a memory or link station, whose epoch no
register shows, takes the one in force (DESIGN CHOICE, log 87). -/
def State.initStation (s : State) (kind : StationKind) (k : Nat) : State :=
  match kind with
  | .cluster =>
    (s.resetStation [.HDG_ST_STATUS, .HDG_COUNT, .HDG_LAST_DENY, .HDG_LAST_DENY_INFO, .DRV_ST_COUNT] k).setCluster k Cluster.init
  | .memory => s.initMemory k
  | .link => (s.resetStation [.LNK_PORT_CFG, .LNK_PORT_STATUS, .LNK_LANE, .LNK_COUNT] k).setLink k
    { LinkStation.init with epoch := s.epoch, prevEpoch := s.epoch }

/-- The record of latch `a` (R412). -/
def State.latchRecord (s : State) (a : Nat) : Rec :=
  ⟨.alarm, s.fld .TRC_ALARM_CODES_FIRST_CODE a, false, s.fld .TRC_ALARM_CODES_SLICE a, a, (s.rd .TRC_ALARM_FIRST_GTB a).toNat,
    s.rd .TRC_ALARM_DETAIL a, s.fld .TRC_ALARM_CODES_COUNT a, (s.rd .TRC_ALARM_LAST_GTB a).toNat, false⟩

/-- The Crier comes on: its queues are empty but for a record of each latch that an ALARM reached while it was off, and events
counted meanwhile become one record (R412, R415). -/
def State.crierOn (s : State) : State :=
  let c := s.crier
  let n := s.fld .TRC_OFF_DROPS_COUNT
  let r : Rec := ⟨.error, 0x1302, true, 0, 0xFF, s.power.pd23OffAt, word (s.fld .TRC_OFF_DROPS_ERRORS), n, s.clock.gtb, false⟩
  let rung := (List.range 188).filter (fun a => s.fld .TRC_ALARM_CODES_PENDING a == 1 &&
    decide (s.power.pd23OffAt ≤ (s.rd .TRC_ALARM_LAST_GTB a).toNat))
  let s : State := { s with crier := { c with alarmQ := rung.map s.latchRecord, errorQ := if n = 0 then [] else [r],
                                              logQ := [], traceQ := [], gaps := [], buckets := [] } }
  s.wr .TRC_OFF_DROPS 0 0

/-- Domain `n` is on and initialised. -/
def State.domainOn (s : State) (n : Nat) : State :=
  let s := forEach (stationsOf n) s (fun x s => s.initStation x.1 x.2)
  let s : State := if n = 22 then (s.planStoreBack).setCluster 68 { Cluster.init with epoch := s.epoch, prevEpoch := s.epoch } else s
  let s := s.wr .GLB_PD_STATUS 0 (s.rd .GLB_PD_STATUS 0 ||| word (1 <<< n))
  let s := if n = 23 then s.crierOn else s
  s.setCause 0x15 1

/-! ## Switching off -/

/-- Domain `n` is off: its stations hold nothing, and their copies of the GTB are no longer locked; commands in the
Drover planner fail (R186), and what its store and its requests held is gone (R30). -/
def State.domainOff (s : State) (n : Nat) : State :=
  let st := stationsOf n
  let s : State := { s with
    clusters := s.clusters.filter (fun e => !st.contains (.cluster, e.1)),
    mems := s.mems.filter (fun e => !st.contains (.memory, e.1)),
    links := s.links.filter (fun e => !st.contains (.link, e.1)),
    clock := { s.clock with locked := s.clock.locked.filter (fun x => !st.any (fun y => sourceOf y.1 y.2 == x)),
                            skews := s.clock.skews.filter (fun x => !st.any (fun y => sourceOf y.1 y.2 == x.1)) },
    power := if n = 23 then { s.power with pd23OffAt := s.clock.gtb } else s.power }
  let s : State := if n = 22 then
      let s := (forEach s.drv.planQ s (fun q s => s.failDrover q 0x0A09 0 0xFFFF 0xFFFF)).planStoreLost
      { s with clusters := s.clusters.filter (fun e => e.1 ≠ 68) }
    else s
  s.wr .GLB_PD_STATUS 0 (s.rd .GLB_PD_STATUS 0 &&& ~~~ word (1 <<< n))

/-! ## Requests (R26, R30) -/

/-- GLB_PD_REQ and GLB_PD_STATUS bits of domain `n`. -/
def State.pdReq (s : State) (n : Nat) : Bool := bitOf n (s.rd .GLB_PD_REQ 0)
def State.setPdReq (s : State) (n : Nat) (b : Bool) : State := s.wr .GLB_PD_REQ 0 (setBits n n (bit01 b) (s.rd .GLB_PD_REQ 0))
def State.setBusy (s : State) (n : Nat) (b : Bool) : State :=
  s.wr .GLB_PD_STATUS 0 (setBits (n + 16) (n + 16) (bit01 b) (s.rd .GLB_PD_STATUS 0))

/-- The configurations a station may be bound in: the committed one, and it with the sets that have passed CHECK, in commit
order. -/
def State.futureRegs (s : State) : List (List (Nat × Word)) :=
  (List.range (s.pendingSets.length + 1)).map (fun i => ((s.pendingSets.take i).foldl (fun c x => c.apply x.entries) s.cfg).regs)

/-- Healthy spare clusters and memory ports of a powered domain (R20). -/
def State.spareClustersIn (s : State) (n : Nat) : List Nat :=
  s.ledger.otp.spareClusters.filter (fun k => domainOf .cluster k == n && s.stationOn .cluster k && s.clusterSpare k)
def State.sparePortsIn (s : State) (n : Nat) : List Nat :=
  s.ledger.otp.sparePorts.filter (fun p => domainOf .memory p == n && s.stationOn .memory p && s.portSpare s.regs p)

/-- R26 refuses to switch domain `n` off. -/
def State.offRefused (s : State) (n : Nat) : Bool :=
  s.futureRegs.any (fun m => (stationsOf n).any (fun x => cfgStationBound m x.1 x.2)) ||
  (n == 22 && (List.range 256).any (fun c => ctValid s.regs c && ctRhoDrv s.regs c != 0)) ||
  (n == 23 && !s.crier.alarmQ.isEmpty) ||
  n == 18 || n == 19 ||
  (!(s.spareClustersIn n).isEmpty && !(List.range 24).any (fun d => d != n && !(s.spareClustersIn d).isEmpty)) ||
  (!(s.sparePortsIn n).isEmpty && !(List.range 24).any (fun d => d != n && !(s.sparePortsIn d).isEmpty))

/-- Domain `n` begins to switch. -/
def State.goOn (s : State) (n : Nat) : State :=
  ({ s with power := { s.power with goingOn := s.power.goingOn ++ [n] } } : State).setBusy n true
def State.goOff (s : State) (n : Nat) : State :=
  ({ s with power := { s.power with goingOff := s.power.goingOff ++ [n] } } : State).setBusy n true

/-- Requests take effect from STEP 8 (R434). -/
def State.switches (s : State) : Bool := s.step == 9 || s.step == 10

/-- Set PD_ON bit `n`: a domain that is off begins to come on; one that is going off comes on after that. -/
def State.requestOn (s : State) (n : Nat) : State :=
  let s := s.setPdReq n true
  if s.switches && !s.pdOn n && !s.power.goingOn.contains n && !s.power.goingOff.contains n then s.goOn n else s

/-- Clear PD_ON bit `n`, or refuse it. -/
def State.requestOff (s : State) (n : Nat) : State :=
  if s.pdReq n = false then s
  else if n = 18 ∨ n = 19 ∨ (s.switches ∧ s.offRefused n) then
    ((s.setPdReq n true).wr .GLB_PD_STATUS 0 (s.rd .GLB_PD_STATUS 0 ||| word (1 <<< (n + 32)))).err 0x1507 0 (word n)
  else
    let s := s.setPdReq n false
    if s.switches && s.pdOn n && !s.power.goingOn.contains n && !s.power.goingOff.contains n then s.goOff n else s

/-- The domains that PD_ON bits name. -/
def pdBitOk (n : Nat) : Bool := decide (8 ≤ n) && decide (n ≤ 23)

def execPdOnRequest (path : Path) (n : Nat) (s : State) : Host.Outcome State Fault Refusal :=
  onUnit s (pathOk path && pdBitOk n) (s.gated path 0x40 (s.requestOn n))

def execPdOffRequest (path : Path) (n : Nat) (s : State) : Host.Outcome State Fault Refusal :=
  onUnit s (pathOk path && pdBitOk n) (s.gated path 0x40 (s.requestOff n))

/-- A change set whose staged state was delivered before domain `n` began to switch on awaits its T: the domain sets its ON
bit only after that (R85). -/
def State.onWaits (s : State) (n : Nat) : Bool :=
  s.moot.slots.any (fun x => decide (x.state = .passed) && !x.domains.contains n)

/-- A domain is on. A request to switch it off that came meanwhile is judged now (R26). -/
def execPdOn (n : Nat) (s : State) : Host.Outcome State Fault Refusal :=
  onUnit s (domainOk n)
    (if s.alive ∧ s.power.goingOn.contains n ∧ s.onWaits n = false then
      let s : State := { s with power := { s.power with goingOn := s.power.goingOn.filter (· ≠ n) } }
      let s := (s.setBusy n false).domainOn n
      if s.pdReq n then s else (s.setPdReq n true).requestOff n
    else s)

/-- A domain is off. One whose bit has been set meanwhile comes on again. -/
def execPdOffComplete (n : Nat) (s : State) : Host.Outcome State Fault Refusal :=
  onUnit s (domainOk n)
    (if s.alive ∧ s.power.goingOff.contains n then
      let s : State := { s with power := { s.power with goingOff := s.power.goingOff.filter (· ≠ n) } }
      let s := (s.setBusy n false).domainOff n
      if s.pdReq n then s.goOn n else s
    else s)

/-- The supply of every domain but PD0 is removed: the block does nothing until RST_POR_N. -/
def execSupplyRemoved (s : State) : Host.Outcome State Fault Refusal :=
  onBlock s true { s with boot := { s.boot with supplyOff := true } }

end Sys2Proof.Machine
end

