-- ==== Sys2Proof/Machine/Boot.lean ====
section
/-! DEFINITION. Resets and the start-up sequence (R15, R16, R431–R443), with the recovery of the root secret (R339–R341) and
the derivation of the identity, the measurements and the keys (R343, R344). -/

namespace Sys2Proof.Machine

open Sys2Proof

/-! ## What the resets leave -/

/-- Everything outside the register file and PD0 after a reset: empty. The random source's draws so far, the commands that
wait and the messages sent are no fields of the block. -/
def State.cleared (s : State) (regs : List (Nat × Word)) (ledger : Ledger) (well : Well) (boot : Boot) : State :=
  { State.reset with pending := s.pending, out := s.out, fresh := s.fresh, regs := regs, ledger := ledger,
                     well := { well with draws := s.well.draws }, boot := boot,
                     clock := { s.clock with locked := [], skews := [] },
                     mon := { Tally.init with zeroize := s.mon.zeroize },
                     power := { Power.init with pd23OffAt := s.clock.gtb } }

/-- RST_POR_N asserted: every field at its reset value; OTP keeps its bits. -/
def State.porClear (s : State) : State :=
  let t := s.cleared [] { Ledger.init with otp := s.ledger.otp } Well.init Boot.init
  { t with clock := Clock.init, mon := Tally.init, power := Power.init }

/-- The measurements (R343). -/
def Well.kept (w : Well) : Well :=
  { Well.init with measRom := w.measRom, measOpgar := w.measOpgar, measPolicy := w.measPolicy }

/-- RST_SYS_N asserted: SYS and EPOCH fields at their reset values, every domain but PD0 reinitialised (R16, R431). -/
def State.sysClear (s : State) : State :=
  s.cleared (resetRegs .sys s.regs) { s.ledger with challenge := none, reopened := false } s.well.kept
    { s.boot with goKept := false, fetching := false }

/-- Registers that PD0 holds: the Ledger's, the Bell's, the GTB master's and the alarm latches (R23, R33, R412). -/
def inPd0 (off : Nat) : Bool :=
  let b := off / 0x80000
  b == 0xF || b == 0x12 || off == regAddr .STG_GTB 0 || off == regAddr .STG_GTB_STATUS 0 ||
  (decide (regAddr .TRC_ALARM_CODES 0 ≤ off) && decide (off < regAddr .TRC_ALARM_CODES 188))

/-- The reset that ends a life-cycle transition: as RST_POR_N, for every domain except PD0 (R376). -/
def State.lcClear (s : State) : State :=
  s.cleared (s.regs.filter (fun e => inPd0 e.1)) { s.ledger with challenge := none, reopened := false, run := none } Well.init
    ⟨false, false, false, false, false⟩

/-! ## Steps -/

/-- STEP changes; ELAPSED_US takes the µs since the release (R433). -/
def State.toStep (s : State) (n : Nat) : State :=
  (s.setFld .GLB_BOOT_STEP 0 n).setFld .GLB_BOOT_ELAPSED_US 0 (saturate 24 (s.clock.gtb / 1000))

/-- The sequence stops with a code (R435). -/
def State.failBoot (s : State) (code : Nat) : State := (s.setFld .GLB_BOOT_CODE 0 code).toStep 15

/-! ## The PUF (R339–R341) -/

/-- The blocks a reading recovers; none where one fails to decode. -/
def recoverBlocks : List (BitVec 255) → List (BitVec 255) → Option (List (BitVec 255))
  | [], _ => some []
  | h :: hs, rs =>
    match Config.bchDecode (rs.headD 0 ^^^ h), recoverBlocks hs (rs.drop 1) with
    | some c, some t => some ((c ^^^ h) :: t)
    | _, _ => none

/-- The response's 2,040 bytes, bit 0 of block 0 first. -/
def responseBytes (bs : List (BitVec 255)) : List Byte :=
  leBytes 2040 (bs.foldr (fun b n => b.toNat + n * 2 ^ 255) 0)

/-- SEED of a response, and the check value of a SEED. -/
def seedOf (bs : List (BitVec 255)) : Key := bytesKey ((sha384 (ascii "KUMEN-PUF" ++ responseBytes bs)).take 32)
def seedCheck (k : Key) : List Byte := (sha384 (ascii "KUMEN-PUF-CHECK" ++ keyBytes k)).take 32

/-- One attempt. -/
def pufAttempt (o : Otp) (r : PufReading) : Option Key :=
  if o.helper.isEmpty then none
  else match recoverBlocks o.helper r with
    | some bs => if seedCheck (seedOf bs) = o.check then some (seedOf bs) else none
    | none => none

/-- Up to four attempts: the number used, and SEED. -/
def pufTries (o : Otp) : Nat → List PufReading → Nat × Option Key
  | n, [] => (n, none)
  | n, r :: t =>
    match pufAttempt o r with
    | some k => (n + 1, some k)
    | none => pufTries o (n + 1) t

/-- The part is unenrolled: MANUF with blank helper data. -/
def Ledger.unenrolled (l : Ledger) : Bool := l.lc == 4 && l.otp.helper.isEmpty

/-! ## Identity (R344, R358) -/

/-- DID-EC's scalar bytes and DID-ML's ξ: 48 and 32 bytes of HKDF from SEED. -/
def didEc (seed : Key) : List Byte := hkdf (keyBytes seed) (List.replicate 48 0) (ascii "KUMEN-DID-EC") 48
def didMl (seed : Key) : List Byte := hkdf (keyBytes seed) (List.replicate 48 0) (ascii "KUMEN-DID-ML") 32

/-- The order of the group of P-384 (FIPS 186). -/
def p384Order : Nat :=
  0xFFFFFFFFFFFFFFFFFFFFFFFFFFFFFFFFFFFFFFFFFFFFFFFFC7634D81F4372DDF581A0DB248B0A77AECEC196ACCC52973

/-- The identity scalar d = (value mod (n − 1)) + 1. -/
def idScalar (seed : Key) : List Byte := beBytes 48 (beNat (didEc seed) % (p384Order - 1) + 1)

/-- PK_EC ‖ PK_ML. -/
def identityKeys (seed : Key) : List Byte := Config.p384Public (idScalar seed) ++ Config.mldsaPublic (didMl seed)

/-! ## The sequence -/

/-- STEP 6 begins: both images are read (R436), each shown as one read on HP_ (DESIGN CHOICE, log 92). -/
def State.startFetch (s : State) : State :=
  let pasid := some (s.fld .STW_IMG_CTL_PASID)
  let s := s.setFld .STW_IMG_CTL_GO 0 1
  let s := s.hostRead .image (s.rd .STW_IMG_ADDR 0).toNat (((s.rd .STW_IMG_LEN 0).toNat + 3) / 4) pasid
  let s := s.hostRead .image (s.rd .STW_IMG_ADDR 1).toNat (((s.rd .STW_IMG_LEN 1).toNat + 3) / 4) pasid
  ({ s with boot := { s.boot with fetching := true, goKept := false } } : State).toStep 6

/-- STEP 5, or on to STEP 6 where a GO waits. -/
def State.waitImage (s : State) : State := if s.boot.goKept then s.startFetch else s.toStep 5

/-- STEP 4: the random source, BOOT_NONCE, the identity and M_ROM. -/
def State.bootRom (s : State) (entropyOk : Bool) : State :=
  let s : State := { s with well := { s.well with measRom := fit 48 Config.measRom } }
  if entropyOk then
    let s : State := { s with well := { s.well with requests := 0, entropyOk := true } }
    let (nonce, s) := s.draw
    let id := match s.well.seed with
      | some k => sha384 (identityKeys k)
      | none => zeroDigest
    ({ s with well := { s.well with bootNonce := nonce, deviceId := id } } : State).waitImage
  else
    (({ s with well := { s.well with entropyOk := false } } : State).alarm 0x0E0A).failBoot 0x0E0A

/-- STEP 3. -/
def State.bootPuf (s : State) (x : StartUp) : State :=
  if s.ledger.unenrolled then (s.setFld .KEY_STATUS_UNENROLLED 0 1).bootRom x.entropyOk
  else
    let (n, seed) := pufTries s.ledger.otp 0 x.puf
    let s := s.setFld .KEY_STATUS_PUF_TRIES 0 n
    match seed with
    | some k =>
      (({ s with well := { s.well with seed := some k } } : State).setFld .KEY_STATUS_SEED_OK 0 1).bootRom x.entropyOk
    | none => (s.alarm 0x0E01).failBoot 0x0E01

/-- The domains software cannot switch, beside PD0 (R25). -/
def fixedDomains : List Nat := [1, 2, 3, 4, 5, 6, 7, 18, 19]

/-- Set ON bits. -/
def State.setOn (s : State) (ds : List Nat) : State :=
  (s.wr .GLB_PD_STATUS 0 (ds.foldl (fun w n => w ||| word (1 <<< n)) (s.rd .GLB_PD_STATUS 0))).setCause 0x15 1

/-- STEP 2: PD0–PD7, PD18 and PD19 are on. -/
def State.bootDomains (s : State) (x : StartUp) : State :=
  let ds := fixedDomains
  let up := match x.dead with
    | some d => ds.filter (· < d)
    | none => ds
  let s := s.setOn up
  if up = ds then s.bootPuf x else (s.alarm 0x1506).failBoot 0x1506

/-- LC_HALT: the host interface and every register stay readable. -/
def State.lcHalt (s : State) : State :=
  let s := s.setOn fixedDomains
  if s.ledger.lc = 0 then
    (({ s with mon := { s.mon with zeroize := true } } : State).alarm 0x0F01).setFld .GLB_BOOT_CODE 0 0x0F01 |>.toStep 14
  else s.toStep 14

/-- From STEP 2 on, in a state with functional operation; LC_HALT in the others. -/
def State.bootOn (s : State) (x : StartUp) : State := if s.functional then s.bootDomains x else s.lcHalt

/-- STEP 0 and 1: the scan, the resumption of an unfinished transition, and the scan after it. -/
def State.bootScan (s : State) (x : StartUp) : State :=
  match scanOtp s.ledger.otp with
  | .settled lc => ({ s with ledger := { s.ledger with lc := lc } } : State).bootOn x
  | .resume g lc =>
    let o := s.ledger.otp.resumed g lc
    let lc' := match scanOtp o with
      | .settled y => y
      | .resume _ _ => 0
    let s : State := { s with ledger := { s.ledger with otp := o, lc := lc', resumed := true } }
    (s.raise .log 0x0F09 0 0x0F).bootOn x

/-- The operands of a start are as many as its attempts need. -/
def startUpOk (x : StartUp) : Bool :=
  x.puf.length == 4 && x.puf.all (fun r => r.length == 64) &&
  (match x.dead with
  | some d => fixedDomains.contains d
  | none => true)

/-! ## Commands -/

/-- RST_POR_N is asserted. -/
def execPorAssert (s : State) : Host.Outcome State Fault Refusal := onBlock s true s.porClear

/-- RST_POR_N is released: the GTB starts at 0. -/
def execPorRelease (x : StartUp) (s : State) : Host.Outcome State Fault Refusal :=
  onBlock s (startUpOk x)
    (if s.boot.porHeld then
      let s := s.porClear
      let s : State := { s with boot := { s.boot with porHeld := false }, clock := { s.clock with running := true } }
      (s.advance x.elapsedNs).bootScan x
    else s)

/-- RST_SYS_N is asserted and released: the sequence starts at STEP 2 (R441). The stops that only POR leaves stay (R435). -/
def execSysReset (x : StartUp) (s : State) : Host.Outcome State Fault Refusal :=
  onUnit s (startUpOk x)
    (if s.alive then
      let code := s.fld .GLB_BOOT_CODE
      let stuck := decide (s.step = 15) && decide (code ≠ 0x1506)
      let s := s.sysClear.advance x.elapsedNs
      if stuck then
        (s.setOn fixedDomains).failBoot code
      else s.bootOn x
    else s)

/-- A GO with a PASID: kept before STEP 5, the fetch's start at STEP 5, ignored in STEP 6. -/
def State.goWrite (s : State) (pasid : Nat) : State :=
  if s.step = 6 then s
  else
    let s := s.setFld .STW_IMG_CTL_PASID 0 pasid
    if s.step = 5 then s.startFetch
    else if s.step < 5 then
      ({ s with boot := { s.boot with goKept := true } } : State).setFld .STW_IMG_CTL_GO 0 1
    else s

def execGo (path : Path) (pasid : Nat) (s : State) : Host.Outcome State Fault Refusal :=
  onUnit s (pathOk path && decide (pasid < 2 ^ 20)) (s.gated path 0xA80020 (s.goWrite pasid))

/-! ## Firmware images (R437) -/

/-- Little-endian field of an image. -/
def imgField (b : ImageBytes) (lo n : Nat) : Nat := leNat (slice b lo n)

/-- The format holds: MAGIC, VERSION, reserved bytes and lengths. -/
def imageFormatOk (magic : List Byte) (maxBody len : Nat) (b : ImageBytes) : Bool :=
  decide (slice b 0 4 = magic) && imgField b 4 2 == 1 && imgField b 6 2 == 0 && imgField b 16 48 == 0 &&
  decide (imgField b 8 4 ≤ maxBody) && len == 64 + imgField b 8 4 + 4723 && b.length == len

/-- Both signatures hold under Lasaholt's firmware keys. -/
def imageSigned (b : ImageBytes) : Bool :=
  let n := 64 + imgField b 8 4
  let msg := b.take n
  Config.ecdsaVerify Config.firmwareKeys.1 (sha384 msg) (slice b n 96) &&
  Config.mldsaVerify Config.firmwareKeys.2 (ascii "KUMEN-FW") msg (slice b (n + 96) 4627)

/-- The code an image is refused with, or 0. -/
def imageCode (magic : List Byte) (maxBody len : Nat) (b : ImageBytes) : Nat :=
  if imageFormatOk magic maxBody len b then (if imageSigned b then 0 else 0x1502) else 0x1501

/-- The measurement of an image: SHA-384 of header and body. -/
def imageDigest (b : ImageBytes) : List Byte := sha384 (b.take (64 + imgField b 8 4))

/-- The fetch ends. -/
def State.endFetch (s : State) : State :=
  let s : State := { s with boot := { s.boot with fetching := false },
                            hif := { s.hif with reads := s.hif.reads.filter (fun e => decide (e.2.1 ≠ .image)) } }
  s.setFld .STW_IMG_CTL_GO 0 0

/-- The fetch or the check fails: back to WAIT_IMAGE with a code. -/
def State.imageFail (s : State) (code : Nat) : State :=
  let s := (s.endFetch.setFld .GLB_BOOT_CODE 0 code).toStep 5
  if code = 0x1502 then s.err 0x1502 else s

/-- CDI, KSTORE and KSLOT (R344), where SEED is held. -/
def State.deriveCdi (s : State) : State :=
  match s.well.seed with
  | none => s
  | some seed =>
    let w := s.well
    let salt := sha384 (w.measRom ++ w.measOpgar ++ w.measPolicy ++ [BitVec.ofNat 8 s.ledger.lc])
    let cdi := hkdf (keyBytes seed) salt (ascii "KUMEN-CDI") 48
    { s with well := { w with cdi := some cdi,
                              kstore := bytesKey (hkdf cdi (List.replicate 48 0) (ascii "KUMEN-STORE") 32),
                              kslot := bytesKey (hkdf cdi (keyBytes w.bootNonce) (ascii "KUMEN-SLOT") 32) },
             boot := { s.boot with measured := true } }

/-- STEP 8 and 9 (R434): the switchable domains whose PD_ON bit is 1, in ascending order. -/
def State.bringUp (s : State) (dead : Option Nat) : State :=
  let ds := ((List.range' 8 16).filter (fun n => n ≠ 18 && n ≠ 19)).filter s.pdReq
  let up := match dead with
    | some d => if ds.contains d then ds.filter (· < d) else ds
    | none => ds
  let s := forEach up s (fun n s => s.domainOn n)
  if up = ds then (s.setFld .STW_STATUS_CORES 0 0x0F).toStep 9 else (s.alarm 0x1506).failBoot 0x1506

/-- Both images have arrived. -/
def State.imagesArrived (s : State) (opgar policy : ImageBytes) (dead : Option Nat) : State :=
  let c0 := imageCode (ascii "KOPG") (4194304 - 4787) (s.rd .STW_IMG_LEN 0).toNat opgar
  let c1 := imageCode (ascii "KPOL") 65536 (s.rd .STW_IMG_LEN 1).toNat policy
  if c0 ≠ 0 then s.imageFail c0
  else if c1 ≠ 0 then s.imageFail c1
  else
    let s := s.endFetch
    let m0 := imageDigest opgar
    let m1 := imageDigest policy
    if s.boot.measured ∧ (m0 ≠ s.well.measOpgar ∨ m1 ≠ s.well.measPolicy) then (s.alarm 0x1504).failBoot 0x1504
    else (({ s with well := { s.well with measOpgar := m0, measPolicy := m1 } } : State).deriveCdi).bringUp dead

def execImageFetchDone (opgar policy : ImageBytes) (deadDomain : Option Nat) (elapsedNs : Nat) (s : State) :
    Host.Outcome State Fault Refusal :=
  onUnit s (match deadDomain with
      | some d => pdBitOk d
      | none => true)
    (if s.alive ∧ s.step = 6 ∧ s.boot.fetching then (s.advance elapsedNs).imagesArrived opgar policy deadDomain else s)

/-- An image read fails or takes over 100 µs. -/
def execImageDmaTimeout (s : State) : Host.Outcome State Fault Refusal :=
  onUnit s true (if s.alive ∧ s.step = 6 ∧ s.boot.fetching then (s.advance 100000).imageFail 0x1503 else s)

/-- READY: the Steward's alone, and only in STEP 9. -/
def execReady (path : Path) (s : State) : Host.Outcome State Fault Refusal :=
  onUnit s (pathOk path)
    (if s.alive ∧ path = .steward ∧ s.step = 9 then (s.setFld .STW_STATUS_READY 0 1).toStep 10 else s)

end Sys2Proof.Machine
end

