-- ==== Sys2Proof/Machine/TenOps.lean ====
section
/-! DEFINITION. Shared operations of the migration commands (R314–R321): the end and the stop of a TEN_CMD, undoing a restore, and
the image's host buffers. -/

namespace Sys2Proof.Machine

open Sys2Proof

/-- The host buffer: the offer goes out to it (R314), or an image is read from it (R318), shown as
one read on HP_ (DESIGN CHOICE, log 92). -/
def State.offerOut (s : State) (data : List Word) : State := s.imageWrite (s.rd .TEN_MIG_BUF 0).toNat data
def State.imageIn (s : State) : State :=
  s.hostRead .migImage (s.rd .TEN_MIG_BUF 0).toNat (s.fld .TEN_MIG_LEN_PAGES * 1024) (some (s.fld .TEN_MIG_PASID_PASID))

/-- Zero a granule: its leaves, as a scrub does (R159). -/
def State.zeroGranule (s : State) (sl g : Nat) : State :=
  let w := windowOf s.regs ⟨sl, 0⟩
  let x : Scrub := ⟨g, g, w.1, w.2, sl⟩
  (forEach (List.range 256) s (fun i s =>
    match x.block g i with
    | some (p, leaf) => s.scrubLeaves p leaf leaf
    | none => s)).emit (.scrub g)

/-- A record named by an OBJECTS record is DEFINED. -/
def State.recDefined (s : State) (kind index sl : Nat) : Bool :=
  if kind = 1 then s.ctxState index == 1 && s.ctxSlice index == sl
  else if kind = 2 then s.qState index == 1 && s.qSlice index == sl
  else if kind = 3 then decide (s.fLife index = .defined) && s.fSlice index == sl
  else if kind = 4 then decide (s.mLife index = .defined) && s.mSlice index == sl
  else false

/-- A restored record is DEFINED again. -/
def State.recUndo (s : State) (kind index : Nat) : State :=
  if kind = 1 then ({ s with sched := { s.sched with residents := s.sched.residents.filter (fun r => r.2.ctx ≠ index) } } : State).setCtxState index 1
  else if kind = 2 then ({ s with hif := { s.hif with queues := mapErase s.hif.queues index } } : State).setQState index 1
  else if kind = 3 then s.setFLife index .defined
  else if kind = 4 then s.setMLife index .defined
  else s

/-- The restore of a slice. -/
def State.restoreOf (s : State) (sl : Nat) : Restore := mapGet Restore.init s.ten.restores sl
def State.setRestore (s : State) (sl : Nat) (x : Restore) : State :=
  { s with ten := { s.ten with restores := mapSet Restore.init s.ten.restores sl x } }

/-- What a restore has written is undone: granules and shares are zero, records are DEFINED (R321). -/
def State.undoRestore (s : State) (sl : Nat) : State :=
  let x := s.restoreOf sl
  let base := s.windowGranule sl
  let s := forEach x.granules s (fun g s => s.zeroGranule sl (base + g))
  let s := forEach x.shares s (fun c s =>
    forEach (s.ctxCores c) s (fun k s => s.emit (.sramWrite (s.physical k) (s.shareFirst c) (s.shareLast c) true)))
  forEach x.objects s (fun o s => s.recUndo o.1 o.2)

/-- The private halves of the OFFER are gone (R314). -/
def State.dropOffer (s : State) : State := { s with ten := { s.ten with session := { s.ten.session with offer := none } } }

/-- A restore ends. -/
def State.endRestore (s : State) (sl : Nat) : State := (s.setRestore sl Restore.init).dropOffer

/-- The running command stops with a code: a SAVE leaves its slice FROZEN, a restore leaves it RUNNING with nothing kept. -/
def State.tenStop (s : State) (code : Nat) : State :=
  match s.ten.run with
  | none => s
  | some r =>
    let s := if r.op = 3 then (s.setSliceState r.slice 3).endSave
      else ((if r.op = 6 then s.undoRestore r.slice else s).setSliceState r.slice 1).endRestore r.slice
    s.tenOver code

/-- A read of the image buffer ends: the buffer is used up, or the command stops (R318). -/
def State.imageRead (s : State) (ok : Bool) : State :=
  match s.ten.run with
  | some r => if r.op = 5 ∨ r.op = 6 then (if ok then s.setFld .TEN_STATUS_BUF_WAIT 0 1 else s.tenStop 0x140E) else s
  | none => s

end Sys2Proof.Machine
end

