-- ==== Sys2Proof/Machine/Rings.lean ====
section
/-! DEFINITION. Submission rings, doorbells and commands (R278–R289, R297–R299, R119, R217, R218), and the host reads the
block makes (R426, R135). -/

namespace Sys2Proof.Machine

open Sys2Proof

/-! ## Doorbells (R42, R279–R282) -/

/-- R42 and R297: the doorbell access of queue `q` is accepted. A page of a queue without an owner checks nothing. -/
def State.doorbellOk (s : State) (q : Nat) (pasid : Option Nat) : Bool :=
  s.qState q == 0 ||
  ((match pasid with
    | some p => cfgPasidOk s.regs p (s.qSlice q)
    | none => s.fld .CMP_SLICE_CTL_PASID_REQUIRED (s.qSlice q) == 0) &&
   (s.fld .OBJ_PHASE_PHASE == 3 || pasid == some (s.ctxPasid (s.qCtx q))))

/-- A doorbell write: its format, its PASID and the queue's state, then the effect. Which of the first two checks comes first no
rule says: the format's does (DESIGN CHOICE, log 86). -/
def State.doorbell (s : State) (q : Nat) (pasid : Option Nat) (bytes : Nat) (t : State) : State :=
  if s.isReady = false then s
  else if bytes ≠ 8 then s.hifErr 0x0104 q (pasid.getD 0) (s.qSlice q)
  else if s.doorbellOk q pasid = false then s.err 0x0603 (s.qSlice q) (word q)
  else if s.qState q ≤ 1 ∨ s.qState q = 5 then s.hifErr 0x0105 q (pasid.getD 0) (s.qSlice q)
  else t

/-- A new SQ_TAIL (R280–R282). -/
def State.newTail (s : State) (q value : Nat) (pasid : Option Nat) : State :=
  if idxSub value (s.sqTail q) ≤ 2 ^ s.sqLog2 q - s.sqCount q then
    let s := s.putQ q 3 63 48 value
    if s.qState q = 2 ∧ 0 < s.sqCount q then (s.needSlot q).pumpQueue q else s
  else (s.hifErr 0x0102 q (pasid.getD 0) (s.qSlice q)).faultQueue q 0x0102

/-- A new CQ_HEAD (R280). -/
def State.newCqHead (s : State) (q value : Nat) (pasid : Option Nat) : State :=
  if idxSub value (s.cqHead q) ≤ idxSub (s.cqTail q) (s.cqHead q) then (s.putQ q 3 15 0 value).pumpQueue q
  else s.hifErr 0x0102 q (pasid.getD 0) (s.qSlice q)

/-- A PASID of 20 bits. -/
def pasidOk (p : Option Nat) : Bool :=
  match p with
  | some n => decide (n < 2 ^ 20)
  | none => true

def execSqTail (queue value : Nat) (pasid : Option Nat) (bytes : Nat) (s : State) : Host.Outcome State Fault Refusal :=
  onUnit s (queueOk queue && u16Ok value && pasidOk pasid) (s.doorbell queue pasid bytes (s.newTail queue value pasid))

def execCqHead (queue value : Nat) (pasid : Option Nat) (bytes : Nat) (s : State) : Host.Outcome State Fault Refusal :=
  onUnit s (queueOk queue && u16Ok value && pasidOk pasid) (s.doorbell queue pasid bytes (s.newCqHead queue value pasid))

/-- Queues that wait for a slot. -/
def State.waitingQueues (s : State) : List Nat := (s.hif.queues.filter (fun e => e.2.waiting)).map (·.1)

/-- A waiting queue receives the next slot freed, in the order of the rotating pointer (R282). -/
def execQueueSlotGrant (queue : Nat) (s : State) : Host.Outcome State Fault Refusal :=
  onUnit s (queueOk queue)
    (if s.isReady ∧ rotate s.hif.rotor s.waitingQueues = some queue ∧ (s.slotQueues.length < 96 ∨ s.lruIdle.isSome) then
      let s : State := { s with hif := { s.hif with rotor := queue } }
      (s.needSlot queue).pumpQueue queue
    else s)

/-! ## Starting a command -/

/-- Pointer conversion of one word (R118, R119): none where no aperture matches. -/
def State.convert (s : State) (c : Nat) (p : Word) : Option Word :=
  let n := min 64 (getBits 6 0 (s.ctxWord c 11))
  (List.range n).findSome? (fun i =>
    let w := s.ctxWord c (16 + 4 * i)
    let base := getBits 63 12 w * 4096
    let pages := getBits 31 0 (s.ctxWord c (18 + 4 * i)) + 1
    if bitOf 0 w ∧ base ≤ p.toNat ∧ p.toNat < base + pages * 4096 then
      some (word (getBits 47 12 (s.ctxWord c (17 + 4 * i)) * 4096 + (p.toNat - base)))
    else none)

/-- The command with its flagged words converted, or the first word that no aperture matches. -/
def State.convertAll (s : State) (c : Nat) (ws : List Word) : Sum Word (List Word) :=
  let flagged := (List.range' 1 7).filter (fun i => bitOf (48 + i) (cmdW0 ws))
  match flagged.find? (fun i => (s.convert c (ws.getD i 0)).isNone) with
  | some i => .inl (ws.getD i 0)
  | none => .inr (ws.mapIdx (fun i w => if flagged.contains i then (s.convert c w).getD w else w))

/-- The checks of phases 0–2 apply (R297). -/
def State.strict (s : State) : Bool := s.fld .OBJ_PHASE_PHASE != 3

/-- A fence is of the queue's slice; of its process too, or SHARED. -/
def State.fenceOfSlice (s : State) (q f : Nat) : Bool := decide (s.fLife f = .live) && s.fSlice f == s.qSlice q
def State.fenceOfProcess (s : State) (q f : Nat) : Bool := s.fShared f || s.fProcess f == s.ctxProcess (s.qCtx q)

/-- A DVA lies in a LIVE memory object of the queue's process. -/
def State.inObject (s : State) (q dva : Nat) : Bool :=
  s.liveMemobjs.any (fun o => s.mState o == 1 && s.mSlice o == s.qSlice q && s.mProcess o == s.ctxProcess (s.qCtx q) &&
    decide (s.mBase o ≤ dva) && decide (dva < s.mBase o + (s.mPagesM1 o + 1) * 4096))

/-- Fences a command names. -/
def cmdFences (ws : List Word) : List Nat :=
  (if cmdFenceEn ws then [cmdFence ws] else []) ++
  (if 6 ≤ cmdOpcode ws ∧ cmdOpcode ws ≤ 8 then [getBits 15 0 (ws.getD 1 0)] else [])

/-- DVAs a command names (R297): TILE W2, DMA_COPY W2 and W3, DMA_FILL W3 and DISPATCH EXPMAP. -/
def cmdDvas (ws : List Word) : List Nat :=
  match cmdOpcode ws with
  | 1 => [getBits 47 0 (ws.getD 2 0)]
  | 2 => [(ws.getD 2 0).toNat, (ws.getD 3 0).toNat]
  | 3 => [(ws.getD 3 0).toNat]
  | 4 => [getBits 47 0 (ws.getD 5 0)]
  | _ => []

/-- LENGTH of a DMA command. -/
def cmdLength (ws : List Word) : Nat := getBits 39 0 (ws.getD 4 0)

/-- R283 refuses the command. -/
def cmdInvalid (ws : List Word) : Bool :=
  let op := cmdOpcode ws
  let w1 := ws.getD 1 0
  decide (9 < op) ||
  ((op == 2 || op == 3) && (bitOf 33 w1 || cmdLength ws == 0)) ||
  (op == 3 && cmdLength ws % 8 != 0) ||
  (op == 6 && decide (1 ≤ getBits 31 24 w1) && decide (getBits 31 24 w1 ≤ 0x7F))

/-- The code a command is refused with, or 0: R283, then R297's table in order. `pinBad` is what the OBJ_REFs before it named. -/
def State.cmdRefusal (s : State) (q : Nat) (ws : List Word) (pinBad : Nat) : Nat :=
  let w0 := cmdW0 ws
  if cmdInvalid ws then 0x0201
  else if (cmdFences ws).any (fun f => !s.fenceOfSlice q f) then 0x0204
  else if pinBad = 1 then 0x0208
  else if s.strict = false then 0
  else if getBits 17 5 w0 ≠ s.qCtx q ∨ getBits 31 18 w0 ≠ q then 0x0202
  else if (cmdFences ws).any (fun f => !s.fenceOfProcess q f) then 0x0204
  else if pinBad = 2 then 0x0208
  else if (cmdDvas ws).any (fun d => !s.inObject q d) then 0x020A
  else 0

/-- The running command of `q` is refused with a code: it is not run, and its fence or PENDING_ERR takes the code (R286). A
fence it may not name is not signalled (R288). -/
def State.refuseCmd (s : State) (q code : Nat) : State :=
  match (s.queueRun q).running with
  | none => s
  | some rc =>
    let f := cmdFence rc.words
    let usable := s.fenceOfSlice q f && (!s.strict || s.fenceOfProcess q f)
    let ws := if usable then rc.words else modifyAt rc.words 0 (fun w => setBits 48 48 0 w)
    let s := s.modQueueRun q (fun r => { r with running := some { rc with words := ws } })
    let sl := s.qSlice q
    let s := if code / 256 = 0x02 then s.objErr code sl q (s.qCtx q)
      else if code / 256 = 0x0B then s.err code sl (word q)
      else s
    s.completeCmd q code code

/-- A fault record of a submission (R129): no tile is parked. A DMA command's names the DMA engine, a DISPATCH's the Drover; the
engine of any other, and word 2, for no entry is read, are free values. What the DVA field holds of a pointer that no aperture
matches no rule says: its low 48 bits (DESIGN CHOICE, log 89). -/
def State.submitFault (s : State) (q code : Nat) (p : Word) : Nat × State :=
  let c := s.qCtx q
  let op := cmdOpcode (s.runningWords q)
  let (i, s) := s.takeFresh
  let free := Config.freeWord i
  let engine := if op = 2 ∨ op = 3 then 3 else free.toNat % 4
  s.postFault ⟨s.qSlice q, 4, 0, getBits 47 0 p, code, 0xFF, 0xF, engine, op == 4, s.ctxPasid c, c, free⟩

/-- The command `w` of queue `q` has been fetched, no other command of the queue runs, and its slice is RUNNING (R284, R312). -/
def State.fetchOk (s : State) (q : Nat) (w : CmdWords) : Bool :=
  let r := s.queueRun q
  s.isReady && s.qState q == 2 && s.ctxState (s.qCtx q) == 3 && decide (s.fld .TEN_SLICE_STATE_STATE (s.qSlice q) ≤ 1) &&
  r.running.isNone &&
  (match r.fetched with
  | some x => decide (x = w)
  | none => r.fetchTag.isSome)

/-- SQ_HEAD advances, and the command runs. -/
def State.takeCmd (s : State) (q : Nat) (w : List Word) : State :=
  let r := s.queueRun q
  let head := s.sqHead q
  let rc : RunCmd := ⟨head, w, 0, 0, 0, r.pins, none, false⟩
  let s : State := { s with hif := { s.hif with reads := s.hif.reads.filter (fun e => decide (e.2.1 ≠ .ringFetch q)) } }
  let s := s.setSqHead q ((head + 1) % 65536)
  s.modQueueRun q (fun r => { r with fetched := none, fetchTag := none, running := some rc, pins := [], pinBad := 0 })

/-- A fetched command starts: PASID (R41), conversion (R119), refusals (R283, R297), then its effect on its converted words. -/
def State.startCmd (s : State) (q : Nat) (w : CmdWords) (run : List Word → State → State) : State :=
  if s.fetchOk q w = false then s
  else if cfgPasidOk s.regs (s.ctxPasid (s.qCtx q)) (s.qSlice q) = false then
    (s.err 0x0603 (s.qSlice q) (word q)).faultQueue q 0x0603
  else
    let bad := (s.queueRun q).pinBad
    match (if cmdOpcode w ≤ 9 then s.convertAll (s.qCtx q) w else .inr w) with
    | .inl p =>
      let s := (s.takeCmd q w).submitFault q 0x070A p
      s.2.refuseCmd q 0x070A
    | .inr ws =>
      let code := s.cmdRefusal q ws bad
      let s := s.takeCmd q ws
      if code ≠ 0 then s.refuseCmd q code else run ws s

/-- A command of a row: eight words with the row's OPCODE. -/
def cmdOk (op queue : Nat) (w : CmdWords) : Bool := queueOk queue && w.length == 8 && cmdOpcode w == op

/-! ## Commands without tiles -/

def execNop (queue : Nat) (w : CmdWords) (s : State) : Host.Outcome State Fault Refusal :=
  onUnit s (cmdOk 0 queue w) (s.startCmd queue w (fun _ s => s.completeCmd queue 0 0))

/-- An unassigned OPCODE (R283). -/
def execCommandInvalid (queue : Nat) (w : CmdWords) (s : State) : Host.Outcome State Fault Refusal :=
  onUnit s (queueOk queue && w.length == 8 && decide (9 < cmdOpcode w)) (s.startCmd queue w (fun _ s => s.completeCmd queue 0 0))

def execFenceSignal (queue : Nat) (w : CmdWords) (s : State) : Host.Outcome State Fault Refusal :=
  onUnit s (cmdOk 6 queue w) (s.startCmd queue w (fun ws s =>
    let w1 := ws.getD 1 0
    (s.signalFence (getBits 15 0 w1) (getBits 31 16 w1)).completeCmd queue 0 0))

/-- FENCE_WAIT waits for its fence, or completes at once where that is signalled (R287). -/
def State.waitFence (s : State) (q f : Nat) : State :=
  if s.fState f ≠ 0 then s.finishWait q f
  else s.modQueueRun q (fun r => { r with running := r.running.map (fun rc => { rc with waitFence := some f }) })

def execFenceWait (queue : Nat) (w : CmdWords) (s : State) : Host.Outcome State Fault Refusal :=
  onUnit s (cmdOk 7 queue w) (s.startCmd queue w (fun ws s => s.waitFence queue (getBits 15 0 (ws.getD 1 0))))

/-- The waiter of a queue wakes once its fence is signalled (R287). -/
def execFenceWaitWake (queue : Nat) (s : State) : Host.Outcome State Fault Refusal :=
  onUnit s (queueOk queue)
    (match (s.queueRun queue).running.bind (·.waitFence) with
    | some f => if s.fState f ≠ 0 then s.finishWait queue f else s
    | none => s)

def execFenceReset (queue : Nat) (w : CmdWords) (s : State) : Host.Outcome State Fault Refusal :=
  onUnit s (cmdOk 8 queue w) (s.startCmd queue w (fun ws s => (s.resetFence (getBits 15 0 (ws.getD 1 0))).completeCmd queue 0 0))

/-- One entry of an OBJ_REF (R289, R297): the object is pinned for the next command, or spoils it. A RELEASING object is pinned as
before, until it is FREE (R290). -/
def State.pinEntry (s : State) (q : Nat) (w : Word) : State :=
  if bitOf 63 w = false then s
  else
    let o := getBits 17 0 w
    if s.mLife o ≠ .live ∨ s.mState o = 0 ∨ s.mSlice o ≠ s.qSlice q then s.modQueueRun q (fun r => { r with pinBad := 1 })
    else
      let s := if s.strict ∧ s.mProcess o ≠ s.ctxProcess (s.qCtx q) then
          s.modQueueRun q (fun r => { r with pinBad := if r.pinBad = 0 then 2 else r.pinBad })
        else s
      (s.putM o 3 31 0 (s.mPin o + 1)).modQueueRun q (fun r => { r with pins := r.pins ++ [o] })

def execObjRef (queue : Nat) (w : CmdWords) (s : State) : Host.Outcome State Fault Refusal :=
  onUnit s (cmdOk 9 queue w) (s.startCmd queue w (fun ws s =>
    (forEach (ws.drop 1) s (fun x s => s.pinEntry queue x)).completeCmd queue 0 0))

/-! ## Tiles (R217, R218, R284) -/

/-- The tile word's fields (R217). -/
def tileRound (w1 : Word) : Bool := bitOf 33 w1
def tilePos (w1 : Word) : Nat := getBits 32 24 w1
def tileDecl (w1 : Word) : Nat := getBits 15 0 w1

/-- The longest tile a context may declare: MAX_TILE of its contract, or BE_TILE of its slice. -/
def State.tileLimit (s : State) (c : Nat) : Nat :=
  if s.scHasContract c then ctMaxTile s.regs (s.scContract c) else beTile s.regs (s.ctxSlice c)

/-- The scheduler's refusal of a tile command, or 0 (R218). -/
def State.tileCode (s : State) (c : Nat) (w1 : Word) : Nat :=
  let d := tileDecl w1
  if d = 0 ∨ 0x1900 < d ∨ (tileRound w1 = false ∧ s.scCount c ≤ tilePos w1) then 0x0B02
  else if s.tileLimit c < d then 0x0B03
  else 0

/-- The tiles of a command become ready: one on every position of the range, or one on POS. -/
def State.submitTiles (s : State) (q : Nat) (w1 : Word) : State :=
  let c := s.qCtx q
  let cores := s.ctxCores c
  let ps := if tileRound w1 then List.range cores.length else [tilePos w1]
  let tiles := ps.map (fun p => (cores.getD p 0, (⟨c, s.ctxSlice c, q, p, tileDecl w1, 0, false, 0, false, 0, [], 0, false⟩ : Tile)))
  let s := s.modQueueRun q (fun r => { r with running := r.running.map (fun rc => { rc with tilesLeft := tiles.length }) })
  let s : State := { s with sched := { s.sched with ready := s.sched.ready ++ tiles } }
  (forEach tiles s (fun t s => s.schedule t.1)).pumpEngines

/-- A word of a command that holds a DVA, and is not one of 48 bits (R97). -/
def beyondDva (ws : List Word) : Option Word :=
  ((match cmdOpcode ws with
    | 1 => [2]
    | 2 => [2, 3]
    | 3 => [3]
    | 4 => [5]
    | _ => []).map (fun i => ws.getD i 0)).find? (fun d => getBits 63 48 d != 0)

/-- A command whose DVAs have 48 bits goes on; any other is a translation fault of its queue, with the command retained (R97,
R127). -/
def State.inRange (s : State) (q : Nat) (ws : List Word) (go : State → State) : State :=
  match beyondDva ws with
  | some d =>
    let (seq, s) := s.submitFault q 0x070C d
    { s with xlt := { s.xlt with faults := s.xlt.faults ++ [⟨s.qCtx q, seq, 0x070C, none, q⟩] } }
  | none => go s

/-- A tile command that the scheduler takes or refuses. -/
def State.tileCmd (s : State) (q : Nat) (w1 : Word) (go : State → State) : State :=
  let code := s.tileCode (s.qCtx q) w1
  if code ≠ 0 then s.refuseCmd q code else go s

/-- A TILE command's tiles. -/
def State.submitTile (s : State) (q : Nat) (ws : List Word) : State :=
  s.inRange q ws (fun s => s.submitTiles q (ws.getD 1 0))

def execTile (queue : Nat) (w : CmdWords) (s : State) : Host.Outcome State Fault Refusal :=
  onUnit s (cmdOk 1 queue w) (s.startCmd queue w (fun ws s => s.tileCmd queue (ws.getD 1 0) (fun s => s.submitTile queue ws)))

/-- The descriptor of a DMA command (R283): a copy's source, a fill's pattern. -/
def State.dmaDescriptor (s : State) (q : Nat) (ws : List Word) : DmaXlt :=
  let c := s.qCtx q
  let copy := cmdOpcode ws == 2
  ⟨c, s.ctxSlice c, if copy then getBits 47 0 (ws.getD 2 0) else 0, getBits 47 0 (ws.getD 3 0), cmdLength ws,
    if copy then none else some (ws.getD 2 0), s.ctxGen c, [], [], none, false, 0, none⟩

/-- A DMA command is translated, and its tile submitted (R120, R284). -/
def State.submitDma (s : State) (q : Nat) (ws : List Word) : State :=
  s.inRange q ws (fun s => ((s.setDma q (s.dmaDescriptor q ws)).dmaTranslate q 0).submitTiles q (ws.getD 1 0))

def execDmaCopy (queue : Nat) (w : CmdWords) (s : State) : Host.Outcome State Fault Refusal :=
  onUnit s (cmdOk 2 queue w) (s.startCmd queue w (fun ws s => s.tileCmd queue (ws.getD 1 0) (fun s => s.submitDma queue ws)))

def execDmaFill (queue : Nat) (w : CmdWords) (s : State) : Host.Outcome State Fault Refusal :=
  onUnit s (cmdOk 3 queue w) (s.startCmd queue w (fun ws s => s.tileCmd queue (ws.getD 1 0) (fun s => s.submitDma queue ws)))

/-! ## Host reads (R299, R426) -/

/-- A ring read has failed, or taken over 100 µs: the queue is FAULTED with 0x0103. -/
def State.ringFailed (s : State) (q : Nat) : State :=
  let s := s.modQueueRun q (fun r => { r with fetchTag := none })
  if s.qState q = 2 then (s.hifErr 0x0103 q (s.ctxPasid (s.qCtx q)) (s.qSlice q)).faultQueue q 0x0103 else s

/-- A command has been read. A queue that has stopped meanwhile keeps it queued. -/
def State.ringRead (s : State) (q tag : Nat) (status : DmaStatus) (data : List Word) : State :=
  if (s.queueRun q).fetchTag ≠ some tag then s
  else if status ≠ .success then s.ringFailed q
  else s.modQueueRun q (fun r => { r with fetchTag := none, fetched := if s.qState q = 2 then some data else none })

/-- An eighth of a migrating page has come (R135). -/
def State.pageRead (s : State) (id part : Nat) (status : DmaStatus) (data : List Word) : State :=
  match s.migrationOf id with
  | none => s
  | some m =>
    if m.stage ≠ .page then s
    else if status ≠ .success then s.migrationFault m 0x070B
    else
      let m' := { m with got := mapPut m.got part data }
      if m'.got.length = 8 then (s.setMigration m').swapLeaf m' else s.setMigration m'

/-- How an AtomicOp ended: the value it found, or a refusal (R136). -/
def casOf (m : Migration) (status : DmaStatus) (data : List Word) : CasResult :=
  if status ≠ .success then .unsupported else if data.headD 0 = m.leaf then .swapped else .differs

/-- A completion on HP_MC. One whose tag has no read outstanding says nothing. -/
def State.completion (s : State) (tag : Nat) (status : DmaStatus) (data : List Word) : State :=
  match s.hif.reads.find? (fun e => e.1 == tag) with
  | none => s
  | some (_, use, _) =>
    let s : State := { s with hif := { s.hif with reads := mapErase s.hif.reads tag } }
    match use with
    | .ringFetch q => s.ringRead q tag status data
    | .image => if status ≠ .success ∧ s.boot.fetching then s.imageFail 0x1503 else s
    | .migImage => s.imageRead (decide (status = .success))
    | .migrationRead id part => s.pageRead id part status data
    | .migrationCas id =>
      (match s.migrationOf id with
      | some m => s.finishMigration id (casOf m status data)
      | none => s)
    | .walk id => if status = .success then s.walkGot id (data.headD 0) else s.walkFailed id
    | .lowerMigration id => s.lowerMigration id (if status = .success then some (data.headD 0) else none)
    | .lowerExtent q => s.lowerExtent q (if status = .success then some (data.headD 0) else none)
    | .dma q => s.dmaHostData q (decide (status = .success)) data

/-- Words a successful completion of a read brings. -/
def State.dmaWords (s : State) (tag : Nat) : Nat :=
  match s.hif.reads.find? (fun e => e.1 == tag) with
  | some (_, .image, _) => 0
  | some (_, .migImage, _) => 0
  | some (_, .migrationCas _, _) => 1
  | some (_, _, n) => (n + 1) / 2
  | none => 0

def execHostDmaCompletion (tag : Nat) (status : DmaStatus) (data : List Word) (s : State) : Host.Outcome State Fault Refusal :=
  onUnit s (decide (tag < 1024))
    (if s.alive ∧ (status = .success → data.length = s.dmaWords tag) then (s.completion tag status data).pumpEngines else s)

/-- A ring read or record write of a queue exceeds 100 µs (R299). -/
def execRingDmaTimeout (queue : Nat) (s : State) : Host.Outcome State Fault Refusal :=
  onUnit s (queueOk queue)
    (if s.alive ∧ ((s.queueRun queue).fetchTag.isSome ∨ 0 < s.cplInFlight queue) then
      let s : State := { s with hif := { s.hif with reads := s.hif.reads.filter (fun e => decide (e.2.1 ≠ .ringFetch queue)) } }
      (s.advance 100000).ringFailed queue
    else s)

end Sys2Proof.Machine
end

