-- ==== Sys2Proof/Machine/Drover.lean ====
section
/-! DEFINITION. The Drover (chapter 6): the DISPATCH and COMBINE commands, planning (R194), the ends of a phase's transfers
(R198–R201), and journals (R204–R208); and the resolution of translation faults, which may start a command again (R133). -/

namespace Sys2Proof.Machine

open Sys2Proof

/-! ## Refusals (R190) -/

/-- R_max. -/
def rMax (ws : List Word) : Nat := ceilDiv (dCf ws * dTokens ws * dTopk ws) 256

/-- R190 refuses a DISPATCH. -/
def State.dispatchBad (s : State) (sl : Nat) (ws : List Word) : Bool :=
  decide (dTokens ws = 0 ∨ 2048 < dTokens ws ∨ dTopk ws = 0 ∨ 8 < dTopk ws ∨ dPolicy ws = 3 ∨ dCf ws < 0x100 ∨ 0x800 < dCf ws ∨
    dExperts ws = 0 ∨ 1024 < dExperts ws ∨ dRtOff ws % 64 ≠ 0 ∨ dPerCore ws = 0 ∨ 2048 < dPerCore ws ∨ dStep ws = 0 ∨
    64 < dStep ws ∨ dTokOff ws % 32 ≠ 0 ∨ dRowSect ws = 0 ∨ 2048 < dRowSect ws ∨ dStride ws < dRowSect ws ∨
    dExpMap ws % 32 ≠ 0 ∨ 4096 < rMax ws) ||
  decide ((cfgCores s.regs sl).length ≤ homeNumber (cfgCores s.regs sl) ws (dTokens ws - 1)) ||
  decide (0x600000 < dTokOff ws + dStride ws * 32 * (homeRows ws - 1) + dRowSect ws * 32) ||
  decide (0x600000 < dRtOff ws + 64 * dTokens ws)

/-! ## The commands -/

/-- The running command of `q` is the Drover's. -/
def State.droverRuns (s : State) (q : Nat) : State :=
  s.modQueueRun q (fun r => { r with running := r.running.map (fun rc => { rc with drover := true }) })

def execCombine (queue : Nat) (w : CmdWords) (s : State) : Host.Outcome State Fault Refusal :=
  onUnit s (cmdOk 5 queue w) (s.startCmd queue w (fun _ s =>
    let s := s.droverRuns queue
    if s.pdOn 22 then s.tryCombine queue else s.failDrover queue 0x0A09 0 0xFFFF 0xFFFF))

/-- The refusal of a DISPATCH when it reaches the planner, or 0 (R186, R190, R205). -/
def State.dispatchCode (s : State) (q : Nat) (ws : List Word) : Nat :=
  if s.pdOn 22 = false then 0x0A09
  else if s.dispatchBad (s.qSlice q) ws then 0x0A01
  else if (s.journal (s.qCtx q) (dJtag ws)).isSome then 0x0A0B
  else 0

/-- The Hedge's refusal of the planner's read of the routing table, or 0 (R54, R216). -/
def State.tableDenied (s : State) (q : Nat) (ws : List Word) : Nat :=
  if cfgCoreTag s.regs (dRtCore ws) ≠ s.qSlice q then 0x0506
  else if s.shareOk (s.qCtx q) (dRtCore ws) (dRtOff ws) (64 * dTokens ws) then 0 else 0x0B05

/-- The planner takes the DISPATCH of queue `q`: it reads the routing table, and the expert map as the context (R191, R192). -/
def State.readTables (s : State) (q : Nat) (ws : List Word) : State :=
  let s : State := { s with drv := { s.drv with planQ := s.drv.planQ ++ [q] } }
  let s := s.emit (.sramRead (s.physical (dRtCore ws)) (dRtOff ws) (64 * dTokens ws))
  let (accs, s) := s.engineRead 68 (s.qCtx q) (s.qSlice q) (dExpMap ws) (32 * dExperts ws)
  ({ s with drv := { s.drv with mapReads := s.drv.mapReads ++ [(q, accs)] } } : State).pumpEngines

/-- A DISPATCH reaches the planner: it is refused, or taken. A refused read of the routing table is the Hedge's denial at the station
of RT_CORE (log 55). -/
def State.takeDispatch (s : State) (q : Nat) (ws : List Word) : State :=
  let code := s.dispatchCode q ws
  let k := s.stationOf (dRtCore ws)
  let denied := s.tableDenied q ws
  if code ≠ 0 then s.failDrover q code 0 0xFFFF 0xFFFF
  else if denied = 0x0506 then (s.denyTransfer k (s.qSlice q) denied).failDrover q 0x0A04 denied 0xFFFF 0xFFFF
  else if denied ≠ 0 then (s.raise .error denied (s.qSlice q) (32 + k)).failDrover q denied 0 0xFFFF 0xFFFF
  else s.readTables q ws

def execDispatch (queue : Nat) (w : CmdWords) (s : State) : Host.Outcome State Fault Refusal :=
  onUnit s (cmdOk 4 queue w) (s.startCmd queue w (fun ws s =>
    (s.droverRuns queue).inRange queue ws (fun s => s.takeDispatch queue ws)))

/-! ## Planning (R194) -/

/-- Expert and weight of entry `r` of a routing record (R191). -/
def entryExpert (rec_ : List Word) (r : Nat) : Nat := getBits 15 0 (rec_.getD r 0)
def entryWeight (rec_ : List Word) (r : Nat) : Nat := getBits 63 32 (rec_.getD r 0)

/-- NaN or infinite; zero. -/
def weightBad (w : Nat) : Bool := bits 30 23 w == 255
def weightZero (w : Nat) : Bool := w % 2 ^ 31 == 0

/-- The expert's buffers leave the SRAM, or its fill-count sector has no place. -/
def buffersBad (e : List Word) : Bool :=
  decide (eInOff e < 32) || decide (0x600000 < eInOff e + 32 * eInStride e * eCap e) ||
  decide (0x600000 < eOutOff e + 32 * eOutStride e * (eCap e + eSpillCap e))

/-- The refusal of one entry of ranks 0 to TOPK − 1. -/
def entryCode (nexperts : Nat) (experts : List ExpertWords) (rec_ : List Word) (r : Nat) : Nat :=
  let e := entryExpert rec_ r
  let x := experts.getD e []
  if e = 0xFFFF then 0
  else if nexperts ≤ e then 0x0A02
  else if weightBad (entryWeight rec_ r) then 0x0A08
  else if eValid x = false then 0x0A03
  else if buffersBad x then 0x0A07
  else 0

/-- Entries by token, and by rank within a token. -/
def entryOrder (tokens topk : Nat) : List (Nat × Nat) :=
  (List.range tokens).flatMap (fun t => (List.range topk).map (fun r => (t, r)))

/-- The plan as it grows. -/
structure Plan where
  fill    : List (Nat × Nat)
  spill   : List (Nat × Nat)
  routes  : List Route
  overflowed : List (Nat × Nat)
  dropped : Nat
  deriving DecidableEq, Repr

def Plan.drop (p : Plan) : Plan := { p with dropped := p.dropped + 1 }

/-- Place a route in an expert's next input slot, or in its next spill row. -/
def Plan.place (p : Plan) (t r e w kind : Nat) : Plan :=
  { p with routes := p.routes ++ [⟨t, r, kind, e, mapGet 0 p.fill e, w, 0, [], []⟩], fill := mapPut p.fill e (mapGet 0 p.fill e + 1) }
def Plan.placeSpill (p : Plan) (t r e w : Nat) : Plan :=
  { p with routes := p.routes ++ [⟨t, r, 1, e, mapGet 0 p.spill e, w, 0, [], []⟩], spill := mapPut p.spill e (mapGet 0 p.spill e + 1) }

/-- Place entry `r` of token `t`. -/
def planEntry (ws : List Word) (routing : List (List Word)) (experts : List ExpertWords) (r t : Nat) (p : Plan) : Plan :=
  let rec_ := routing.getD t []
  let e := entryExpert rec_ r
  let w := entryWeight rec_ r
  let x := experts.getD e []
  if e = 0xFFFF ∨ weightZero w then p.drop
  else if rMax ws ≤ p.routes.length then p.drop
  else if mapGet 0 p.fill e < eCap x then p.place t r e w 0
  else if dPolicy ws = 1 ∧ mapGet 0 p.spill e < eSpillCap x then p.placeSpill t r e w
  else if dPolicy ws = 2 then { p with overflowed := p.overflowed ++ [(t, r)] }
  else p.drop

/-- Alternate `a` of token `t` can take a route. -/
def altUsable (ws : List Word) (rec_ : List Word) (experts : List ExpertWords) (t a : Nat) (p : Plan) : Bool :=
  let e := entryExpert rec_ a
  let w := entryWeight rec_ a
  let x := experts.getD e []
  decide (e < dExperts ws) && eValid x && !weightBad w && !weightZero w &&
  !p.routes.any (fun r => r.token == t && r.expert == e) && decide (mapGet 0 p.fill e < eCap x) &&
  decide (p.routes.length < rMax ws)

/-- Reroute an overflowed entry, or drop it. -/
def planOver (ws : List Word) (routing : List (List Word)) (experts : List ExpertWords) (p : Plan) (x : Nat × Nat) : Plan :=
  let rec_ := routing.getD x.1 []
  match (List.range' (dTopk ws) (8 - dTopk ws)).find? (fun a => altUsable ws rec_ experts x.1 a p) with
  | some a => p.place x.1 x.2 (entryExpert rec_ a) (entryWeight rec_ a) 2
  | none => p.drop

/-- The plan of a dispatch. -/
def planRoutes (ws : List Word) (routing : List (List Word)) (experts : List ExpertWords) : Plan :=
  let p := (List.range (dTopk ws)).foldl (fun p r =>
    (List.range (dTokens ws)).foldl (fun p t => planEntry ws routing experts r t p) p) ⟨[], [], [], [], 0⟩
  p.overflowed.foldl (planOver ws routing experts) p

/-! ## The end of a dispatch (R193, R200) -/

/-- Every row and fill count has its RSP: the journal is DISPATCHED. -/
def State.dispatchDone (s : State) (q : Nat) (j : Journal) : State :=
  let s := s.modJournal j.ctx j.jtag (fun j => { j with state := .dispatched, queue := none,
                                                        routes := j.routes.map (fun r => { r with stage := 0 }) })
  (s.completeCmd q 0 0).wakeCombines

/-- The fill-count sector of an expert: rows placed in input slots, rows spilled. -/
def fillSector (j : Journal) (e : Nat) : List Byte :=
  let rows := fun (k : Bool) => (j.routes.filter (fun r => r.expert == e && (r.kind == 1) == k)).length
  leBytes 4 (rows false) ++ leBytes 4 (rows true) ++ List.replicate 24 0

/-- The fill-count sector of an expert's core is written: here, or over a link; a refused one stops the phase (R193, R197, R199). -/
def State.writeFill (s : State) (q : Nat) (j : Journal) (x : Nat × List Word) : State :=
  if (s.queueRun q).running.isNone then s
  else
    let r : Route := ⟨0xFFFF, 0, 0, x.1, 0, 0, 0, [], []⟩
    let k := s.moverAt j.primary
    let code := if s.expertHere x.2 then s.coreDenied j (eCore x.2) (eInOff x.2 - 32) 32 else s.chipDenied j (eChip x.2)
    if code ≠ 0 then s.refuseTransfer q k j code 0xFFFF x.1
    else if s.expertHere x.2 then s.emit (.sramRow (s.physical (eCore x.2)) (eInOff x.2 - 32) (fillSector j x.1))
    else s.sendExpert q k j r true

/-- A dispatch whose every row has its RSP writes the fill counts. -/
def State.endDispatch (s : State) (q ctx jtag : Nat) : State :=
  match s.journal ctx jtag with
  | none => s
  | some j =>
    if j.queue = some q ∧ j.fills.isEmpty ∧ j.routes.all (fun r => r.stage == 2) then
      if j.experts.isEmpty then s.dispatchDone q j
      else forEach j.experts (s.modJournal ctx jtag (fun j => { j with fills := j.experts.map (·.1) })) (fun x s => s.writeFill q j x)
    else s

/-! ## PLAN_DONE -/

/-- The plan of queue `q` is placed and its journal written; a dispatch that finds no room for it waits (R204). -/
def State.startDispatch (s : State) (q : Nat) (ws : List Word) (experts : List ExpertWords) (p : Plan) : State :=
  let sl := s.qSlice q
  let (a, b) := s.storesFor sl (dCore0 ws)
  let size := journalBytes p.routes.length
  if s.storeRoom a size && s.storeRoom b size then
    let used := (List.range (dExperts ws)).filter (fun e => p.routes.any (fun r => r.expert == e))
    let ttl := if dTtlUs ws = 0 then 100000 else dTtlUs ws
    let j : Journal := ⟨s.qCtx q, sl, dJtag ws, .planned, p.routes, s.fld .CMP_EPOCH_CURRENT, s.clock.gtb, ttl * 1000, a, b, some q,
      none, ws, used.map (fun e => (e, experts.getD e [])), [], cfgCores s.regs sl, []⟩
    let s := s.leavePlanner q
    let s : State := { s with drv := { s.drv with journals := s.drv.journals ++ [j] } }
    let s := (s.bump .DRV_SLICE_ROUTES_MOVED sl p.routes.length).bump .DRV_SLICE_ROUTES_DROPPED sl p.dropped
    (s.endDispatch q (s.qCtx q) (dJtag ws)).pumpDrover
  else s

/-- The first route spilled to an expert whose spill area begins beyond 48 bits (R97). -/
def spillBeyond (experts : List ExpertWords) (p : Plan) : Option Route :=
  p.routes.find? (fun r => r.kind == 1 && dWord (experts.getD r.expert []) 2 63 48 != 0)

/-- The planner has what it reads. -/
def State.plan (s : State) (q : Nat) (routing : List (List Word)) (experts : List ExpertWords) : State :=
  let ws := s.runningWords q
  let c := s.qCtx q
  if (s.journal c (dJtag ws)).isSome then s.failDrover q 0x0A0B 0 0xFFFF 0xFFFF
  else if s.drv.lost.contains (c, dJtag ws) then
    let s : State := { s with drv := { s.drv with lost := s.drv.lost.filter (· ≠ (c, dJtag ws)) } }
    (s.leavePlanner q).completeCmd q 0x0A05 0x0A05
  else match (entryOrder (dTokens ws) (dTopk ws)).find? (fun x => entryCode (dExperts ws) experts (routing.getD x.1 []) x.2 != 0) with
    | some x =>
      let rec_ := routing.getD x.1 []
      s.failDrover q (entryCode (dExperts ws) experts rec_ x.2) 0 x.1 (entryExpert rec_ x.2)
    | none =>
      let p := planRoutes ws routing experts
      match spillBeyond experts p with
      | some r => s.phaseFault q 2 (dWord (experts.getD r.expert []) 2 47 0) 0x070C 0 0
      | none => s.startDispatch q ws experts p

/-- The entries of an expert map of `n` experts. -/
def mapEntries (n : Nat) (bs : List Byte) : List ExpertWords :=
  (List.range n).map (fun e => (List.range 4).map (fun i => word (leNat (slice bs (32 * e + 8 * i) 8))))

/-- The planner's reads for queue `q`. -/
def State.mapReads (s : State) (q : Nat) : List (Nat × Nat) := (mapGet [] s.drv.mapReads q).map (fun n => (68, n))

/-- A read of the expert map has failed: a translation fault parks the command; what the Hedge or the Mill refused ends it (R165,
R211). -/
def State.mapFailed (s : State) (q dva code level : Nat) (word2 : Word) : State :=
  if code / 256 = 0x07 then s.phaseFault q 1 dva code level word2
  else if code / 256 = 0x05 then s.failDrover q 0x0A04 code 0xFFFF 0xFFFF
  else s.failDrover q code 0 0xFFFF 0xFFFF

/-- The planner of queue `q` has its routing table, and its expert map once every line of it has verified (R192). -/
def State.planDone (s : State) (q : Nat) (routing : List (List Word)) : State :=
  let ws := s.runningWords q
  match s.engineResult (dExpMap ws) (32 * dExperts ws) (s.mapReads q) with
  | none => s
  | some (.inl (dva, code, level, word2)) => s.mapFailed q dva code level word2
  | some (.inr bs) => s.plan q routing (mapEntries (dExperts ws) bs)

/-- The routing table has the shape its descriptor gives it. -/
def tableShape (ws : List Word) (routing : List (List Word)) : Bool :=
  routing.length == dTokens ws && routing.all (fun r => r.length == 8)

def execPlanDone (queue : Nat) (routing : List (List Word)) (s : State) : Host.Outcome State Fault Refusal :=
  onUnit s (queueOk queue)
    (let ws := s.runningWords queue
    if s.isReady ∧ s.drv.planQ.contains queue ∧ cmdOpcode ws = 4 ∧ tableShape ws routing then
      (s.planDone queue routing).pumpEngines
    else s)

/-! ## The ends of transfers (R198, R200, R201) -/

/-- A row has been read from a token row, an output slot or a spill row: its metered bytes, its skipped sectors and its beats' energy
(R198, R209, R403). -/
def State.meterMoved (s : State) (q : Nat) (j : Journal) (row : List Byte) (sect : Nat) : State :=
  let zeros := zeroSectorsOf row sect
  let pj := movedBeats row * s.fld .MON_COEF_DRV
  let s := (s.wr .DRV_SLICE_BYTES j.slice (s.rd .DRV_SLICE_BYTES j.slice + word (32 * (sect - zeros)))).bump
    .DRV_SLICE_SKIP_SECTORS j.slice zeros
  (s.charge j.ctx pj).chargeCmd q pj

/-- A dispatch's row has been read at its home core: it goes to its input slot, its spill row or its chip (R197–R199). -/
def State.rowRead (s : State) (q : Nat) (j : Journal) (i : Nat) (r : Route) (row : List Byte) : State :=
  let row := fit (32 * dRowSect j.words) row
  let s := s.meterMoved q j row (dRowSect j.words)
  let e := j.expert r.expert
  let k := s.moverOf j r
  if r.kind = 1 then
    let (accs, s) := (s.modRoute j i (fun r => { r with stage := 3 })).engineWrite k j.ctx j.slice (spillRow j.words e r.slot) row
    s.modRoute j i (fun r => { r with access := accs.map (fun n => (k, n)) })
  else if s.expertHere e then
    (forEach (rowWrites (s.physical (eCore e)) (inSlot e r.slot) row) s (fun o s => s.emit o)).modRoute j i
      (fun r => { r with stage := 2 })
  else (s.modRoute j i (fun r => { r with stage := 3 })).sendExpert q k j r true

/-- A combine's row has come to its home mover; a token whose rows have all come is combined (R203). -/
def State.rowGathered (s : State) (q : Nat) (j : Journal) (i : Nat) (r : Route) (row : List Byte) : State :=
  let sect := cOutSect (s.runningWords q)
  let row := fit (32 * sect) row
  let s := s.meterMoved q j row sect
  let j' := { j with routes := modifyAt j.routes i (fun r => { r with stage := 2, row := row, access := [] }) }
  let s := s.modJournal j.ctx j.jtag (fun _ => j')
  let s := if (j'.routes.filter (fun x => x.token == r.token)).all (fun x => x.stage == 2) then s.writeResult q j' r.token else s
  s.endCombine q j.ctx j.jtag

/-- A request of a transfer to a spill row has failed: a translation fault parks the command, anything else stops the phase (R201,
R211). -/
def State.spillFailed (s : State) (q k access : Nat) (r : Route) (dva code level : Nat) (word2 : Word) : State :=
  if code / 256 = 0x07 then s.phaseFault q access dva code level word2 else s.stopPhase q k code r.token r.expert

/-- The spill row of a route has been read or written: its accesses leave their station. -/
def State.spillLanded (s : State) (j : Journal) (i : Nat) (r : Route) : State :=
  (s.landAll r.access).modRoute j i (fun r => { r with access := [] })

/-- The end of transfer `i` of a running phase, whose route is `r`. -/
def State.routeRsp (s : State) (q : Nat) (j : Journal) (i : Nat) (r : Route) (row : List Byte) (code : Nat) : State :=
  let e := j.expert r.expert
  let k := s.moverOf j r
  if code ≠ 0 then s.stopPhase q k code r.token r.expert
  else if j.state = .combining then
    if r.kind = 1 then
      match s.engineResult (spillRow j.words e r.slot) (32 * cOutSect (s.runningWords q)) r.access with
      | none => s
      | some (.inl (dva, code, level, word2)) => s.spillFailed q k 1 r dva code level word2
      | some (.inr bs) => (s.spillLanded j i r).rowGathered q j i r bs
    else s.rowGathered q j i r row
  else if r.stage = 1 then (s.rowRead q j i r row).endDispatch q j.ctx j.jtag
  else if r.kind = 1 then
    match s.engineResult (spillRow j.words e r.slot) (32 * dRowSect j.words) r.access with
    | none => s
    | some (.inl (dva, code, level, word2)) => s.spillFailed q k 2 r dva code level word2
    | some (.inr _) => ((s.spillLanded j i r).modRoute j i (fun r => { r with stage := 2 })).endDispatch q j.ctx j.jtag
  else (s.modRoute j i (fun r => { r with stage := 2 })).endDispatch q j.ctx j.jtag

/-- A fill-count sector has its RSP, or has failed. -/
def State.fillDone (s : State) (q : Nat) (j : Journal) (e code : Nat) : State :=
  if j.fills.contains e = false then s
  else if code ≠ 0 then s.stopPhase q (s.moverAt j.primary) code 0xFFFF e
  else
    let j' := { j with fills := j.fills.filter (· ≠ e) }
    let s := s.modJournal j.ctx j.jtag (fun _ => j')
    if j'.fills.isEmpty then s.dispatchDone q j' else s

/-- A row that is sent again has been read: it is written to the substitute of its expert's core (R206). -/
def State.resendDone (s : State) (j : Journal) (i : Nat) (row : List Byte) : State :=
  let s := s.modJournal j.ctx j.jtag (fun j => { j with resend := j.resend.filter (fun y => y.1 ≠ i) })
  match j.routes[i]? with
  | some r =>
    let e := j.expert r.expert
    forEach (rowWrites (s.physical (eCore e)) (inSlot e r.slot) (fit (32 * dRowSect j.words) row)) s (fun o s => s.emit o)
  | none => s

/-- The end of transfer `index` of a journal's running phase: a route's, then the experts' fill counts. -/
def State.phaseRsp (s : State) (q : Nat) (j : Journal) (index : Nat) (row : List Byte) (code : Nat) : State :=
  match j.routes[index]? with
  | some r => if r.flying then s.routeRsp q j index r row code else s
  | none =>
    match j.experts[index - j.routes.length]? with
    | some x => s.fillDone q j x.1 code
    | none => s

/-- The end of a transfer of a journal: of a row that is sent again, or of its running phase. -/
def State.transferRsp (s : State) (j : Journal) (index : Nat) (row : List Byte) (code : Nat) : State :=
  if j.resend.contains (index, true) then (s.resendDone j index row).pumpDrover
  else match j.queue with
    | some q => (s.phaseRsp q j index row code).pumpDrover
    | none => s

def execDroverTransferRsp (context jtag index : Nat) (row : List Byte) (code : Nat) (s : State) : Host.Outcome State Fault Refusal :=
  onUnit s (contextOk context && u16Ok jtag && rspCodeOk code)
    (match s.journal context jtag with
    | some j => s.transferRsp j index row code
    | none => s)

/-! ## Journals' ends (R205, R208) -/

/-- The lifetime of a dispatched journal passes with no COMBINE. -/
def execJournalExpired (context jtag : Nat) (s : State) : Host.Outcome State Fault Refusal :=
  onUnit s (contextOk context && u16Ok jtag)
    (match s.journal context jtag with
    | some j =>
      if j.state = .dispatched ∧ j.frozenAt = none then
        (((s.advanceTo (j.created + j.ttlNs)).freeJournal context jtag).drvErr 0x0A0A j.slice jtag context 0 0xFFFF 0xFFFF).pumpDrover
      else s
    | none => s)

/-- Both copies of a journal are lost. -/
def execJournalLost (context jtag : Nat) (s : State) : Host.Outcome State Fault Refusal :=
  onUnit s (contextOk context && u16Ok jtag)
    (match s.journal context jtag with
    | some j =>
      (match j.queue with
      | some q => (s.failDrover q 0x0A05 0 0xFFFF 0xFFFF).pumpDrover
      | none =>
        let s := (s.freeJournal context jtag).drvErr 0x0A05 j.slice jtag context 0 0xFFFF 0xFFFF
        ({ s with drv := { s.drv with lost := s.drv.lost ++ [(context, jtag)] } } : State).pumpDrover)
    | none => s)

/-- R195: every DRV_SLICE and DRV_ST_COUNT counter is zero. -/
def execDrvCntClear (path : Path) (s : State) : Host.Outcome State Fault Refusal :=
  onUnit s (pathOk path) (s.gated path 0x500000
    ((((s.clearArray .DRV_SLICE_BYTES 1 128).clearArray .DRV_SLICE_ROUTES 1 128).clearArray .DRV_SLICE_SKIP 1 128).clearArray
      .DRV_ST_COUNT 0 68))

/-! ## Resolving faults (R133) -/

/-- A command retained by a fault starts again (R133); a DISPATCH plans again from the start (R211). -/
def State.retryCmd (s : State) (q : Nat) : State :=
  match (s.queueRun q).running with
  | none => s
  | some rc =>
    match cmdOpcode rc.words with
    | 4 => s.inRange q rc.words (fun s => s.takeDispatch q rc.words)
    | 5 => s.tryCombine q
    | 1 => s.submitTile q rc.words
    | _ => s.submitDma q rc.words

def execRetry (path : Path) (context seq : Nat) (s : State) : Host.Outcome State Fault Refusal :=
  onUnit s (pathOk path && contextOk context && u32Ok seq)
    (s.gated path 0x380058 (s.resolve context seq (fun f s =>
      match f.core with
      | some c => (s.unparkTile c f.ctx).pumpEngines
      | none => (s.retryCmd f.queue).pumpDrover)))

/-- A command retained by a fault ends with the record's code. -/
def State.killCmd (s : State) (q code : Nat) : State :=
  match (s.queueRun q).running with
  | none => s
  | some rc => if rc.drover then s.failDrover q code 0 0xFFFF 0xFFFF else s.completeCmd q code code

def execKill (path : Path) (context seq : Nat) (s : State) : Host.Outcome State Fault Refusal :=
  onUnit s (pathOk path && contextOk context && u32Ok seq)
    (s.gated path 0x380058 (s.resolve context seq (fun f s =>
      match f.core with
      | some c => (s.killParked c f.ctx f.code).pumpEngines
      | none => (s.killCmd f.queue f.code).pumpDrover)))

end Sys2Proof.Machine
end

