-- ==== Sys2Proof/Machine/Sched.lean ====
section
/-! DEFINITION. The scheduler's events (R219, R220, R222, R294): the end of a tile on its core, and the kills. -/

namespace Sys2Proof.Machine

open Sys2Proof

/-- The engines of a core run a tile now: it has started, has not ended, and its core serves. -/
def State.runningTile (s : State) (core : Nat) : Option Tile :=
  match s.tileOf core with
  | some t => if t.ended ∨ s.coreLost core ∨ s.alive = false then none else some t
  | none => none

/-- The tile has ended: it commits once its tokens have cleared (R162). -/
def State.endTile (s : State) (core : Nat) : State :=
  (s.modTile core (fun t => { t with ended := true, ranNs := s.clock.gtb - t.startAt })).tryCommit core

/-- The host interface still carries a part of the transfer of a queue's DMA command, or may yet (R99). -/
def State.copying (s : State) (q : Nat) : Bool :=
  match s.dmaDesc q with
  | some d => decide (d.done < d.len) && (d.chunk.isSome || d.busy || d.lower.isSome || d.list.any (·.2.host))
  | none => false

/-- The engines end their tile, a DMA engine once its transfer is whole; past 4 × DECL the watchdog has killed it (R220, R235). -/
def execTileEnd (core ns : Nat) (s : State) : Host.Outcome State Fault Refusal :=
  onUnit s (coreOk core)
    (match s.runningTile core with
    | some t =>
      if 4 * declNs t.decl < ns then ((s.advanceTo (t.startAt + 4 * declNs t.decl)).killTile core).pumpEngines
      else if s.copying t.queue then s
      else ((s.advanceTo (t.startAt + ns)).endTile core).pumpEngines
    | none => s)

def execTileWatchdog (core : Nat) (s : State) : Host.Outcome State Fault Refusal :=
  onUnit s (coreOk core)
    (match s.runningTile core with
    | some t => ((s.advanceTo (t.startAt + 4 * declNs t.decl)).killTile core).pumpEngines
    | none => s)

/-- A tile of a context that is torn down runs still when its DECL has elapsed (R294). -/
def execTileKilledAtDecl (core : Nat) (s : State) : Host.Outcome State Fault Refusal :=
  onUnit s (coreOk core)
    (match s.runningTile core with
    | some t => if s.ctxState t.ctx = 4 then ((s.advanceTo (t.startAt + declNs t.decl)).killTile core).pumpEngines else s
    | none => s)

/-- R222: every SCH_SLICE_COUNT and SCH_RES_USE is zero. -/
def execSchCntClear (path : Path) (s : State) : Host.Outcome State Fault Refusal :=
  onUnit s (pathOk path) (s.gated path 0x580000 ((s.clearArray .SCH_SLICE_COUNT 1 128).clearArray .SCH_RES_USE 0 48))

end Sys2Proof.Machine
end

