-- ==== Sys2Proof/Machine/Well.lean ====
section
/-! DEFINITION. The Well (chapter 12): the key commands (R349–R351, R357), enrolment (R342), attestation statements
(R358–R364), and the random source (R345). -/

namespace Sys2Proof.Machine

open Sys2Proof

/-! ## Key slots (R346–R350) -/

/-- Slots there are, and how many of them may be occupied. -/
def slotCount : Nat := 272
def slotLimit : Nat := 256

def State.keySlot (s : State) (n : Nat) : KeySlot := mapGet KeySlot.init s.well.slots n
def State.setKeySlot (s : State) (n : Nat) (k : KeySlot) : State :=
  { s with well := { s.well with slots := mapSet KeySlot.init s.well.slots n k } }

/-- FULL or ESTABLISHED. -/
def KeySlot.occupied (k : KeySlot) : Bool := decide (k.state = .full ∨ k.state = .established)

/-- R346 refuses to occupy a slot. -/
def State.noSlot (s : State) (n : Nat) : Bool :=
  decide (slotLimit ≤ (s.well.slots.filter (fun e => e.2.occupied)).length) || decide ((s.keySlot n).state ≠ .empty)

/-- A parent of an attribute, FULL, whose child stays within DEPTH 7 (R350). -/
def State.parentOk (s : State) (n attr : Nat) : Bool :=
  decide (n < slotCount) && decide ((s.keySlot n).state = .full) && (s.keySlot n).attr == attr && decide ((s.keySlot n).depth < 7)

/-- A slot filled with a key. -/
def filledSlot (attr origin parent depth slice : Nat) (key : Key) : KeySlot := ⟨.full, attr, origin, parent, depth, slice, key, 0⟩

/-- Slots in `l` and every slot descended from one, at any depth. -/
def State.descendants (s : State) : Nat → List Nat → List Nat
  | 0, l => l
  | n + 1, l =>
    let more := (s.well.slots.filter (fun e => e.2.occupied && l.contains e.2.parent && !l.contains e.1)).map (·.1)
    if more.isEmpty then l else s.descendants n (l ++ more)

/-- A change set that is checked, or waits, or has passed names one of the slots as SRC_SLOT (R357). -/
def State.slotNamed (s : State) (l : List Nat) : Bool :=
  s.moot.slots.any (fun x => decide (x.state = .checking ∨ x.state = .waiting ∨ x.state = .pendingScrub ∨ x.state = .passed) &&
    x.entries.any (fun e => match e.form with
      | .key _ _ _ src => l.contains src
      | _ => false))

/-! ## KEY_BUF -/

/-- `n` bytes of KEY_BUF from byte `lo`. -/
def State.keyBuf (s : State) (lo n : Nat) : List Byte :=
  slice (wordsBytes ((List.range' (lo / 8) (n / 8 + 2)).map (fun i => s.rd .KEY_BUF i))) (lo % 8) n

/-- Output into KEY_BUF from byte 0. -/
def State.putKeyBuf (s : State) (bs : List Byte) : State :=
  let ws := bytesWords (bs.length + 1) bs
  forEach ((List.range ws.length).zip ws) s (fun x s => s.wr .KEY_BUF x.1 x.2)

/-- KEY_BUF is zeroed. -/
def State.zeroKeyBuf (s : State) : State := s.clearArray .KEY_BUF 0 2048

/-! ## Ephemeral key pairs (R314, R328, R351) -/

/-- The private halves that draws `d` to `d` + 3 give: an ECDH P-384 scalar and an ML-KEM-1024 seed. -/
def ephEc (d : Nat) : List Byte := keyBytes (Config.random d) ++ keyBytes (Config.random (d + 1))
def ephKem (d : Nat) : List Byte := keyBytes (Config.random (d + 2)) ++ keyBytes (Config.random (d + 3))

/-- The public halves: 97 and 1,568 bytes. -/
def ephPublic (d : Nat) : List Byte := fit 97 (Config.p384Public (ephEc d)) ++ fit 1568 (Config.mlkemPublic (ephKem d))

/-- Draw an ephemeral pair: its draw number. -/
def State.drawPair (s : State) : Nat × State :=
  (s.well.draws, { s with well := { s.well with draws := s.well.draws + 4, requests := s.well.requests + 4 } })

/-- ECDH secret ‖ ML-KEM secret of pair `d` with a peer's P-384 key and ciphertext; none where a check fails. -/
def ephSecret (d : Nat) (ec cipher : List Byte) : Option (List Byte) :=
  match Config.p384Ecdh (ephEc d) ec, Config.mlkemDecaps (ephKem d) cipher with
  | some a, some b => some (a ++ b)
  | _, _ => none

/-! ## Statements (R358–R361) -/

/-- A bit map of `n` bytes: bit i of byte i div 8 where `p` holds. -/
def bitBytes (n : Nat) (p : Nat → Bool) : List Byte :=
  (List.range n).map (fun b => BitVec.ofNat 8 ((List.range 8).foldl (fun v i => v + (if p (8 * b + i) then 2 ^ i else 0)) 0))

/-- The composition record of a slice. -/
def sliceRecord (m : List (Nat × Word)) (sl : Nat) : List Byte :=
  [BitVec.ofNat 8 sl] ++ bitBytes 77 (fun c => decide (c < 612) && cfgCoreTag m c == sl) ++
  bitBytes 8 (fun j => decide (cfgChanOwner m j = ⟨sl, 0⟩)) ++ bitBytes 2 (fun p => cfgLinkOwner m p == sl) ++
  wordBytes (regGet m .CMP_CHIPS sl) ++ bitBytes 16 (fun i => decide (i < 127) && cfgMember m (i + 1) sl) ++
  bitBytes 128 (fun k => cfgKeyOwner m k == sl) ++
  (cfgContractsOf m sl).flatMap (fun c => (List.range 8).flatMap (fun w => wordBytes (cfgContract m c w)))

/-- Bytes of a statement of a kind. -/
def statementBytes (kind : Nat) : Nat := if kind = 2 then 7924 else 12647

/-- Body bytes 0–511. -/
def State.statementBody (s : State) (kind sl : Nat) (nonce : List Byte) : List Byte :=
  let w := s.well
  ascii "KAS1" ++ leBytes 2 1 ++ [BitVec.ofNat 8 kind, BitVec.ofNat 8 sl] ++ leBytes 8 s.clock.gtb ++
  leBytes 4 (s.fld .CMP_EPOCH_CURRENT) ++ [BitVec.ofNat 8 s.ledger.lc,
    BitVec.ofNat 8 (bit01 s.ledger.reopened + 2 * s.fld .STG_GTB_STATUS_FALLBACK), BitVec.ofNat 8 (s.fld .CMP_CHIPNUM_CHIPNUM), 0] ++
  fit 8 (ascii "KE512") ++ fit 48 w.deviceId ++ fit 48 nonce ++ fit 48 w.measRom ++ fit 48 w.measOpgar ++ fit 48 w.measPolicy ++
  fit 48 w.cfgDigest ++ sha384 (sliceRecord s.regs sl) ++ leBytes 4 (statementBytes kind) ++ List.replicate 140 0

/-- Form a statement: a refusal code, or its bytes and the state after the draw of its signature (R359, R362). -/
def State.statement (s : State) (kind sl : Nat) (nonce : List Byte) : Sum Nat (List Byte × State) :=
  match s.well.seed with
  | none => .inl 0x0E01
  | some seed =>
    if kind ≠ 2 ∧ s.fld .KEY_STATUS_ENDORSED = 0 then .inl 0x0E06
    else if s.well.entropyOk = false then .inl 0x0E0A
    else
      let (r, s) := s.draw
      let body := s.statementBody kind sl nonce
      match Config.ecdsaSign (idScalar seed) (sha384 body), Config.mldsaSign (didMl seed) r (ascii "KUMEN-KAS") body with
      | some a, some b =>
        .inr (body ++ fit 2689 (identityKeys seed) ++ fit 96 a ++ fit 4627 b ++ (if kind = 2 then [] else fit 4723 s.well.endorsement), s)
      | _, _ => .inl 0x0E07

/-! ## Verifying a peer (R363) -/

/-- Fields of a statement. -/
def stKind (st : PeerStatement) : Nat := leNat (slice st 6 1)
def stLc (st : PeerStatement) : Nat := leNat (slice st 20 1)
def stChip (st : PeerStatement) : Nat := leNat (slice st 22 1)
def stDevice (st : PeerStatement) : List Byte := slice st 32 48
def stNonce (st : PeerStatement) : List Byte := slice st 80 48
def stMeasurements (st : PeerStatement) : List Byte := slice st 128 144
def stKeys (st : PeerStatement) : List Byte := slice st 512 2689

/-- An endorsement holds for a device (R362). -/
def endorsementOk (device endorsement : List Byte) : Bool :=
  Config.ecdsaVerify Config.endorsementKeys.1 (sha384 (ascii "KUMEN-ENDORSE" ++ device)) (slice endorsement 0 96) &&
  Config.mldsaVerify Config.endorsementKeys.2 (ascii "KUMEN-ENDORSE") device (slice endorsement 96 4627)

/-- R363. -/
def verifyStatement (st : PeerStatement) (kind : Nat) : Bool :=
  st.length == 12647 && decide (slice st 0 4 = ascii "KAS1") && leNat (slice st 4 2) == 1 && stKind st == kind &&
  leNat (slice st 368 4) == 12647 && decide (stDevice st = sha384 (stKeys st)) && endorsementOk (stDevice st) (slice st 7924 4723) &&
  Config.ecdsaVerify (slice st 512 97) (sha384 (slice st 0 512)) (slice st 3201 96) &&
  Config.mldsaVerify (slice st 609 2592) (ascii "KUMEN-KAS") (slice st 0 512) (slice st 3297 4627)

/-- SHA-384 of the measurements equals a non-zero entry of an allow list of four digests (R315, R329). -/
def State.allows (s : State) (r : Reg) (st : PeerStatement) : Bool :=
  (List.range 4).any (fun i =>
    let d := wordsBytes ((List.range 6).map (fun w => s.rd r (8 * i + w)))
    d.any (· ≠ 0) && decide (d = sha384 (stMeasurements st)))

/-! ## The commands (R349) -/

/-- What an accepted command does: a refusal code, or its effect and the bytes of its output. -/
abbrev KeyResult := Sum Nat (State × List Byte)

/-- A KEY_CMD write: ignored while BUSY, refused without functional operation (R368) or SEED (R340, R341), else its effect; the outcome is shown at the
command's end. -/
def State.keyCmd (s : State) (path : Path) (op target : Nat) (r : KeyResult) : State :=
  s.gated path 0x700000
    (if s.well.run.isSome then s.setFld .KEY_STATUS_REJECTED 0 1
    else
      let (t, code, out) : State × Nat × List Byte :=
        if s.functional = false then (s, 0x0F02, [])
        else if s.well.seed.isNone ∧ op ≠ 11 then (s, 0x0E01, [])
        else match r with
          | .inl code => (s, code, [])
          | .inr (t, out) => (t, 0, out)
      let zero := op == 3 || op == 5 || op == 7 || op == 11
      let t := if out.isEmpty then t else t.putKeyBuf out
      ({ t with well := { t.well with run := some ⟨op, target, code, out.length, zero⟩ } } : State).setFld .KEY_STATUS_BUSY 0 1)

/-- The slot number of a command exists. -/
def slotOk (n : Nat) : Bool := decide (n < 512)

/-- ATTR of a key that GENERATE and DERIVE make. -/
def attrMakes (a : Nat) : Bool := a == 0 || a == 3 || a == 4

def State.generate (s : State) (attr target : Nat) : KeyResult :=
  if slotCount ≤ target ∨ attrMakes attr = false then .inl 0x0E02
  else if s.noSlot target then .inl 0x0E04
  else if s.well.entropyOk = false then .inl 0x0E0A
  else
    let (k, s) := s.draw
    .inr (s.setKeySlot target (filledSlot attr 1 0x1FF 0 0 k), [])

def execGenerate (path : Path) (attr target : Nat) (s : State) : Host.Outcome State Fault Refusal :=
  onUnit s (pathOk path && decide (attr < 8) && slotOk target) (s.keyCmd path 1 target (s.generate attr target))

def State.derive (s : State) (attr parent target : Nat) : KeyResult :=
  if slotCount ≤ target ∨ s.parentOk parent 4 = false ∨ attrMakes attr = false then .inl 0x0E02
  else if s.noSlot target then .inl 0x0E04
  else
    let p := s.keySlot parent
    let k := bytesKey (hkdf (keyBytes p.key) (List.replicate 48 0) (ascii "KUMEN-DERIVE" ++ s.keyBuf 0 32) 32)
    .inr (s.setKeySlot target (filledSlot attr 2 parent (p.depth + 1) 0 k), [])

def execDerive (path : Path) (attr parent target : Nat) (s : State) : Host.Outcome State Fault Refusal :=
  onUnit s (pathOk path && decide (attr < 8) && slotOk parent && slotOk target)
    (s.keyCmd path 2 target (s.derive attr parent target))

def State.unwrap (s : State) (attr parent target : Nat) : KeyResult :=
  if slotCount ≤ target ∨ s.parentOk parent 3 = false ∨ ¬(attr = 0 ∨ attr = 4) then .inl 0x0E02
  else if s.noSlot target then .inl 0x0E04
  else
    let p := s.keySlot parent
    match Config.kwUnwrap p.key (s.keyBuf 0 40) with
    | some k => .inr (s.setKeySlot target (filledSlot attr 3 parent (p.depth + 1) 0 (bytesKey k)), [])
    | none => .inl 0x0E05

def execUnwrap (path : Path) (attr parent target : Nat) (s : State) : Host.Outcome State Fault Refusal :=
  onUnit s (pathOk path && decide (attr < 8) && slotOk parent && slotOk target)
    (s.keyCmd path 3 target (s.unwrap attr parent target))

def State.seal (s : State) (parent : Nat) : KeyResult :=
  let p := s.keySlot parent
  if slotCount ≤ parent ∨ p.state ≠ .full ∨ attrMakes p.attr = false then .inl 0x0E02
  else .inr (s, fit 48 (Config.kwWrap s.well.kstore (keyBytes p.key ++ [BitVec.ofNat 8 p.attr] ++ List.replicate 7 0)))

def execSeal (path : Path) (parent : Nat) (s : State) : Host.Outcome State Fault Refusal :=
  onUnit s (pathOk path && slotOk parent) (s.keyCmd path 4 parent (s.seal parent))

def State.unseal (s : State) (target : Nat) : KeyResult :=
  if slotCount ≤ target then .inl 0x0E02
  else if s.noSlot target then .inl 0x0E04
  else match Config.kwUnwrap s.well.kstore (s.keyBuf 0 48) with
    | some b => .inr (s.setKeySlot target (filledSlot (leNat (slice b 32 1)) 4 0x1FF 0 0 (bytesKey (slice b 0 32))), [])
    | none => .inl 0x0E05

def execUnseal (path : Path) (target : Nat) (s : State) : Host.Outcome State Fault Refusal :=
  onUnit s (pathOk path && slotOk target) (s.keyCmd path 5 target (s.unseal target))

/-- ESTABLISH: the private halves stand in TARGET as their draw number. -/
def State.establish (s : State) (sl target : Nat) : KeyResult :=
  if slotCount ≤ target then .inl 0x0E02
  else if s.noSlot target then .inl 0x0E04
  else if s.well.entropyOk = false then .inl 0x0E0A
  else
    let (d, t) := s.drawPair
    match t.statement 5 sl (sha384 (ephPublic d)) with
    | .inl code => .inl code
    | .inr (st, t) => .inr (t.setKeySlot target ⟨.established, 0, 5, 0x1FF, 0, sl, 0, d⟩, ephPublic d ++ st)

def execEstablish (path : Path) (slice target : Nat) (s : State) : Host.Outcome State Fault Refusal :=
  onUnit s (pathOk path && decide (slice < 256) && slotOk target) (s.keyCmd path 6 target (s.establish slice target))

/-- ACCEPT: the wrapping key, or an EMPTY slot. -/
def State.accept (s : State) (target : Nat) : KeyResult :=
  let k := s.keySlot target
  if slotCount ≤ target ∨ k.state ≠ .established then .inl 0x0E02
  else match ephSecret k.draw (s.keyBuf 0 97) (s.keyBuf 97 1568) with
    | some z =>
      let key := bytesKey (hkdf z (sha384 (ephPublic k.draw)) (ascii "KUMEN-IMPORT") 32)
      .inr (s.setKeySlot target (filledSlot 3 5 0x1FF 0 k.slice key), [])
    | none => .inl 0x0E05

/-- A failed point check or decapsulation leaves the slot EMPTY. -/
def execAccept (path : Path) (target : Nat) (s : State) : Host.Outcome State Fault Refusal :=
  let r := s.accept target
  onUnit s (pathOk path && slotOk target)
    (let t := s.keyCmd path 7 target r
    if s.taken path 0x700000 ∧ s.well.run.isNone ∧ s.functional ∧ s.well.seed.isSome ∧ r.getLeft? = some 0x0E05 then
      t.setKeySlot target KeySlot.init
    else t)

def State.keyDestroy (s : State) (target : Nat) : KeyResult :=
  let l := s.descendants 8 [target]
  if slotCount ≤ target then .inl 0x0E02
  else if s.slotNamed l then .inl 0x0E08
  else .inr (forEach (l.filter (fun n => decide ((s.keySlot n).state ≠ .bad))) s (fun n s => s.setKeySlot n KeySlot.init), [])

def execKeyDestroy (path : Path) (target : Nat) (s : State) : Host.Outcome State Fault Refusal :=
  onUnit s (pathOk path && slotOk target) (s.keyCmd path 8 target (s.keyDestroy target))

def State.keyAttest (s : State) (sl : Nat) : KeyResult :=
  match s.statement 1 sl (s.keyBuf 0 48) with
  | .inl code => .inl code
  | .inr (st, t) => .inr (t, st)

def execKeyAttest (path : Path) (slice : Nat) (s : State) : Host.Outcome State Fault Refusal :=
  onUnit s (pathOk path && decide (slice < 256)) (s.keyCmd path 9 0 (s.keyAttest slice))

def State.endorse (s : State) : KeyResult :=
  let e := s.keyBuf 0 4723
  if endorsementOk (fit 48 s.well.deviceId) e then
    .inr (({ s with well := { s.well with endorsement := e } } : State).setFld .KEY_STATUS_ENDORSED 0 1, [])
  else .inl 0x0E06

def execEndorse (path : Path) (s : State) : Host.Outcome State Fault Refusal := onUnit s (pathOk path) (s.keyCmd path 10 0 s.endorse)

/-! ## Enrolment (R342) -/

/-- Block `i` of the majority of the readings; a tie is 0. -/
def majorityBlock (readings : List PufReading) (i : Nat) : BitVec 255 :=
  BitVec.ofNat 255 ((List.range 255).foldl (fun v b =>
    v + (if readings.length < 2 * (readings.filter (fun r => (r.getD i 0).toNat.testBit b)).length then 2 ^ b else 0)) 0)

/-- The helper data of response blocks: each is XORed with a codeword drawn from the random source, from draw `d`. -/
def helperData (d : Nat) (blocks : List (BitVec 255)) : List (BitVec 255) :=
  (List.range blocks.length).zip blocks |>.map (fun x =>
    x.2 ^^^ Config.bchEncode (BitVec.ofNat 131 (Config.random (d + x.1)).toNat))

def State.enroll (s : State) (readings : List PufReading) : KeyResult :=
  let o := s.ledger.otp
  if s.ledger.lc ≠ 4 ∨ o.helper.isEmpty = false then .inl 0x0E09
  else if s.well.entropyOk = false then .inl 0x0E0A
  else
    let blocks := (List.range 64).map (majorityBlock readings)
    let d := s.well.draws
    let o' := { o with helper := helperData d blocks, check := seedCheck (seedOf blocks) }
    let s : State := { s with ledger := { s.ledger with otp := o' },
                              well := { s.well with draws := d + 64, requests := s.well.requests + 64 } }
    .inr (s.setFld .KEY_STATUS_UNENROLLED 0 0, [])

def execEnroll (path : Path) (readings : List PufReading) (s : State) : Host.Outcome State Fault Refusal :=
  onUnit s (pathOk path && readings.length == 8 && readings.all (fun r => r.length == 64)) (s.keyCmd path 11 0 (s.enroll readings))

/-! ## The end of a command -/

/-- The running command ends: RESULT and OUT_LEN, the record of R366, CMD_DONE. -/
def execKeyCmdDone (s : State) : Host.Outcome State Fault Refusal :=
  onUnit s true
    (match s.well.run with
    | none => s
    | some r =>
      let s : State := { s with well := { s.well with run := none } }
      let s := ((s.setFld .KEY_STATUS_BUSY 0 0).setFld .KEY_STATUS_RESULT 0 r.result).setFld .KEY_STATUS_OUT_LEN 0 r.outLen
      let s := if r.zeroBuf then s.zeroKeyBuf else s
      let s := if r.result = 0x0E05 ∨ r.result = 0x0E06 ∨ r.result = 0x0E07 then s.err r.result else s
      s.setCause 0x0E 0)

/-! ## The random source (R345) -/

/-- A health test fails: the source stops. -/
def execEntropyFail (s : State) : Host.Outcome State Fault Refusal :=
  onUnit s true
    (if s.alive ∧ s.well.entropyOk then ({ s with well := { s.well with entropyOk := false } } : State).alarm 0x0E0A else s)

/-- 2^20 requests since the last seeding: the generator is seeded again. -/
def execReseed (s : State) : Host.Outcome State Fault Refusal :=
  onUnit s true (if s.alive ∧ s.well.entropyOk then { s with well := { s.well with requests := 0 } } else s)

end Sys2Proof.Machine
end

