-- ==== Sys2Proof/Machine/Link.lean ====
section
/-! DEFINITION. The link stations (chapter 11): flit groups and replay (R324–R327), key exchanges and phases
(R328–R331), inbound requests (R332, R333), port states (R336, R337) and lanes (R338). -/

namespace Sys2Proof.Machine

open Sys2Proof

/-- The slice that an event of port `p` concerns. -/
def State.portSlice (s : State) (p : Nat) : Nat := if cfgLinkOwner s.regs p ≤ 128 then cfgLinkOwner s.regs p else 0

/-! ## Outbound transactions (R334) -/

/-- An outbound transaction has not completed: its flight, or its released write, is still there. -/
def State.txnLive (s : State) (t : LinkTxn) : Bool :=
  if t.write then (s.cluster t.k).released.any (fun r => r.id == t.id)
  else (s.cluster t.k).flights.any (fun f => f.acc.seq == t.id)

/-- Completed transactions are no longer outstanding, and what waited for one goes. -/
def State.settleTxns (s : State) (p : Nat) : State :=
  (s.modLink p (fun l => { l with txns := l.txns.filter s.txnLive })).pumpLink p

/-- A transaction completes with a bus error (R336). -/
def State.failTxn (s : State) (code : Nat) (t : LinkTxn) : State :=
  if t.write then s.modCluster t.k (fun c => { c with rsps := c.rsps ++ [(t.id, code)] })
  else match (s.cluster t.k).flights.find? (fun f => f.acc.seq == t.id) with
    | some f =>
      let s := s.modCluster t.k (fun c => { c with tokens := c.tokens.filter (fun x => x.seq ≠ t.id) })
      s.busErrorRecord t.k f.acc code
    | none => s

/-! ## The end of an exchange, and DOWN (R329, R337) -/

/-- The exchange ends with a result: 0 or 0x0D06. -/
def State.kxOver (s : State) (result : Nat) : State :=
  let s := (({ s with kx := none } : State).setFld .LNK_KX_STATUS_BUSY 0 0).setFld .LNK_KX_STATUS_RESULT 0 result
  (s.count .LNK_KX_STATUS_DONE).setCause 0x0D 1

/-- An exchange runs on port `p`; it takes messages outside the isolation clamps (R29). -/
def State.kxOn (s : State) (p : Nat) : Option Kx := s.kx.filter (fun x => x.port == p)
def State.kxTakes (s : State) (p : Nat) : Option Kx := if s.stationOn .link p then s.kxOn p else none

/-- Port `p` enters DOWN. -/
def State.portDown (s : State) (p : Nat) : State :=
  let l := s.link p
  let lost := l.txns ++ l.outq.filterMap (·.2)
  let s := s.setLink p { LinkStation.init with up := l.up, laneCe := l.laneCe, pendingMap := l.pendingMap,
                                               epoch := l.epoch, prevEpoch := l.prevEpoch, stub := l.stub }
  let s := (s.setFld .LNK_PORT_STATUS_STATE p 0).setCause 0x0D 2
  let s := forEach lost s (fun t s => s.failTxn 0x0D02 t)
  match s.kxOn p with
  | some _ => s.kxOver 0x0D06
  | none => s

/-- The exchange fails: a port in KEYING goes DOWN, a rekey leaves its port as it is. -/
def State.kxFail (s : State) (x : Kx) : State :=
  let s := s.kxOver 0x0D06
  if x.rekey = false ∧ s.fld .LNK_PORT_STATUS_STATE x.port = 1 then s.portDown x.port else s

/-! ## Key exchange (R328–R330) -/

/-- Own chip has the lower number. -/
def State.lowerChip (s : State) (p : Nat) : Bool := decide (s.fld .CMP_CHIPNUM_CHIPNUM < s.fld .LNK_PORT_CFG_PEER_CHIP p)

/-- What the lower-numbered chip gives, then what the higher gives. -/
def State.chipOrder {α : Type} (s : State) (p : Nat) (own peer : α) : α × α := if s.lowerChip p then (own, peer) else (peer, own)

/-- CTL messages on the ports, by kind: 0 KX_HELLO, 1 KX_FINISH, 2 KX_CONFIRM, 3 LANE_MAP, 4 a replay request. -/
def State.ctl (s : State) (p kind arg : Nat) (payload : List Byte) : State := s.emit (.linkCtl p kind arg payload)

/-- The two slots of an exchange are different, empty, and may be occupied (R328, R346). -/
def State.kxSlotsOk (s : State) (tx rx : Nat) : Bool :=
  decide (tx < slotCount) && decide (rx < slotCount) && tx != rx && decide ((s.keySlot tx).state = .empty) &&
  decide ((s.keySlot rx).state = .empty) && decide ((s.well.slots.filter (fun e => e.2.occupied)).length + 2 ≤ slotLimit)

/-- An exchange starts: its HELLO goes out. -/
def State.kxBegin (s : State) (p tx rx : Nat) (up : Bool) : State :=
  let s := s.modLink p (fun l => { l with up := up })
  if up = false ∨ s.stationOn .link p = false ∨ s.kxSlotsOk tx rx = false then s.kxOver 0x0D06
  else
    let (d, t) := s.drawPair
    match t.statement 4 (cfgLinkOwner s.regs p) (sha384 (ephPublic d)) with
    | .inl _ => s.kxOver 0x0D06
    | .inr (st, s) =>
      let hello := ephPublic d ++ st
      let state := s.fld .LNK_PORT_STATUS_STATE p
      let x : Kx := ⟨p, tx, rx, d, decide (2 ≤ state), s.clock.gtb, hello, none, [], [], none⟩
      let s : State := { s with kx := some x }
      let s := if state = 0 then s.setFld .LNK_PORT_STATUS_STATE p 1 else s
      ((s.setFld .LNK_KX_STATUS_BUSY 0 1).setFld .LNK_KX_STATUS_RESULT 0 0).ctl p 0 0 hello

def execKxStart (path : Path) (port slotTx slotRx : Nat) (up : Bool) (s : State) : Host.Outcome State Fault Refusal :=
  onUnit s (pathOk path && linkOk port && slotOk slotTx && slotOk slotRx)
    (s.gated path 0x680000 (if s.kx.isSome then s else s.kxBegin port slotTx slotRx up))

/-- R329's conditions on a HELLO, and that its nonce is that of its keys (R328). -/
def State.helloOk (s : State) (p : Nat) (st : PeerStatement) (pubKeys : List Byte) : Bool :=
  verifyStatement st 4 && stLc st == s.ledger.lc && stChip st == s.fld .LNK_PORT_CFG_PEER_CHIP p &&
  s.allows .LNK_PEER_ALLOW st && decide (stNonce st = sha384 (fit 1665 pubKeys))

/-- A HELLO is accepted: a secret is encapsulated to the peer's key. -/
def State.onHello (s : State) (x : Kx) (st : PeerStatement) (pubKeys : List Byte) : State :=
  if s.helloOk x.port st pubKeys = false ∨ s.well.entropyOk = false then s.kxFail x
  else
    let (r, s) := s.draw
    match Config.mlkemEncaps (slice pubKeys 97 1568) (keyBytes r) with
    | none => s.kxFail x
    | some (cipher, secret) =>
      let y := { x with peerHello := some (fit 1665 pubKeys ++ st), ownCipher := fit 1568 cipher, ownSecret := secret }
      ({ s with kx := some y } : State).ctl x.port 1 0 (fit 1568 cipher)

def execKxHello (port : Nat) (st : PeerStatement) (pubKeys : List Byte) (s : State) : Host.Outcome State Fault Refusal :=
  onUnit s (linkOk port)
    (match s.kxTakes port with
    | some x => if x.peerHello.isNone ∧ s.fld .LNK_PORT_STATUS_STATE port ≠ 0 then s.onHello x st pubKeys else s
    | none => s)

/-- The 112 bytes of R330: the lower chip's sending key, the higher's, the confirm key. -/
def State.kxKeys (s : State) (x : Kx) (peerHello peerCipher : List Byte) : Option (List Byte) :=
  match Config.p384Ecdh (ephEc x.draw) (slice peerHello 0 97), Config.mlkemDecaps (ephKem x.draw) peerCipher with
  | some z, some secret =>
    -- The peer's ciphertext carries the secret the peer encapsulated.
    let (a, b) := s.chipOrder x.port x.ownSecret secret
    let (n, m) := s.chipOrder x.port (sha384 (slice x.ownHello 0 1665)) (sha384 (slice peerHello 0 1665))
    some (hkdf (z ++ a ++ b) (n ++ m) (ascii "KUMEN-LINK") 112)
  | _, _ => none

/-- The confirmation: HMAC over both HELLOs and both FINISHes, the lower chip's first of each. -/
def State.kxMac (s : State) (x : Kx) (keys peerHello peerCipher : List Byte) : List Byte :=
  let (a, b) := s.chipOrder x.port x.ownHello peerHello
  let (c, d) := s.chipOrder x.port x.ownCipher peerCipher
  hmac384 (slice keys 64 48) (a ++ b ++ c ++ d)

def execKxFinish (port : Nat) (ciphertext : List Byte) (s : State) : Host.Outcome State Fault Refusal :=
  onUnit s (linkOk port)
    (match s.kxTakes port with
    | none => s
    | some x => match x.peerHello, x.peerCipher with
      | some h, none =>
        let c := fit 1568 ciphertext
        (match s.kxKeys x h c with
        | none => s.kxFail x
        | some keys => ({ s with kx := some { x with peerCipher := some c } } : State).ctl port 2 0 (s.kxMac x keys h c))
      | _, _ => s)

/-- The keys of an exchange go into its slots: the sending key ENC_ONLY, the receiving key DEC_ONLY. -/
def State.kxStore (s : State) (x : Kx) (keys : List Byte) : State :=
  let (tx, rx) := if s.lowerChip x.port then (slice keys 0 32, slice keys 32 32) else (slice keys 32 32, slice keys 0 32)
  (s.setKeySlot x.slotTx (filledSlot 1 6 0x1FF 0 0 (bytesKey tx))).setKeySlot x.slotRx (filledSlot 2 6 0x1FF 0 0 (bytesKey rx))

def execKxConfirm (port : Nat) (mac : List Byte) (s : State) : Host.Outcome State Fault Refusal :=
  onUnit s (linkOk port)
    (match s.kxTakes port with
    | none => s
    | some x => match x.peerHello, x.peerCipher with
      | some h, some c =>
        (match s.kxKeys x h c with
        | none => s.kxFail x
        | some keys =>
          if fit 48 mac = s.kxMac x keys h c ∧ s.kxSlotsOk x.slotTx x.slotRx then (s.kxStore x keys).kxOver 0 else s.kxFail x)
      | _, _ => s)

def execKxTimeout (port : Nat) (s : State) : Host.Outcome State Fault Refusal :=
  onUnit s (linkOk port)
    (match s.kxOn port with
    | some x => (s.advanceTo (x.startAt + 10000000)).kxFail x
    | none => s)

/-! ## Retiring a phase (R331) -/

/-- The pair of key entries of a phase. -/
def phaseEntries (phase : Bool) : List Nat := [bit01 phase, 2 + bit01 phase]

def execLinkRetire (path : Path) (port : Nat) (phase : Bool) (s : State) : Host.Outcome State Fault Refusal :=
  onUnit s (pathOk path && linkOk port) (s.gated path 0x680010
    (if s.stationOn .link port then s.modLink port (fun l => { l with retire := some phase }) else s))

/-- The conditions of a retire hold, and no group waits for its replay. -/
def State.mayRetire (s : State) (p : Nat) (phase : Bool) : Bool :=
  let l := s.link p
  s.fld .LNK_PORT_CFG_TX_PHASE p != bit01 phase && !l.replay.any (fun g => g.phase == phase) && l.sawPhase && l.failedFsn.isNone

def execLinkRetireDone (port : Nat) (s : State) : Host.Outcome State Fault Refusal :=
  onUnit s (linkOk port)
    (match (s.link port).retire with
    | some ph =>
      if s.mayRetire port ph then
        let s := s.modLink port (fun l => { l with retire := none, keys := (phaseEntries ph).foldl mapErase l.keys })
        (s.count .LNK_PORT_STATUS_RETIRE_DONE port).setCause 0x0D 3
      else s
    | none => s)

/-! ## The limits of a phase (R327) -/

/-- The count of groups of a port's phase reaches `n`: the groups it has sealed since are all acknowledged. -/
def State.groupsReach (s : State) (p n : Nat) : State :=
  let d := n - s.fld .LNK_COUNT_GROUPS p
  (s.setFld .LNK_COUNT_GROUPS p (saturate 40 n)).modLink p (fun l => { l with fsnTx := l.fsnTx + d })

def execRekeyDue (port : Nat) (s : State) : Host.Outcome State Fault Refusal :=
  onUnit s (linkOk port)
    (if s.linkOpen port ∧ s.fld .LNK_COUNT_GROUPS port ≤ 2 ^ 39 then (s.groupsReach port (2 ^ 39)).setCause 0x0D 0 else s)

def execSealLimit (port : Nat) (s : State) : Host.Outcome State Fault Refusal :=
  onUnit s (linkOk port)
    (if s.linkOpen port ∧ (s.link port).sealHold = false then
      let s := (s.groupsReach port (2 ^ 40)).modLink port (fun l => { l with sealHold := true })
      (s.setFld .LNK_PORT_STATUS_STATE port 3).raise .error 0x0D07 (s.portSlice port) (172 + port)
    else s)

def execLinkDown (port : Nat) (s : State) : Host.Outcome State Fault Refusal :=
  onUnit s (linkOk port)
    (let s := s.modLink port (fun l => { l with up := false })
    if s.fld .LNK_PORT_STATUS_STATE port ≠ 0 then s.portDown port else s)

/-! ## Inbound messages (R332, R333) -/

/-- The bytes of a flit's header (R324). -/
def Flit.header (f : Flit) : List Byte :=
  [BitVec.ofNat 8 f.cls, BitVec.ofNat 8 (bit01 f.last * 128 + f.index % 8 * 16 + bit01 f.phase)] ++ leBytes 2 f.credits ++
  [BitVec.ofNat 8 f.wireTag, 0, 0, 0] ++ leBytes 8 f.fsn

/-- A request is answered with a bus error, and the count DENIED (R332, R333). -/
def State.denyInbound (s : State) (p : Nat) : State := (s.bump .LNK_COUNT_DENIED p).linkSend p 2 none

/-- What R54 and R333 say of an inbound access: the Hedge's code, or the granule's owner and the KeyID to use. -/
def State.inbound (s : State) (p : Nat) (read : Bool) (pa keyid : Nat) : Sum Nat (Owner × Nat) :=
  let sl := cfgLinkOwner s.regs p
  let o := s.ownerOf pa
  if pa / 2 ^ 50 ≠ s.fld .CMP_CHIPNUM_CHIPNUM then .inl 0x0507
  else if pa % 2 ^ 50 / 2 ^ 39 ≠ 0 then .inl 0x0508
  else if o.tag = 0xFF then .inl 0x0503
  else if o.tag = 0xFE then
    (if read = false then .inl 0x0504
    else if cfgMember s.regs o.cid sl = false then .inl 0x0505
    else if keyid ≠ 0 then .inl 0x0D05
    else .inr (o, s.keyFor o 0))
  else if o.tag ≠ sl then .inl 0x0502
  else if cfgKeyOwner s.regs keyid ≠ sl then .inl 0x0D05
  else .inr (o, keyid)

/-- An inbound atomic that R178 refuses: a bus error with 0x0809, and nothing is read. -/
def State.inboundBad (s : State) (p : Nat) : State :=
  (s.raise .error 0x0809 (cfgLinkOwner s.regs p) (172 + p)).linkSend p 2 none

/-- The form of an inbound atomic is one that R178 refuses. -/
def MemKind.badForm (pa : Nat) : MemKind → Bool
  | .atomic op eight _ _ _ => atomicForm op eight pa
  | _ => false

/-- An accepted inbound request goes through the snoop filter to its memory station, under its link station's epoch (R62). -/
def State.inboundOp (s : State) (p txn keyid pa : Nat) (o : Owner) (kind : MemKind) (d : Line) (be : ByteMask) : State :=
  let sl := cfgLinkOwner s.regs p
  let cid := if o.tag = 0xFE then some o.cid else none
  match s.place pa with
  | none => s.denyInbound p
  | some (q, line) =>
    let op := MemOp.fresh (s.link p).epoch (.link p txn) 0x3FF sl 8192 keyid line (pa / 128) kind d be
    if kind = .read then s.filterRead q op cid false false else s.filterWrite q op cid

/-- A request of `n` lines from byte address `pa`. -/
def State.inboundReq (s : State) (p txn pa n keyid : Nat) (kind : MemKind) (d : Line) (be : ByteMask) : State :=
  match s.inbound p (decide (kind = .read)) pa keyid with
  | .inl _ => s.denyInbound p
  | .inr (o, k) =>
    if kind.badForm pa then s.inboundBad p
    else forEach (List.range n) s (fun i s => s.inboundOp p txn k (pa + 128 * i) o kind d be)

/-- A peer Drover's transfer names a core of this chip: its tag must be the port's owner (R54, R199, R333). Bytes are written into
its SRAM, or `bytes` of them are read and sent. -/
def State.inboundSram (s : State) (p core off bytes : Nat) (data : Option (List Byte)) : State :=
  if 612 ≤ core ∨ 0x600000 < off + bytes ∨ cfgCoreTag s.regs core ≠ cfgLinkOwner s.regs p then s.denyInbound p
  else match data with
    | some bs => (s.emit (.sramRow (s.physical core) off (fit bytes bs))).linkSend p 2 none
    | none => (s.emit (.sramRead (s.physical core) off bytes)).linkSend p 3 none

/-- The flight of a transaction number of this chip: the number of its access. -/
def State.peerFlight (s : State) (n : Nat) : Option Flight := (s.cluster (n % 68)).flight (n / 68 / 2)

/-- A transaction number names a released write. -/
def txnWrite (n : Nat) : Bool := n / 68 % 2 == 1

/-- An RSP of the owning chip (R334): a write's, a bus error, or an atomic's old value. -/
def State.linkRsp (s : State) (n code value : Nat) : State :=
  let k := n % 68
  if txnWrite n then
    (if (s.cluster k).released.any (fun r => r.id == n / 68 / 2 && r.remote) then
      s.modCluster k (fun c => { c with rsps := c.rsps ++ [(n / 68 / 2, code)] })
    else s)
  else match s.peerFlight n with
    | some f =>
      if f.link.isNone then s
      else if (s.staleFlight k f.acc.seq).isSome then s.refuseStale k f.acc
      else if code ≠ 0 then s.busErrorRecord k f.acc code
      else if f.acc.req.opc = 4 then (s.answerAtomic k f.acc (word value)).resumeStalled k
      else s
    | none => s

/-- One message of a verified group. -/
def State.linkMessage (p : Nat) (m : List Nat) (s : State) : State :=
  match m with
  | [0, txn, pa, n, keyid] => s.inboundReq p txn pa (min n 64) keyid .read 0 0
  | [1, txn, pa, keyid, d, be] => s.inboundReq p txn pa 1 keyid .write (BitVec.ofNat 1024 d) (BitVec.ofNat 128 be)
  | [2, txn, pa, keyid, op, eight, operand, compare] =>
    s.inboundReq p txn pa 1 keyid (.atomic op (eight == 1) (pa % 128) (word operand) (word compare)) 0 0
  | [3, n, beat, spec, line, d] =>
    (match s.peerFlight n with
    | some f => if f.link.isSome ∧ txnWrite n = false then
        s.returnLine (n % 68) f.acc.seq beat line (spec == 1) true (BitVec.ofNat 1024 d) else s
    | none => s)
  | [4, n, code, value] => s.linkRsp n code value
  | [5, n, v, code] =>
    let verdict : Verdict := if v = 0 then .pass else if v = 1 then .replay else .fail
    if (s.cluster (n % 68)).tokens.any (fun t => t.seq == n / 68 / 2 && t.remote) then
      s.modCluster (n % 68) (fun c => { c with verdicts := c.verdicts ++ [(n / 68 / 2, verdict, if v = 2 then code else 0)] })
    else s
  | [6, fsn] => s.modLink p (fun l => { l with replay := l.replay.filter (fun g => decide (fsn ≤ g.fsn)) })
  | [7, core, off, bytes] => s.inboundSram p core off bytes none
  | [8, core, off, bytes, d] => s.inboundSram p core off bytes (some (leBytes bytes d))
  | _ => s

/-- The class that carries a message: 1 REQ, 2 RSP, 3 DAT, 4 CTL; a write comes with its data in DAT or whole in REQ. -/
def messageFits (cls : Nat) (m : List Nat) : Bool :=
  match m.headD 7 with
  | 0 => cls == 1
  | 1 => cls == 1 || cls == 3
  | 2 => cls == 1
  | 3 => cls == 3
  | 4 => cls == 2
  | 5 => cls == 2
  | 6 => cls == 4
  | 7 => cls == 1
  | 8 => cls == 1 || cls == 3
  | _ => false

/-- A flit of a REQ or DAT message is for another tag, or the port has no owner (R332). -/
def State.wireBad (s : State) (p : Nat) (f : Flit) : Bool :=
  (f.cls == 1 || f.cls == 3) && (cfgLinkOwner s.regs p == 0xFF || f.wireTag != cfgLinkOwner s.regs p)

/-! ## Flit groups (R324–R326) -/

/-- IV of a group (R325). -/
def groupIv (chip port fsn : Nat) : List Byte := beBytes 12 (chip * 2 ^ 90 + port % 16 * 2 ^ 86 + fsn % 2 ^ 64)

/-- Open a group under the receiving key of its phase: its bodies' plaintext. -/
def State.openGroup (s : State) (p : Nat) (fs : List Flit) : Option (List Byte) :=
  match fs with
  | [] => none
  | f :: _ =>
    let l := s.link p
    let body := fs.flatMap (fun x => fit 240 x.body)
    let ct := body.take (body.length - 16)
    let tag : BitVec 128 := BitVec.ofNat 128 (beNat (body.drop (body.length - 16)))
    if fs.any (fun x => decide (4 < x.cls)) then none
    else match l.keys.find? (fun e => e.1 == 2 + bit01 f.phase) with
      | some e =>
        Config.gcmOpen e.2 (groupIv (s.fld .LNK_PORT_CFG_PEER_CHIP p) (Config.peerPort p) f.fsn) (fs.flatMap Flit.header) ct tag
      | none => none

/-- A group fails its tag: it is discarded and a replay asked for; at the second failure the port goes DOWN (R326). -/
def State.groupFails (s : State) (p fsn : Nat) : State :=
  if (s.link p).failedFsn = some fsn then (s.raise .alarm 0x0D01 (s.portSlice p) (172 + p)).portDown p
  else (s.modLink p (fun l => { l with failedFsn := some fsn, partialRx := [] })).ctl p 4 fsn []

/-- A verified group's messages, flit by flit. A message under a wrong tag is discarded and answered with 0x0D04. -/
def State.groupMessages (s : State) (p : Nat) (fs : List Flit) (plain : List Byte) : State :=
  let s := if fs.any (s.wireBad p) then
      (s.raise .error 0x0D04 (s.portSlice p) (172 + p)).denyInbound p
    else forEach ((Config.linkMessages plain).filter (messageFits ((fs.map (·.cls)).headD 0))) s (State.linkMessage p)
  (s.settleTxns p).pumpEngines

/-- A group is complete (R326). -/
def State.groupDone (s : State) (p : Nat) (fs : List Flit) : State :=
  let fsn := (s.link p).fsnRx
  match s.openGroup p fs with
  | none => s.groupFails p fsn
  | some plain =>
    let again := decide ((s.link p).failedFsn = some fsn)
    let phase := fs.any (fun f => bit01 f.phase == s.fld .LNK_PORT_CFG_TX_PHASE p)
    let s := s.modLink p (fun l => { l with fsnRx := l.fsnRx + fs.length, partialRx := [], failedFsn := none, sawPhase := l.sawPhase || phase })
    let s := if again then (s.bump .LNK_COUNT_REPLAYS p).raise .log 0x0D09 (s.portSlice p) (172 + p) else s
    s.groupMessages p fs plain

/-- A flit is well formed: header fields within their widths, 240 bytes of body. -/
def flitOk (f : Flit) : Bool :=
  decide (f.cls < 256) && decide (f.index < 8) && u16Ok f.credits && decide (f.wireTag < 256) && decide (f.fsn < 2 ^ 64) &&
  f.body.length == 240

/-- A flit arrives: only the next in FSN order is accepted; the last of a group, or an eighth, ends it. -/
def execKlfFlit (port : Nat) (f : Flit) (s : State) : Host.Outcome State Fault Refusal :=
  onUnit s (linkOk port && flitOk f)
    (let l := s.link port
    if s.linkOpen port = false ∨ f.fsn ≠ l.fsnRx + l.partialRx.length then s
    else
      let fs := l.partialRx ++ [f]
      if f.index ≠ l.partialRx.length ∨ (f.last = false ∧ fs.length = 8) then s.groupFails port l.fsnRx
      else if f.last then s.groupDone port fs
      else s.setLink port { l with partialRx := fs })

/-- Send again every group from an FSN (R326). -/
def State.resend (s : State) (p fsn : Nat) : State :=
  forEach ((s.link p).replay.filter (fun g => decide (fsn ≤ g.fsn))) s (fun g s =>
    s.emit (.linkTx p g.cls (if g.cls = 1 ∨ g.cls = 3 then s.fld .LNK_PORT_CFG_WIRE_TAG p else 0) g.fsn g.flits g.phase))

/-- R326; during a retraining window the replay waits for its end (R338). -/
def execLinkReplayRequest (port fsn : Nat) (s : State) : Host.Outcome State Fault Refusal :=
  onUnit s (linkOk port)
    (if s.linkOpen port = false then s
    else if (s.link port).window then s.modLink port (fun l => { l with replayFrom := some (min fsn (l.replayFrom.getD fsn)) })
    else s.resend port fsn)

/-! ## Lanes (R338, R390) -/

/-- Lane `n` of a port has failed. -/
def State.laneBad (s : State) (p n : Nat) : Bool := bitOf n (word (s.fld .LNK_LANE_FAILED p))

/-- Lane 8 is healthy and stands for no lane, now or from the next window. -/
def State.laneFree (s : State) (p : Nat) : Bool :=
  !s.laneBad p 8 && s.fld .LNK_LANE_MAPPED_OUT p == 0xF && (s.link p).pendingMap.isNone

/-- Data lanes that have failed and that lane 8 does not stand for. -/
def State.lanesLost (s : State) (p : Nat) : Nat :=
  let bad := ((List.range 8).filter (s.laneBad p)).length
  if s.laneBad p 8 ∨ (s.fld .LNK_LANE_MAPPED_OUT p = 0xF ∧ (s.link p).pendingMap.isNone) then bad else bad - 1

/-- A lane fails: it is marked, the peer told, and lane 8 takes its place at the next window; without a healthy spare lane
the port runs on 7 lanes, and at a further loss it goes DOWN. -/
def State.laneFail (s : State) (p n : Nat) : State :=
  if s.laneBad p n then s
  else
    let free := s.laneFree p
    let mapped := decide (s.fld .LNK_LANE_MAPPED_OUT p ≠ 0xF) || (s.link p).pendingMap.isSome
    let s := s.setFld .LNK_LANE_FAILED p (s.fld .LNK_LANE_FAILED p + 2 ^ n)
    let s := (s.ctl p 3 n []).raise .log 0x0D08 (s.portSlice p) (172 + p) (word n)
    if n < 8 ∧ free then
      ((s.modLink p (fun l => { l with pendingMap := some n })).substituted 4 p 8).stageRecord []
    else if n < 8 ∨ mapped then
      let s := s.noSpare 4 p (s.portSlice p)
      if 2 ≤ s.lanesLost p ∧ s.fld .LNK_PORT_STATUS_STATE p ≠ 0 then s.portDown p else s
    else s

/-- The window opens: traffic pauses, and a pending lane takes lane 8 (R338). -/
def State.openWindow (s : State) (p : Nat) : State :=
  let s := match (s.link p).pendingMap with
    | some n => s.setFld .LNK_LANE_MAPPED_OUT p n
    | none => s
  let s := s.modLink p (fun l => { l with window := true, pendingMap := none })
  let s := if s.linkOpen p then s.setFld .LNK_PORT_STATUS_STATE p 3 else s
  s.emit (.retrain p (s.fld .LNK_LANE_MAPPED_OUT p))

/-- A lane of the nine, of a powered port. -/
def laneOk (port lane : Nat) : Bool := linkOk port && decide (lane < 9)

def execLaneCe (port lane : Nat) (s : State) : Host.Outcome State Fault Refusal :=
  onUnit s (laneOk port lane)
    (if s.stationOn .link port = false then s
    else
      let ms := s.clock.gtb / 1000000
      let old := mapGet 0 (s.link port).laneCe lane
      let n := if old / 2 ^ 32 = ms then old % 2 ^ 32 + 1 else 1
      let s := s.modLink port (fun l => { l with laneCe := mapSet 0 l.laneCe lane (ms * 2 ^ 32 + n) })
      if s.fld .LNK_LANE_THRESHOLD port < n then s.laneFail port lane else s)

/-- A lost lane opens a window at once. -/
def execLaneLost (port lane : Nat) (s : State) : Host.Outcome State Fault Refusal :=
  onUnit s (laneOk port lane)
    (if s.stationOn .link port = false ∨ s.laneBad port lane then s
    else
      let s := s.laneFail port lane
      if (s.link port).up ∧ (s.link port).window = false then s.openWindow port else s)

/-- The peer has lost a lane: lane 8 takes its place at the next window. -/
def execLaneMap (port lane : Nat) (s : State) : Host.Outcome State Fault Refusal :=
  onUnit s (laneOk port lane)
    (if s.stationOn .link port ∧ lane < 8 ∧ s.laneFree port then s.modLink port (fun l => { l with pendingMap := some lane })
    else s)

/-- The window of the period WINDOW_US. -/
def execRetrainingWindow (port : Nat) (s : State) : Host.Outcome State Fault Refusal :=
  onUnit s (linkOk port)
    (if s.stationOn .link port ∧ (s.link port).up ∧ (s.link port).window = false ∧ 0 < s.fld .LNK_LANE_WINDOW_US port then
      (s.toMultiple (s.fld .LNK_LANE_WINDOW_US port * 1000)).openWindow port
    else s)

/-- The controller has finished: traffic resumes, and a replay asked for in the window is sent. -/
def execRetrainAck (port : Nat) (s : State) : Host.Outcome State Fault Refusal :=
  onUnit s (linkOk port)
    (let l := s.link port
    if l.window = false then s
    else
      let s := s.setLink port { l with window := false, replayFrom := none }
      let s := if s.fld .LNK_PORT_STATUS_STATE port = 3 ∧ l.sealHold = false then s.setFld .LNK_PORT_STATUS_STATE port 2 else s
      let s := match l.replayFrom with
        | some fsn => s.resend port fsn
        | none => s
      s.pumpLink port)

end Sys2Proof.Machine
end

