-- ==== Sys2Proof/Machine/Tenancy.lean ====
section
/-! DEFINITION. Tenancy services (chapter 10): the mailbox (R300–R305), freeze and thaw (R311–R313), and the migration session
(R314–R322). -/

namespace Sys2Proof.Machine

open Sys2Proof

/-! ## The mailbox (R300–R302) -/

/-- An ERROR of TEN. -/
def State.tenErr (s : State) (code sl : Nat) : State := s.err code sl (word sl)

/-- The PASID of an access is one that a mailbox takes (R42). -/
def State.mailboxMapped (s : State) (sl : Nat) (pasid : Option Nat) : Bool :=
  match pasid with
  | some p => cfgPasidOk s.regs p sl
  | none => s.fld .CMP_SLICE_CTL_PASID_REQUIRED sl == 0

/-- A tenant's access is accepted (R42), for a mailbox that exists (R300). -/
def State.mailboxAccess (s : State) (sl : Nat) (pasid : Option Nat) (bytes : Nat) (t : State) : State :=
  if s.isReady = false then s
  else if s.mailboxMapped sl pasid = false then s.tenErr 0x0603 sl
  else if bytes ≠ 8 ∨ cfgEnabled s.regs sl = false then s.tenErr 0x1401 sl
  else t

/-- A word of the mailbox that the tenant may write beside its indices: the T2M ring. -/
def tenantRing (w : Nat) : Bool := decide (1024 ≤ w) && decide (w < 1536)

/-- A tenant's write of a mailbox word. -/
def State.tenantWord (s : State) (sl w : Nat) (v : Word) : State := if tenantRing w then s.setMbx sl w v else s.tenErr 0x1401 sl

/-- A new tail lies no further beyond the current one than the ring has room (R302). -/
def tailFits (tail head value : Nat) : Bool := decide (idxSub value tail ≤ 64 - idxSub tail head)

/-- A new head does not pass the tail (R302). -/
def headFits (tail head value : Nat) : Bool := decide (idxSub value head ≤ idxSub tail head)

def execT2mTail (slice value : Nat) (pasid : Option Nat) (bytes : Nat) (slots : List (Nat × Word)) (s : State) :
    Host.Outcome State Fault Refusal :=
  onUnit s (tenantOk slice && u16Ok value && pasidOk pasid && decide (bytes ≤ 8) && slots.all (fun x => decide (x.1 < 2048)))
    (s.mailboxAccess slice pasid bytes
      (let s := forEach slots s (fun x s => s.tenantWord slice x.1 x.2)
      if tailFits (s.t2mTail slice) (s.t2mHead slice) value then s.setMbx slice 0 (word value) else s.tenErr 0x1402 slice))

def execM2tHead (slice value : Nat) (pasid : Option Nat) (bytes : Nat) (s : State) : Host.Outcome State Fault Refusal :=
  onUnit s (tenantOk slice && u16Ok value && pasidOk pasid && decide (bytes ≤ 8))
    (s.mailboxAccess slice pasid bytes
      (if headFits (s.m2tTail slice) (s.m2tHead slice) value then (s.setMbx slice 3 (word value)).pumpM2t slice
      else s.tenErr 0x1402 slice))

/-! ## TEN serves the T2M ring (R303, R304) -/

/-- The message at T2M_HEAD, if there is one. -/
def State.t2mMessage (s : State) (sl : Nat) : Option (List Word) :=
  if cfgEnabled s.regs sl && s.t2mTail sl != s.t2mHead sl then
    some ((List.range 8).map (fun w => s.t2mWord sl (s.t2mHead sl) w))
  else none

/-- TYPE of the message at T2M_HEAD, 0x100 where there is none. -/
def State.t2mType (s : State) (sl : Nat) : Nat :=
  match s.t2mMessage sl with
  | some ws => msgType ws
  | none => 0x100

def managerType (t : Nat) : Bool := decide (0x40 ≤ t) && decide (t ≤ 0x7F)

/-- T2M_HEAD advances past one message. -/
def State.t2mPast (s : State) (sl : Nat) : State := s.setMbx sl 1 (word ((s.t2mHead sl + 1) % 65536))

/-- A reply of TEN: TYPE, the request's SEQ, CODE, and word 1. -/
def State.tenReply (s : State) (sl type code : Nat) (request : List Word) (w1 : Word) : State :=
  s.sendM2t sl [setBits 63 56 type (setBits 47 32 (getBits 47 32 (request.headD 0)) (setBits 31 16 code 0)), w1]

def execQuery (slice : Nat) (s : State) : Host.Outcome State Fault Refusal :=
  onUnit s (tenantOk slice)
    (match s.t2mMessage slice with
    | some ws => if msgType ws = 1 then (s.t2mPast slice).tenReply slice 0x81 0 ws (word (getBits 31 0 (s.mbx slice 32))) else s
    | none => s)

def execManagerMessage (slice : Nat) (s : State) : Host.Outcome State Fault Refusal :=
  onUnit s (tenantOk slice) (if managerType (s.t2mType slice) then s.setPending .TEN_T2M_PENDING slice else s)

/-- TYPE 0x00, 0x03–0x3F or 0x80–0xFF. -/
def typeInvalid (t : Nat) : Bool := t == 0 || (decide (3 ≤ t) && decide (t < 0x40)) || (decide (0x80 ≤ t) && decide (t ≤ 0xFF))

def execT2mTypeInvalid (slice : Nat) (s : State) : Host.Outcome State Fault Refusal :=
  onUnit s (tenantOk slice)
    (match s.t2mMessage slice with
    | some ws => if typeInvalid (msgType ws) then (s.t2mPast slice).tenReply slice 0x81 0x1403 ws 0 else s
    | none => s)

/-! ## ATTEST (R305) -/

/-- The context of an ATTEST is LIVE or RESIDENT in the slice, its buffer aligned. -/
def State.attestContextOk (s : State) (sl : Nat) (ws : List Word) : Bool :=
  let w := ws.getD 7 0
  let c := getBits 60 48 w
  (s.ctxState c == 2 || s.ctxState c == 3) && s.ctxSlice c == sl && getBits 11 0 w == 0

/-- The slice may write a page: local, and of a granule of its own (R54). -/
def State.pageWritable (s : State) (sl pa : Nat) : Bool :=
  pa / 2 ^ 50 == s.fld .CMP_CHIPNUM_CHIPNUM && pa % 2 ^ 50 / 2 ^ 39 == 0 && (s.ownerOf pa).tag == sl && (s.place pa).isSome

/-- A line of bytes. -/
def lineOf (bs : List Byte) : Line := BitVec.ofNat 1024 (leNat (fit 128 bs))

/-- Write bytes into a buffer of pages as a write of the slice, through the snoop filter to the Mill. -/
def State.writeBuffer (s : State) (sl c : Nat) (pages : List (Nat × Nat)) (bs : List Byte) : State :=
  forEach (List.range ((bs.length + 127) / 128)) s (fun i s =>
    match pages[i / 32]? with
    | none => s
    | some (pa, keyid) =>
      let at_ := pa + i % 32 * 128
      match s.place at_ with
      | some (p, line) =>
        let be : ByteMask := BitVec.ofNat 128 (2 ^ min 128 (bs.length - 128 * i) - 1)
        s.filterWrite p (MemOp.fresh s.epoch .none 0x3FF sl c keyid line (at_ / 128) .write (lineOf (slice bs (128 * i) 128)) be) none
      | none => s)

/-- The reply CODE of an ATTEST, and the state after its statement. -/
def State.attestReply (s : State) (sl bufferCode : Nat) (pages : List (Nat × Nat)) (ws : List Word) : Nat × State :=
  if s.attestContextOk sl ws = false then (0x1404, s)
  else match s.statement 2 sl (slice (wordsBytes (ws.drop 1)) 0 48) with
    | .inl code => (code, if code = 0x0E07 then s.err code sl else s)
    | .inr (st, t) =>
      if bufferCode ≠ 0 then (bufferCode, t)
      else if pages.all (fun x => s.pageWritable sl x.1) then (0, t.writeBuffer sl (getBits 60 48 (ws.getD 7 0)) pages st)
      else (0x1404, t)

def execTenAttest (slice bufferCode : Nat) (pages : List (Nat × Nat)) (s : State) : Host.Outcome State Fault Refusal :=
  onUnit s (tenantOk slice && (decide (bufferCode = 0 ∨ bufferCode = 0x1404) || bufferCode / 256 == 0x07) && pages.length == 2 &&
      pages.all (fun x => x.1 % 4096 == 0 && decide (x.2 < 1024)))
    (match s.t2mMessage slice with
    | some ws =>
      if msgType ws = 2 then
        let (code, s) := (s.t2mPast slice).attestReply slice bufferCode pages ws
        s.tenReply slice 0x82 code ws 0
      else s
    | none => s)

/-! ## The manager's indices (R304, R305) -/

/-- A manager's write of a mailbox index. -/
def State.managerIndex (s : State) (path : Path) (sl w : Nat) (t : State) : State :=
  s.gated path (0xA04000 + 8 * w) (if cfgEnabled s.regs sl then t else s.tenErr 0x1401 sl)

/-- A new T2M_HEAD passes at most the one manager message TEN stands at. -/
def State.t2mHeadOk (s : State) (sl value : Nat) : Bool :=
  value == s.t2mHead sl || (idxSub value (s.t2mHead sl) == 1 && managerType (s.t2mType sl))

def execT2mHead (path : Path) (slice value : Nat) (s : State) : Host.Outcome State Fault Refusal :=
  onUnit s (pathOk path && tenantOk slice && u16Ok value)
    (s.managerIndex path slice 1 (if s.t2mHeadOk slice value then s.setMbx slice 1 (word value) else s.tenErr 0x1402 slice))

def execM2tTail (path : Path) (slice value : Nat) (s : State) : Host.Outcome State Fault Refusal :=
  onUnit s (pathOk path && tenantOk slice && u16Ok value)
    (s.managerIndex path slice 2
      (if tailFits (s.m2tTail slice) (s.m2tHead slice) value then
        (if value = s.m2tTail slice then s else (s.setMbx slice 2 (word value)).setPending .TEN_M2T_PENDING slice)
      else s.tenErr 0x1402 slice))

/-! ## TEN_CMD (R311) -/

/-- A command runs that a TEN_CMD has to wait for: any but the one that a CANCEL names. -/
def State.tenBusy (s : State) (op sl : Nat) : Bool :=
  match s.ten.run with
  | some r => !(op == 8 && r.slice == sl)
  | none => false

/-- A TEN_CMD write; a refusal changes nothing but RESULT. -/
def State.tenCmd (s : State) (path : Path) (op sl : Nat) (r : Sum Nat State) : State :=
  s.gated path 0xA00000
    (if s.tenBusy op sl then s.setFld .TEN_STATUS_REJECTED 0 1
    else match r with
      | .inl code => ((s.setFld .TEN_STATUS_SLICE 0 sl).setFld .TEN_STATUS_RESULT 0 code).setCause 0x14 2
      | .inr t => t.setFld .TEN_STATUS_SLICE 0 sl)

/-- A slice operand of TEN_CMD. -/
def tenSliceOk (sl : Nat) : Bool := decide (sl < 256)

def State.freeze (s : State) (sl : Nat) : Sum Nat State :=
  if s.sliceState sl = 1 then .inr ((s.setSliceState sl 2).tenOver 0) else .inl 0x1406

def execFreeze (path : Path) (slice : Nat) (s : State) : Host.Outcome State Fault Refusal :=
  onUnit s (pathOk path && tenSliceOk slice) (s.tenCmd path 1 slice (s.freeze slice))

/-- Nothing of the slice runs: no tile, none parked, no Drover phase (R312). -/
def State.sliceAtRest (s : State) (sl : Nat) : Bool :=
  !(s.sched.tiles.any (fun t => t.2.slice == sl)) && !(s.sched.parked.any (fun t => t.2.slice == sl)) &&
  !(s.drv.journals.any (fun j => j.slice == sl && j.queue.isSome)) && !(s.drv.planQ.any (fun q => s.qSlice q == sl))

/-- The slice is FROZEN: journal lifetimes stop. -/
def State.freezeSlice (s : State) (sl : Nat) : State :=
  let s : State := { s with drv := { s.drv with journals := s.drv.journals.map (fun j =>
    if j.slice = sl then { j with frozenAt := some s.clock.gtb } else j) } }
  s.setSliceState sl 3

def execSliceFrozen (slice : Nat) (s : State) : Host.Outcome State Fault Refusal :=
  onUnit s (tenantOk slice)
    (if s.sliceState slice = 2 ∧ s.sliceAtRest slice then (s.freezeSlice slice).freezeNotice slice 1 else s)

/-- A slice runs again: journal lifetimes go on, and fetching starts at each queue's SQ_HEAD (R313). -/
def State.resumeSlice (s : State) (sl : Nat) : State :=
  let s : State := { s with drv := { s.drv with journals := s.drv.journals.map (fun j =>
    if j.slice = sl then { j with created := j.created + (s.clock.gtb - j.frozenAt.getD s.clock.gtb), frozenAt := none } else j) } }
  let s := s.setSliceState sl 1
  let s := forEach (s.liveQueues.filter (fun q => s.qSlice q == sl)) s
    (fun q s => s.modQueueRun q (fun r => { r with fetched := none, fetchTag := none }))
  let s := forEach (s.liveQueues.filter (fun q => s.qSlice q == sl && s.qState q == 2 && decide (0 < s.sqCount q))) s
    (fun q s => s.needSlot q)
  (s.pumpSlice sl).scheduleSlice sl

def State.thaw (s : State) (sl : Nat) : Sum Nat State :=
  if s.sliceState sl = 3 ∨ s.sliceState sl = 5 then .inr (((s.resumeSlice sl).freezeNotice sl 2).tenOver 0) else .inl 0x1406

def execThaw (path : Path) (slice : Nat) (s : State) : Host.Outcome State Fault Refusal :=
  onUnit s (pathOk path && tenSliceOk slice) (s.tenCmd path 2 slice (s.thaw slice))

/-! ## SAVE (R315–R318) -/

/-- What an offer fails with, or 0 (R315). -/
def State.offerCode (s : State) (offer : PeerStatement) (pubKeys : List Byte) : Nat :=
  if verifyStatement offer 3 = false ∨ stLc offer ≠ 5 ∨ stNonce offer ≠ sha384 (fit 1665 pubKeys) then 0x1407
  else if s.allows .TEN_MIG_ALLOW offer = false then 0x140D
  else 0

/-- The objects of a slice that an image carries, kind and index ascending (R316). -/
def State.savedObjects (s : State) (sl : Nat) : List (Nat × Nat) :=
  (s.liveContexts.filter (fun c => s.ctxSlice c == sl)).map (fun c => (1, c)) ++
  (s.liveQueues.filter (fun q => s.qSlice q == sl)).map (fun q => (2, q)) ++
  (s.liveFences.filter (fun f => s.fSlice f == sl)).map (fun f => (3, f)) ++
  (s.liveMemobjs.filter (fun o => s.mSlice o == sl)).map (fun o => (4, o))

/-- OBJECTS' payload: the record's words, and a context's heaps. -/
def State.objectPayload (s : State) (kind index : Nat) : List Byte :=
  wordsBytes ((List.range (kindWords kind)).map (fun w => s.recWord kind index w)) ++
  (if kind = 1 then Config.imageHeaps ((s.obj.heaps.filter (fun e => e.1 / 65536 / 8 == index)).map
      (fun e => (e.1 / 65536 % 8, e.1 % 65536, e.2)))
   else [])

/-- The shares of a slice's resident contexts: slot, position, bytes. -/
def State.savedShares (s : State) (sl : Nat) : List (Nat × Nat × Nat) :=
  ((List.range 48).filterMap (fun r => (s.sched.residents.find? (fun e => e.1 == r && e.2.slice == sl)).map (fun e => (r, e.2.ctx)))).flatMap
    (fun x => (List.range (s.scCount x.2)).map (fun p => (x.1, p, s.scUnits x.2 * 65536)))

/-- The granules of its window that a slice owns, as offsets in the window. -/
def State.savedGranules (s : State) (sl : Nat) : List Nat :=
  (List.range (4096 * (cfgMemset s.regs ⟨sl, 0⟩).2)).filter (fun g =>
    decide (ownerAt s.comp.owners (s.windowGranule sl + g) = ⟨sl, 0⟩))

/-- The slice's private KeyIDs with their keys. -/
def State.savedKeys (s : State) (sl : Nat) : List (Nat × List Byte) :=
  ((List.range' 1 1023).filter (fun k => cfgKeyOwner s.regs k == sl && keyStateOf s.regs k == 1)).map
    (fun k => (k, keyBytes (s.millKey k)))

/-- The image begins: HEAD, KEYS, OBJECTS and SHARE records, then the reads of memory (R316, R317). -/
def State.saveStart (s : State) (draw sl : Nat) (pub cipher : List Byte) : State :=
  let objects := s.savedObjects sl
  let shares := s.savedShares sl
  let granules := s.savedGranules sl
  let n := (cfgMemset s.regs ⟨sl, 0⟩).2
  let s := s.setSave ⟨draw, 0, [], [], (s.rd .TEN_MIG_BUF 0).toNat, s.fld .TEN_MIG_LEN_PAGES * 4096, 0, [], 64 * n, granules, [], 0,
    false⟩
  let records := 4 + objects.length + shares.length + granules.length + (s.savedJournals sl).length
  let s := s.saveRecord 1 0 (Config.imageHead s.ten.session.imageId pub cipher
    [1, (cfgCores s.regs sl).length, n, (cfgLinks s.regs sl).length, records]
    [membershipWord s.regs sl 1, membershipWord s.regs sl 65])
  let s := s.saveRecord 2 0 (Config.imageKeys (s.savedKeys sl))
  let s := forEach objects s (fun o s => s.saveRecord 3 (Config.imageIndex o.1 o.2).toNat (s.objectPayload o.1 o.2))
  let s := forEach shares s (fun x s =>
    s.saveRecord 4 (Config.imageIndex x.1 x.2.1).toNat (fit x.2.2 (Config.shareBytes draw x.1 x.2.1)))
  s.saveGo

/-- The session keys of the source: draws for its P-384 scalar, the encapsulation and IMAGE_ID. -/
def State.saveKeys (s : State) (sl : Nat) (pubKeys : List Byte) : Sum Nat State :=
  if s.well.entropyOk = false then .inl 0x0E0A
  else
    let (d, s) := s.drawPair
    let (r, s) := s.draw
    let draw := s.well.draws
    let (i, s) := s.draw
    match Config.p384Ecdh (ephEc d) (slice pubKeys 0 97), Config.mlkemEncaps (slice pubKeys 97 1568) (keyBytes r) with
    | some z, some (cipher, secret) =>
      let image := slice (keyBytes i) 0 16
      let x := { s.ten.session with
        imageId := image, dek := some (bytesKey (hkdf (z ++ secret) image (ascii "KUMEN-MIG-DEK") 32)),
        macKey := hkdf (z ++ secret) image (ascii "KUMEN-MIG-MAC") 48 }
      let s : State := { s with ten := { s.ten with session := x } }
      .inr (((s.tenBegin 3 sl).setSliceState sl 4).saveStart draw sl (fit 97 (Config.p384Public (ephEc d))) (fit 1568 cipher))
    | _, _ => .inl 0x1407

def State.save (s : State) (sl : Nat) (offer : PeerStatement) (pubKeys : List Byte) : Sum Nat State :=
  if s.sliceState sl ≠ 3 then .inl 0x1406
  else if s.offerCode offer pubKeys ≠ 0 then .inl (s.offerCode offer pubKeys)
  else s.saveKeys sl pubKeys

def execSave (path : Path) (slice : Nat) (offer : PeerStatement) (pubKeys : List Byte) (s : State) : Host.Outcome State Fault Refusal :=
  onUnit s (pathOk path && tenSliceOk slice) (s.tenCmd path 3 slice (s.save slice offer pubKeys))

/-- Every record of the SAVE under way has been written, and the host has taken them all. -/
def State.imageWritten (s : State) : Bool :=
  match s.ten.save with
  | some x => x.ended && x.rest.isEmpty && s.imagePosts == 0
  | none => false

/-- The last image record is written (R316), or a host write of the image failed (R318). -/
def execSaveDone (code : Nat) (s : State) : Host.Outcome State Fault Refusal :=
  onUnit s (decide (code = 0 ∨ code = 0x140E))
    (match s.ten.run with
    | some r =>
      if r.op ≠ 3 then s
      else if code ≠ 0 then s.tenStop code
      else if s.imageWritten then ((s.setSliceState r.slice 5).endSave).tenOver 0
      else s
    | none => s)

/-! ## OFFER (R314) -/

/-- The offer: its header, the public keys, the statement. -/
def offerBytes (pub st : List Byte) : List Byte :=
  leBytes 4 0x4B4D4F46 ++ leBytes 4 (64 + pub.length + st.length) ++ List.replicate 56 0 ++ pub ++ st

def State.offer (s : State) : Sum Nat State :=
  if s.well.entropyOk = false then .inl 0x0E0A
  else
    let (d, t) := s.drawPair
    match t.statement 3 0 (sha384 (ephPublic d)) with
    | .inl code => .inl code
    | .inr (st, t) =>
      let t : State := { t with ten := { t.ten with session := { t.ten.session with offer := some d } } }
      let bs := offerBytes (ephPublic d) st
      .inr ((t.offerOut (bytesWords (bs.length + 1) bs)).tenOver 0)

def execOffer (path : Path) (s : State) : Host.Outcome State Fault Refusal := onUnit s (pathOk path) (s.tenCmd path 4 0 s.offer)

/-! ## RESTORE (R319, R320) -/

/-- No context of the slice is LIVE or RESIDENT. -/
def State.noContexts (s : State) (sl : Nat) : Bool :=
  !(s.liveContexts.any (fun c => s.ctxSlice c == sl && (s.ctxState c == 2 || s.ctxState c == 3)))

/-- R319's refusal of an image, in the table's order, or 0. -/
def State.imageRefusal (s : State) (sl : Nat) (tagsOk : Bool) (cores channels links : Nat) (commons granules : List Nat)
    (objects : List (Nat × Nat)) : Nat :=
  let m := s.regs
  let base := s.windowGranule sl
  if tagsOk = false ∨ s.ten.session.offer.isNone then 0x1408
  else if (cfgCores m sl).length ≠ cores ∨ (cfgMemset m ⟨sl, 0⟩).2 ≠ channels ∨ (cfgLinks m sl).length ≠ links ∨
      granules.any (fun g => decide (ownerAt s.comp.owners (base + g) ≠ ⟨sl, 0⟩)) then 0x140A
  else if (List.range' 1 127).any (fun n => cfgMember m n sl != commons.contains n) then 0x140B
  else if objects.any (fun o => !s.recDefined o.1 o.2 sl) then 0x140F
  else 0

def State.restore (s : State) (sl : Nat) (tagsOk : Bool) (cores channels links : Nat) (commons granules : List Nat)
    (objects : List (Nat × Nat)) (shares : List Nat) : Sum Nat State :=
  let code := s.imageRefusal sl tagsOk cores channels links commons granules objects
  if s.sliceState sl ≠ 1 ∨ s.noContexts sl = false then .inl 0x1406
  else if code ≠ 0 then .inl code
  else
    .inr ((((s.setRestore sl ⟨granules, objects, shares, []⟩).tenBegin 5 sl).setSliceState sl 6).imageIn)

def execRestore (path : Path) (slice : Nat) (tagsOk : Bool) (cores channels links : Nat) (commons granules : List Nat)
    (objects : List (Nat × Nat)) (shares : List Nat) (s : State) : Host.Outcome State Fault Refusal :=
  onUnit s (pathOk path && tenSliceOk slice && granules.all (fun g => decide (g < 262144)) && shares.all contextOk)
    (s.tenCmd path 5 slice (s.restore slice tagsOk cores channels links commons granules objects shares))

/-- TEN_MIG_KEYMAP's entry for a source KeyID: Well slot and destination KeyID. -/
def State.keyMap (s : State) (src : Nat) : Option (Nat × Nat) :=
  ((List.range 64).find? (fun n => s.fld .TEN_MIG_KEYMAP_VALID n == 1 && s.fld .TEN_MIG_KEYMAP_SRC_KEYID n == src)).map
    (fun n => (s.fld .TEN_MIG_KEYMAP_SLOT n, s.fld .TEN_MIG_KEYMAP_DST_KEYID n))

/-- Unwrap one key into its slot: a refusal of the Well, or the key in place. -/
def restoreKey (sl : Nat) (r : Sum Nat State) (k : Nat × Key) : Sum Nat State :=
  match r with
  | .inl code => .inl code
  | .inr s =>
    match s.keyMap k.1 with
    | none => .inl 0x0E02
    | some (slot, dst) =>
      if slotCount ≤ slot then .inl 0x0E02
      else if s.noSlot slot then .inl 0x0E04
      else
        let s := s.setKeySlot slot (filledSlot 0 7 0x1FF 0 0 k.2)
        let x := s.restoreOf sl
        .inr (s.setRestore sl { x with keyids := x.keyids ++ [dst] })

def execRestoreKeysReady (keys : List (Nat × Key)) (s : State) : Host.Outcome State Fault Refusal :=
  onUnit s (keys.all (fun k => decide (k.1 < 1024)))
    (match s.ten.run with
    | some r =>
      if r.op ≠ 5 then s
      else match keys.foldl (restoreKey r.slice) (.inr s) with
        | .inl code => s.tenStop code
        | .inr t => (t.setSliceState r.slice 7).dropOffer.tenOver 0
    | none => s)

/-! ## CONTINUE (R321) -/

def State.continueCode (s : State) (sl : Nat) : Nat :=
  if s.sliceState sl ≠ 7 then 0x1406
  else if (s.restoreOf sl).keyids.any (fun k => keyStateOf s.regs k != 1) then 0x030F
  else 0

def execRestoreContinue (path : Path) (slice : Nat) (s : State) : Host.Outcome State Fault Refusal :=
  onUnit s (pathOk path && tenSliceOk slice)
    (s.tenCmd path 6 slice
      (if s.continueCode slice ≠ 0 then .inl (s.continueCode slice) else .inr (((s.tenBegin 6 slice).setSliceState slice 6).imageIn)))

/-- A record's hardware words come from the image, its other words stay; it is LIVE. -/
def State.restoreRecord (s : State) (kind index : Nat) (ws : List Word) : State :=
  let put := fun (s : State) (i : Nat) (w : Word) =>
    if kind = 1 then s.setCtxWord index i w else if kind = 2 then s.setQWord index i w
    else if kind = 3 then s.setFWord index i w else s.setMWord index i w
  let s := forEach ((List.range ws.length).zip ws) s (fun x s =>
    let hw := hardwareBits kind x.1
    put s x.1 ((x.2 &&& hw) ||| (s.recWord kind index x.1 &&& ~~~ hw)))
  if kind = 1 then s.setCtxState index 2
  else if kind = 2 then s.modQueueRun index (fun r => { r with records := s.cqTail index })
  else if kind = 3 then (s.setFLife index .live).touchFence index
  else if kind = 4 then s.setMLife index .live
  else s

/-- A journal of the image, dispatched, with the lifetime that it had left. -/
def State.restoreJournal (s : State) (sl : Nat) (j : JournalImage) : State :=
  let routes := j.routes.map (fun r => (⟨r.getD 0 0, r.getD 1 0, r.getD 2 0, r.getD 3 0, r.getD 4 0, r.getD 5 0, 0, [], []⟩ : Route))
  let (a, b) := s.storesFor sl (dCore0 j.words)
  let now := s.clock.gtb
  let x : Journal := ⟨j.ctx, sl, j.jtag, .dispatched, routes, s.fld .CMP_EPOCH_CURRENT, now, j.ttlNs, a, b, none, some now, j.words,
    j.experts, [], cfgCores s.regs sl, []⟩
  { s with drv := { s.drv with journals := s.drv.journals ++ [x] } }

/-- Lines of the image: data under the mapped KeyIDs, as writes of the slice (R237), and pounds. -/
def State.restoreLines (s : State) (sl : Nat) (im : RestoreImage) : State :=
  let base := s.windowGranule sl
  let s := forEach im.lines s (fun x s =>
    let keyid := ((s.keyMap x.2.1).map (·.2)).getD 0
    let at_ := (base + x.1) * 2097152 + x.2.2.1 * 128
    match s.place at_ with
    | some (p, line) =>
      s.filterWrite p (MemOp.fresh s.epoch .none 0x3FF sl 8192 keyid line (at_ / 128) .write x.2.2.2 fullMask) none
    | none => s)
  forEach im.pounds s (fun x s =>
    match s.place ((base + x.1) * 2097152 + x.2 * 128) with
    | some (p, line) => s.poundLine p line
    | none => s)

/-- Contexts with shares ask for residency, without preload: the scheduler's refusal, or the state. -/
def restoreShare (r : Sum Nat State) (c : Nat) : Sum Nat State :=
  match r with
  | .inl code => .inl code
  | .inr s =>
    if s.residencyCode c ≠ 0 then .inl (s.residencyCode c)
    else
      let s := s.setCtxState c 3
      let slot := s.freeResident
      let s : State := { s with sched := { s.sched with
        residents := mapPut s.sched.residents slot ⟨c, s.ctxSlice c, .idle, 0, false, false, none⟩ } }
      let s := (s.wr .SCH_RES_USE slot 0).notice 1 5 0 (s.ctxSlice c) c
      .inr (forEach (s.ctxCores c) s (fun k s => s.emit (.sramWrite (s.physical k) (s.shareFirst c) (s.shareLast c) false)))

/-- Everything a restore writes. -/
def State.restoreAll (s : State) (sl : Nat) (im : RestoreImage) : Sum Nat State :=
  let s := s.restoreLines sl im
  let s := forEach im.records s (fun x s => s.restoreRecord x.1 x.2.1 x.2.2)
  let s := forEach im.heaps s (fun x s => s.setHeap x.1 x.2.1 x.2.2.1 x.2.2.2)
  match (s.restoreOf sl).shares.foldl restoreShare (.inr s) with
  | .inl code => .inl code
  | .inr s =>
    let s := forEach im.journals s (fun j s => s.restoreJournal sl j)
    .inr (forEach (im.mailbox.filter (fun x => mailboxSaved x.1)) s (fun x s => s.setMbx sl x.1 x.2))

/-- An image's records name the objects, granules and words that there are. -/
def imageOk (im : RestoreImage) : Bool :=
  im.lines.all (fun x => decide (x.1 < 262144) && decide (x.2.1 < 1024) && decide (x.2.2.1 < 16384)) &&
  im.pounds.all (fun x => decide (x.1 < 262144) && decide (x.2 < 16384)) &&
  im.records.all (fun x => decide (x.2.1 < kindCount x.1) && decide (1 ≤ x.1) && decide (x.1 ≤ 4) && x.2.2.length == kindWords x.1) &&
  im.heaps.all (fun x => contextOk x.1 && decide (x.2.1 < 8) && decide (x.2.2.1 < 65536) && decide (x.2.2.2 < 4))

def execRestoreDone (records code : Nat) (image : RestoreImage) (s : State) : Host.Outcome State Fault Refusal :=
  onUnit s (u32Ok records && decide (code = 0 ∨ code = 0x140E) && imageOk image)
    (match s.ten.run with
    | some r =>
      if r.op ≠ 6 then s
      else
        let s := s.setFld .TEN_STATUS_PROGRESS 0 records
        if code ≠ 0 then s.tenStop code
        else match s.restoreAll r.slice image with
          | .inl c => s.tenStop c
          | .inr t => (((t.setSliceState r.slice 3).freezeNotice r.slice 3).endRestore r.slice).tenOver 0
    | none => s)

/-! ## DISCARD, CANCEL, and the buffer (R318, R321, R322) -/

/-- Every context of the slice is torn down with 0x0203, the fences of its queued commands with it (R294), and the slice runs. -/
def State.discard (s : State) (sl : Nat) (fences : List Nat) : Sum Nat State :=
  if s.sliceState sl = 3 ∨ s.sliceState sl = 5 then
    let cs := s.liveContexts.filter (fun c => s.ctxSlice c == sl && (s.ctxState c == 2 || s.ctxState c == 3))
    let s := forEach cs s (fun c s => s.abortContext c 0x0203)
    let s := forEach fences s (fun f s => if s.fSlice f = sl then s.breakFence f 0x0203 else s)
    .inr ((s.resumeSlice sl).tenOver 0)
  else .inl 0x1406

def execDiscard (path : Path) (slice : Nat) (fences : List Nat) (s : State) : Host.Outcome State Fault Refusal :=
  onUnit s (pathOk path && tenSliceOk slice && fences.all u16Ok) (s.tenCmd path 7 slice (s.discard slice fences))

/-- A save's source is FROZEN again; a restore's destination runs, with what was written undone. -/
def State.cancel (s : State) (sl : Nat) : Sum Nat State :=
  let st := s.sliceState sl
  if st = 4 then .inr ((s.setSliceState sl 3).endSave.dropOffer.tenOver 0)
  else if st = 6 ∨ st = 7 then .inr ((((s.undoRestore sl).setSliceState sl 1).endRestore sl).tenOver 0)
  else .inl 0x1406

def execTenCancel (path : Path) (slice : Nat) (s : State) : Host.Outcome State Fault Refusal :=
  onUnit s (pathOk path && tenSliceOk slice) (s.tenCmd path 8 slice (s.cancel slice))

/-- A buffer is handed over: a command that waits goes on. -/
def State.bufferGiven (s : State) (pages : Nat) : State :=
  let s := s.setFld .TEN_MIG_LEN_PAGES 0 pages
  if s.fld .TEN_STATUS_BUF_WAIT = 0 then s
  else
    let s := s.setFld .TEN_STATUS_BUF_WAIT 0 0
    match s.ten.run with
    | some r => if r.op = 3 then s.saveBuffer else s.imageIn
    | none => s

def execMigBufferHandover (path : Path) (pages : Nat) (s : State) : Host.Outcome State Fault Refusal :=
  onUnit s (pathOk path && decide (pages < 2 ^ 28)) (s.gated path 0xA00028 (s.bufferGiven pages))

end Sys2Proof.Machine
end

