-- ==== Sys2Proof/Machine/Ledger.lean ====
section
/-! DEFINITION. The Ledger (chapter 13): transitions (R375, R376), debug challenges and responses (R378–R380), the LK gate
(R381), and the JT_ instructions (R367, R429). -/

namespace Sys2Proof.Machine

open Sys2Proof

/-! ## LCS_BUF -/

/-- `n` bytes of LCS_BUF from byte 0. -/
def State.lcsBuf (s : State) (n : Nat) : List Byte := slice (wordsBytes ((List.range (n / 8 + 1)).map (fun i => s.rd .LCS_BUF i))) 0 n

/-- LCS_BUF is zeroed. -/
def State.zeroLcsBuf (s : State) : State := s.clearArray .LCS_BUF 0 640

/-! ## Requests for a transition (R375, R376) -/

/-- The token in LCS_BUF against the lowest-indexed unburned entry: its refusal, or the entry. -/
def State.tokenCheck (s : State) : Sum Nat Nat :=
  if 3 ≤ s.ledger.tokenFails then .inl 0x0F03
  else match s.ledger.otp.nextToken with
    | none => .inl 0x0F04
    | some i =>
      if (s.ledger.otp.tokens.getD i TokenEntry.init).hash = sha384 (ascii "KUMEN-UNLOCK" ++ s.lcsBuf 32) then .inr i else .inl 0x0F03

/-- What a request is refused with, or the transition: its generation and the token entry it burns. -/
def State.transitionOf (s : State) (lc : Nat) : Sum Nat Transition :=
  let now := s.ledger.lc
  let gen := fun (token : Option Nat) => match s.ledger.otp.nextGen with
    | some g => (.inr ⟨lc, g, token⟩ : Sum Nat Transition)
    | none => .inl 0x0F05
  if s.ledger.stuck ∨ lcAllowed now lc = false then .inl 0x0F02
  else if now = 4 ∧ lc = 5 ∧ (s.fld .KEY_STATUS_SEED_OK = 0 ∨ s.ledger.otp.helper.isEmpty) then .inl 0x0F02
  else if now = 5 ∧ lc = 6 ∧ bitOf 3 (s.rd .LCS_DBG_STATUS 0) = false then .inl 0x0F02
  else if now = 2 ∧ lc = 3 then
    (match s.tokenCheck with
    | .inl code => .inl code
    | .inr i => gen (some i))
  else gen none

/-- The running key command stops (R365): KEY_BUF and TARGET are zeroed, RESULT is 0x0E08. -/
def State.stopKeyCmd (s : State) : State :=
  match s.well.run with
  | none => s
  | some r =>
    let s : State := { s with well := { s.well with run := none } }
    let s := if r.target < slotCount then s.setKeySlot r.target KeySlot.init else s
    let s := ((s.setFld .KEY_STATUS_BUSY 0 0).setFld .KEY_STATUS_RESULT 0 0x0E08).setFld .KEY_STATUS_OUT_LEN 0 0
    (s.zeroKeyBuf).setCause 0x0E 0

/-- Every SRAM of the block is wiped (R376): its tables are empty. -/
def State.wipeSrams (s : State) : State :=
  let t := s.cleared s.regs s.ledger s.well.kept s.boot
  let t : State := { t with clock := s.clock, power := s.power, mon := s.mon,
                            well := { t.well with seed := s.well.seed, bootNonce := s.well.bootNonce, deviceId := s.well.deviceId,
                                                  entropyOk := s.well.entropyOk, requests := s.well.requests } }
  t.zeroKeyBuf

/-- Steps 1 to 3 of an accepted transition: the gate closes, TARGET is programmed, a token is burned, key state and what the
transition's row names are wiped. -/
def State.transit (s : State) (x : Transition) : State :=
  let s := s.setFld .LCS_GATE_CLOSE 0 1
  let s := s.stopKeyCmd.zeroKeys
  let o := s.ledger.otp.target x.gen x.target
  let o := match x.token with
    | some i => { o with tokens := modifyAt o.tokens i TokenEntry.burnAll }
    | none => o
  let s := if s.ledger.lc = 1 ∧ x.target = 2 then s else s.wipeSrams
  let s := if x.target = 6 then (s.clearArray .TEN_MIG_ALLOW 0 32).clearArray .LNK_PEER_ALLOW 0 32 else s
  let s : State := { s with ledger := { s.ledger with otp := o.wipe x.target, run := some x } }
  ((s.setFld .LCS_XSTATUS_BUSY 0 1).setFld .LCS_XSTATUS_STEP 0 3).setFld .LCS_XSTATUS_RESULT 0 0

/-- A request of the Steward or of JT_; while a transition runs it is ignored (R448). -/
def State.requestTransition (s : State) (lc : Nat) : State :=
  if s.ledger.run.isSome then s
  else match s.transitionOf lc with
    | .inr x => (s.transit x).zeroLcsBuf
    | .inl code =>
      let s := if code = 0x0F03 then
          ({ s with ledger := { s.ledger with tokenFails := min 3 (s.ledger.tokenFails + 1) } } : State).err 0x0F03
        else s
      (s.setFld .LCS_XSTATUS_RESULT 0 code).zeroLcsBuf

/-- A write of LCS_XCMD; the host's is discarded with 0x0F02. -/
def execLcTransition (fromJtag : Bool) (path : Path) (targetLc : Nat) (s : State) : Host.Outcome State Fault Refusal :=
  onUnit s (pathOk path && decide (targetLc < 256))
    (if fromJtag then (if s.alive then s.requestTransition targetLc else s)
    else if path = .host then s.gated path 0x780008 (s.err 0x0F02)
    else s.gated path 0x780008 (s.requestTransition targetLc))

/-- DONE is programmed, and the reset follows: every domain but PD0 as at RST_POR_N, and the start-up sequence. -/
def execLcTransitionReset (x : StartUp) (s : State) : Host.Outcome State Fault Refusal :=
  onUnit s (startUpOk x)
    (match s.ledger.run with
    | none => s
    | some r =>
      let s : State := { s with ledger := { s.ledger with otp := s.ledger.otp.finish r.gen, resumed := false } }
      let s := (s.lcClear.setFld .LCS_XSTATUS_BUSY 0 0).setFld .LCS_XSTATUS_STEP 0 0
      (s.advance x.elapsedNs).bootScan x)

/-- A word does not read back after three attempts: the transition stops until the next POR, and RESULT shows its code (R376, R448). -/
def execProgramFail (s : State) : Host.Outcome State Fault Refusal :=
  onUnit s true
    (match s.ledger.run with
    | none => s
    | some _ =>
      let s : State := { s with ledger := { s.ledger with run := none, stuck := true } }
      (((s.setFld .LCS_XSTATUS_BUSY 0 0).setFld .LCS_XSTATUS_STEP 0 0).setFld .LCS_XSTATUS_RESULT 0 0x0F06).alarm 0x0F06)

/-! ## Debug (R378–R380) -/

/-- A debug command of Opgar or JT_; the host's is discarded with 0x0F02. -/
def State.debugCmd (s : State) (fromJtag : Bool) (path : Path) (t : State) : State :=
  if fromJtag then (if s.alive then t else s)
  else if path = .host then s.gated path 0x780020 (s.err 0x0F02)
  else s.gated path 0x780020 t

/-- A debug command ends with a result (R448). -/
def State.debugDone (s : State) (code : Nat) : State :=
  let s := if code = 0x0F07 ∨ code = 0x0F08 then s.err code else s
  (s.setFld .LCS_DBG_STATUS_RESULT 0 code).setCause 0x0F 0

/-- The 128 bytes of a challenge. -/
def State.challengeBytes (s : State) (level : Nat) (nonce : Key) : List Byte :=
  ascii "KDBC" ++ leBytes 2 1 ++ [BitVec.ofNat 8 s.ledger.lc, BitVec.ofNat 8 level] ++ leBytes 8 s.clock.gtb ++
  fit 48 s.well.deviceId ++ keyBytes nonce ++ List.replicate 32 0

/-- Bytes into LCS_BUF from byte 0. -/
def State.putLcsBuf (s : State) (bs : List Byte) : State :=
  let ws := bytesWords (bs.length + 1) bs
  forEach ((List.range ws.length).zip ws) s (fun x s => s.wr .LCS_BUF x.1 x.2)

def State.challengeCmd (s : State) (level : Nat) : State :=
  if s.ledger.lc ≠ 5 then s
  else if 8 ≤ s.ledger.dbgFails then s.debugDone 0x0F08
  else if s.well.entropyOk = false then s.debugDone 0x0E0A
  else
    let (nonce, s) := s.draw
    let c := s.challengeBytes level nonce
    (({ s with ledger := { s.ledger with challenge := some (c, level) } } : State).putLcsBuf c).debugDone 0

def execChallenge (fromJtag : Bool) (path : Path) (level : Nat) (s : State) : Host.Outcome State Fault Refusal :=
  onUnit s (pathOk path && decide (level < 16)) (s.debugCmd fromJtag path (s.challengeCmd level))

/-- A response is good for a challenge: format, hash, levels, signatures (R379, R380). -/
def responseOk (challenge : List Byte) (level : Nat) (r : List Byte) : Bool :=
  decide (slice r 0 4 = ascii "KDBR") && leNat (slice r 4 2) == 1 && leNat (slice r 6 1) == 5 &&
  leNat (slice r 7 1) &&& level == leNat (slice r 7 1) && decide (slice r 8 48 = sha384 challenge) &&
  Config.ecdsaVerify Config.debugKeys.1 (sha384 (slice r 0 128)) (slice r 128 96) &&
  Config.mldsaVerify Config.debugKeys.2 (ascii "KUMEN-DEBUG") (slice r 0 128) (slice r 224 4627)

/-- The levels of an accepted response open; TEST wipes key state first. -/
def State.openDebug (s : State) (granted : Nat) : State :=
  let s := if granted.testBit 2 then s.zeroKeys else s
  let s : State := { s with ledger := { s.ledger with challenge := none, reopened := true } }
  s.setFld .LCS_DBG_STATUS_OPEN 0 (Nat.lor (s.fld .LCS_DBG_STATUS_OPEN) granted)

def State.respondCmd (s : State) : State :=
  let r := s.lcsBuf 4851
  let ok := match s.ledger.challenge with
    | some (c, level) => responseOk c level r
    | none => false
  let s := if ok then (s.openDebug (leNat (slice r 7 1))).debugDone 0
    else ({ s with ledger := { s.ledger with dbgFails := min 8 (s.ledger.dbgFails + 1) } } : State).debugDone 0x0F07
  s.zeroLcsBuf

def execRespond (fromJtag : Bool) (path : Path) (s : State) : Host.Outcome State Fault Refusal :=
  onUnit s (pathOk path) (s.debugCmd fromJtag path s.respondCmd)

/-! ## The gate, and JT_ (R367, R381, R429) -/

def execGateClose (path : Path) (s : State) : Host.Outcome State Fault Refusal :=
  onUnit s (pathOk path) (s.gated path 0x780018 (s.setFld .LCS_GATE_CLOSE 0 1))

/-- The JT_ instructions by the model's numbers: 0 BYPASS, 1 IDCODE, 2 SAMPLE/PRELOAD, 3 EXTEST, 4 the Lasaholt test set, 5 halt,
6 debug memory access. Where R367 allows each. -/
def State.jtagAllowed (s : State) (code : Nat) : Bool :=
  let lc := s.ledger.lc
  let opened := fun (n : Nat) => bitOf n (s.rd .LCS_DBG_STATUS 0)
  let debug := [3, 4, 6].contains lc
  if code ≤ 1 then true
  else if code ≤ 3 then [2, 3, 4, 5, 6].contains lc
  else if code = 4 then [3, 6].contains lc || (lc == 5 && opened 2)
  else if code = 5 then debug || (lc == 5 && opened 0)
  else if code = 6 then debug || (lc == 5 && opened 1)
  else false

def execJtagInstruction (code : Nat) (s : State) : Host.Outcome State Fault Refusal :=
  onUnit s (decide (code ≤ 6))
    (if s.alive then { s with ledger := { s.ledger with jtag := if s.jtagAllowed code then code else 0 } } else s)

end Sys2Proof.Machine
end

