-- ==== Sys2Proof/Machine/Crier.lean ====
section
/-! DEFINITION. The Bell and the Crier (chapter 15): the test cause, alarm latches, the record rings (R410–R416), and the posted
writes' completion (R426). -/

namespace Sys2Proof.Machine

open Sys2Proof

/-! ## The Bell (R408, R412) -/

def execIrqTest (path : Path) (set : Bool) (s : State) : Host.Outcome State Fault Refusal :=
  onUnit s (pathOk path) (s.gated path 0x900028 (if set then s.setCause 0x12 0 else s))

/-- A latch is acknowledged: PENDING and COUNT return to 0. -/
def execAlarmAck (path : Path) (latch : Nat) (s : State) : Host.Outcome State Fault Refusal :=
  onUnit s (pathOk path && decide (latch < 188))
    (s.gated path (regAddr .TRC_ALARM_CODES latch)
      ((s.setFld .TRC_ALARM_CODES_PENDING latch 0).setFld .TRC_ALARM_CODES_COUNT latch 0))

/-! ## Records (R410, R411) -/

def EventClass.code : EventClass → Nat
  | .alarm => 0
  | .error => 1
  | .log => 2
  | .trace => 3

/-- The four words of a record. -/
def Rec.words (r : Rec) : List Word :=
  [setBits 63 48 r.code (setBits 47 46 (EventClass.code r.cls) (setBits 45 45 (bit01 r.merged) (setBits 39 32 r.slice
     (setBits 31 24 (r.code / 256) (setBits 23 16 r.source 0))))),
   word r.first, r.detail, setBits 63 32 r.count (setBits 31 0 r.last 0)]

/-- HOLD_US in effect (R414). -/
def State.holdUs (s : State) : Nat := min 1000 (s.fld .TRC_CTL_HOLD_US)

/-- The record that ring `i` writes next, and the queues without it: an ALARM before every ERROR, an ERROR once its hold has
passed (R412, R414). -/
def State.nextRecord (s : State) (i : Nat) : Option (Rec × Crier) :=
  let c := s.crier
  if i = 0 then
    match c.alarmQ, c.errorQ with
    | r :: t, _ => some (r, { c with alarmQ := t })
    | [], r :: t => if r.held || s.holdUs == 0 then some (r, { c with errorQ := t }) else none
    | [], [] => none
  else if i = 1 then
    match c.logQ with
    | r :: t => some (r, { c with logQ := t })
    | [] => none
  else match c.traceQ with
    | r :: t => some (r, { c with traceQ := t })
    | [] => none

/-- The index after `n` in a ring. -/
def ringNext (size : Option Nat) (n : Nat) : Nat := (n + 1) % size.getD 65536

/-- A record of ring `i` counts as written: HEAD advances, and the ring's cause bit at the threshold (R416). -/
def State.crierWritten (s : State) (i : Nat) : State :=
  let size := ringSize 6 16 (s.rd .TRC_RING_BASE i)
  let s := s.setFld .TRC_RING_HEAD_INDEX i (ringNext size (s.fld .TRC_RING_HEAD_INDEX i))
  let n := mapGet 0 s.crier.written i + 1
  let at_ := if n = 1 then s.clock.gtb else mapGet 0 s.crier.writtenAt i
  let s : State := { s with crier := { s.crier with
    written := mapSet 0 s.crier.written i n
    writtenAt := mapSet 0 s.crier.writtenAt i at_ } }
  if s.fld .TRC_CTL_IRQ_THRESHOLD ≤ n then s.setCause 0x13 (1 + i) else s

/-- The Crier writes the next record of ring `i`, into host memory or the Steward's. -/
def State.writeRecord (s : State) (i : Nat) : State :=
  let base := s.rd .TRC_RING_BASE i
  match ringSize 6 16 base, s.nextRecord i with
  | some size, some (r, c) =>
    let k := s.inFlight (fun u => decide (u = .crier i))
    (match ringSlot size (s.fld .TRC_RING_HEAD_INDEX i) (s.fld .TRC_RING_TAIL_INDEX i) k with
    | some h =>
      let s : State := { s with crier := c }
      let at_ := getBits 63 12 base * 4096 + 32 * h
      if bitOf 5 base then (s.emit (.stewardWrite at_ r.words)).crierWritten i
      else s.postWrite (.crier i) at_ none r.words
    | none => s)
  | _, _ => s

def execCrierRecordWrite (ring : Nat) (s : State) : Host.Outcome State Fault Refusal :=
  onUnit s (decide (ring < 3)) (if s.alive ∧ s.pdOn 23 then s.writeRecord ring else s)

/-- The oldest ERROR record still held has waited HOLD_US. -/
def execErrorHoldExpired (s : State) : Host.Outcome State Fault Refusal :=
  onUnit s true
    (match s.crier.errorQ.find? (fun r => !r.held) with
    | some r =>
      let s := s.advanceTo (r.first + 1000 * s.holdUs)
      { s with crier := { s.crier with errorQ := modifyFirst (fun x => !x.held) (fun x => { x with held := true }) s.crier.errorQ } }
    | none => s)

/-- The instant IRQ_TIMER_US after the first record written to ring `i` since its cause bit was cleared (R416). -/
def State.ringTimerAt (s : State) (i : Nat) : Nat :=
  mapGet 0 s.crier.writtenAt i + 1000 * s.fld .TRC_CTL_IRQ_TIMER_US

/-- IRQ_TIMER_US has passed since the first record that ring `ring`'s cause bit has not told of (R416). -/
def execRingIrqTimer (ring : Nat) (s : State) : Host.Outcome State Fault Refusal :=
  onUnit s (decide (ring < 3))
    (if 0 < mapGet 0 s.crier.written ring then (s.advanceTo (s.ringTimerAt ring)).setCause 0x13 (1 + ring) else s)

def execCrierRingTail (path : Path) (ring index : Nat) (s : State) : Host.Outcome State Fault Refusal :=
  onUnit s (pathOk path && decide (ring < 3) && u16Ok index)
    (s.gated path (regAddr .TRC_RING_TAIL ring) (s.setFld .TRC_RING_TAIL_INDEX ring index))

/-! ## Posted writes (R131, R132, R276, R285, R426) -/

/-- A completion record of queue `q` counts as written. -/
def State.completionTaken (s : State) (q : Nat) (irq : Bool) : State :=
  if s.qState q < 2 then s
  else
    let s := s.putQ q 3 31 16 ((s.cqTail q + 1) % 65536)
    let s := if irq then
        s.wr .HIF_CPL_PENDING (q / 64) (s.rd .HIF_CPL_PENDING (q / 64) ||| word (1 <<< (q % 64)))
      else s
    s.pumpQueue q

/-- A fault record counts as written; the instant of the first since FAULT_BATCH was last cleared is kept (R132). -/
def State.faultTaken (s : State) : State :=
  let s := s.setFld .XLT_FR_HEAD_INDEX 0 (ringNext (ringSize 10 16 (s.rd .XLT_FR_BASE 0)) (s.fld .XLT_FR_HEAD_INDEX))
  let at_ := if s.xlt.batch = 0 then s.clock.gtb else s.xlt.batchAt
  let s : State := { s with xlt := { s.xlt with batch := s.xlt.batch + 1, batchAt := at_ } }
  (if 256 ≤ s.xlt.batch then s.setCause 0x07 0 else s).pumpFaults

/-- A notice counts as written. -/
def State.noticeTaken (s : State) : State :=
  let s := s.setFld .OBJ_NR_HEAD_INDEX 0 (ringNext (ringSize 6 16 (s.rd .OBJ_NR_BASE 0)) (s.fld .OBJ_NR_HEAD_INDEX))
  (s.setCause 0x02 0).pumpNotices

/-- A piece of a DMA engine's transfer has been written to host memory (R99). -/
def State.pieceTaken (s : State) (q : Nat) : State :=
  match s.dmaDesc q with
  | some d => (if d.chunk.isSome then s.dmaDone q d else s).pumpEngines
  | none => s

/-- The last beat of the oldest posted write is taken. -/
def execPostedWriteTaken (id : Nat) (s : State) : Host.Outcome State Fault Refusal :=
  onUnit s true
    (match s.hif.posts with
    | [] => s
    | x :: rest =>
      if x.id ≠ id ∨ s.alive = false then s
      else
        let s : State := { s with hif := { s.hif with posts := rest } }
        match x.use with
        | .faultRecord => s.faultTaken
        | .notice => s.noticeTaken
        | .crier i => s.crierWritten i
        | .completion q irq => s.completionTaken q irq
        | .image => s.saveWait
        | .dma q => s.pieceTaken q)

end Sys2Proof.Machine
end

