-- ==== Sys2Proof/Machine/Flags.lean ====
section
/-! DEFINITION. What a read of a register returns: the stored word with its write-only bits as 0 (R10), and the status
fields that show other state: occupancies, counts, pending causes and the Well's and the Ledger's values, as the chapters'
register tables describe them. -/

namespace Sys2Proof.Machine

open Sys2Proof

/-- A word with fields replaced. -/
def putFields (w : Word) (l : List (Fld × Nat)) : Word := l.foldl (fun w x => setBits x.1.hi x.1.lo x.2 w) w

/-! ## The Hedge and the composition map -/

/-- Previous-epoch requests outstanding in all stations, and whether any holds a stub (R63). -/
def State.oldRequests (s : State) : Nat :=
  (s.clusters.filter (fun e => e.1 < 68)).foldl (fun n e => n + oldDrain e.2) 0 + s.mems.foldl (fun n e => n + (oldOps e.2).length) 0 +
  s.links.foldl (fun n e => n + (oldTxns e.2).length) 0
def State.anyStub (s : State) : Bool :=
  s.clusters.any (fun e => e.2.stub) || s.mems.any (fun e => e.2.stub) || s.links.any (fun e => e.2.stub)

def hdgView (s : State) (k : Nat) (w : Word) : Word :=
  let c := s.cluster k
  putFields w [(.HDG_ST_STATUS_EPOCH, c.epoch), (.HDG_ST_STATUS_DEFER_Q, c.retry.length),
    (.HDG_ST_STATUS_OLD_DRAIN, oldDrain c)]

def sliceCtlView (s : State) (sl : Nat) (w : Word) : Word :=
  putFields w [(.CMP_SLICE_CTL_LINKS, (cfgLinks s.regs sl).length),
    (.CMP_SLICE_CTL_MEMCH, (cfgChannels s.regs ⟨sl, 0⟩).length), (.CMP_SLICE_CTL_CORES, (cfgCores s.regs sl).length)]

def ownDataView (s : State) (w : Word) : Word :=
  let o := ownerAt s.comp.owners (s.fld .CMP_OWN_IDX_GRANULE)
  putFields w [(.CMP_OWN_DATA_OWNER, o.tag), (.CMP_OWN_DATA_CID, o.cid)]

/-! ## The Moot -/

def slotStateCode : SlotState → Nat
  | .free => 0
  | .opened => 1
  | .checking => 2
  | .waiting => 3
  | .pendingScrub => 4
  | .passed => 5
  | .refused => 6

def writerCode : Path → Nat
  | .host => 0
  | .steward => 1
  | .fm => 2

def csStatusView (x : CsSlot) (w : Word) : Word :=
  putFields w [(.STG_CS_STATUS_TICKET, x.ticket), (.STG_CS_STATUS_WRITER, writerCode x.writer),
    (.STG_CS_STATUS_OVERFLOW, bit01 x.overflow), (.STG_CS_STATUS_ENTRIES, x.entries.length),
    (.STG_CS_STATUS_STATE, slotStateCode x.state)]

/-- STG_CS_OPENED and STG_ENTRY_W0 have one copy per path (R71). -/
def openedView (s : State) (path : Path) (w : Word) : Word :=
  let o := if path = .host then s.moot.openedHost else s.moot.openedSteward
  putFields w [(.STG_CS_OPENED_TICKET, o.1), (.STG_CS_OPENED_SLOT, o.2)]

def entryW0View (s : State) (path : Path) : Word := if path = .host then s.moot.w0Host else s.moot.w0Steward

/-- Every powered station's copy of the GTB is locked (R88); not while no station is powered. -/
def State.gtbLocked (s : State) : Bool :=
  let on := (List.range 24).flatMap (fun n => if s.pdOn n then stationsOf n else [])
  !on.isEmpty && on.all (fun x => s.clock.locked.contains (sourceOf x.1 x.2))

/-! ## Translation and the Mill -/

/-- Busy walkers of a bank (R113). -/
def State.walks (s : State) (bank : Nat) : Nat := (s.xlt.walks.filter (fun w => w.bank == bank)).length

def milStatusView (m : MemStation) (w : Word) : Word :=
  putFields w [(.MIL_ST_STATUS_TOKENS, (m.slots.filter (fun x => x.2.due)).length),
    (.MIL_ST_STATUS_INFLIGHT, m.slots.length)]

/-- The bound logical channel that port `p` serves (R141). -/
def State.channelOf (s : State) (p : Nat) : Option Nat :=
  (List.range 64).find? (fun j => (cfgChanOwner s.regs j).tag != 0xFF && cfgChanPort s.regs j == p)

def mirrorView (s : State) (p : Nat) (w : Word) : Word :=
  match s.channelOf p with
  | some j => putFields w [(.CTR_ST_MIRROR_ACTIVE, 1), (.CTR_ST_MIRROR_MIRROR_PORT, cfgChanPort s.regs ((j + 1) % 64))]
  | none => w

/-! ## The Drover and the scheduler -/

/-- RATE(s): the RHO_DRV of the slice's valid contracts (R209). -/
def State.drvRate (s : State) (sl : Nat) : Nat :=
  saturate 24 ((cfgContractsOf s.regs sl).foldl (fun n c => n + ctRhoDrv s.regs c) 0)

def drvStatusView (s : State) (w : Word) : Word :=
  putFields w [(.DRV_STATUS_PLAN_Q, s.drv.planQ.length), (.DRV_STATUS_JOURNALS, s.drv.journals.length),
    (.DRV_STATUS_INFLIGHT, s.droverFlights)]

def drvStationView (s : State) (k : Nat) (w : Word) : Word :=
  putFields w [(.DRV_ST_STATUS_JOURNAL_COPIES, s.storeCopies k), (.DRV_ST_STATUS_JOURNAL_BYTES, s.storeBytes k),
    (.DRV_ST_STATUS_INFLIGHT, s.moverFlights k)]

/-- Cores that run a tile. -/
def State.runningTiles (s : State) : List (Nat × Tile) := s.sched.tiles.filter (fun t => !t.2.ended)

def schStatusView (s : State) (w : Word) : Word :=
  putFields w [(.SCH_STATUS_RESIDENT, s.sched.residents.length), (.SCH_STATUS_RUNNING, s.runningTiles.length)]

/-- STATE of SCH_RES. -/
def State.residentState (s : State) (r : Resident) : Nat :=
  if r.state = .preloading then 3
  else if r.state = .suspended then 4
  else if s.sched.tiles.any (fun t => t.2.ctx == r.ctx) then 2
  else if s.sched.ready.any (fun t => t.2.ctx == r.ctx) then 1
  else 0

def schResView (s : State) (slot : Nat) (w : Word) : Word :=
  match s.sched.residents.find? (fun e => e.1 == slot) with
  | some (_, r) =>
    putFields w [(.SCH_RES_VALID, 1), (.SCH_RES_STATE, s.residentState r), (.SCH_RES_SLICE, r.slice),
      (.SCH_RES_CONTEXT, r.ctx), (.SCH_RES_CREDIT, (BitVec.ofInt 32 (r.credit / 1024)).toNat)]
  | none => w

def schCoreView (s : State) (c : Nat) (w : Word) : Word :=
  match s.runningTiles.find? (fun e => e.1 == c) with
  | some (_, t) =>
    putFields w [(.SCH_CORE_BUSY, 1), (.SCH_CORE_SLOT, ((s.residentOf t.ctx).map (·.1)).getD 0),
      (.SCH_CORE_ELAPSED, saturate 16 ((s.clock.gtb - t.startAt) * 256 / 1000)), (.SCH_CORE_DECL, t.decl)]
  | none => w

/-! ## Coherence -/

/-- Lines that the flush of a commit still waits for (R258): in granules that change owner, or of cores being unbound. -/
def State.flushingLines (s : State) : Nat :=
  let cores := s.moot.slots.flatMap (fun x => x.unbound)
  ((s.coh.snoops.filter (fun x =>
      s.coh.groups.any (fun g => g.id == x.group && decide (g.next = .flush)) &&
      (cores.contains x.core ||
        s.comp.flushing.any (fun r => overlap (x.line / 16384 % 262144) (x.line / 16384 % 262144) r.first r.last)))).map
    (·.line)).eraseDups.length

def cohStatusView (s : State) (w : Word) : Word :=
  putFields w [(.COH_STATUS_FLUSHING, s.flushingLines), (.COH_STATUS_SNOOPS, s.coh.snoops.length)]

def fsStatusView (s : State) (i : Nat) (w : Word) : Word :=
  putFields w [(.COH_FS_STATUS_SNOOPS, (s.coh.snoops.filter (fun x => filterSlice x.line == i)).length),
    (.COH_FS_STATUS_ENTRIES, (s.coh.filter.filter (fun (e : FilterEntry) => filterSlice e.line == i)).length)]

def coreLinesView (s : State) (c : Nat) (w : Word) : Word :=
  let mine := s.coh.filter.filter (fun (e : FilterEntry) => e.core == c)
  putFields w [(.COH_CORE_LINES_RR, (mine.filter (fun (e : FilterEntry) => decide (e.st = .rr))).length),
    (.COH_CORE_LINES_M, (mine.filter (fun (e : FilterEntry) => decide (e.st = .m))).length),
    (.COH_CORE_LINES_VALID, mine.length)]

/-! ## The host interface and the objects -/

def hifStatusView (s : State) (w : Word) : Word :=
  putFields w [(.HIF_STATUS_DMA_OUT, saturate 10 s.hif.reads.length),
    (.HIF_STATUS_FETCHING, (s.hif.queues.filter (fun e => e.2.fetchTag.isSome)).length)]

def objStatusView (s : State) (w : Word) : Word :=
  putFields w [(.OBJ_STATUS_NR_BACKLOG, bit01 (!s.obj.notices.isEmpty)), (.OBJ_STATUS_RELEASING, s.obj.releasing.length),
    (.OBJ_STATUS_RES_FENCES, s.obj.resFences.length),
    (.OBJ_STATUS_RES_QUEUES, (s.hif.queues.filter (fun e => e.2.resident)).length)]

/-! ## Links, keys and life cycle -/

def portStatusView (s : State) (p : Nat) (w : Word) : Word :=
  let l := s.link p
  putFields w [(.LNK_PORT_STATUS_KEYS, (bitWord 4 (fun n => l.keys.any (fun e => e.1 == n))).toNat),
    (.LNK_PORT_STATUS_TXNS, l.txns.length)]

def keySlotCode : KeySlotState → Nat
  | .empty => 0
  | .full => 1
  | .bad => 2
  | .established => 3

/-- Healthy EMPTY slots; none while the Well has no power. -/
def State.freeKeySlots (s : State) : Nat :=
  if s.pdOn 2 then slotCount - (s.well.slots.filter (fun e => decide (e.2.state ≠ .empty))).length else 0

def keySlotView (k : KeySlot) (w : Word) : Word :=
  putFields w [(.KEY_SLOT_STATE, keySlotCode k.state), (.KEY_SLOT_ATTR, k.attr), (.KEY_SLOT_ORIGIN, k.origin),
    (.KEY_SLOT_PARENT, k.parent), (.KEY_SLOT_DEPTH, k.depth), (.KEY_SLOT_SLICE, k.slice)]

/-- Bytes 8w to 8w + 7 of a digest (KEY_MEAS). -/
def digestWord (d : List Byte) (w : Nat) : Word := word (leNat (slice d (8 * w) 8))

/-- LCS_STATE, once the OTP has been scanned (R372). -/
def lcsStateView (s : State) (w : Word) : Word :=
  if s.ledger.lc = 0 then w
  else putFields w [(.LCS_STATE_LC, s.ledger.lc), (.LCS_STATE_GEN_USED, s.ledger.otp.gensUsed),
    (.LCS_STATE_RESUMED, bit01 s.ledger.resumed), (.LCS_STATE_TOKENS_LEFT, s.ledger.otp.tokensLeft),
    (.LCS_STATE_GATE_CLOSED, bit01 s.gateClosed), (.LCS_STATE_DBG_FAILS, s.ledger.dbgFails)]

/-! ## Spares -/

/-- Healthy spare cores (R20): the spare core of each bindable cluster, and the cores of the spare clusters. -/
def State.spareCores (s : State) : Nat :=
  let free := fun (c : Nat) => !s.spr.badCores.contains c && !s.spr.usedCores.contains c
  let of := fun (k : Nat) =>
    if s.spr.badClusters.contains k ∨ s.spr.usedClusters.contains k then 0
    else if s.ledger.otp.spareClusters.contains k then ((List.range' (9 * k) 9).filter free).length
    else bit01 (free (s.spareCoreOf k))
  ((List.range 68).map of).sum

/-- Healthy spare memory ports (R20). -/
def State.sparePorts (s : State) : Nat :=
  (s.ledger.otp.sparePorts.filter (s.portSpare s.regs)).length

/-- Link directions whose spare pipeline is unused. -/
def State.spareLinkPipes (s : State) : Nat :=
  ((List.range 32).filter (fun n => !s.spr.badPipes.any (fun x => x.1 == sourceOf .link (n / 2) && x.2 / 14 == n % 2))).length

def sprStatusView (s : State) (w : Word) : Word :=
  let bad := (s.well.slots.filter (fun e => decide (e.2.state = .bad))).length
  putFields w [(.SPR_STATUS_SPARE_CORES, s.spareCores), (.SPR_STATUS_SPARE_MEMPORTS, s.sparePorts),
    (.SPR_STATUS_SPARE_LANES, ((List.range 16).filter (fun p => s.laneFree p)).length),
    (.SPR_STATUS_SPARE_MEMPIPES,
      ((List.range 72).filter (fun p => !s.spr.badPipes.any (fun x => x.1 == sourceOf .memory p))).length),
    (.SPR_STATUS_SPARE_LINKPIPES, s.spareLinkPipes), (.SPR_STATUS_SPARE_SLOTS, 16 - bad),
    (.SPR_STATUS_SPARE_STEWARD, bit01 s.spr.badStewards.isEmpty), (.SPR_STATUS_SPARE_OTP, 64 - s.ledger.otp.remapped.length)]

/-! ## Records -/

def trcStatusView (s : State) (w : Word) : Word :=
  putFields w [(.TRC_STATUS_ALARM_Q, s.crier.alarmQ.length), (.TRC_STATUS_ERROR_Q, s.crier.errorQ.length),
    (.TRC_STATUS_LOG_Q, s.crier.logQ.length), (.TRC_STATUS_TRACE_Q, s.crier.traceQ.length)]

/-! ## A read -/

/-- Word `i` of the mailbox that TEN_MBX_SEL names; 0 where there is none (R300, R301). -/
def State.windowWord (s : State) (i : Nat) : Word :=
  let sl := s.fld .TEN_MBX_SEL_SLICE
  if tenantOk sl && cfgEnabled s.regs sl then s.mbx sl i else 0

/-- Element `i` of `r` with the fields that show other state, as `path` sees it. -/
def State.view (s : State) (path : Path) (r : Reg) (i : Nat) : Word :=
  let w := s.rd r i
  match r with
  | .HDG_ST_STATUS => hdgView s i w
  | .CMP_DRAIN => putFields w [(.CMP_DRAIN_OPEN, bit01 s.anyStub), (.CMP_DRAIN_OUTSTANDING, s.oldRequests)]
  | .CMP_OWN_DATA => ownDataView s w
  | .CMP_SLICE_CTL => sliceCtlView s i w
  | .STG_CS_OPENED => openedView s path w
  | .STG_ENTRY_W0 => entryW0View s path
  | .STG_GTB => word s.clock.gtb
  | .STG_GTB_STATUS => putFields w [(.STG_GTB_STATUS_LOCKED, bit01 s.gtbLocked)]
  | .STG_CS_STATUS => csStatusView (s.slot i) w
  | .STG_CS_T => word (s.slot i).t
  | .STG_CS_REFUSE => putFields w [(.STG_CS_REFUSE_REASON, (s.slot i).reason), (.STG_CS_REFUSE_DETAIL, (s.slot i).detail)]
  | .XLT_STATUS => putFields w [(.XLT_STATUS_FR_BACKLOG, bit01 (!s.xlt.waiting.isEmpty)),
      (.XLT_STATUS_WALKS_B1, s.walks 1), (.XLT_STATUS_WALKS_B0, s.walks 0)]
  | .MIL_ST_STATUS => milStatusView (s.memSt i) w
  | .CTR_ST_STATUS => putFields w [(.CTR_ST_STATUS_DIRTY, ((s.memSt i).nodes.filter (fun n => n.dirty)).length)]
  | .CTR_ST_MIRROR => mirrorView s i w
  | .DRV_STATUS => drvStatusView s w
  | .DRV_SLICE_RATE => putFields w [(.DRV_SLICE_RATE_RATE, s.drvRate i)]
  | .DRV_ST_STATUS => drvStationView s i w
  | .SCH_STATUS => schStatusView s w
  | .SCH_RES => schResView s i w
  | .SCH_CORE => schCoreView s i w
  | .COH_STATUS => cohStatusView s w
  | .COH_FS_STATUS => fsStatusView s i w
  | .COH_CORE_LINES => coreLinesView s i w
  | .HIF_STATUS => hifStatusView s w
  | .HIF_CPL_SUMMARY => cplSummary s i
  | .OBJ_STATUS => objStatusView s w
  | .OBJ_CMD_STATUS => putFields w [(.OBJ_CMD_STATUS_BUSY, bit01 (s.objBusy path))]
  | .OBJ_REC_DATA => s.recWord (s.fld .OBJ_REC_SEL_KIND) (s.fld .OBJ_REC_SEL_INDEX) i
  | .TEN_MBX_WIN => s.windowWord i
  | .LNK_PORT_STATUS => portStatusView s i w
  | .KEY_STATUS => putFields w [(.KEY_STATUS_FREE, s.freeKeySlots)]
  | .KEY_MEAS => digestWord (if i < 6 then s.well.measRom else if i < 12 then s.well.measOpgar else s.well.measPolicy) (i % 6)
  | .KEY_DEVICE_ID => digestWord s.well.deviceId i
  | .KEY_CFG_DIGEST => digestWord s.well.cfgDigest i
  | .KEY_SLOT => keySlotView (s.keySlot i) w
  | .LCS_STATE => lcsStateView s w
  | .SPR_STATUS => sprStatusView s w
  | .IRQ_SUMMARY => s.irqPending &&& s.rd .IRQ_ENABLE 0
  | .IRQ_STW_SUMMARY => s.irqPending &&& s.rd .IRQ_STW_ENABLE 0
  | .IRQ_PENDING => s.irqPending
  | .IRQ_CAUSE => s.cause i
  | .TRC_STATUS => trcStatusView s w
  | _ => w

/-- The bits of element `i` that a read shows: those of its fields that are not write-only (R6, R10). -/
def readMask (r : Reg) (i : Nat) : Word :=
  let all := (regDef r).fields.foldl (fun m f => if f.acc = .wo then m else m ||| maskBits f.hi f.lo) 0
  match r with
  | .CMP_CORE_SLICE => all &&& ~~~ fixedBits r i
  | .MIL_RANGE_HI => all &&& ~~~ fixedBits r i
  | _ => all

/-- What a read of an offset returns: 0 where it is unassigned (R7), write-only and reserved bits as 0 (R6, R10). -/
def State.readReg (s : State) (path : Path) (off : Nat) : Word :=
  match regAt off with
  | some (r, i) => s.view path r i &&& readMask r i
  | none => 0

end Sys2Proof.Machine
end

