-- ==== Sys2Proof/Machine/RegWrite.lean ====
section
/-! DEFINITION. The BAR0 access (R5–R16, R438), the accesses to doorbell pages and mailboxes (R42, R279, R300) and the I3C target's
(R428). A write to a register with a behaviour of its own
has the effect of that register's command. -/

namespace Sys2Proof.Machine

open Sys2Proof

/-! ## Writes that start a command of their own -/

/-- The state after a command that a register write starts. -/
def after (s : State) (o : Host.Outcome State Fault Refusal) : State :=
  match o with
  | .next t => t
  | .fault _ => s
  | .refused _ => s

def csCmdWrite (path : Path) (v : Word) (s : State) : State :=
  let ticket := getBits 63 32 v
  match getBits 2 0 v with
  | 1 => after s (execCsOpen path 0 s)
  | 2 => after s (execCsSelect path ticket s)
  | 3 => after s (execCsCheck path ticket 0 s)
  | 4 => after s (execCsAbandon path ticket 0 s)
  | _ => s

def invCmdWrite (path : Path) (v : Word) (s : State) : State :=
  let ctx := getBits 43 31 v
  let pages := getBits 22 3 v
  match getBits 2 0 v with
  | 1 => after s (execInvDvaRange path ctx pages s)
  | 2 => after s (execInvHvaRange path (getBits 63 44 v) pages s)
  | 3 => after s (execInvContext path ctx s)
  | 4 => after s (execInvSlice path (getBits 30 23 v) s)
  | _ => s

def resolveWrite (path : Path) (v : Word) (s : State) : State :=
  match getBits 31 30 v with
  | 1 => after s (execRetry path (getBits 12 0 v) (getBits 63 32 v) s)
  | 2 => after s (execKill path (getBits 12 0 v) (getBits 63 32 v) s)
  | _ => s

/-- OBJ_CMD; a DESTROY here is one of a fence or a memory object, which discards no queue. -/
def objCmdWrite (path : Path) (v : Word) (s : State) : State :=
  let kind := getBits 39 36 v
  let index := getBits 31 0 v
  match getBits 35 32 v with
  | 1 => after s (execObjCreate path kind index s)
  | 2 => after s (execObjActivate path kind index s)
  | 3 => after s (execObjDeactivate path kind index s)
  | 4 => after s (execObjDestroy path kind index (getBits 47 40 v) [] s)
  | 5 => after s (execObjSignal path kind index (getBits 63 48 v) s)
  | 6 => after s (execObjReset path kind index s)
  | op => after s (execObjCmdOpInvalid path op s)

def tenCmdWrite (path : Path) (v : Word) (s : State) : State :=
  let sl := getBits 47 40 v
  match getBits 3 0 v with
  | 1 => after s (execFreeze path sl s)
  | 2 => after s (execThaw path sl s)
  | 4 => after s (execOffer path s)
  | 6 => after s (execRestoreContinue path sl s)
  | 8 => after s (execTenCancel path sl s)
  | _ => s

def keyCmdWrite (path : Path) (v : Word) (s : State) : State :=
  let attr := getBits 51 49 v
  let parent := getBits 48 40 v
  let target := getBits 39 31 v
  let sl := getBits 59 52 v
  match getBits 63 60 v with
  | 1 => after s (execGenerate path attr target s)
  | 2 => after s (execDerive path attr parent target s)
  | 3 => after s (execUnwrap path attr parent target s)
  | 4 => after s (execSeal path parent s)
  | 5 => after s (execUnseal path target s)
  | 6 => after s (execEstablish path sl target s)
  | 7 => after s (execAccept path target s)
  | 8 => after s (execKeyDestroy path target s)
  | 9 => after s (execKeyAttest path sl s)
  | 10 => after s (execEndorse path s)
  | _ => s

def dbgCmdWrite (path : Path) (v : Word) (s : State) : State :=
  match getBits 63 62 v with
  | 1 => after s (execChallenge false path (getBits 3 0 v) s)
  | 2 => after s (execRespond false path s)
  | _ => s

/-- GLB_PD_REQ: each bit that changes is a request for its domain (R26, R30). -/
def pdReqWrite (v : Word) (s : State) : State :=
  forEach (List.range' 8 16) s (fun n s =>
    if bitOf n v == s.pdReq n then s else if bitOf n v then s.requestOn n else s.requestOff n)

/-- A write through TEN_MBX_WIN (R301): the two indices, the proposal and the M2T ring; the rest is read-only to the
manager. -/
def windowWrite (path : Path) (i : Nat) (v : Word) (s : State) : State :=
  let sl := s.fld .TEN_MBX_SEL_SLICE
  if tenantOk sl && cfgEnabled s.regs sl then
    (if i = 1 then after s (execT2mHead path sl (getBits 15 0 v) s)
     else if i = 2 then after s (execM2tTail path sl (getBits 15 0 v) s)
     else if (704 ≤ i ∧ i < 712) ∨ 1536 ≤ i then s.setMbx sl i v
     else s.tenErr 0x1401 sl)
  else s.tenErr 0x1401 sl

/-- Causes that a write of IRQ_CAUSE[n] clears restart the counts behind them (R132, R416). -/
def causeWrite (n : Nat) (v : Word) (s : State) : State :=
  let s := s.accessWrite .IRQ_CAUSE n v
  if n = 0x07 ∧ bitOf 0 v then { s with xlt := { s.xlt with batch := 0 } }
  else if n = 0x13 then
    { s with crier := { s.crier with written := s.crier.written.filter (fun e => !bitOf (1 + e.1) v) } }
  else s

/-- Write bit `b` of a value starts `o`. -/
def ifBit (b : Nat) (v : Word) (s : State) (o : Host.Outcome State Fault Refusal) : State := if bitOf b v then after s o else s

/-- A register whose write is a command with a row of its own: the effect of that command. None for a register without
one. -/
def commandWrite (path : Path) (r : Reg) (i : Nat) (v : Word) (s : State) : Option State :=
  match r with
  | .STG_CS_CMD => some (csCmdWrite path v s)
  | .STG_ENTRY_W1 => some (after s (execCsStage path 0 (entryW0View s path) v 0 s))
  | .XLT_CTL => some (ifBit 0 v s (execCacheFlush path s))
  | .XLT_INV_CMD => some (invCmdWrite path v s)
  | .XLT_FR_TAIL => some (after s (execFaultRingTail path (getBits 15 0 v) s))
  | .XLT_FAULT_RESOLVE => some (resolveWrite path v s)
  | .MIL_RETIRE => some (after s (execKeyidRetire path (getBits 9 0 v) s))
  | .CTR_POUND_CLEAR => some (after s (execPoundClear path (getBits 63 57 v) (getBits 56 54 v) (getBits 26 0 v) s))
  | .HDG_CTL => some (ifBit 0 v s (execHdgCntClear path s))
  | .MIL_CTL => some (ifBit 0 v s (execMilCntClear path s))
  | .CTR_CTL => some (ifBit 0 v s (execCtrCntClear path s))
  | .DRV_CTL => some (ifBit 0 v s (execDrvCntClear path s))
  | .COH_CTL => some (ifBit 0 v s (execCohCntClear path s))
  | .OBJ_CTL => some (after s (execObjEnable path (bitOf 0 v) s))
  | .OBJ_CMD => some (objCmdWrite path v s)
  | .OBJ_REC_DATA => some (after s (execObjRecordWrite path i v s))
  | .OBJ_NR_TAIL => some (after s (execNoticeRingTail path (getBits 15 0 v) s))
  | .TEN_CMD => some (tenCmdWrite path v s)
  | .TEN_MIG_LEN => some (after s (execMigBufferHandover path (getBits 39 12 v) s))
  | .LNK_RETIRE => some (after s (execLinkRetire path (getBits 4 1 v) (bitOf 0 v) s))
  | .KEY_CMD => some (keyCmdWrite path v s)
  | .LCS_XCMD => some (after s (execLcTransition false path (getBits 7 0 v) s))
  | .LCS_GATE => some (ifBit 0 v s (execGateClose path s))
  | .LCS_DBG_CMD => some (dbgCmdWrite path v s)
  | .STW_STATUS => some (ifBit 63 v s (execReady path s))
  | .IRQ_TEST => some (after s (execIrqTest path (bitOf 0 v) s))
  | .TRC_ALARM_CODES => some (ifBit 63 v s (execAlarmAck path i s))
  | .TRC_RING_TAIL => some (after s (execCrierRingTail path i (getBits 15 0 v) s))
  | _ => none

/-- The write starts a command that needs operands from outside beside the value. -/
def needsOwnRow (r : Reg) (v : Word) : Bool :=
  match r with
  | .OBJ_CMD => getBits 35 32 v == 4 && [1, 2, 5].contains (getBits 39 36 v)
  | .TEN_CMD => [3, 5, 7].contains (getBits 3 0 v)
  | .LNK_KX_CMD => true
  | .KEY_CMD => getBits 63 60 v == 11
  | _ => false

/-! ## A write by the access types (R10) -/

/-- A taken write of `v` to a register without a command of its own, and what follows from the new value: requests for
domains, an image fetch, fetching that starts, records that find their ring. -/
def plainWrite (path : Path) (r : Reg) (i : Nat) (v : Word) (s : State) : State :=
  match r with
  | .GLB_PD_REQ => pdReqWrite v s
  | .STG_ENTRY_W0 => s.setEntryW0 path v
  | .IRQ_CAUSE => causeWrite i v s
  | .TEN_MBX_WIN => windowWrite path i v s
  | .OBJ_TABLE_BASE => if s.fld .OBJ_CTL_ENABLE = 1 then s else s.accessWrite r i v
  | .STW_IMG_CTL => if bitOf 20 v then after s (execGo path (getBits 19 0 v) s) else s.accessWrite r i (setBits 20 20 0 v)
  | .SCH_CTL => ifBit 0 v (s.accessWrite r i (setBits 0 0 0 v)) (execSchCntClear path (s.accessWrite r i (setBits 0 0 0 v)))
  | .HIF_CTL => forEach s.slotQueues (s.accessWrite r i v) (fun q s => s.pumpQueue q)
  | .XLT_FR_BASE => (s.accessWrite r i v).pumpFaults
  | .OBJ_NR_BASE => (s.accessWrite r i v).pumpNotices
  | _ => s.accessWrite r i v

/-- A write of 8 aligned bytes at a BAR0 offset. A register with ST fields is staged (R13); an unassigned offset ignores
it (R7). -/
def State.writeReg (s : State) (path : Path) (off : Nat) (v : Word) : State :=
  if hasSt off then after s (execStFieldWrite path off v s)
  else match regAt off with
    | some (r, i) => (commandWrite path r i v s).getD (s.gated path off (plainWrite path r i v s))
    | none => s.gated path off s

/-! ## The access (R5) -/

/-- A path's accesses reach the registers: the host's from STEP 3 on (R438), the Steward's once Opgar runs. -/
def State.reaches (s : State) (path : Path) : Bool :=
  s.alive &&
  (match path with
  | .host => decide (3 ≤ s.step)
  | .steward => s.step == 9 || s.step == 10
  | .fm => false)

/-- The data of a read go back to whoever asked. -/
def State.readRegData (s : State) (path : Path) (tag : Nat) (v : Word) : State :=
  s.emit (if path = .host then .hostData tag v else .stewardData v)

/-- An access of another size or alignment: HIF_BAR0_ERR and ERROR 0x0101 (R5, R299). -/
def State.bar0Error (s : State) (a : Bar0Access) : State :=
  let s := s.wr .HIF_BAR0_ERR 0
    (putFields 0 [(.HIF_BAR0_ERR_WRITE, bit01 a.write), (.HIF_BAR0_ERR_BYTES, a.bytes), (.HIF_BAR0_ERR_OFFSET, a.offset)])
  s.hifErr 0x0101 0 0

/-- A read: its data, and what a read of STG_CS_REFUSE does (R74). -/
def State.readAccess (s : State) (a : Bar0Access) : State :=
  let s' := s.readRegData a.path a.tag (s.readReg a.path a.offset)
  match regAt a.offset with
  | some (.STG_CS_REFUSE, i) => after s' (execCsRefuseRead a.path i s')
  | _ => s'

/-! ## Doorbell pages and mailboxes (R42, R279, R300, R301) -/

/-- The data of a read through BAR2 or BAR4. -/
def State.barData (s : State) (a : Bar0Access) (v : Word) : State := if a.write then s else s.readRegData .host a.tag v

/-- What a doorbell page's offset 0x010 shows of its queue. -/
def State.doorbellWord (s : State) (q : Nat) : Word :=
  setBits 63 48 (s.sqHead q) (setBits 47 32 (s.cqTail q) (setBits 31 16 (getBits 63 48 (s.qWord q 4)) (setBits 2 0 (s.qState q) 0)))

/-- An access to a doorbell page (R279): its format is checked before its PASID (DESIGN CHOICE, log 86). -/
def State.bar2 (s : State) (a : Bar0Access) : State :=
  let q := a.offset / 4096
  let r := a.offset % 4096
  if a.bytes ≠ 8 ∨ r % 8 ≠ 0 then (s.barData a 0).hifErr 0x0104 q (a.pasid.getD 0) (s.qSlice q)
  else if s.doorbellOk q a.pasid = false then (s.barData a 0).err 0x0603 (s.qSlice q) (word q)
  else if a.write then
    (if r = 0 then after s (execSqTail q (getBits 15 0 a.value) a.pasid 8 s)
     else if r = 8 then after s (execCqHead q (getBits 15 0 a.value) a.pasid 8 s)
     else s)
  else s.barData a (if r = 0x10 then s.doorbellWord q else 0)

/-- A tenant's access to its mailbox (R300, R301); beyond the mailboxes there is nothing. -/
def State.bar4 (s : State) (a : Bar0Access) : State :=
  let sl := a.offset / 16384 + 1
  let r := a.offset % 16384
  if 128 < sl then s.barData a 0
  else if s.mailboxMapped sl a.pasid = false then (s.barData a 0).tenErr 0x0603 sl
  else if a.bytes ≠ 8 ∨ r % 8 ≠ 0 ∨ cfgEnabled s.regs sl = false then (s.barData a 0).tenErr 0x1401 sl
  else if a.write then
    (if r = 0 then after s (execT2mTail sl (getBits 15 0 a.value) a.pasid 8 [] s)
     else if r = 24 then after s (execM2tHead sl (getBits 15 0 a.value) a.pasid 8 s)
     else s.tenantWord sl (r / 8) a.value)
  else s.barData a (s.mbx sl (r / 8))

/-- An access of the host through BAR2 or BAR4. Until the block is ready it reads 0 and its writes are discarded. -/
def State.barAccess (s : State) (a : Bar0Access) : State :=
  if s.reaches .host = false then s
  else if s.isReady = false then s.barData a 0
  else if a.bar = 2 then s.bar2 a
  else s.bar4 a

/-- The access to BAR0 takes effect. -/
def State.bar0 (s : State) (a : Bar0Access) : State :=
  if !s.reaches a.path then s
  else if a.bytes ≠ 8 ∨ a.offset % 8 ≠ 0 then
    (let s := s.bar0Error a
     if a.write then s else s.readRegData a.path a.tag 0)
  else if a.write then s.writeReg a.path a.offset a.value
  else s.readAccess a

/-- An access in the 16 MiB window of BAR0, or the host's at one of the 2^26 offsets of BAR2 and BAR4: HP_T_BYTES has 4 bits,
HP_T_TAG 10 (chapter 16). -/
def bar0Ok (a : Bar0Access) : Bool :=
  pathOk a.path && decide (a.bytes < 16) && decide (a.tag < 1024) && pasidOk a.pasid &&
  (if a.bar = 0 then decide (a.offset < 2 ^ 24) else (a.bar == 2 || a.bar == 4) && decide (a.path = .host) && decide (a.offset < 2 ^ 26))

/-- The write is another row's. -/
def ownRowWrite (a : Bar0Access) : Bool :=
  a.bar == 0 && a.write && a.bytes == 8 &&
  (match regAt a.offset with
  | some (r, _) => needsOwnRow r a.value
  | none => false)

def execRegisterWrite (a : Bar0Access) (s : State) : Host.Outcome State Fault Refusal :=
  if bar0Ok a && ownRowWrite a then .fault .ownRow
  else onUnit s (bar0Ok a) (if a.bar = 0 then s.bar0 a else s.barAccess a)

/-! ## The I3C target (R428) -/

/-- The registers the target gives. -/
def i3cGives (r : Reg) : Bool :=
  match r with
  | .GLB_INVENTORY => true
  | .LCS_STATE => true
  | .SPR_STATUS => true
  | .MON_TEMP => true
  | .MON_VOLT => true
  | .MON_CLOCK => true
  | _ => false

/-- Readout fields, which read 0 while PD23 is off. -/
def isReadout (r : Reg) : Bool :=
  match r with
  | .MON_TEMP => true
  | .MON_VOLT => true
  | .MON_CLOCK => true
  | _ => false

/-- ENTDAA assigns a dynamic address. -/
def execI3cEntdaa (address : Nat) (s : State) : Host.Outcome State Fault Refusal :=
  onUnit s (decide (address < 128))
    (if s.alive then { s with mon := { s.mon with i3cAddr := some address } } else s)

/-- A read through the dynamic address; another offset is NACKed. -/
def execI3cRead (offset : Nat) (s : State) : Host.Outcome State Fault Refusal :=
  onUnit s (decide (offset < 2 ^ 24))
    (if s.alive ∧ s.mon.i3cAddr.isSome then
      (match regAt offset with
      | some (r, _) =>
        if i3cGives r then s.emit (.i3cData (if isReadout r ∧ s.pdOn 23 = false then 0 else s.readReg .steward offset))
        else s.emit .i3cNack
      | none => s.emit .i3cNack)
    else s)

/-- Writes are NACKed. -/
def execI3cWrite (offset : Nat) (_value : Word) (s : State) : Host.Outcome State Fault Refusal :=
  onUnit s (decide (offset < 2 ^ 24))
    (if s.alive ∧ s.mon.i3cAddr.isSome then s.emit .i3cNack else s)

end Sys2Proof.Machine
end

