-- ==== Sys2Proof/Machine/Dispatch.lean ====
section
/-! DEFINITION. What each command does: one arm per constructor of `Instr`, in the order of spec/opcode_table.json. -/

namespace Sys2Proof.Machine

open Sys2Proof

def exec (i : Instr) (s : State) : Host.Outcome State Fault Refusal :=
  match i with
  | .porAssert => Sys2Proof.Machine.execPorAssert s
  | .sysReset x => Sys2Proof.Machine.execSysReset x s
  | .porRelease x => Sys2Proof.Machine.execPorRelease x s
  | .go path pasid => Sys2Proof.Machine.execGo path pasid s
  | .imageFetchDone opgar policy deadDomain elapsedNs => Sys2Proof.Machine.execImageFetchDone opgar policy deadDomain elapsedNs s
  | .ready path => Sys2Proof.Machine.execReady path s
  | .registerWrite a => Sys2Proof.Machine.execRegisterWrite a s
  | .stFieldWrite path offset value => Sys2Proof.Machine.execStFieldWrite path offset value s
  | .pdOnRequest path n => Sys2Proof.Machine.execPdOnRequest path n s
  | .pdOffRequest path n => Sys2Proof.Machine.execPdOffRequest path n s
  | .pdOn n => Sys2Proof.Machine.execPdOn n s
  | .pdOffComplete n => Sys2Proof.Machine.execPdOffComplete n s
  | .supplyRemoved => Sys2Proof.Machine.execSupplyRemoved s
  | .aclkStopped => Sys2Proof.Machine.execAclkStopped s
  | .aclkRestored => Sys2Proof.Machine.execAclkRestored s
  | .gtbCopyLocked kind k skewPs => Sys2Proof.Machine.execGtbCopyLocked kind k skewPs s
  | .csOpen path seq => Sys2Proof.Machine.execCsOpen path seq s
  | .csSelect path ticket => Sys2Proof.Machine.execCsSelect path ticket s
  | .csStage path ticket w0 w1 seq => Sys2Proof.Machine.execCsStage path ticket w0 w1 seq s
  | .csCheck path ticket seq => Sys2Proof.Machine.execCsCheck path ticket seq s
  | .csAbandon path ticket seq => Sys2Proof.Machine.execCsAbandon path ticket seq s
  | .csRefuseRead path slot => Sys2Proof.Machine.execCsRefuseRead path slot s
  | .messageInvalid type seq => Sys2Proof.Machine.execMessageInvalid type seq s
  | .meterPoll tag seq => Sys2Proof.Machine.execMeterPoll tag seq s
  | .meterReport => Sys2Proof.Machine.execMeterReport s
  | .checkBegin => Sys2Proof.Machine.execCheckBegin s
  | .checkEnd => Sys2Proof.Machine.execCheckEnd s
  | .stationAck kind k => Sys2Proof.Machine.execStationAck kind k s
  | .distributionTimeout => Sys2Proof.Machine.execDistributionTimeout s
  | .scrubOverrun slot => Sys2Proof.Machine.execScrubOverrun slot s
  | .commitInstant => Sys2Proof.Machine.execCommitInstant s
  | .stubRelease kind k => Sys2Proof.Machine.execStubRelease kind k s
  | .drainTimeout kind k => Sys2Proof.Machine.execDrainTimeout kind k s
  | .sliceTeardownDone slice => Sys2Proof.Machine.execSliceTeardownDone slice s
  | .flushComplete => Sys2Proof.Machine.execFlushComplete s
  | .scrubDone granule => Sys2Proof.Machine.execScrubDone granule s
  | .coreSramZeroDone core => Sys2Proof.Machine.execCoreSramZeroDone core s
  | .pmUpd floorMhz capW => Sys2Proof.Machine.execPmUpd floorMhz capW s
  | .audit => Sys2Proof.Machine.execAudit s
  | .clockMeasurement mhz => Sys2Proof.Machine.execClockMeasurement mhz s
  | .slackHint => Sys2Proof.Machine.execSlackHint s
  | .sliceEnergyReport => Sys2Proof.Machine.execSliceEnergyReport s
  | .droop domain monitor => Sys2Proof.Machine.execDroop domain monitor s
  | .tamper monitor millivolts cold => Sys2Proof.Machine.execTamper monitor millivolts cold s
  | .tempSample m => Sys2Proof.Machine.execTempSample m s
  | .tempTrip sensor => Sys2Proof.Machine.execTempTrip sensor s
  | .read r => Sys2Proof.Machine.execRead r s
  | .readUnique r => Sys2Proof.Machine.execReadUnique r s
  | .write r beats => Sys2Proof.Machine.execWrite r beats s
  | .atomic r operand compare => Sys2Proof.Machine.execAtomic r operand compare s
  | .fence r => Sys2Proof.Machine.execFence r s
  | .alloc r => Sys2Proof.Machine.execAlloc r s
  | .free r => Sys2Proof.Machine.execFree r s
  | .checkpoint core => Sys2Proof.Machine.execCheckpoint core s
  | .walkComplete port txn => Sys2Proof.Machine.execWalkComplete port txn s
  | .walkReadTimeout port txn => Sys2Proof.Machine.execWalkReadTimeout port txn s
  | .migrationCasResult core result => Sys2Proof.Machine.execMigrationCasResult core result s
  | .extentRetranslate core pos => Sys2Proof.Machine.execExtentRetranslate core pos s
  | .hostDmaCompletion tag status data => Sys2Proof.Machine.execHostDmaCompletion tag status data s
  | .ringDmaTimeout queue => Sys2Proof.Machine.execRingDmaTimeout queue s
  | .invDvaRange path context pagesM1 => Sys2Proof.Machine.execInvDvaRange path context pagesM1 s
  | .invHvaRange path pasid pagesM1 => Sys2Proof.Machine.execInvHvaRange path pasid pagesM1 s
  | .invContext path context => Sys2Proof.Machine.execInvContext path context s
  | .invSlice path slice => Sys2Proof.Machine.execInvSlice path slice s
  | .invAck seq acknowledger => Sys2Proof.Machine.execInvAck seq acknowledger s
  | .cacheFlush path => Sys2Proof.Machine.execCacheFlush path s
  | .cacheFlushDone => Sys2Proof.Machine.execCacheFlushDone s
  | .retry path context seq => Sys2Proof.Machine.execRetry path context seq s
  | .kill path context seq => Sys2Proof.Machine.execKill path context seq s
  | .faultRingTail path index => Sys2Proof.Machine.execFaultRingTail path index s
  | .faultBatchTimer => Sys2Proof.Machine.execFaultBatchTimer s
  | .memoryOpAccept port op => Sys2Proof.Machine.execMemoryOpAccept port op s
  | .dramReadReturn port tag data poison => Sys2Proof.Machine.execDramReadReturn port tag data poison s
  | .macVerdict port slot => Sys2Proof.Machine.execMacVerdict port slot s
  | .atomicBufferIdle port line => Sys2Proof.Machine.execAtomicBufferIdle port line s
  | .clusterAtomicBufferIdle station line => Sys2Proof.Machine.execClusterAtomicBufferIdle station line s
  | .verifyVerdict port txn v code => Sys2Proof.Machine.execVerifyVerdict port txn v code s
  | .releasedWriteRsp port id code => Sys2Proof.Machine.execReleasedWriteRsp port id code s
  | .rawRead jtag pa => Sys2Proof.Machine.execRawRead jtag pa s
  | .rawWrite jtag pa data be => Sys2Proof.Machine.execRawWrite jtag pa data be s
  | .poundClear path port level line => Sys2Proof.Machine.execPoundClear path port level line s
  | .poundClearDone => Sys2Proof.Machine.execPoundClearDone s
  | .keyidRetire path keyid => Sys2Proof.Machine.execKeyidRetire path keyid s
  | .retirementDone => Sys2Proof.Machine.execRetirementDone s
  | .hdgCntClear path => Sys2Proof.Machine.execHdgCntClear path s
  | .milCntClear path => Sys2Proof.Machine.execMilCntClear path s
  | .ctrCntClear path => Sys2Proof.Machine.execCtrCntClear path s
  | .drvCntClear path => Sys2Proof.Machine.execDrvCntClear path s
  | .schCntClear path => Sys2Proof.Machine.execSchCntClear path s
  | .cohCntClear path => Sys2Proof.Machine.execCohCntClear path s
  | .planDone queue routing => Sys2Proof.Machine.execPlanDone queue routing s
  | .droverTransferRsp context jtag index row code => Sys2Proof.Machine.execDroverTransferRsp context jtag index row code s
  | .journalExpired context jtag => Sys2Proof.Machine.execJournalExpired context jtag s
  | .journalLost context jtag => Sys2Proof.Machine.execJournalLost context jtag s
  | .tileEnd core ns => Sys2Proof.Machine.execTileEnd core ns s
  | .tileWatchdog core => Sys2Proof.Machine.execTileWatchdog core s
  | .preloadDone slot => Sys2Proof.Machine.execPreloadDone slot s
  | .shareZeroDone slot => Sys2Proof.Machine.execShareZeroDone slot s
  | .coreUe port core => Sys2Proof.Machine.execCoreUe port core s
  | .coreHeartbeatTimeout port core => Sys2Proof.Machine.execCoreHeartbeatTimeout port core s
  | .coreSubstitutionDone core badUnits => Sys2Proof.Machine.execCoreSubstitutionDone core badUnits s
  | .writeback port core line data => Sys2Proof.Machine.execWriteback port core line data s
  | .evict port core line => Sys2Proof.Machine.execEvict port core line s
  | .ackI port core sid => Sys2Proof.Machine.execAckI port core sid s
  | .ackS port core sid => Sys2Proof.Machine.execAckS port core sid s
  | .dataDirty port core sid data => Sys2Proof.Machine.execDataDirty port core sid data s
  | .wbPending port core sid => Sys2Proof.Machine.execWbPending port core sid s
  | .snoopTimeout sid => Sys2Proof.Machine.execSnoopTimeout sid s
  | .objCreate path kind index => Sys2Proof.Machine.execObjCreate path kind index s
  | .objActivate path kind index => Sys2Proof.Machine.execObjActivate path kind index s
  | .objDeactivate path kind index => Sys2Proof.Machine.execObjDeactivate path kind index s
  | .objDestroy path kind index slice fences => Sys2Proof.Machine.execObjDestroy path kind index slice fences s
  | .objSignal path kind index code => Sys2Proof.Machine.execObjSignal path kind index code s
  | .objReset path kind index => Sys2Proof.Machine.execObjReset path kind index s
  | .objRecordWrite path w value => Sys2Proof.Machine.execObjRecordWrite path w value s
  | .objEnable path enable => Sys2Proof.Machine.execObjEnable path enable s
  | .contextTeardownDone context => Sys2Proof.Machine.execContextTeardownDone context s
  | .memoryObjectFreed index => Sys2Proof.Machine.execMemoryObjectFreed index s
  | .sqTail queue value pasid bytes => Sys2Proof.Machine.execSqTail queue value pasid bytes s
  | .cqHead queue value pasid bytes => Sys2Proof.Machine.execCqHead queue value pasid bytes s
  | .queueSlotGrant queue => Sys2Proof.Machine.execQueueSlotGrant queue s
  | .nop queue w => Sys2Proof.Machine.execNop queue w s
  | .tile queue w => Sys2Proof.Machine.execTile queue w s
  | .dmaCopy queue w => Sys2Proof.Machine.execDmaCopy queue w s
  | .dmaFill queue w => Sys2Proof.Machine.execDmaFill queue w s
  | .dispatch queue w => Sys2Proof.Machine.execDispatch queue w s
  | .combine queue w => Sys2Proof.Machine.execCombine queue w s
  | .fenceSignal queue w => Sys2Proof.Machine.execFenceSignal queue w s
  | .fenceWait queue w => Sys2Proof.Machine.execFenceWait queue w s
  | .fenceWaitWake queue => Sys2Proof.Machine.execFenceWaitWake queue s
  | .fenceReset queue w => Sys2Proof.Machine.execFenceReset queue w s
  | .objRef queue w => Sys2Proof.Machine.execObjRef queue w s
  | .noticeRingTail path index => Sys2Proof.Machine.execNoticeRingTail path index s
  | .t2mTail slice value pasid bytes slots => Sys2Proof.Machine.execT2mTail slice value pasid bytes slots s
  | .m2tHead slice value pasid bytes => Sys2Proof.Machine.execM2tHead slice value pasid bytes s
  | .t2mHead path slice value => Sys2Proof.Machine.execT2mHead path slice value s
  | .m2tTail path slice value => Sys2Proof.Machine.execM2tTail path slice value s
  | .query slice => Sys2Proof.Machine.execQuery slice s
  | .tenAttest slice bufferCode pages => Sys2Proof.Machine.execTenAttest slice bufferCode pages s
  | .managerMessage slice => Sys2Proof.Machine.execManagerMessage slice s
  | .t2mTypeInvalid slice => Sys2Proof.Machine.execT2mTypeInvalid slice s
  | .freeze path slice => Sys2Proof.Machine.execFreeze path slice s
  | .sliceFrozen slice => Sys2Proof.Machine.execSliceFrozen slice s
  | .thaw path slice => Sys2Proof.Machine.execThaw path slice s
  | .save path slice offer pubKeys => Sys2Proof.Machine.execSave path slice offer pubKeys s
  | .saveDone code => Sys2Proof.Machine.execSaveDone code s
  | .offer path => Sys2Proof.Machine.execOffer path s
  | .restore path slice tagsOk cores channels links commons granules objects shares => Sys2Proof.Machine.execRestore path slice tagsOk cores channels links commons granules objects shares s
  | .restoreKeysReady keys => Sys2Proof.Machine.execRestoreKeysReady keys s
  | .restoreContinue path slice => Sys2Proof.Machine.execRestoreContinue path slice s
  | .restoreDone records code image => Sys2Proof.Machine.execRestoreDone records code image s
  | .discard path slice fences => Sys2Proof.Machine.execDiscard path slice fences s
  | .tenCancel path slice => Sys2Proof.Machine.execTenCancel path slice s
  | .migBufferHandover path pages => Sys2Proof.Machine.execMigBufferHandover path pages s
  | .klfFlit port f => Sys2Proof.Machine.execKlfFlit port f s
  | .linkReplayRequest port fsn => Sys2Proof.Machine.execLinkReplayRequest port fsn s
  | .kxStart path port slotTx slotRx up => Sys2Proof.Machine.execKxStart path port slotTx slotRx up s
  | .kxHello port st pubKeys => Sys2Proof.Machine.execKxHello port st pubKeys s
  | .kxFinish port ciphertext => Sys2Proof.Machine.execKxFinish port ciphertext s
  | .kxConfirm port mac => Sys2Proof.Machine.execKxConfirm port mac s
  | .kxTimeout port => Sys2Proof.Machine.execKxTimeout port s
  | .linkRetire path port phase => Sys2Proof.Machine.execLinkRetire path port phase s
  | .linkRetireDone port => Sys2Proof.Machine.execLinkRetireDone port s
  | .rekeyDue port => Sys2Proof.Machine.execRekeyDue port s
  | .sealLimit port => Sys2Proof.Machine.execSealLimit port s
  | .linkDown port => Sys2Proof.Machine.execLinkDown port s
  | .laneCe port lane => Sys2Proof.Machine.execLaneCe port lane s
  | .laneLost port lane => Sys2Proof.Machine.execLaneLost port lane s
  | .laneMap port lane => Sys2Proof.Machine.execLaneMap port lane s
  | .retrainingWindow port => Sys2Proof.Machine.execRetrainingWindow port s
  | .retrainAck port => Sys2Proof.Machine.execRetrainAck port s
  | .generate path attr target => Sys2Proof.Machine.execGenerate path attr target s
  | .derive path attr parent target => Sys2Proof.Machine.execDerive path attr parent target s
  | .unwrap path attr parent target => Sys2Proof.Machine.execUnwrap path attr parent target s
  | .seal path parent => Sys2Proof.Machine.execSeal path parent s
  | .unseal path target => Sys2Proof.Machine.execUnseal path target s
  | .establish path slice target => Sys2Proof.Machine.execEstablish path slice target s
  | .accept path target => Sys2Proof.Machine.execAccept path target s
  | .keyDestroy path target => Sys2Proof.Machine.execKeyDestroy path target s
  | .keyAttest path slice => Sys2Proof.Machine.execKeyAttest path slice s
  | .endorse path => Sys2Proof.Machine.execEndorse path s
  | .enroll path readings => Sys2Proof.Machine.execEnroll path readings s
  | .keyCmdDone => Sys2Proof.Machine.execKeyCmdDone s
  | .entropyFail => Sys2Proof.Machine.execEntropyFail s
  | .reseed => Sys2Proof.Machine.execReseed s
  | .patrol corrected mills worn uncorrectable => Sys2Proof.Machine.execPatrol corrected mills worn uncorrectable s
  | .lcTransition fromJtag path targetLc => Sys2Proof.Machine.execLcTransition fromJtag path targetLc s
  | .lcTransitionReset x => Sys2Proof.Machine.execLcTransitionReset x s
  | .programFail => Sys2Proof.Machine.execProgramFail s
  | .challenge fromJtag path level => Sys2Proof.Machine.execChallenge fromJtag path level s
  | .respond fromJtag path => Sys2Proof.Machine.execRespond fromJtag path s
  | .gateClose path => Sys2Proof.Machine.execGateClose path s
  | .jtagInstruction code => Sys2Proof.Machine.execJtagInstruction code s
  | .checkLogicDisagree station => Sys2Proof.Machine.execCheckLogicDisagree station s
  | .clusterSubstitutionDone station => Sys2Proof.Machine.execClusterSubstitutionDone station s
  | .memoryCe port => Sys2Proof.Machine.execMemoryCe port s
  | .rebuildLeaf macLost poisonLost => Sys2Proof.Machine.execRebuildLeaf macLost poisonLost s
  | .aesPipelineFail kind k pipeline => Sys2Proof.Machine.execAesPipelineFail kind k pipeline s
  | .stewardHeartbeatTimeout core => Sys2Proof.Machine.execStewardHeartbeatTimeout core s
  | .irqTest path set => Sys2Proof.Machine.execIrqTest path set s
  | .alarmAck path latch => Sys2Proof.Machine.execAlarmAck path latch s
  | .crierRecordWrite ring => Sys2Proof.Machine.execCrierRecordWrite ring s
  | .errorHoldExpired => Sys2Proof.Machine.execErrorHoldExpired s
  | .ringIrqTimer ring => Sys2Proof.Machine.execRingIrqTimer ring s
  | .crierRingTail path ring index => Sys2Proof.Machine.execCrierRingTail path ring index s
  | .i3cEntdaa address => Sys2Proof.Machine.execI3cEntdaa address s
  | .i3cRead offset => Sys2Proof.Machine.execI3cRead offset s
  | .i3cWrite offset value => Sys2Proof.Machine.execI3cWrite offset value s
  | .moverSelfCheckFail station => Sys2Proof.Machine.execMoverSelfCheckFail station s
  | .commandInvalid queue w => Sys2Proof.Machine.execCommandInvalid queue w s
  | .objCmdOpInvalid path op => Sys2Proof.Machine.execObjCmdOpInvalid path op s
  | .imageDmaTimeout => Sys2Proof.Machine.execImageDmaTimeout s
  | .tileKilledAtDecl core => Sys2Proof.Machine.execTileKilledAtDecl core s
  | .postedWriteTaken id => Sys2Proof.Machine.execPostedWriteTaken id s

end Sys2Proof.Machine
end

