-- ==== Sys2Proof/Machine/Table.lean ====
section
/-! DEFINITION. The object table and the heaps' maps in local memory (R266, R291): what changes is written, and what becomes
resident is read, as the manager, under XLT_MGR_KEYID. -/

namespace Sys2Proof.Machine

open Sys2Proof

/-- Word `i` of line `l` of the object table, counted from its base. -/
def State.tableWord (s : State) (l i : Nat) : Word :=
  if l < 0x40000 then s.ctxWord (l / 32) (l % 32 * 16 + i)
  else if l < 0x42000 then s.qWord ((l - 0x40000) * 2 + i / 8) (i % 8)
  else if l < 0x44000 then s.fWord ((l - 0x42000) * 8 + i / 2) (i % 2)
  else s.mWord ((l - 0x44000) * 4 + i / 4) (i % 4)

/-- Line `l` of the object table. -/
def State.tableLine (s : State) (l : Nat) : Line :=
  BitVec.ofNat 1024 (leNat (wordsBytes ((List.range 16).map (fun i => s.tableWord l i))))

/-- Line `l` of memory, by PA / 128, as the maps of the valid heaps that lie in it give it (R291). -/
def State.mapLine (s : State) (l : Nat) : Line :=
  s.obj.heaps.foldl (fun d e =>
    let c := e.1 / 65536 / 8
    let h := e.1 / 65536 % 8
    let g := e.1 % 65536
    if s.heapValid c h && s.heapMapLine c h g == l then d ||| BitVec.ofNat 1024 (e.2 <<< (2 * (g % 512))) else d) 0

/-- An access of the block itself to a line, as the manager. -/
def State.managerOp (s : State) (line paLine : Nat) (kind : MemKind) (d : Line) : MemOp :=
  MemOp.fresh s.epoch .none 0x3FF 0 8192 (s.fld .XLT_MGR_KEYID_KEYID) line paLine kind d fullMask

/-- Write a line of the manager's, at PA / 128. -/
def State.managerWrite (s : State) (paLine : Nat) (d : Line) : State :=
  match s.place (paLine * 128) with
  | some (p, line) => s.filterWrite p (s.managerOp line paLine .write d) none
  | none => s

/-- Read a line of the manager's. -/
def State.managerRead (s : State) (paLine : Nat) : State :=
  match s.place (paLine * 128) with
  | some (p, line) => s.filterRead p (s.managerOp line paLine .read 0) none false false
  | none => s

/-- PA / 128 of line `l` of the object table. -/
def State.tableAt (s : State) (l : Nat) : Nat := getBits 55 21 (s.rd .OBJ_TABLE_BASE 0) * 16384 + l

/-- The lines of the table that have changed are written and those of records that became resident are read, and the lines of
maps that have changed are written. A step on an empty queue does so (DESIGN CHOICE, log 46). -/
def State.tableTick (s : State) : State :=
  if s.isReady = false then s
  else
    let o := s.obj
    let s : State := { s with obj := { o with dirtyMaps := [] } }
    let s := forEach (o.dirtyMaps.filter (fun l => s.tableOk (l * 128))) s (fun l s => s.managerWrite l (s.mapLine l))
    if s.fld .OBJ_CTL_ENABLE = 0 then s
    else
      let s : State := { s with obj := { s.obj with dirty := [], wanted := [] } }
      let s := forEach o.wanted s (fun l s => s.managerRead (s.tableAt l))
      forEach o.dirty s (fun l s => s.managerWrite (s.tableAt l) (s.tableLine l))

end Sys2Proof.Machine
end

