-- ==== Sys2Proof/Machine/Step.lean ====
section
/-! DEFINITION. One step: the command at the front of the queue; on an empty queue, one CK_ACLK cycle passes. -/

namespace Sys2Proof.Machine

open Sys2Proof

/-- One CK_ACLK cycle with nothing commanded: the GTB advances by 10 ns, and the counters that run with it (R87, R68,
R222); the memory controllers take what the FIFOs hold (R425), the object table is written (R266), and the engines go on. While
RST_POR_N is held the GTB stands still, and nothing happens. -/
def idle (s : State) : State :=
  let t := s.advance 10
  { (if s.alive then t.tick.tableTick.pumpDrover else t).drivePins with pending := s.pending }

/-- Take the command at the front of the queue and run it on the state with the queue's rest. -/
def step (s : State) : Host.Outcome State Fault Refusal :=
  match s.pending with
  | [] => .next (idle s)
  | c :: rest => exec c { s with pending := rest }

/-- The state with the command that a word spells put at the front of its queue; no word spells one
(`decodeTableWord`), so the state is unchanged. -/
def State.withFetchWord (s : State) (nbits w : Nat) : State :=
  match decodeTableWord nbits w with
  | some c => { s with pending := c :: s.pending }
  | none => s

end Sys2Proof.Machine
end

