-- ==== Sys2Proof/WellFormed.lean ====
section
/-! DEFINITION. Well-formed commands: every operand names something the block has, in the width its field has (R19, R35,
R266, R283, R420, chapter 16). A command that is not well-formed is no command of the block, and `exec` answers it with a
fault. -/

namespace Sys2Proof

open Sys2Proof.Machine

/-- The operands of a command are in range. A REGISTER_WRITE is no write of another row's (`ownRowWrite`). -/
def Instr.wf (i : Instr) : Bool :=
  match i with
  | .porAssert => true
  | .sysReset x => startUpOk x
  | .porRelease x => startUpOk x
  | .go path pasid => pathOk path && decide (pasid < 2 ^ 20)
  | .imageFetchDone _ _ deadDomain _ => match deadDomain with | some d => pdBitOk d | none => true
  | .ready path => pathOk path
  | .registerWrite a => bar0Ok a && !ownRowWrite a
  | .stFieldWrite path offset _ => pathOk path && hasSt offset
  | .pdOnRequest path n => pathOk path && pdBitOk n
  | .pdOffRequest path n => pathOk path && pdBitOk n
  | .pdOn n => domainOk n
  | .pdOffComplete n => domainOk n
  | .supplyRemoved => true
  | .aclkStopped => true
  | .aclkRestored => true
  | .gtbCopyLocked kind k skewPs => stationOk kind k && u16Ok skewPs
  | .csOpen _ seq => u16Ok seq
  | .csSelect path ticket => pathOk path && u32Ok ticket
  | .csStage _ ticket _ _ seq => u32Ok ticket && u16Ok seq
  | .csCheck _ ticket seq => u32Ok ticket && u16Ok seq
  | .csAbandon _ ticket seq => u32Ok ticket && u16Ok seq
  | .csRefuseRead path slot => pathOk path && decide (slot < 4)
  | .messageInvalid type seq => u16Ok seq && decide (type < 256) && decide (type = 0 ∨ 5 < type)
  | .meterPoll tag seq => u16Ok seq && decide (tag < 256)
  | .meterReport => true
  | .checkBegin => true
  | .checkEnd => true
  | .stationAck kind k => stationOk kind k
  | .distributionTimeout => true
  | .scrubOverrun slot => decide (slot < 4)
  | .commitInstant => true
  | .stubRelease kind k => stationOk kind k
  | .drainTimeout kind k => stationOk kind k
  | .sliceTeardownDone slice => tenantOk slice
  | .flushComplete => true
  | .scrubDone granule => decide (granule < 262144)
  | .coreSramZeroDone core => coreOk core
  | .pmUpd floorMhz capW => u16Ok floorMhz && u16Ok capW
  | .audit => true
  | .clockMeasurement mhz => u16Ok mhz
  | .slackHint => true
  | .sliceEnergyReport => true
  | .droop domain monitor => (match domain with | some n => domainOk n | none => true) && decide (monitor < 32)
  | .tamper monitor millivolts _ => decide (monitor < 48) && u16Ok millivolts
  | .tempSample m => sampleOk m
  | .tempTrip sensor => decide (sensor < 48)
  | .read r => reqOk 1 r
  | .readUnique r => reqOk 2 r
  | .write r beats => writeOk r beats
  | .atomic r _ _ => reqOk 4 r
  | .fence r => reqOk 5 r
  | .alloc r => allocOk r
  | .free r => freeOk r
  | .checkpoint core => coreOk core
  | .walkComplete port txn => requesterOk port && engineTxnOk txn
  | .walkReadTimeout port txn => requesterOk port && engineTxnOk txn
  | .migrationCasResult core _ => coreOk core
  | .extentRetranslate core _ => coreOk core
  | .hostDmaCompletion tag _ _ => decide (tag < 1024)
  | .ringDmaTimeout queue => queueOk queue
  | .invDvaRange path context pagesM1 => pathOk path && contextOk context && decide (pagesM1 < 2 ^ 20)
  | .invHvaRange path pasid pagesM1 => pathOk path && decide (pasid < 2 ^ 20) && decide (pagesM1 < 2 ^ 20)
  | .invContext path context => pathOk path && contextOk context
  | .invSlice path slice => pathOk path && decide (slice < 256)
  | .invAck _ acknowledger => decide (acknowledger < 139)
  | .cacheFlush path => pathOk path
  | .cacheFlushDone => true
  | .retry path context seq => pathOk path && contextOk context && u32Ok seq
  | .kill path context seq => pathOk path && contextOk context && u32Ok seq
  | .faultRingTail path index => pathOk path && u16Ok index
  | .faultBatchTimer => true
  | .memoryOpAccept port _ => memoryOk port
  | .dramReadReturn port _ _ _ => memoryOk port
  | .macVerdict port slot => memoryOk port && decide (slot < 256)
  | .atomicBufferIdle port _ => memoryOk port
  | .clusterAtomicBufferIdle station _ => clusterOk station
  | .verifyVerdict port txn v code => verdictOk port txn v code
  | .releasedWriteRsp port _ code => clusterOk port && u16Ok code
  | .rawRead _ pa => decide (pa < 2 ^ 56)
  | .rawWrite _ pa _ _ => decide (pa < 2 ^ 56)
  | .poundClear path port level line =>
    pathOk path && decide (port < 128) && decide (level < 8) && decide (line < 2 ^ 27)
  | .poundClearDone => true
  | .keyidRetire path keyid => pathOk path && decide (keyid < 1024)
  | .retirementDone => true
  | .hdgCntClear path => pathOk path
  | .milCntClear path => pathOk path
  | .ctrCntClear path => pathOk path
  | .drvCntClear path => pathOk path
  | .schCntClear path => pathOk path
  | .cohCntClear path => pathOk path
  | .planDone queue _ => queueOk queue
  | .droverTransferRsp context jtag _ _ code =>
    contextOk context && u16Ok jtag && rspCodeOk code
  | .journalExpired context jtag => contextOk context && u16Ok jtag
  | .journalLost context jtag => contextOk context && u16Ok jtag
  | .tileEnd core _ => coreOk core
  | .tileWatchdog core => coreOk core
  | .preloadDone slot => decide (slot < 48)
  | .shareZeroDone slot => decide (slot < 48)
  | .coreUe port core => clusterOk port && decide (core < 9)
  | .coreHeartbeatTimeout port core => clusterOk port && decide (core < 9)
  | .coreSubstitutionDone core badUnits => coreOk core && badUnits.all (fun u => decide (u < 96))
  | .writeback port core line _ => clusterOk port && decide (core < 9) && decide (line < 2 ^ 49)
  | .evict port core line => clusterOk port && decide (core < 9) && decide (line < 2 ^ 49)
  | .ackI port core sid => clusterOk port && decide (core < 9) && decide (sid < 256)
  | .ackS port core sid => clusterOk port && decide (core < 9) && decide (sid < 256)
  | .dataDirty port core sid _ => clusterOk port && decide (core < 9) && decide (sid < 256)
  | .wbPending port core sid => clusterOk port && decide (core < 9) && decide (sid < 256)
  | .snoopTimeout sid => decide (sid < 256)
  | .objCreate path kind index => pathOk path && decide (kind < 16) && u32Ok index
  | .objActivate path kind index => pathOk path && decide (kind < 16) && u32Ok index
  | .objDeactivate path kind index => pathOk path && decide (kind < 16) && u32Ok index
  | .objDestroy path kind index slice fences =>
    pathOk path && decide (kind < 16) && u32Ok index && decide (slice < 256) && fences.all u16Ok
  | .objSignal path kind index code => pathOk path && decide (kind < 16) && u32Ok index && u16Ok code
  | .objReset path kind index => pathOk path && decide (kind < 16) && u32Ok index
  | .objRecordWrite path i _ => pathOk path && decide (i < 512)
  | .objEnable path _ => pathOk path
  | .contextTeardownDone context => contextOk context
  | .memoryObjectFreed index => decide (index < 262144)
  | .sqTail queue value pasid _ => queueOk queue && u16Ok value && pasidOk pasid
  | .cqHead queue value pasid _ => queueOk queue && u16Ok value && pasidOk pasid
  | .queueSlotGrant queue => queueOk queue
  | .nop queue w => cmdOk 0 queue w
  | .tile queue w => cmdOk 1 queue w
  | .dmaCopy queue w => cmdOk 2 queue w
  | .dmaFill queue w => cmdOk 3 queue w
  | .dispatch queue w => cmdOk 4 queue w
  | .combine queue w => cmdOk 5 queue w
  | .fenceSignal queue w => cmdOk 6 queue w
  | .fenceWait queue w => cmdOk 7 queue w
  | .fenceWaitWake queue => queueOk queue
  | .fenceReset queue w => cmdOk 8 queue w
  | .objRef queue w => cmdOk 9 queue w
  | .noticeRingTail path index => pathOk path && u16Ok index
  | .t2mTail slice value pasid bytes slots =>
    tenantOk slice && u16Ok value && pasidOk pasid && decide (bytes ≤ 8) && slots.all (fun x => decide (x.1 < 2048))
  | .m2tHead slice value pasid bytes => tenantOk slice && u16Ok value && pasidOk pasid && decide (bytes ≤ 8)
  | .t2mHead path slice value => pathOk path && tenantOk slice && u16Ok value
  | .m2tTail path slice value => pathOk path && tenantOk slice && u16Ok value
  | .query slice => tenantOk slice
  | .tenAttest slice bufferCode pages =>
    tenantOk slice && (decide (bufferCode = 0 ∨ bufferCode = 0x1404) || bufferCode / 256 == 0x07) && pages.length == 2 &&
      pages.all (fun x => x.1 % 4096 == 0 && decide (x.2 < 1024))
  | .managerMessage slice => tenantOk slice
  | .t2mTypeInvalid slice => tenantOk slice
  | .freeze path slice => pathOk path && tenSliceOk slice
  | .sliceFrozen slice => tenantOk slice
  | .thaw path slice => pathOk path && tenSliceOk slice
  | .save path slice _ _ => pathOk path && tenSliceOk slice
  | .saveDone code => decide (code = 0 ∨ code = 0x140E)
  | .offer path => pathOk path
  | .restore path slice _ _ _ _ _ granules _ shares =>
    pathOk path && tenSliceOk slice && granules.all (fun g => decide (g < 262144)) && shares.all contextOk
  | .restoreKeysReady keys => keys.all (fun k => decide (k.1 < 1024))
  | .restoreContinue path slice => pathOk path && tenSliceOk slice
  | .restoreDone records code image => u32Ok records && decide (code = 0 ∨ code = 0x140E) && imageOk image
  | .discard path slice fences => pathOk path && tenSliceOk slice && fences.all u16Ok
  | .tenCancel path slice => pathOk path && tenSliceOk slice
  | .migBufferHandover path pages => pathOk path && decide (pages < 2 ^ 28)
  | .klfFlit port f => linkOk port && flitOk f
  | .linkReplayRequest port _ => linkOk port
  | .kxStart path port slotTx slotRx _ => pathOk path && linkOk port && slotOk slotTx && slotOk slotRx
  | .kxHello port _ _ => linkOk port
  | .kxFinish port _ => linkOk port
  | .kxConfirm port _ => linkOk port
  | .kxTimeout port => linkOk port
  | .linkRetire path port _ => pathOk path && linkOk port
  | .linkRetireDone port => linkOk port
  | .rekeyDue port => linkOk port
  | .sealLimit port => linkOk port
  | .linkDown port => linkOk port
  | .laneCe port lane => laneOk port lane
  | .laneLost port lane => laneOk port lane
  | .laneMap port lane => laneOk port lane
  | .retrainingWindow port => linkOk port
  | .retrainAck port => linkOk port
  | .generate path attr target => pathOk path && decide (attr < 8) && slotOk target
  | .derive path attr parent target => pathOk path && decide (attr < 8) && slotOk parent && slotOk target
  | .unwrap path attr parent target => pathOk path && decide (attr < 8) && slotOk parent && slotOk target
  | .seal path parent => pathOk path && slotOk parent
  | .unseal path target => pathOk path && slotOk target
  | .establish path slice target => pathOk path && decide (slice < 256) && slotOk target
  | .accept path target => pathOk path && slotOk target
  | .keyDestroy path target => pathOk path && slotOk target
  | .keyAttest path slice => pathOk path && decide (slice < 256)
  | .endorse path => pathOk path
  | .enroll path readings => pathOk path && readings.length == 8 && readings.all (fun r => r.length == 64)
  | .keyCmdDone => true
  | .entropyFail => true
  | .reseed => true
  | .patrol _ mills worn uncorrectable =>
    uncorrectable.all patrolOk && mills.all (fun e => memoryOk e.1) && worn.all (fun e => sramOk e.1)
  | .lcTransition _ path targetLc => pathOk path && decide (targetLc < 256)
  | .lcTransitionReset x => startUpOk x
  | .programFail => true
  | .challenge _ path level => pathOk path && decide (level < 16)
  | .respond _ path => pathOk path
  | .gateClose path => pathOk path
  | .jtagInstruction code => decide (code ≤ 6)
  | .checkLogicDisagree station => clusterOk station
  | .clusterSubstitutionDone station => clusterOk station
  | .memoryCe port => memoryOk port
  | .rebuildLeaf macLost poisonLost => (macLost ++ poisonLost).all (fun l => decide (l < 2 ^ 26))
  | .aesPipelineFail kind k pipeline =>
    decide (kind ≠ .cluster) && stationOk kind k && decide (pipeline < (if kind = .memory then 6 else 28))
  | .stewardHeartbeatTimeout core => decide (core < 5)
  | .irqTest path _ => pathOk path
  | .alarmAck path latch => pathOk path && decide (latch < 188)
  | .crierRecordWrite ring => decide (ring < 3)
  | .errorHoldExpired => true
  | .ringIrqTimer ring => decide (ring < 3)
  | .crierRingTail path ring index => pathOk path && decide (ring < 3) && u16Ok index
  | .i3cEntdaa address => decide (address < 128)
  | .i3cRead offset => decide (offset < 2 ^ 24)
  | .i3cWrite offset _ => decide (offset < 2 ^ 24)
  | .moverSelfCheckFail station => clusterOk station
  | .commandInvalid queue w => queueOk queue && w.length == 8 && decide (9 < cmdOpcode w)
  | .objCmdOpInvalid path op => pathOk path && decide (op = 0 ∨ (7 ≤ op ∧ op ≤ 15))
  | .imageDmaTimeout => true
  | .tileKilledAtDecl core => coreOk core
  | .postedWriteTaken _ => true

end Sys2Proof
end

