-- ==== Sys2Proof/Safety.lean ====
section
/-! DEFINITION. The words the statements use: how a command completes, which registers it leaves alone, the commands of a
queue run in order, and the invariant of a sound state. -/

namespace Sys2Proof.Machine

open Sys2Proof

/-- Command `i` completes on `s`, and `P` holds of the state it leaves. -/
def Answers (i : Instr) (s : State) (P : State → Prop) : Prop := ∃ t, exec i s = .next t ∧ P t

/-- Command `i` completes on `s`, and the state it leaves is `u` with the interrupt lines that R406 drives from `u` and the queue
of `s`. Whatever else `u` does not change, the command does not change. -/
def Leaves (i : Instr) (s u : State) : Prop := exec i s = .next { u.drivePins with pending := s.pending }

/-- Every register at a BAR0 offset outside `offs` holds the word it held. -/
def SameRegsBut (offs : List Nat) (s t : State) : Prop :=
  ∀ off, off ∉ offs → ∀ d, mapGet d t.regs off = mapGet d s.regs off

/-- The interrupt lines are as R405 and R406 drive them. -/
def State.linesDriven (s : State) : Prop := s.pins = ⟨s.intN, s.stewardInt⟩

/-- A sound state: the lines are driven, and every command that waits is one of the block's. -/
def State.Sound (s : State) : Prop := s.linesDriven ∧ ∀ c ∈ s.pending, c.wf = true

/-- Nothing of the block's own is under way: no DRAM command, no line of the object table or of a map, no walk, transfer, preload,
plan or substitution, and no request that waits for one. -/
def State.Quiet (s : State) : Prop :=
  (∀ e ∈ s.mems, e.2.port.cmds = []) ∧ s.obj.dirty = [] ∧ s.obj.dirtyMaps = [] ∧ s.obj.wanted = [] ∧
  (∀ e ∈ s.clusters, e.2.retry = []) ∧ s.xlt.walks = [] ∧ s.xlt.extents = [] ∧ s.sched.preloads = [] ∧
  s.drv.planQ = [] ∧ s.drv.journals = [] ∧ s.spr.coreSubs = []

/-- The translation core, the host interface and the preloads have nothing to do. -/
def State.EnginesIdle (s : State) : Prop :=
  (∀ e ∈ s.clusters, e.2.retry = []) ∧ s.xlt.walks = [] ∧ s.xlt.extents = [] ∧ s.sched.preloads = []

/-- `t` is what the commands of `cs` leave, each run by `exec` on what the one before it left, taken off the queue's front. -/
def RunsInOrder : List Instr → State → State → Prop
  | [], s, t => t = s
  | c :: cs, s, t => ∃ u, exec c { s with pending := s.pending.tail } = .next u ∧ RunsInOrder cs u t

/-- The access type of bit `k` of element `i` of a register: that of the field it lies in (R6), none where it is reserved. -/
def bitAccess (r : Reg) (i k : Nat) : Option Access :=
  if (fixedBits r i).getLsbD k then none
  else ((regDef r).fields.find? (fun f => decide (f.lo ≤ k) && decide (k ≤ f.hi))).map Field.acc

/-- A fetched command of queue `q` starts: the queue's PASID is mapped to its slice (R41), and its flagged words convert to
those of `ws` (R119). -/
def State.Starts (s : State) (q : Nat) (w ws : CmdWords) : Prop :=
  s.fetchOk q w = true ∧ cfgPasidOk s.regs (s.ctxPasid (s.qCtx q)) (s.qSlice q) = true ∧ s.convertAll (s.qCtx q) w = .inr ws

/-- The commands of the rings with an assigned OPCODE (R283). -/
def ringCommands (q : Nat) (w : CmdWords) : List Instr :=
  [.nop q w, .tile q w, .dmaCopy q w, .dmaFill q w, .dispatch q w, .combine q w, .fenceSignal q w, .fenceWait q w,
   .fenceReset q w, .objRef q w]

/-- The ring command whose OPCODE `w` has. -/
def ringCommand (q : Nat) (w : CmdWords) : Option Instr := (ringCommands q w)[cmdOpcode w]?

/-- A KEY_CMD command runs on to its end, with its result and the length of its output (R349); those that take a secret from
KEY_BUF zero it then. -/
def State.keyRuns (s : State) (op target code len : Nat) : State :=
  ({ s with well := { s.well with run := some ⟨op, target, code, len, op == 3 || op == 5 || op == 7 || op == 11⟩ } } :
    State).setFld .KEY_STATUS_BUSY 0 1

end Sys2Proof.Machine
end

