-- ==== Sys2Proof/Certificates/Slice0/Obligations.lean ====
section
/-! DEFINITION. The statements about the model: the queue and the outcomes, the register file, and what the commands of each
family do, with what they leave alone. -/

open Sys2Proof Sys2Proof.Machine

/-- A step takes the command at the front of the queue and runs exec on it with the queue's rest (model's convention, log
2) (chapter 16 ports). -/
def Obligations.StepRunsFrontCommand : Prop :=
  ∀ (c : Instr) (rest : List Instr) (s : State), step { s with pending := c :: rest } = exec c { s with pending := rest }

/-- On an empty queue a step is one 10 ns cycle of CK_ACLK, in which the memory controllers, the object table and the engines go
on; with nothing under way it only counts (model's choice, log 2, log 88) (R33, R68). -/
def Obligations.EmptyQueueStepIsOneClockCycle : Prop :=
  ∀ s : State, s.pending = [] →
    (s.alive = true → step s = .next { (s.advance 10).tick.tableTick.pumpDrover.drivePins with pending := [] }) ∧
    (s.alive = false → step s = .next (s.advance 10).drivePins) ∧
    (s.clock.running = true → (s.advance 10).clock = { s.clock with gtb := s.clock.gtb + 10 }) ∧
    (s.clock.running = false → s.advance 10 = s) ∧
    (s.Quiet → ∃ t, step s = .next t ∧
      t = { s with regs := t.regs, sched := t.sched, clock := t.clock, mon := t.mon, pins := t.pins } ∧
      (s.clock.running = true → t.clock = { s.clock with gtb := s.clock.gtb + 10 }) ∧
      (s.clock.running = false → t = { s with pins := t.pins }))

/-- A command completes exactly when its operands name what the block has, no command is refused, and each completes with its own
effect where its conditions hold; those of start-up, of power, of staging and of the time base stand in their own statements
(R19, R35, R266, chapter 16 ports). -/
def Obligations.CommandCompletesExactlyWhenWellFormed : Prop :=
  (∀ (i : Instr) (s : State),
    ((∃ t, exec i s = .next t) ↔ i.wf = true) ∧
    (i.wf = false → exec i s = .fault .noSuchUnit ∨ exec i s = .fault .ownRow) ∧
    (∀ r, exec i s ≠ .refused r)) ∧
  -- change sets and the composition (R60, R63, R64, R77, R79, R84, R86, R258, R294)
  (∀ s : State, s.alive = true →
    (∀ i, s.nextCheck = some i → Leaves .checkBegin s
      (s.modSlot i (fun x => { x with begun := true, floor := s.fld .MON_CLOCK_FLOOR_MHZ }))) ∧
    (∀ i, s.moot.slots.findIdx? (fun x => x.begun) = some i → Leaves .checkEnd s (s.endCheck i)) ∧
    (∀ i, s.firstPassed (fun _ => true) = some i → (s.slot i).incomplete = false → Leaves .commitInstant s (s.commitSet i)) ∧
    (∀ kind k, stationOk kind k = true → s.hasStub kind k = true →
      (s.drainCount kind k = 0 → Leaves (.stubRelease kind k) s (s.dropStub kind k)) ∧
      (0 < s.drainCount kind k → Leaves (.drainTimeout kind k) s
        (((s.advanceTo ((s.rd .STG_LAST_T 0).toNat + 50000)).drainOut kind k).dropStub kind k).pumpEngines)) ∧
    (∀ sl hs, tenantOk sl = true → s.comp.tearing.find? (fun t => t.1 == sl) = some (sl, hs) →
      (s.liveContexts.filter (fun c => s.ctxSlice c == sl)).all s.teardownOver = true →
      Leaves (.sliceTeardownDone sl) s
        (let u := forEach (s.liveContexts.filter (fun c => s.ctxSlice c == sl)) s (fun c v => v.contextGone c)
        let w : State := { u with comp := { u.comp with tearing := u.comp.tearing.filter (fun x => x.1 ≠ sl) } }
        (forEach hs w (fun h v => v.notice 5 1 0 sl h)).releaseHeld)) ∧
    (s.comp.flushing ≠ [] → s.flushUnderWay = false → Leaves .flushComplete s { s with comp := { s.comp with
      scrubbing := s.comp.scrubbing ++ s.comp.flushing, flushing := [] } }) ∧
    (∀ core, core < 612 → core ∈ s.comp.zeroing → Leaves (.coreSramZeroDone core) s
      ({ s with comp := { s.comp with zeroing := s.comp.zeroing.filter (· ≠ core) } } : State).releaseHeld)) ∧
  -- the requests of the ports, and what their ends bring (R55, R163, R165, R201, R244, R292)
  (∀ s : State, s.alive = true →
    (∀ r bs op cmp, s.accepts r = true →
      (reqOk 1 r = true → Leaves (.read r) s (s.request r [] 0 0).pumpEngines) ∧
      (reqOk 2 r = true → Leaves (.readUnique r) s (s.request r [] 0 0).pumpEngines) ∧
      (writeOk r bs = true → Leaves (.write r bs) s (s.request r bs 0 0).pumpEngines) ∧
      (reqOk 4 r = true → Leaves (.atomic r op cmp) s (s.request r [] op cmp).pumpEngines) ∧
      (reqOk 5 r = true → Leaves (.fence r) s (s.request r [] 0 0).pumpEngines) ∧
      (allocOk r = true → Leaves (.alloc r) s (s.heapRequest r)) ∧
      (freeOk r = true → Leaves (.free r) s (s.heapRequest r))) ∧
    (∀ core, core < 612 → Leaves (.checkpoint core) s ((s.checkpointCore core).coreProgress core).pumpEngines) ∧
    (∀ k txn v code tok, verdictOk k txn v code = true →
      ((s.cluster k).tokens.filter (fun t => t.txn == txn)).find? (fun t => (s.cluster k).verdicts.contains (t.seq, v, code)) = some tok →
      Leaves (.verifyVerdict k txn v code) s ((s.setCluster k { s.cluster k with
        verdicts := eraseFirst (· == (tok.seq, v, code)) (s.cluster k).verdicts }).onVerdict k tok v code).pumpEngines) ∧
    (∀ k id code w, k < 68 → code < 65536 → (s.cluster k).released.find? (fun r => r.id == id) = some w →
      (id, code) ∈ (s.cluster k).rsps → Leaves (.releasedWriteRsp k id code) s ((s.setCluster k { s.cluster k with
        rsps := eraseFirst (· == (id, code)) (s.cluster k).rsps }).onRelease k w code).pumpEngines) ∧
    (∀ k line x, k < 68 → (s.cluster k).atomics.find? (fun a => a.line == line) = some x →
      Leaves (.clusterAtomicBufferIdle k line) s ((s.advance 1000).writeBackAtomic k x))) ∧
  -- snoops, writebacks and evictions (R257, R259, R261)
  (∀ s : State, s.alive = true →
    (∀ port core sid d x, port < 68 → core < 9 → sid < 256 → s.snoopOf port core sid = some x →
      Leaves (.ackI port core sid) s (s.endSnoop x none none).pumpEngines ∧
      Leaves (.ackS port core sid) s (s.endSnoop x (some .s) none).pumpEngines ∧
      Leaves (.dataDirty port core sid d) s (s.endSnoop x (if x.opc = 0 then some .s else none) (some d)).pumpEngines ∧
      (s.coh.heldWb.find? (fun h => h.1 == port && h.2.1 == core && h.2.2.1 == x.line) = none →
        Leaves (.wbPending port core sid) s { s with coh := { s.coh with
          snoops := s.coh.snoops.map (fun y => if y.sid = sid then { y with wbPending := true } else y) } })) ∧
    (∀ port core line d e, port < 68 → core < 9 → line < 2 ^ 49 →
      s.filterEntry line (s.logicalCore (9 * port + core)) = some e →
      (e.st = .m → Leaves (.writeback port core line d) s (s.takeWriteback port core e d).pumpEngines) ∧
      (e.st ≠ .m → Leaves (.evict port core line) s (s.setFilter line (s.logicalCore (9 * port + core)) none 0 0))) ∧
    (∀ sid x, sid < 256 → s.coh.snoops.find? (fun y => y.sid == sid && !y.wbPending) = some x →
      Leaves (.snoopTimeout sid) s (s.snoopFails x))) ∧
  -- translation (R104, R113, R120–R125, R131–R136, R299)
  (∀ s : State, s.alive = true →
    (∀ k txn d, k < 69 → txn < 8192 → s.pumpXlt.deferredOf k txn = some d →
      Leaves (.walkComplete k txn) s (s.pumpXlt.completeWalk k d).pumpEngines) ∧
    (∀ k txn d w, k < 69 → txn < 8192 → s.deferredOf k txn = some d → s.walkFor k d = some w → w.ended = none →
      w.device = false → Leaves (.walkReadTimeout k txn) s
        (((s.advance 100000).walkFailed w.id).completeWalk k d).pumpEngines) ∧
    (∀ core r m, core < 612 →
      s.xlt.migrations.find? (fun m => m.core == core && decide (m.stage = .swap) && !m.device) = some m →
      Leaves (.migrationCasResult core r) s (({ s with hif := { s.hif with
        reads := s.hif.reads.filter (fun e => decide (e.2.1 ≠ DmaUse.migrationCas m.id)) } } : State).finishMigration
          m.id r).pumpEngines) ∧
    (∀ core pos t, core < 612 → s.tileOf core = some t →
      Leaves (.extentRetranslate core pos) s (s.dmaTranslate t.queue pos).pumpEngines) ∧
    (∀ tag st data, tag < 1024 → (st = .success → data.length = s.dmaWords tag) →
      Leaves (.hostDmaCompletion tag st data) s (s.completion tag st data).pumpEngines) ∧
    (∀ q, queueOk q = true → (s.queueRun q).fetchTag.isSome = true → Leaves (.ringDmaTimeout q) s
      ((({ s with hif := { s.hif with reads := s.hif.reads.filter (fun e => decide (e.2.1 ≠ .ringFetch q)) } } : State).advance
        100000).ringFailed q)) ∧
    (∀ seq n, n < 139 → Leaves (.invAck seq n) s ({ s with xlt := { s.xlt with invals := s.xlt.invals.map (fun i =>
      if i.seq = seq ∧ ackReady s i n then { i with missing := i.missing.filter (· ≠ n) } else i) } } : State).invProgress) ∧
    (s.fld .XLT_CTL_CACHE_FLUSH = 1 → Leaves .cacheFlushDone s
      (({ s with xlt := { s.xlt with cache := [] } } : State).setFld .XLT_CTL_CACHE_FLUSH 0 0)) ∧
    (0 < s.xlt.batch → Leaves .faultBatchTimer s ((s.advanceTo (s.xlt.batchAt + 10000)).setCause 0x07 0))) ∧
  (∀ (s : State) (path : Path), s.isReady = true → pathOk path = true →
    (∀ ctx pages, contextOk ctx = true → pages < 2 ^ 20 →
      Leaves (.invDvaRange path ctx pages) s (s.invalidate 1 ctx 0 0 pages) ∧ Leaves (.invContext path ctx) s (s.invalidate 3 ctx 0 0 0)) ∧
    (∀ pasid pages, pasid < 2 ^ 20 → pages < 2 ^ 20 → Leaves (.invHvaRange path pasid pages) s (s.invalidate 2 0 pasid 0 pages)) ∧
    (∀ sl, sl < 256 → Leaves (.invSlice path sl) s (s.invalidate 4 0 0 sl 0)) ∧
    Leaves (.cacheFlush path) s (s.setFld .XLT_CTL_CACHE_FLUSH 0 1) ∧
    (∀ i, i < 65536 → Leaves (.faultRingTail path i) s (s.setFld .XLT_FR_TAIL_INDEX 0 i).pumpFaults) ∧
    (∀ ctx seq f, contextOk ctx = true → u32Ok seq = true → s.xlt.faults.find? (fun x => x.ctx == ctx && x.seq == seq) = some f →
      Leaves (.retry path ctx seq) s
        (let u : State := { s with xlt := { s.xlt with faults := eraseFirst (fun x => x == f) s.xlt.faults } }
        match f.core with
        | some c => (u.unparkTile c f.ctx).pumpEngines
        | none => (u.retryCmd f.queue).pumpDrover) ∧
      Leaves (.kill path ctx seq) s
        (let u : State := { s with xlt := { s.xlt with faults := eraseFirst (fun x => x == f) s.xlt.faults } }
        match f.core with
        | some c => (u.killParked c f.ctx f.code).pumpEngines
        | none => (u.killCmd f.queue f.code).pumpDrover))) ∧
  -- memory stations (R159, R160, R166, R170, R177, R179–R183)
  (∀ (s : State) (p : Nat), s.alive = true → p < 72 →
    (∀ op slot o, s.stationOn .memory p = true → (s.memSt p).waiting.find? (fun x => x.id == op) = some o →
      (s.memSt p).freeSlot = some slot → (∀ x ∈ (s.memSt p).waiting, x.line = o.line → op ≤ x.id) → o.id = op →
      (o.epoch = (s.memSt p).epoch ∨ o.epoch = (s.memSt p).prevEpoch) →
      Leaves (.memoryOpAccept p op) s
        (let o' : MemOp := { o with id := (s.memSt p).nextId, marked := s.mon.marked.contains (domainOf .memory p) }
        let u := s.setMem p { s.memSt p with
          waiting := (s.memSt p).waiting.filter (fun x => x.id ≠ op)
          slots := mapPut (s.memSt p).slots slot o'
          nextId := (s.memSt p).nextId + 1 }
        if u.keyServes o' then u.runStation p else u.refuseOp p slot 0x0804 o')) ∧
    (∀ tag d bad n u, s.readBack p tag = (some n, u) → Leaves (.dramReadReturn p tag d bad) s (u.readData p n d bad)) ∧
    (∀ slot o, slot < 256 → (s.memSt p).op slot = some o → o.due = true → o.cmds = [] →
      Leaves (.macVerdict p slot) s ((s.verdict p slot o).runStation p)) ∧
    (∀ line b, (s.memSt p).buf.find? (fun x => x.line == line) = some b →
      Leaves (.atomicBufferIdle p line) s (((s.advance 1000).flushBuf p b).runStation p))) ∧
  (∀ s : State, s.alive = true →
    (∀ g x, g < 262144 → s.comp.scrubbing.find? (fun y => decide (y.first ≤ g) && decide (g ≤ y.last)) = some x →
      Leaves (.scrubDone g) s
        (let u := forEach (List.range 256) s (fun i v =>
          match x.block g i with
          | some (p, leaf) => (v.scrubLeaves p leaf leaf).chargeSectors 8192 0x3FF 256
          | none => v)
        (({ u with comp := { u.comp with scrubbing := u.comp.scrubbing.flatMap (fun (y : Scrub) =>
          if y.first ≤ g ∧ g ≤ y.last then
            (if y.first < g then [{ y with last := g - 1 }] else []) ++ (if g < y.last then [{ y with first := g + 1 }] else [])
          else [y]) } } : State).emit (.scrub g)).releaseHeld)) ∧
    (s.fld .CTR_POUND_STATUS_BUSY = 1 → Leaves .poundClearDone s
      (let u := (s.clearPound (s.fld .CTR_POUND_CLEAR_PORT) (s.fld .CTR_POUND_CLEAR_LEVEL) (s.fld .CTR_POUND_CLEAR_LINE)).emit
        (.scrubLines (s.fld .CTR_POUND_CLEAR_PORT) (s.fld .CTR_POUND_CLEAR_LEVEL) (s.fld .CTR_POUND_CLEAR_LINE))
      (((u.setFld .CTR_POUND_STATUS_DONE 0 (u.fld .CTR_POUND_STATUS_DONE + 1)).setFld .CTR_POUND_STATUS_BUSY 0 0).setFld
        .CTR_POUND_STATUS_REASON 0 0).setCause 0x09 0)) ∧
    (∀ jtag pa d be, pa < 2 ^ 56 → s.rawAllowed jtag = true → s.rawBlocked pa = false →
      ((s.ownerOf pa).tag = 0 ∨ (s.ownerOf pa).tag = 0xFF) →
      Leaves (.rawRead jtag pa) s (s.rawOp jtag pa .rawRead 0 0) ∧ Leaves (.rawWrite jtag pa d be) s (s.rawOp jtag pa .write d be)) ∧
    (s.fld .MIL_RETIRE_STATUS_BUSY = 1 → s.keyInUse s.well.retiring = false → Leaves .retirementDone s
      (let u := ((({ s with well := { s.well with mill := mapErase s.well.mill s.well.retiring } } : State).setKeyState
        s.well.retiring 0).setFld .MIL_RETIRE_STATUS_BUSY 0 0).setFld .MIL_RETIRE_STATUS_REASON 0 0
      (u.setFld .MIL_RETIRE_STATUS_DONE 0 (u.fld .MIL_RETIRE_STATUS_DONE + 1)).setCause 0x08 0))) ∧
  (∀ (s : State) (path : Path), s.isReady = true → pathOk path = true →
    (∀ port level line, port ≤ 71 → level < 6 → line < 2 ^ 26 → s.fld .CTR_POUND_STATUS_BUSY = 0 →
      (∀ o ∈ s.poundOwners port level line, o.tag = 0 ∨ o.tag = 0xFF) → Leaves (.poundClear path port level line) s
        ((s.wr .CTR_POUND_CLEAR 0 (setBits 63 57 port (setBits 56 54 level (setBits 26 0 line 0)))).setFld
          .CTR_POUND_STATUS_BUSY 0 1)) ∧
    (∀ k, 0 < k → k < 1024 → s.retireRefused k = false → Leaves (.keyidRetire path k) s
      (let u := (((s.setKeyState k 2).setFld .MIL_RETIRE_STATUS_KEYID 0 k).setFld .MIL_RETIRE_STATUS_BUSY 0 1).setFld
        .MIL_RETIRE_STATUS_REASON 0 0
      ({ u with well := { u.well with retiring := k } } : State).dropKey k)) ∧
    Leaves (.hdgCntClear path) s (s.clearArray .HDG_COUNT 0 68) ∧
    Leaves (.milCntClear path) s ((s.clearArray .MIL_ST_COUNT 0 72).clearArray .MIL_ST_SKIPPED 0 72) ∧
    Leaves (.ctrCntClear path) s (s.clearArray .CTR_ST_COUNT 0 72) ∧
    Leaves (.drvCntClear path) s ((((s.clearArray .DRV_SLICE_BYTES 1 128).clearArray .DRV_SLICE_ROUTES 1 128).clearArray
      .DRV_SLICE_SKIP 1 128).clearArray .DRV_ST_COUNT 0 68) ∧
    Leaves (.schCntClear path) s ((s.clearArray .SCH_SLICE_COUNT 1 128).clearArray .SCH_RES_USE 0 48) ∧
    Leaves (.cohCntClear path) s (s.clearArray .COH_FS_COUNT 0 16)) ∧
  -- tiles, residents and the Drover (R186, R190, R194, R197, R203–R205, R220, R228, R229)
  (∀ (s : State) (core : Nat) (t : Tile), s.alive = true → core < 612 → s.runningTile core = some t →
    (∀ ns, ns ≤ 4 * declNs t.decl → s.copying t.queue = false →
      Leaves (.tileEnd core ns) s ((s.advanceTo (t.startAt + ns)).endTile core).pumpEngines) ∧
    Leaves (.tileWatchdog core) s ((s.advanceTo (t.startAt + 4 * declNs t.decl)).killTile core).pumpEngines ∧
    (s.ctxState t.ctx = 4 → Leaves (.tileKilledAtDecl core) s
      ((s.advanceTo (t.startAt + declNs t.decl)).killTile core).pumpEngines)) ∧
  (∀ (s : State) (slot : Nat) (r : Resident), s.alive = true → slot < 48 →
    s.sched.residents.find? (fun e => e.1 == slot) = some (slot, r) →
    (r.state = .preloading → s.preloadOver r = true → Leaves (.preloadDone slot) s (s.endPreload r)) ∧
    (r.zeroing = true → Leaves (.shareZeroDone slot) s (s.leaveDone r.ctx))) ∧
  (∀ s : State, s.alive = true →
    (∀ q w ws, s.Starts q w ws → s.cmdRefusal q ws (s.queueRun q).pinBad = 0 →
      (cmdOk 4 q w = true → Leaves (.dispatch q w) s
        (((s.takeCmd q ws).droverRuns q).inRange q ws (fun u => u.takeDispatch q ws))) ∧
      (cmdOk 5 q w = true → Leaves (.combine q w) s (let u := (s.takeCmd q ws).droverRuns q
        if u.pdOn 22 then u.tryCombine q else u.failDrover q 0x0A09 0 0xFFFF 0xFFFF))) ∧
    (∀ q routing, queueOk q = true → s.isReady = true → q ∈ s.drv.planQ → cmdOpcode (s.runningWords q) = 4 →
      tableShape (s.runningWords q) routing = true → Leaves (.planDone q routing) s (s.planDone q routing).pumpEngines) ∧
    (∀ ctx jtag j, contextOk ctx = true → jtag < 65536 → s.journal ctx jtag = some j →
      (∀ index row code, rspCodeOk code = true → Leaves (.droverTransferRsp ctx jtag index row code) s (s.transferRsp j index row code)) ∧
      (j.state = .dispatched → j.frozenAt = none → Leaves (.journalExpired ctx jtag) s
        (((s.advanceTo (j.created + j.ttlNs)).freeJournal ctx jtag).drvErr 0x0A0A j.slice jtag ctx 0 0xFFFF 0xFFFF).pumpDrover) ∧
      Leaves (.journalLost ctx jtag) s (match j.queue with
        | some q => (s.failDrover q 0x0A05 0 0xFFFF 0xFFFF).pumpDrover
        | none =>
          let u := (s.freeJournal ctx jtag).drvErr 0x0A05 j.slice jtag ctx 0 0xFFFF 0xFFFF
          ({ u with drv := { u.drv with lost := u.drv.lost ++ [(ctx, jtag)] } } : State).pumpDrover))) ∧
  -- objects (R266, R272, R275, R290, R294)
  (∀ (s : State) (path : Path), s.isReady = true → pathOk path = true →
    (∀ kind index slice code op fences, kind < 16 → u32Ok index = true → slice < 256 → code < 65536 →
      fences.all u16Ok = true → (op = 0 ∨ (7 ≤ op ∧ op ≤ 15)) →
      s.fld .OBJ_CTL_ENABLE = 1 → s.objBusy path = false → (kind ≤ 4 → index < kindCount kind) →
      Leaves (.objCreate path kind index) s (match s.objCreate kind index with
        | .inl c => s.objDone path c
        | .inr t => t.objDone path 0) ∧
      Leaves (.objActivate path kind index) s (match s.objActivate kind index with
        | .inl c => s.objDone path c
        | .inr t => t.objDone path 0) ∧
      Leaves (.objDeactivate path kind index) s (match s.objDeactivate kind index with
        | .inl c => s.objDone path c
        | .inr t => t.objDone path 0) ∧
      Leaves (.objDestroy path kind index slice fences) s (match s.objDestroy kind index slice fences with
        | .inl c => s.objDone path c
        | .inr t => t.objDone path 0) ∧
      Leaves (.objSignal path kind index code) s (if kind = 3 ∧ s.fLife index = .live
        then (s.signalFence index code).objDone path 0 else s.objDone path 0x020B) ∧
      Leaves (.objReset path kind index) s (if kind = 3 ∧ s.fLife index = .live
        then (s.resetFence index).objDone path 0 else s.objDone path 0x020B) ∧
      Leaves (.objCmdOpInvalid path op) s (s.objDone path 0x020B)) ∧
    (∀ i v, i < 512 → Leaves (.objRecordWrite path i v) s
      (s.recWrite (s.fld .OBJ_REC_SEL_KIND) (s.fld .OBJ_REC_SEL_INDEX) i v)) ∧
    Leaves (.objEnable path false) s (s.setFld .OBJ_CTL_ENABLE 0 0) ∧
    (∀ g, s.fld .OBJ_CTL_ENABLE = 0 → getBits 55 21 (s.rd .OBJ_TABLE_BASE 0) * 2097152 =
        s.fld .CMP_CHIPNUM_CHIPNUM * 2 ^ 50 + g * 2097152 → g + 20 < 262144 → s.managerOwns g (g + 20) = true →
      Leaves (.objEnable path true) s (s.setFld .OBJ_CTL_ENABLE 0 1)) ∧
    (∀ i, i < 65536 → Leaves (.noticeRingTail path i) s (s.setFld .OBJ_NR_TAIL_INDEX 0 i).pumpNotices)) ∧
  (∀ s : State, s.alive = true →
    (∀ c, contextOk c = true → s.ctxState c = 4 → s.teardownOver c = true → Leaves (.contextTeardownDone c) s (s.contextGone c)) ∧
    (∀ o r, o < 262144 → s.obj.releasing.find? (fun x => x.index == o) = some r → s.mPin o = 0 →
      r.tails.all (fun t => s.tailPassed t.1 t.2) = true → Leaves (.memoryObjectFreed o) s (s.freeReleased o))) ∧
  -- doorbells, rings and posted writes (R279–R289, R297)
  (∀ (s : State) (q v : Nat) (pasid : Option Nat), s.isReady = true → queueOk q = true → v < 65536 → pasidOk pasid = true →
    s.doorbellOk q pasid = true → 2 ≤ s.qState q → s.qState q ≠ 5 →
    Leaves (.sqTail q v pasid 8) s (s.newTail q v pasid) ∧ Leaves (.cqHead q v pasid 8) s (s.newCqHead q v pasid)) ∧
  (∀ (s : State) (q : Nat), s.alive = true → queueOk q = true →
    (s.isReady = true → rotate s.hif.rotor s.waitingQueues = some q → s.slotQueues.length < 96 ∨ s.lruIdle.isSome = true →
      Leaves (.queueSlotGrant q) s ((({ s with hif := { s.hif with rotor := q } } : State).needSlot q).pumpQueue q)) ∧
    (∀ w ws, s.Starts q w ws → s.cmdRefusal q ws (s.queueRun q).pinBad = 0 →
      (cmdOk 0 q w = true → Leaves (.nop q w) s ((s.takeCmd q ws).completeCmd q 0 0)) ∧
      ((s.takeCmd q ws).tileCode ((s.takeCmd q ws).qCtx q) (ws.getD 1 0) = 0 →
        (cmdOk 1 q w = true → Leaves (.tile q w) s ((s.takeCmd q ws).submitTile q ws)) ∧
        (cmdOk 2 q w = true → Leaves (.dmaCopy q w) s ((s.takeCmd q ws).submitDma q ws)) ∧
        (cmdOk 3 q w = true → Leaves (.dmaFill q w) s ((s.takeCmd q ws).submitDma q ws))) ∧
      (cmdOk 6 q w = true → Leaves (.fenceSignal q w) s (((s.takeCmd q ws).signalFence (getBits 15 0 (ws.getD 1 0))
        (getBits 31 16 (ws.getD 1 0))).completeCmd q 0 0)) ∧
      (cmdOk 7 q w = true → Leaves (.fenceWait q w) s ((s.takeCmd q ws).waitFence q (getBits 15 0 (ws.getD 1 0)))) ∧
      (cmdOk 8 q w = true → Leaves (.fenceReset q w) s
        (((s.takeCmd q ws).resetFence (getBits 15 0 (ws.getD 1 0))).completeCmd q 0 0)) ∧
      (cmdOk 9 q w = true → Leaves (.objRef q w) s
        ((forEach (ws.drop 1) (s.takeCmd q ws) (fun x u => u.pinEntry q x)).completeCmd q 0 0))) ∧
    (∀ f, (s.queueRun q).running.bind (·.waitFence) = some f → s.fState f ≠ 0 → Leaves (.fenceWaitWake q) s (s.finishWait q f)) ∧
    (∀ w, w.length = 8 → 9 < cmdOpcode w → s.fetchOk q w = true →
      cfgPasidOk s.regs (s.ctxPasid (s.qCtx q)) (s.qSlice q) = true →
      s.cmdRefusal q w (s.queueRun q).pinBad ≠ 0 →
      Leaves (.commandInvalid q w) s ((s.takeCmd q w).refuseCmd q (s.cmdRefusal q w (s.queueRun q).pinBad)))) ∧
  (∀ (s : State) (x : Posted) (rest : List Posted), s.alive = true → s.hif.posts = x :: rest →
    Leaves (.postedWriteTaken x.id) s
      (let u : State := { s with hif := { s.hif with posts := rest } }
      match x.use with
      | .faultRecord => u.faultTaken
      | .notice => u.noticeTaken
      | .crier i => u.crierWritten i
      | .completion q irq => u.completionTaken q irq
      | .image => u.saveWait
      | .dma q => u.pieceTaken q)) ∧
  -- mailboxes and moves of slices (R300–R306, R311–R322)
  (∀ (s : State) (sl v : Nat) (pasid : Option Nat) (slots : List (Nat × Word)), s.isReady = true → tenantOk sl = true →
    v < 65536 → pasidOk pasid = true → s.mailboxMapped sl pasid = true → cfgEnabled s.regs sl = true →
    (slots.all (fun x => decide (x.1 < 2048)) = true → tailFits (s.t2mTail sl) (s.t2mHead sl) v = true →
      (∀ x ∈ slots, tenantRing x.1 = true) → Leaves (.t2mTail sl v pasid 8 slots) s
        ((forEach slots s (fun x u => u.tenantWord sl x.1 x.2)).setMbx sl 0 (word v))) ∧
    (headFits (s.m2tTail sl) (s.m2tHead sl) v = true →
      Leaves (.m2tHead sl v pasid 8) s ((s.setMbx sl 3 (word v)).pumpM2t sl))) ∧
  (∀ (s : State) (path : Path) (sl v : Nat), s.isReady = true → pathOk path = true → tenantOk sl = true → v < 65536 →
    cfgEnabled s.regs sl = true →
    (s.t2mHeadOk sl v = true → Leaves (.t2mHead path sl v) s (s.setMbx sl 1 (word v))) ∧
    (tailFits (s.m2tTail sl) (s.m2tHead sl) v = true → v ≠ s.m2tTail sl →
      Leaves (.m2tTail path sl v) s ((s.setMbx sl 2 (word v)).setPending .TEN_M2T_PENDING sl))) ∧
  (∀ (s : State) (sl : Nat) (ws : List Word), s.alive = true → tenantOk sl = true → s.t2mMessage sl = some ws →
    (msgType ws = 1 → Leaves (.query sl) s ((s.t2mPast sl).tenReply sl 0x81 0 ws (word (getBits 31 0 (s.mbx sl 32))))) ∧
    (typeInvalid (msgType ws) = true → Leaves (.t2mTypeInvalid sl) s ((s.t2mPast sl).tenReply sl 0x81 0x1403 ws 0)) ∧
    (∀ code pages, msgType ws = 2 → code = 0 ∨ code = 0x1404 ∨ code / 256 = 7 → pages.length = 2 →
      (∀ x ∈ pages, x.1 % 4096 = 0 ∧ x.2 < 1024) → Leaves (.tenAttest sl code pages) s
        (((s.t2mPast sl).attestReply sl code pages ws).2.tenReply sl 0x82 ((s.t2mPast sl).attestReply sl code pages ws).1 ws 0))) ∧
  (∀ (s : State) (sl : Nat), s.alive = true → tenantOk sl = true →
    (managerType (s.t2mType sl) = true → Leaves (.managerMessage sl) s (s.setPending .TEN_T2M_PENDING sl)) ∧
    (s.sliceState sl = 2 → s.sliceAtRest sl = true → Leaves (.sliceFrozen sl) s ((s.freezeSlice sl).freezeNotice sl 1))) ∧
  (∀ (s t : State) (path : Path) (sl : Nat), s.isReady = true → pathOk path = true → sl < 256 →
    (s.tenBusy 1 sl = false → s.freeze sl = .inr t → Leaves (.freeze path sl) s (t.setFld .TEN_STATUS_SLICE 0 sl)) ∧
    (s.tenBusy 2 sl = false → s.thaw sl = .inr t → Leaves (.thaw path sl) s (t.setFld .TEN_STATUS_SLICE 0 sl)) ∧
    (∀ st pub, s.tenBusy 3 sl = false → s.save sl st pub = .inr t →
      Leaves (.save path sl st pub) s (t.setFld .TEN_STATUS_SLICE 0 sl)) ∧
    (s.tenBusy 4 0 = false → s.offer = .inr t → Leaves (.offer path) s (t.setFld .TEN_STATUS_SLICE 0 0)) ∧
    (∀ tagsOk cores channels links commons granules objects shares, s.tenBusy 5 sl = false →
      (∀ g ∈ granules, g < 262144) → shares.all contextOk = true →
      s.restore sl tagsOk cores channels links commons granules objects shares = .inr t →
      Leaves (.restore path sl tagsOk cores channels links commons granules objects shares) s
        (t.setFld .TEN_STATUS_SLICE 0 sl)) ∧
    (s.tenBusy 6 sl = false → s.continueCode sl = 0 → Leaves (.restoreContinue path sl) s
      ((((s.tenBegin 6 sl).setSliceState sl 6).imageIn).setFld .TEN_STATUS_SLICE 0 sl)) ∧
    (∀ fences, s.tenBusy 7 sl = false → fences.all u16Ok = true → s.discard sl fences = .inr t →
      Leaves (.discard path sl fences) s (t.setFld .TEN_STATUS_SLICE 0 sl)) ∧
    (s.tenBusy 8 sl = false → s.cancel sl = .inr t → Leaves (.tenCancel path sl) s (t.setFld .TEN_STATUS_SLICE 0 sl)) ∧
    (∀ pages, pages < 2 ^ 28 → Leaves (.migBufferHandover path pages) s (s.bufferGiven pages))) ∧
  (∀ (s : State) (sl : Nat), s.alive = true →
    (s.ten.run = some ⟨3, sl⟩ → s.imageWritten = true → Leaves (.saveDone 0) s (((s.setSliceState sl 5).endSave).tenOver 0)) ∧
    (∀ keys t, s.ten.run = some ⟨5, sl⟩ → (∀ k ∈ keys, k.1 < 1024) → keys.foldl (restoreKey sl) (.inr s) = .inr t →
      Leaves (.restoreKeysReady keys) s ((t.setSliceState sl 7).dropOffer.tenOver 0)) ∧
    (∀ records im t, s.ten.run = some ⟨6, sl⟩ → records < 2 ^ 32 → imageOk im = true →
      (s.setFld .TEN_STATUS_PROGRESS 0 records).restoreAll sl im = .inr t →
      Leaves (.restoreDone records 0 im) s ((((t.setSliceState sl 3).freezeNotice sl 3).endRestore sl).tenOver 0))) ∧
  -- links (R326–R338)
  (∀ (s : State) (p : Nat), s.alive = true → p < 16 → s.linkOpen p = true →
    (∀ f, flitOk f = true → f.fsn = (s.link p).fsnRx + (s.link p).partialRx.length → f.index = (s.link p).partialRx.length →
      (f.last = true → Leaves (.klfFlit p f) s (s.groupDone p ((s.link p).partialRx ++ [f]))) ∧
      (f.last = false → (s.link p).partialRx.length < 7 → Leaves (.klfFlit p f) s
        (s.setLink p { s.link p with partialRx := (s.link p).partialRx ++ [f] }))) ∧
    (∀ fsn, (s.link p).window = false → Leaves (.linkReplayRequest p fsn) s (s.resend p fsn)) ∧
    (s.fld .LNK_COUNT_GROUPS p ≤ 2 ^ 39 → Leaves (.rekeyDue p) s ((s.groupsReach p (2 ^ 39)).setCause 0x0D 0)) ∧
    ((s.link p).sealHold = false → Leaves (.sealLimit p) s
      (let u := (s.groupsReach p (2 ^ 40)).modLink p (fun l => { l with sealHold := true })
      (u.setFld .LNK_PORT_STATUS_STATE p 3).raise .error 0x0D07 (u.portSlice p) (172 + p)))) ∧
  (∀ (s : State) (p : Nat), s.alive = true → p < 16 →
    (s.fld .LNK_PORT_STATUS_STATE p ≠ 0 → Leaves (.linkDown p) s
      (let u := s.modLink p (fun l => { l with up := false })
      if u.fld .LNK_PORT_STATUS_STATE p ≠ 0 then u.portDown p else u)) ∧
    (∀ x, s.kx = some x → x.port = p →
      Leaves (.kxTimeout p) s ((s.advanceTo (x.startAt + 10000000)).kxFail x) ∧
      (s.stationOn .link p = true →
        (∀ st pub, x.peerHello = none → s.fld .LNK_PORT_STATUS_STATE p ≠ 0 → Leaves (.kxHello p st pub) s (s.onHello x st pub)) ∧
        (∀ cipher h keys, x.peerHello = some h → x.peerCipher = none → s.kxKeys x h (fit 1568 cipher) = some keys →
          Leaves (.kxFinish p cipher) s (({ s with kx := some { x with peerCipher := some (fit 1568 cipher) } } : State).ctl p 2 0
            (s.kxMac x keys h (fit 1568 cipher)))) ∧
        (∀ mac h c keys, x.peerHello = some h → x.peerCipher = some c → s.kxKeys x h c = some keys →
          fit 48 mac = s.kxMac x keys h c → s.kxSlotsOk x.slotTx x.slotRx = true →
          Leaves (.kxConfirm p mac) s ((s.kxStore x keys).kxOver 0)))) ∧
    (∀ phase, (s.link p).retire = some phase → s.mayRetire p phase = true → Leaves (.linkRetireDone p) s
      (((s.modLink p (fun l => { l with retire := none, keys := (phaseEntries phase).foldl mapErase l.keys })).count
        .LNK_PORT_STATUS_RETIRE_DONE p).setCause 0x0D 3)) ∧
    ((s.link p).window = true → Leaves (.retrainAck p) s
      (let u := s.setLink p { s.link p with window := false, replayFrom := none }
      let v := if u.fld .LNK_PORT_STATUS_STATE p = 3 ∧ (s.link p).sealHold = false then u.setFld .LNK_PORT_STATUS_STATE p 2 else u
      (match (s.link p).replayFrom with
      | some fsn => v.resend p fsn
      | none => v).pumpLink p)) ∧
    (s.stationOn .link p = true →
      (∀ n, n < 9 → Leaves (.laneCe p n) s
        (let ms := s.clock.gtb / 1000000
        let old := mapGet 0 (s.link p).laneCe n
        let k := if old / 2 ^ 32 = ms then old % 2 ^ 32 + 1 else 1
        let u := s.modLink p (fun l => { l with laneCe := mapSet 0 l.laneCe n (ms * 2 ^ 32 + k) })
        if u.fld .LNK_LANE_THRESHOLD p < k then u.laneFail p n else u)) ∧
      (∀ n, n < 9 → s.laneBad p n = false → Leaves (.laneLost p n) s
        (if ((s.laneFail p n).link p).up = true ∧ ((s.laneFail p n).link p).window = false
          then (s.laneFail p n).openWindow p else s.laneFail p n)) ∧
      (∀ n, n < 8 → s.laneFree p = true → Leaves (.laneMap p n) s (s.modLink p (fun l => { l with pendingMap := some n }))) ∧
      ((s.link p).up = true → (s.link p).window = false → 0 < s.fld .LNK_LANE_WINDOW_US p → Leaves (.retrainingWindow p) s
        ((s.toMultiple (s.fld .LNK_LANE_WINDOW_US p * 1000)).openWindow p)))) ∧
  (∀ (s : State) (path : Path) (p : Nat), s.isReady = true → pathOk path = true → p < 16 →
    (∀ tx rx up, slotOk tx = true → slotOk rx = true → s.kx = none → Leaves (.kxStart path p tx rx up) s (s.kxBegin p tx rx up)) ∧
    (∀ phase, s.stationOn .link p = true →
      Leaves (.linkRetire path p phase) s (s.modLink p (fun l => { l with retire := some phase })))) ∧
  -- keys and the life cycle (R345–R350, R375–R381, R429)
  (∀ (s t : State) (path : Path) (out : List Byte), s.isReady = true → pathOk path = true → s.well.run = none →
    s.functional = true → s.well.seed.isSome = true →
    (∀ attr parent target, attr < 8 → slotOk parent = true → slotOk target = true →
      (s.generate attr target = .inr (t, out) → Leaves (.generate path attr target) s
        ((if out.isEmpty then t else t.putKeyBuf out).keyRuns 1 target 0 out.length)) ∧
      (s.derive attr parent target = .inr (t, out) → Leaves (.derive path attr parent target) s
        ((if out.isEmpty then t else t.putKeyBuf out).keyRuns 2 target 0 out.length)) ∧
      (s.unwrap attr parent target = .inr (t, out) → Leaves (.unwrap path attr parent target) s
        ((if out.isEmpty then t else t.putKeyBuf out).keyRuns 3 target 0 out.length)) ∧
      (s.seal parent = .inr (t, out) → Leaves (.seal path parent) s
        ((if out.isEmpty then t else t.putKeyBuf out).keyRuns 4 parent 0 out.length)) ∧
      (s.unseal target = .inr (t, out) → Leaves (.unseal path target) s
        ((if out.isEmpty then t else t.putKeyBuf out).keyRuns 5 target 0 out.length)) ∧
      (∀ sl, sl < 256 → s.establish sl target = .inr (t, out) → Leaves (.establish path sl target) s
        ((if out.isEmpty then t else t.putKeyBuf out).keyRuns 6 target 0 out.length)) ∧
      (s.accept target = .inr (t, out) → Leaves (.accept path target) s
        ((if out.isEmpty then t else t.putKeyBuf out).keyRuns 7 target 0 out.length)) ∧
      (s.keyDestroy target = .inr (t, out) → Leaves (.keyDestroy path target) s
        ((if out.isEmpty then t else t.putKeyBuf out).keyRuns 8 target 0 out.length))) ∧
    (∀ sl, sl < 256 → s.keyAttest sl = .inr (t, out) → Leaves (.keyAttest path sl) s
      ((if out.isEmpty then t else t.putKeyBuf out).keyRuns 9 0 0 out.length)) ∧
    (s.endorse = .inr (t, out) → Leaves (.endorse path) s
      ((if out.isEmpty then t else t.putKeyBuf out).keyRuns 10 0 0 out.length)) ∧
    (∀ rs, rs.length = 8 → (∀ r ∈ rs, r.length = 64) → s.enroll rs = .inr (t, out) → Leaves (.enroll path rs) s
      ((if out.isEmpty then t else t.putKeyBuf out).keyRuns 11 0 0 out.length))) ∧
  (∀ s : State, s.alive = true →
    (∀ r, s.well.run = some r → r.result = 0 → Leaves .keyCmdDone s
      (let u := ((({ s with well := { s.well with run := none } } : State).setFld .KEY_STATUS_BUSY 0 0).setFld
        .KEY_STATUS_RESULT 0 0).setFld .KEY_STATUS_OUT_LEN 0 r.outLen
      (if r.zeroBuf then u.zeroKeyBuf else u).setCause 0x0E 0)) ∧
    (s.well.entropyOk = true →
      Leaves .entropyFail s (({ s with well := { s.well with entropyOk := false } } : State).alarm 0x0E0A) ∧
      Leaves .reseed s { s with well := { s.well with requests := 0 } }) ∧
    (∀ lc, lc < 256 → Leaves (.lcTransition true .host lc) s (s.requestTransition lc)) ∧
    (∀ x r, startUpOk x = true → s.ledger.run = some r → Leaves (.lcTransitionReset x) s
      (let u : State := { s with ledger := { s.ledger with otp := s.ledger.otp.finish r.gen, resumed := false } }
      (((u.lcClear.setFld .LCS_XSTATUS_BUSY 0 0).setFld .LCS_XSTATUS_STEP 0 0).advance x.elapsedNs).bootScan x)) ∧
    (∀ r, s.ledger.run = some r → Leaves .programFail s
      ((((({ s with ledger := { s.ledger with run := none, stuck := true } } : State).setFld .LCS_XSTATUS_BUSY 0 0).setFld
        .LCS_XSTATUS_STEP 0 0).setFld .LCS_XSTATUS_RESULT 0 0x0F06).alarm 0x0F06)) ∧
    (∀ level, level < 16 → Leaves (.challenge true .host level) s (s.challengeCmd level)) ∧
    Leaves (.respond true .host) s s.respondCmd ∧
    (∀ path, s.isReady = true → pathOk path = true → Leaves (.gateClose path) s (s.setFld .LCS_GATE_CLOSE 0 1)) ∧
    (∀ code, code ≤ 6 → Leaves (.jtagInstruction code) s
      { s with ledger := { s.ledger with jtag := if s.jtagAllowed code then code else 0 } })) ∧
  -- monitors, spares and the Crier (R384–R418)
  (∀ s : State, s.alive = true →
    (∀ floor cap, floor < 65536 → cap < 65536 → Leaves (.pmUpd floor cap) s
      (let u : State := if floor < s.fld .MON_CLOCK_FLOOR_MHZ then { s with mon := { s.mon with audit := true } } else s
      (u.setFld .MON_CLOCK_FLOOR_MHZ 0 floor).setFld .MON_CLOCK_CAP_W 0 cap)) ∧
    (s.mon.audit = true → Leaves .audit s s.runAudit) ∧
    (∀ mhz, mhz < 65536 → Leaves (.clockMeasurement mhz) s
      (let u := (s.toMultiple 1000).setFld .MON_CLOCK_FCLK_MHZ 0 mhz
      if mhz < u.fld .MON_CLOCK_FLOOR_MHZ then u.alarm 0x1106 0 (word mhz) else u)) ∧
    Leaves .slackHint s (forEach (s.toMultiple 100000).enabledTenants (s.toMultiple 100000) (fun sl u => u.slackOf sl)) ∧
    Leaves .sliceEnergyReport s (forEach (0 :: (s.toMultiple 1000000).enabledTenants) (s.toMultiple 1000000) (fun sl u =>
      u.emit (.pmEnergy sl (mapGet 0 u.mon.sliceUj sl)))) ∧
    (∀ m, sampleOk m = true → Leaves (.tempSample m) s
      (forEach (List.range 16) (forEach (List.range 32) (forEach (List.range 48) (s.toMultiple 10000)
        (fun i u => u.takeTemp i (m.temps.getD i 0))) (fun i u => u.takeVolt i (m.volts.getD i 0)))
        (fun i u => u.setFld .MON_PROC_COUNT i (m.counts.getD i 0)))) ∧
    (∀ n, n < 48 → Leaves (.tempTrip n) s ((s.alarm 0x1102 0 (word n)).inBand 0x1102)) ∧
    (∀ n mv cold, n < 48 → mv < 65536 → cold = true ∨ mv < s.fld .MON_CTL_TAMPER_MV → Leaves (.tamper n mv cold) s
      (let u := (s.alarm 0x1104 0 (word n)).inBand 0x1104
      if u.fld .MON_CTL_ZEROIZE_EN = 1 then ({ u with mon := { u.mon with zeroize := true } } : State).zeroKeys else u)) ∧
    (∀ corrected mills worn us, us.all patrolOk = true → mills.all (fun e => memoryOk e.1) = true →
      worn.all (fun e => sramOk e.1) = true →
      Leaves (.patrol corrected mills worn us) s (forEach us (((s.symbolsCorrected corrected mills).rowsWorn worn).bump
        .SPR_RS_UNCORRECTABLE 0 us.length) (fun x u => u.patrolLost x)).pumpDrover)) ∧
  (∀ s : State, s.alive = true →
    (∀ p c, p < 68 → c < 9 → Leaves (.coreUe p c) s (s.coreFail (9 * p + c)) ∧
      Leaves (.coreHeartbeatTimeout p c) s ((s.advance 1000).coreFail (9 * p + c))) ∧
    (∀ k, k < 68 → Leaves (.checkLogicDisagree k) s (s.clusterFail k) ∧
      Leaves (.moverSelfCheckFail k) s (s.moverFail k).pumpDrover) ∧
    (∀ p, p < 72 → Leaves (.memoryCe p) s (s.ceReport p)) ∧
    (∀ kind k n, kind ≠ .cluster → stationOk kind k = true → n < (if kind = .memory then 6 else 28) →
      Leaves (.aesPipelineFail kind k n) s (s.pipeFail kind k n)) ∧
    (∀ c, c < 5 → Leaves (.stewardHeartbeatTimeout c) s (s.stewardFail c)) ∧
    (∀ c x bad, c < 612 → bad.all (fun u => decide (u < 96)) = true → s.spr.coreSubs.find? (fun y => y.core == c) = some x →
      s.cacheEmpty c = true → s.physical c ≠ x.subst → Leaves (.coreSubstitutionDone c bad) s (s.coreSubDone x bad)) ∧
    (∀ k x, k < 68 → s.spr.clusterSubs.find? (fun y => y.1 == k) = some (k, x) →
      (s.coresBehind k).all (fun c => s.atBoundary c && s.cacheEmpty c) = true →
      Leaves (.clusterSubstitutionDone k) s (s.clusterSubDone k x)) ∧
    (∀ macLost poisonLost, (macLost ++ poisonLost).all (fun l => decide (l < 2 ^ 26)) = true →
      (macLost ++ poisonLost).all (fun l => l / 64 == s.fld .SPR_REBUILD_LEAF) = true →
      s.fld .SPR_REBUILD_BUSY = 1 → s.fld .SPR_REBUILD_LEAF + 1 < 1048576 →
      (s.memSt (s.fld .SPR_REBUILD_FROM)).slots.any (fun e => e.2.line / 64 == s.fld .SPR_REBUILD_LEAF) = false →
      Leaves (.rebuildLeaf macLost poisonLost) s (s.rebuildStep (s.fld .SPR_REBUILD_LCHAN) (s.fld .SPR_REBUILD_FROM)
        (s.fld .SPR_REBUILD_TO) (s.fld .SPR_REBUILD_LEAF) macLost poisonLost))) ∧
  (∀ s : State, s.alive = true →
    (∀ i, i < 3 →
      (s.pdOn 23 = true → Leaves (.crierRecordWrite i) s (s.writeRecord i)) ∧
      (0 < mapGet 0 s.crier.written i →
        Leaves (.ringIrqTimer i) s ((s.advanceTo (s.ringTimerAt i)).setCause 0x13 (1 + i)))) ∧
    (∀ r, s.crier.errorQ.find? (fun x => !x.held) = some r → Leaves .errorHoldExpired s
      (let u := s.advanceTo (r.first + 1000 * s.holdUs)
      { u with crier := { u.crier with
        errorQ := modifyFirst (fun x => !x.held) (fun x => { x with held := true }) u.crier.errorQ } })) ∧
    (∀ path, s.isReady = true → pathOk path = true →
      Leaves (.irqTest path true) s (s.setCause 0x12 0) ∧
      (∀ l, l < 188 → Leaves (.alarmAck path l) s
        ((s.setFld .TRC_ALARM_CODES_PENDING l 0).setFld .TRC_ALARM_CODES_COUNT l 0)) ∧
      (∀ i v, i < 3 → v < 65536 → Leaves (.crierRingTail path i v) s (s.setFld .TRC_RING_TAIL_INDEX i v))) ∧
    (∀ d n, d < 24 → n < 32 → Leaves (.droop (some d) n) s
      (let u : State := { s with mon := { s.mon with marked := (s.mon.marked ++ [d]).eraseDups } }
      let v := forEach ((List.range 72).filter (fun p => [d].contains (domainOf .memory p) && !(u.memSt p).slots.isEmpty)) u
        (fun p w => w.modMem p (fun m => { m with slots := m.slots.map (fun e => (e.1, { e.2 with marked := true })) }))
      (v.bump .MON_VOLT_DROOPS n).raise .log 0x1103 0 0x11 (word n))))

/-- No command changes the queue of waiting commands (model's convention, log 2) (chapter 16 ports). -/
def Obligations.CommandLeavesQueueAlone : Prop :=
  ∀ (i : Instr) (s t : State), exec i s = .next t → t.pending = s.pending

/-- After every command INT_N and the Steward's interrupt follow the causes, masks and enables (R405, R406, R407). -/
def Obligations.InterruptLinesFollowCauses : Prop :=
  ∀ (i : Instr) (s t : State), exec i s = .next t →
    (t.pins.intN = true ↔ ∃ n, 1 ≤ n ∧ n ≤ 21 ∧ t.cause n &&& t.rd .IRQ_CAUSE_MASK n ≠ 0 ∧
      (t.rd .IRQ_ENABLE 0).getLsbD n = true) ∧
    (t.pins.stewardInt = true ↔ ∃ n, 1 ≤ n ∧ n ≤ 21 ∧ t.cause n &&& t.rd .IRQ_CAUSE_MASK n ≠ 0 ∧
      (t.rd .IRQ_STW_ENABLE 0).getLsbD n = true)

/-- A sound state always steps, and every step keeps it sound (R405, R406, R407). -/
def Obligations.SoundStateStaysSoundUnderStep : Prop :=
  ∀ s : State, s.Sound → ∃ t, step s = .next t ∧ t.Sound ∧ t.pending = s.pending.tail

/-- The state after reset is sound: both interrupt lines are deasserted and nothing waits (R15, R431). -/
def Obligations.ResetStateIsSound : Prop :=
  State.reset.Sound ∧ State.reset.pending = [] ∧ State.reset.pins = ⟨false, false⟩ ∧ State.reset.boot.porHeld = true ∧
  ∀ (r : Reg) (i : Nat), State.reset.rd r i = resetWord r i

/-- Any queue of well-formed commands drains in as many steps, first in, first out (chapter 16 ports). -/
def Obligations.QueueDrainsInOrder : Prop :=
  ∀ (cs rest : List Instr) (s : State), (∀ c ∈ cs, c.wf = true) → s.pending = cs ++ rest →
    ∃ t, core.run cs.length s = .next t ∧ t.pending = rest ∧ RunsInOrder cs s t

/-- Each BAR0 offset names at most one register element, and each element is found at its own offset (R4, R8, R447). -/
def Obligations.RegisterMapIsUnambiguous : Prop :=
  ∀ (off : Nat) (r : Reg) (i : Nat),
    (regAt off = some (r, i) ↔ regIdxOk r i = true ∧ regAddr r i = off) ∧
    (regIdxOk r i = true → regAddr r i % 8 = 0 ∧ regAddr r i < 2 ^ 24)

/-- A register write changes each bit as the access type of its field says (R6, R10, R14). -/
def Obligations.AccessTypesDecideEachBit : Prop :=
  ∀ (gate : Bool) (r : Reg) (i : Nat) (old v : Word) (k : Nat), k < 64 →
    (accessWord gate r i old v).getLsbD k =
      (match bitAccess r i k with
      | some .rw => v.getLsbD k
      | some .rws => v.getLsbD k
      | some .lk => if gate then old.getLsbD k else v.getLsbD k
      | some .w1c => old.getLsbD k && !v.getLsbD k
      | some .w1s => old.getLsbD k || v.getLsbD k
      | _ => old.getLsbD k)

/-- Every operation on the register file keeps its canonical form (R10, R15). -/
def Obligations.RegisterFileKeepsCanonicalForm : Prop :=
  (∀ (s : State) (r : Reg) (i : Nat) (v : Word), mapWf resetAt s.regs = true → regIdxOk r i = true →
    mapWf resetAt (s.wr r i v).regs = true ∧ mapWf resetAt (s.accessWrite r i v).regs = true) ∧
  (∀ (s : State) (f : Fld) (i v : Nat), mapWf resetAt s.regs = true → regIdxOk f.reg i = true →
    mapWf resetAt (s.setFld f i v).regs = true) ∧
  (∀ (dom : ResetDomain) (m : List (Nat × Word)), mapWf resetAt m = true → mapWf resetAt (resetRegs dom m) = true) ∧
  mapWf resetAt State.reset.regs = true

/-- A reset returns exactly the registers of its domains to their reset values (R15, R16). -/
def Obligations.ResetDomainsDecideWhatSurvives : Prop :=
  ∀ (dom : ResetDomain) (m : List (Nat × Word)) (r : Reg) (i : Nat), regIdxOk r i = true →
    regGet (resetRegs dom m) r i =
      (match dom, (regDef r).domain with
      | .por, _ => resetWord r i
      | .sys, .por => regGet m r i
      | .sys, _ => resetWord r i
      | .epoch, .epoch => resetWord r i
      | .epoch, _ => regGet m r i)

/-- RST_POR_N clears the block, and its release runs the start-up sequence to WAIT_IMAGE or to its stop (R15, R33, R340,
R345, R431, R433, R435). -/
def Obligations.StartUpReachesWaitImageOrStops : Prop :=
  (∀ s : State, Leaves .porAssert s { State.reset with
      pending := s.pending, out := s.out, fresh := s.fresh, ledger := { Ledger.init with otp := s.ledger.otp },
      well := { Well.init with draws := s.well.draws } }) ∧
  (∀ (x : StartUp) (s : State) (lc : Nat), s.boot.porHeld = true → startUpOk x = true → x.entropyOk = true →
    x.dead = none → scanOtp s.ledger.otp = .settled lc →
    Answers (.porRelease x) s (fun t =>
      t.clock = ⟨x.elapsedNs, true, [], []⟩ ∧ t.boot.porHeld = false ∧ t.boot.supplyOff = false ∧ t.ledger.lc = lc ∧
      t.fld .GLB_BOOT_ELAPSED_US = saturate 24 (x.elapsedNs / 1000) ∧
      (if 3 ≤ lc ∧ lc ≤ 6 then
        (if lc = 4 ∧ s.ledger.otp.helper = [] then
          t.step = 5 ∧ t.well.seed = none ∧ t.fld .KEY_STATUS_UNENROLLED = 1
        else match (pufTries s.ledger.otp 0 x.puf).2 with
          | some k => t.step = 5 ∧ t.well.seed = some k ∧ t.fld .KEY_STATUS_SEED_OK = 1 ∧
              t.well.deviceId = sha384 (identityKeys k)
          | none => t.step = 15 ∧ t.well.seed = none ∧ t.fld .GLB_BOOT_CODE = 0x0E01)
      else t.step = 14 ∧ t.fld .GLB_BOOT_CODE = if lc = 0 then 0x0F01 else 0)))

/-- RST_SYS_N clears the SYS domain, keeps the POR domain and the Ledger, and starts again at STEP 2 (R16, R435, R440,
R441). -/
def Obligations.WarmResetRestartsAtDomains : Prop :=
  ∀ (x : StartUp) (s : State), s.alive = true → s.clock.running = true → s.functional = true → startUpOk x = true →
    x.entropyOk = true → x.dead = none →
    Answers (.sysReset x) s (fun t =>
      t.clock = ⟨s.clock.gtb + x.elapsedNs, true, [], []⟩ ∧
      t.ledger = { s.ledger with challenge := none, reopened := false } ∧
      t.well.measOpgar = s.well.measOpgar ∧ t.well.measPolicy = s.well.measPolicy ∧
      t.clusters = [] ∧ t.mems = [] ∧ t.links = [] ∧ t.moot = Moot.init ∧ t.xlt = Xlt.init ∧ t.sched = Sched.init ∧
      t.coh = Coh.init ∧ t.hif = Hif.init ∧ t.obj = Obj.init ∧ t.drv = Drv.init ∧ t.ten = Ten.init ∧ t.kx = none ∧
      (∀ (r : Reg) (i : Nat), regIdxOk r i = true → (regDef r).domain = .por →
        r ∉ [.CMP_RES_TIME_NS, .CMP_RES_CORE_US, .CMP_RES_MEMCH_US, .CMP_RES_LINK_US, .CMP_COMMONS_RES_MEMCH_US,
          .TRC_ALARM_CODES, .TRC_ALARM_FIRST_GTB, .TRC_ALARM_LAST_GTB, .TRC_ALARM_DETAIL] → t.rd r i = s.rd r i) ∧
      (if s.step = 15 ∧ s.fld .GLB_BOOT_CODE ≠ 0x1506 then t.step = 15 ∧ t.fld .GLB_BOOT_CODE = s.fld .GLB_BOOT_CODE
      else if s.ledger.unenrolled = true then t.step = 5
      else match (pufTries s.ledger.otp 0 x.puf).2 with
        | some k => t.step = 5 ∧ t.well.seed = some k
        | none => t.step = 15 ∧ t.fld .GLB_BOOT_CODE = 0x0E01))

/-- GO fetches the images, their check leads to STEP 9 or back to WAIT_IMAGE, and the Steward's READY ends start-up (R343,
R433, R434, R436, R437, R442). -/
def Obligations.ImagesBringTheBlockToReady : Prop :=
  (∀ (pasid : Nat) (s : State), s.alive = true → s.step = 5 → pasid < 2 ^ 20 →
    Answers (.go .host pasid) s (fun t => t.step = 6 ∧ t.fld .STW_IMG_CTL_GO = 1 ∧ t.fld .STW_IMG_CTL_PASID = pasid ∧
      t.boot = { s.boot with fetching := true, goKept := false } ∧
      t.out = s.out ++
        [.hostRead s.hif.nextTag (s.rd .STW_IMG_ADDR 0).toNat ((s.rd .STW_IMG_LEN 0).toNat / 4) (some pasid),
         .hostRead ((s.hif.nextTag + 1) % 1024) (s.rd .STW_IMG_ADDR 1).toNat ((s.rd .STW_IMG_LEN 1).toNat / 4)
           (some pasid)])) ∧
  (∀ (pasid : Nat) (s : State), s.alive = true → 3 ≤ s.step → s.step ≤ 4 → pasid < 2 ^ 20 →
    Answers (.go .host pasid) s (fun t => t.step = s.step ∧ t.boot = { s.boot with goKept := true } ∧
      t.fld .STW_IMG_CTL_PASID = pasid ∧ t.out = s.out)) ∧
  (∀ (opgar policy : ImageBytes) (ns : Nat) (s : State), s.alive = true → s.step = 6 → s.boot.fetching = true →
    Answers (.imageFetchDone opgar policy none ns) s (fun t =>
      t.boot.fetching = false ∧ t.fld .STW_IMG_CTL_GO = 0 ∧
      (if imageCode (ascii "KOPG") (4194304 - 4787) (s.rd .STW_IMG_LEN 0).toNat opgar ≠ 0 then
        t.step = 5 ∧ t.well = s.well ∧
        t.fld .GLB_BOOT_CODE = imageCode (ascii "KOPG") (4194304 - 4787) (s.rd .STW_IMG_LEN 0).toNat opgar
      else if imageCode (ascii "KPOL") 65536 (s.rd .STW_IMG_LEN 1).toNat policy ≠ 0 then
        t.step = 5 ∧ t.well = s.well ∧
        t.fld .GLB_BOOT_CODE = imageCode (ascii "KPOL") 65536 (s.rd .STW_IMG_LEN 1).toNat policy
      else if s.boot.measured = true ∧
          (imageDigest opgar ≠ s.well.measOpgar ∨ imageDigest policy ≠ s.well.measPolicy) then
        t.step = 15 ∧ t.fld .GLB_BOOT_CODE = 0x1504 ∧ t.well = s.well
      else t.step = 9 ∧ t.well.measOpgar = imageDigest opgar ∧ t.well.measPolicy = imageDigest policy ∧
        t.fld .STW_STATUS_CORES = 0x0F ∧
        ∀ n, 8 ≤ n → n ≤ 23 → n ≠ 18 → n ≠ 19 → t.pdOn n = (s.pdOn n || s.pdReq n)))) ∧
  (∀ s : State, s.alive = true → s.step = 6 → s.boot.fetching = true →
    Answers .imageDmaTimeout s (fun t => t.step = 5 ∧ t.fld .GLB_BOOT_CODE = 0x1503 ∧ t.fld .STW_IMG_CTL_GO = 0 ∧
      t.boot = { s.boot with fetching := false } ∧ t.well = s.well)) ∧
  (∀ s : State, s.alive = true → s.step = 9 →
    Leaves (.ready .steward) s ((s.setFld .STW_STATUS_READY 0 1).toStep 10))

/-- GLB_PD_REQ requests start a domain's switching or are refused, and its end leaves its stations fresh (R25, R26, R29,
R30). -/
def Obligations.PowerDomainsSwitchOnRequest : Prop :=
  (∀ (n : Nat) (s : State), s.isReady = true → pdBitOk n = true → s.pdOn n = false → n ∉ s.power.goingOn →
    n ∉ s.power.goingOff → Leaves (.pdOnRequest .host n) s ((s.setPdReq n true).goOn n)) ∧
  (∀ (n : Nat) (s : State), s.isReady = true → pdBitOk n = true → s.pdReq n = true → s.pdOn n = true →
    n ∉ s.power.goingOn → n ∉ s.power.goingOff → s.offRefused n = false →
    Leaves (.pdOffRequest .host n) s ((s.setPdReq n false).goOff n)) ∧
  (∀ (n : Nat) (s : State), s.isReady = true → pdBitOk n = true → s.pdReq n = true → s.offRefused n = true →
    Leaves (.pdOffRequest .host n) s (((s.setPdReq n true).wr .GLB_PD_STATUS 0
      (s.rd .GLB_PD_STATUS 0 ||| word (1 <<< (n + 32)))).err 0x1507 0 (word n))) ∧
  (∀ (n : Nat) (s : State), s.alive = true → n < 24 → n ∈ s.power.goingOn → s.pdReq n = true →
    s.onWaits n = false → Answers (.pdOn n) s (fun t => t.pdOn n = true ∧ bitOf (n + 16) (t.rd .GLB_PD_STATUS 0) = false ∧
      n ∉ t.power.goingOn ∧ t.power.goingOff = s.power.goingOff ∧
      (∀ k, k < 68 → t.cluster k = if domainOf .cluster k = n then Cluster.init else s.cluster k) ∧
      (∀ p, p < 16 → t.link p = if domainOf .link p = n then
        { LinkStation.init with epoch := s.epoch, prevEpoch := s.epoch } else s.link p) ∧
      (∀ p, p < 72 → if domainOf .memory p = n then
          t.memSt p = { MemStation.init with
            root := (t.memSt p).root
            upper := List.replicate 64 0
            treeKey := s.treeKeyFor p
            epoch := s.epoch
            prevEpoch := s.epoch }
        else t.memSt p = s.memSt p) ∧
      bitOf 1 (t.rd .IRQ_CAUSE 0x15) = true)) ∧
  (∀ (n : Nat) (s : State), s.alive = true → n < 24 → n ∈ s.power.goingOff → s.pdReq n = false →
    (n = 22 → s.drv.planQ = []) →
    Answers (.pdOffComplete n) s (fun t => t.pdOn n = false ∧ bitOf (n + 16) (t.rd .GLB_PD_STATUS 0) = false ∧
      n ∉ t.power.goingOff ∧
      (∀ k, k < 68 → t.cluster k = if domainOf .cluster k = n then Cluster.init else s.cluster k) ∧
      (∀ p, p < 72 → t.memSt p = if domainOf .memory p = n then MemStation.init else s.memSt p) ∧
      (∀ p, p < 16 → t.link p = if domainOf .link p = n then LinkStation.init else s.link p))) ∧
  (∀ s : State, Leaves .supplyRemoved s { s with boot := { s.boot with supplyOff := true } })

/-- A BAR0 access reads a register, writes it by its access types, or is discarded with the code the rules give; reads of doorbell
pages and mailboxes give their words or ERROR 0x0603 (R5, R6, R7, R10, R13, R14, R42, R279, R299, R438). -/
def Obligations.RegisterAccessReadsAndWrites : Prop :=
  (∀ (a : Bar0Access) (s : State), s.alive = true → 3 ≤ s.step → a.path = .host → a.bar = 0 → bar0Ok a = true → a.write = false →
    a.bytes = 8 → a.offset % 8 = 0 → (∀ i, regAt a.offset ≠ some (.STG_CS_REFUSE, i)) →
    Leaves (.registerWrite a) s (s.emit (.hostData a.tag (s.readReg .host a.offset)))) ∧
  (∀ (s : State) (path : Path) (off : Nat), regAt off = none → s.readReg path off = 0) ∧
  (∀ (s : State) (path : Path) (off : Nat) (r : Reg) (i k : Nat), regAt off = some (r, i) →
    (∀ f ∈ (regDef r).fields, f.acc ≠ .wo → ¬ (f.lo ≤ k ∧ k ≤ f.hi)) → (s.readReg path off).getLsbD k = false) ∧
  (∀ (a : Bar0Access) (s : State) (r : Reg) (i : Nat), s.isReady = true → a.path = .host → a.bar = 0 → bar0Ok a = true →
    a.write = true → a.bytes = 8 → a.offset % 8 = 0 → hasSt a.offset = false → regAt a.offset = some (r, i) →
    commandWrite .host r i a.value s = none → needsOwnRow r a.value = false →
    r ∉ [.GLB_PD_REQ, .STG_ENTRY_W0, .IRQ_CAUSE, .TEN_MBX_WIN, .OBJ_TABLE_BASE, .STW_IMG_CTL, .SCH_CTL, .HIF_CTL,
      .XLT_FR_BASE, .OBJ_NR_BASE] →
    Leaves (.registerWrite a) s (s.wr r i (accessWord s.gateClosed r i (s.rd r i) a.value))) ∧
  (∀ (a : Bar0Access) (s : State), s.isReady = true → a.path = .host → a.bar = 0 → bar0Ok a = true → a.write = true → a.bytes = 8 →
    a.offset % 8 = 0 → regAt a.offset = none → hasSt a.offset = false → Leaves (.registerWrite a) s s) ∧
  (∀ (a : Bar0Access) (s : State), s.alive = true → 3 ≤ s.step → a.path = .host → a.bar = 0 → bar0Ok a = true → a.write = true →
    ownRowWrite a = false → (a.bytes ≠ 8 ∨ a.offset % 8 ≠ 0) →
    Leaves (.registerWrite a) s ((s.wr .HIF_BAR0_ERR 0 (putFields 0 [(.HIF_BAR0_ERR_WRITE, 1),
      (.HIF_BAR0_ERR_BYTES, a.bytes), (.HIF_BAR0_ERR_OFFSET, a.offset)])).hifErr 0x0101 0 0)) ∧
  (∀ (a : Bar0Access) (s : State) (r : Reg) (i : Nat), s.alive = true → 3 ≤ s.step → s.step ≤ 9 → a.path = .host → a.bar = 0 →
    bar0Ok a = true → a.write = true → a.bytes = 8 → a.offset % 8 = 0 → hasSt a.offset = false →
    regAt a.offset = some (r, i) → commandWrite .host r i a.value s = none → needsOwnRow r a.value = false →
    earlyBlock a.offset = false → Leaves (.registerWrite a) s (s.err 0x1505 0 (word a.offset))) ∧
  (∀ (off : Nat) (v : Word) (s : State) (i : Nat), s.isReady = true → hasSt off = true → s.moot.selHost = some i →
    Leaves (.stFieldWrite .host off v) s (s.pushEntry i ⟨setBits 63 60 1 (word off), v⟩)) ∧
  (∀ (off : Nat) (v : Word) (s : State), s.isReady = true → hasSt off = true → s.moot.selHost = none →
    Leaves (.stFieldWrite .host off v) s (s.err 0x0314 0 0)) ∧
  (∀ (a : Bar0Access) (s : State), s.isReady = true → a.bar = 2 → bar0Ok a = true → a.bytes = 8 → a.offset % 8 = 0 →
    a.write = false →
    (s.doorbellOk (a.offset / 4096) a.pasid = true → Leaves (.registerWrite a) s (s.emit (.hostData a.tag
      (if a.offset % 4096 = 0x10 then s.doorbellWord (a.offset / 4096) else 0)))) ∧
    (s.doorbellOk (a.offset / 4096) a.pasid = false → Leaves (.registerWrite a) s
      ((s.emit (.hostData a.tag 0)).err 0x0603 (s.qSlice (a.offset / 4096)) (word (a.offset / 4096))))) ∧
  (∀ (a : Bar0Access) (s : State) (sl : Nat), s.isReady = true → a.bar = 4 → bar0Ok a = true → a.bytes = 8 →
    a.offset % 8 = 0 → a.write = false → sl = a.offset / 16384 + 1 → sl ≤ 128 → cfgEnabled s.regs sl = true →
    (s.mailboxMapped sl a.pasid = true →
      Leaves (.registerWrite a) s (s.emit (.hostData a.tag (s.mbx sl (a.offset % 16384 / 8))))) ∧
    (s.mailboxMapped sl a.pasid = false →
      Leaves (.registerWrite a) s ((s.emit (.hostData a.tag 0)).tenErr 0x0603 sl)))

/-- The I3C target takes an address, gives the registers R428 names, and answers everything else with NACK (R428). -/
def Obligations.I3cTargetGivesReadOnlyRegisters : Prop :=
  (∀ (address : Nat) (s : State), s.alive = true → address < 128 →
    Leaves (.i3cEntdaa address) s { s with mon := { s.mon with i3cAddr := some address } }) ∧
  (∀ (off : Nat) (s : State) (r : Reg) (i : Nat), s.alive = true → s.mon.i3cAddr ≠ none → off < 2 ^ 24 →
    regAt off = some (r, i) → r ∈ [.GLB_INVENTORY, .LCS_STATE, .SPR_STATUS] →
    Leaves (.i3cRead off) s (s.emit (.i3cData (s.readReg .steward off)))) ∧
  (∀ (off : Nat) (s : State) (r : Reg) (i : Nat), s.alive = true → s.mon.i3cAddr ≠ none → off < 2 ^ 24 →
    regAt off = some (r, i) → r ∈ [.MON_TEMP, .MON_VOLT, .MON_CLOCK] →
    Leaves (.i3cRead off) s (s.emit (.i3cData (if s.pdOn 23 then s.readReg .steward off else 0)))) ∧
  (∀ (off : Nat) (s : State), s.alive = true → s.mon.i3cAddr ≠ none → off < 2 ^ 24 →
    (∀ r i, regAt off = some (r, i) →
      r ∉ [.GLB_INVENTORY, .LCS_STATE, .SPR_STATUS, .MON_TEMP, .MON_VOLT, .MON_CLOCK]) →
    Leaves (.i3cRead off) s (s.emit .i3cNack)) ∧
  (∀ (off : Nat) (v : Word) (s : State), s.alive = true → s.mon.i3cAddr ≠ none → off < 2 ^ 24 →
    Leaves (.i3cWrite off v) s (s.emit .i3cNack))

/-- OPEN takes a free slot of its path under a ticket no open set holds, or answers ticket 0 (R67, R69, R70, R71, R74). -/
def Obligations.OpenGivesTicketAndSlot : Prop :=
  (∀ (seq i : Nat) (s : State), seq < 65536 → s.isReady = true → s.openSlot .host = some i → s.moot.slots.length = 4 →
    Answers (.csOpen .host seq) s (fun t =>
      t.slot i = { CsSlot.init with state := .opened, ticket := s.freshTicket, writer := .host } ∧
      (∀ j, j ≠ i → t.slot j = s.slot j) ∧
      t = { s with
        pins := t.pins
        moot := { s.moot with
          slots := t.moot.slots
          nextTicket := ticketAfter s.freshTicket
          rotor := .host
          openedHost := (s.freshTicket, i)
          selHost := some i } })) ∧
  (∀ (seq i : Nat) (s : State), seq < 65536 → s.isReady = true → s.openSlot .steward = some i →
    s.moot.slots.length = 4 →
    Answers (.csOpen .steward seq) s (fun t =>
      t.slot i = { CsSlot.init with state := .opened, ticket := s.freshTicket, writer := .steward } ∧
      (∀ j, j ≠ i → t.slot j = s.slot j) ∧ t.moot.openedSteward = (s.freshTicket, i) ∧ t.moot.selSteward = some i)) ∧
  (∀ (seq i : Nat) (s : State), seq < 65536 → s.isReady = true → s.openSlot .fm = some i → s.moot.slots.length = 4 →
    Answers (.csOpen .fm seq) s (fun t =>
      t.slot i = { CsSlot.init with state := .opened, ticket := s.freshTicket, writer := .fm } ∧
      (∀ j, j ≠ i → t.slot j = s.slot j) ∧ t.out = s.out ++ [.fmTicket seq s.freshTicket])) ∧
  (∀ (seq : Nat) (s : State), seq < 65536 → s.isReady = true → s.openSlot .host = none →
    Leaves (.csOpen .host seq) s { s with moot := { s.moot with openedHost := (0, 0) } }) ∧
  (∀ (seq : Nat) (s : State), seq < 65536 → s.alive = true → 3 ≤ s.step → s.openSlot .fm = none →
    Leaves (.csOpen .fm seq) s (s.emit (.fmTicket seq 0))) ∧
  (∀ (s : State) (path : Path) (i : Nat), s.openSlot path = some i →
    i < 4 ∧ ((s.slot i).state = .free ∨ (s.slot i).state = .refused) ∧ (path ≠ .steward → i ≠ 0)) ∧
  (∀ s : State, s.slotOf s.freshTicket = none)

/-- SELECT, STAGE and CHECK act on the path's own open set, and a wrong ticket is ERROR 0x0314 (R67, R71, R72, R73, R75,
R77). -/
def Obligations.StagingFillsTheSelectedSet : Prop :=
  (∀ (ticket i : Nat) (s : State), s.isReady = true → u32Ok ticket = true → s.ownSet .host ticket = some i →
    (s.slot i).state = .opened → Leaves (.csSelect .host ticket) s { s with moot := { s.moot with selHost := some i } }) ∧
  (∀ (ticket : Nat) (s : State), s.isReady = true → u32Ok ticket = true → s.ownSet .host ticket = none →
    Leaves (.csSelect .host ticket) s (s.err 0x0314 0 (word ticket))) ∧
  (∀ (ticket seq i : Nat) (w0 w1 : Word) (s : State), s.isReady = true → u32Ok ticket = true → seq < 65536 →
    s.moot.selHost = some i →
    Leaves (.csStage .host ticket w0 w1 seq) s { s with
      moot := { s.moot with
        w0Host := w0
        slots := modifyAt s.moot.slots i (fun x =>
          if x.entries.length < 4096 then { x with entries := x.entries ++ [⟨w0, w1⟩] }
          else { x with overflow := true }) } }) ∧
  (∀ (ticket seq i : Nat) (w0 w1 : Word) (s : State), s.alive = true → 3 ≤ s.step → u32Ok ticket = true → seq < 65536 →
    s.ownSet .fm ticket = some i → (s.slot i).state = .opened →
    Leaves (.csStage .fm ticket w0 w1 seq) s (s.pushEntry i ⟨w0, w1⟩)) ∧
  (∀ (ticket seq i : Nat) (s : State), s.isReady = true → u32Ok ticket = true → seq < 65536 →
    s.ownSet .host ticket = some i → (s.slot i).state = .opened →
    Leaves (.csCheck .host ticket seq) s
      ((s.modSlot i (fun x => { x with state := .checking, begun := false })).unselect i)) ∧
  (∀ (ticket seq : Nat) (s : State), s.isReady = true → u32Ok ticket = true → seq < 65536 →
    s.ownSet .host ticket = none → Leaves (.csCheck .host ticket seq) s (s.err 0x0314 0 (word ticket))) ∧
  (∀ (type seq : Nat) (s : State), s.alive = true → 3 ≤ s.step → seq < 65536 → 5 < type → type < 256 →
    Leaves (.messageInvalid type seq) s (s.emit (.fmResult seq 0 1 0x0315 0)))

/-- ABANDON frees an open or waiting set's slot, and the owner's read of STG_CS_REFUSE frees a refused one (R74). -/
def Obligations.AbandonAndRefuseReadFreeTheSlot : Prop :=
  (∀ (ticket seq i : Nat) (s : State), s.isReady = true → u32Ok ticket = true → seq < 65536 → s.spr.records = [] →
    s.ownSet .host ticket = some i → ((s.slot i).state = .opened ∨ (s.slot i).state = .waiting ∨
      ((s.slot i).state = .checking ∧ (s.slot i).begun = false)) →
    Answers (.csAbandon .host ticket seq) s (fun t => t.slot i = CsSlot.init ∧ (∀ j, j ≠ i → t.slot j = s.slot j) ∧
      t.moot.selHost ≠ some i ∧ t.moot.selSteward ≠ some i ∧
      t = { s with moot := t.moot, pins := t.pins })) ∧
  (∀ (ticket seq i : Nat) (s : State), s.isReady = true → u32Ok ticket = true → seq < 65536 →
    s.ownSet .host ticket = some i → (s.slot i).state = .checking → (s.slot i).begun = true →
    Leaves (.csAbandon .host ticket seq) s (s.modSlot i (fun x => { x with abandon := true }))) ∧
  (∀ (ticket seq i : Nat) (s : State), s.isReady = true → u32Ok ticket = true → seq < 65536 →
    s.ownSet .host ticket = some i → (s.slot i).state = .passed → Leaves (.csAbandon .host ticket seq) s s) ∧
  (∀ (path : Path) (slot : Nat) (s : State), s.alive = true → pathOk path = true → slot < 4 → s.spr.records = [] →
    (s.slot slot).state = .refused → (s.slot slot).writer = path →
    Leaves (.csRefuseRead path slot) s (s.modSlot slot (fun x => { x with state := .free }))) ∧
  (∀ (path : Path) (slot : Nat) (s : State), s.alive = true → pathOk path = true → slot < 4 →
    (s.slot slot).writer ≠ path → Leaves (.csRefuseRead path slot) s s)

/-- A check begins with the lowest ticket, and its end refuses the set with its code or lets it pass (R74, R77, R79, R80,
R82, R83, R84, R85, R92). -/
def Obligations.CheckRefusesOrPassesTheSet : Prop :=
  (∀ (i : Nat) (s : State), s.alive = true → s.nextCheck = some i →
    Leaves .checkBegin s (s.modSlot i (fun x => { x with begun := true, floor := s.fld .MON_CLOCK_FLOOR_MHZ }))) ∧
  (∀ (i : Nat) (s : State), s.nextCheck = some i → (s.slot i).state = .checking ∧
    (∀ x ∈ s.moot.slots, x.begun = false) ∧
    ∀ j, j < 4 → (s.slot j).state = .checking → (s.slot i).ticket ≤ (s.slot j).ticket) ∧
  (∀ (i code detail : Nat) (s : State), s.alive = true → s.moot.slots.findIdx? (fun x => x.begun) = some i →
    s.spr.records = [] → (s.slot i).state = .checking → (s.slot i).abandon = false → (s.slot i).record = false →
    (s.chk (s.slot i)).consistency (s.slot i).overflow = some (code, detail) →
    Answers .checkEnd s (fun t => t.slot i = (s.slot i).refused code detail ∧ (∀ j, j ≠ i → t.slot j = s.slot j) ∧
      t.clock = s.clock ∧ t.comp = s.comp ∧ t.sched = s.sched)) ∧
  (∀ (i code detail : Nat) (s : State), s.alive = true → s.moot.slots.findIdx? (fun x => x.begun) = some i →
    s.spr.records = [] → (s.slot i).state = .checking → (s.slot i).abandon = false → (s.slot i).record = false →
    (s.chk (s.slot i)).consistency (s.slot i).overflow = none →
    (∀ y ∈ s.moot.slots, y.state = .pendingScrub → conflicts s (s.slot i) y = false) →
    reeve s.spr (s.slot i).floor (s.chk (s.slot i)).base (s.chk (s.slot i)).cand
      ((s.chk (s.slot i)).evaluated (s.slot i).floor) = some (code, detail) →
    Answers .checkEnd s (fun t => t.slot i = (s.slot i).refused code detail ∧ (∀ j, j ≠ i → t.slot j = s.slot j))) ∧
  (∀ (i : Nat) (s : State), s.alive = true → s.moot.slots.findIdx? (fun x => x.begun) = some i →
    (s.slot i).abandon = false → (s.slot i).record = false →
    (s.chk (s.slot i)).consistency (s.slot i).overflow = none →
    (∀ y ∈ s.moot.slots, y.state = .pendingScrub → conflicts s (s.slot i) y = false) →
    reeve s.spr (s.slot i).floor (s.chk (s.slot i)).base (s.chk (s.slot i)).cand
      ((s.chk (s.slot i)).evaluated (s.slot i).floor) = none →
    Leaves .checkEnd s (s.passSet i)) ∧
  (∀ (s : State) (x : CsSlot), s.clock.gtb + 20000 ≤ assignedT s x ∧ assignedT s x % 1000 = 0 ∧
    (∀ p, s.moot.lastT = some p → p + 50000 ≤ assignedT s x)) ∧
  (∀ (i : Nat) (s : State), s.moot.slots.length = 4 → i < 4 →
    ((s.assignT i).slot i).state = .passed ∧ ((s.assignT i).slot i).t = assignedT s (s.slot i) ∧
    ((s.assignT i).slot i).unacked = s.ackSources)

/-- Stations acknowledge a passed set's staged state; a missing acknowledgement or a long hold refuses the set (R84, R85,
R89). -/
def Obligations.DeliveryAcknowledgesOrTimesOut : Prop :=
  (∀ (kind : StationKind) (k i : Nat) (s : State), s.alive = true → stationOk kind k = true →
    sourceOf kind k ∈ s.clock.locked →
    s.firstPassed (fun x => x.unacked.contains (sourceOf kind k) && decide (s.clock.gtb + 2000 ≤ x.t)) = some i →
    Leaves (.stationAck kind k) s
      (s.modSlot i (fun x => { x with unacked := x.unacked.filter (· ≠ sourceOf kind k) }))) ∧
  (∀ (kind : StationKind) (k : Nat) (s : State), stationOk kind k = true → sourceOf kind k ∉ s.clock.locked →
    Leaves (.stationAck kind k) s s) ∧
  (∀ (i : Nat) (s : State), s.alive = true → s.firstPassed CsSlot.incomplete = some i →
    (∀ first, first ∈ (s.slot i).unacked → first < 1000 → (∀ n ∈ (s.slot i).unacked, first ≤ n) →
      Leaves .distributionTimeout s
        ((((s.advanceTo ((s.slot i).t - 1000)).refuseSet i 0x0312 first true).releaseHeld).pumpRecords)) ∧
    ((s.slot i).unacked = [] → Leaves .distributionTimeout s
      ((((s.advanceTo ((s.slot i).t - 1000)).refuseSet i 0x0312 0x0E true).releaseHeld).pumpRecords))) ∧
  (∀ (i : Nat) (s : State), s.alive = true → i < 4 → (s.slot i).state = .pendingScrub →
    Leaves (.scrubOverrun i) s
      ((((s.advanceTo ((s.slot i).passedAt + 2000000)).refuseSet i 0x0311 0 true).releaseHeld).pumpRecords)) ∧
  (∀ (i code detail : Nat) (s : State), i < s.moot.slots.length →
    (s.refuseSet i code detail true).slot i = (s.slot i).refused code detail) ∧
  (∀ (i : Nat) (s : State), (s.slot i).state = .refused → s.releaseHeld.slot i = s.slot i) ∧
  (∀ (n : Nat) (s : State), s.clock.running = true → (s.advanceTo n).clock.gtb = max s.clock.gtb n)

/-- At T the committed fields take their staged values and the epoch advances by 1, never to 0 (R15, R17, R62, R86, R95). -/
def Obligations.CommitTakesTheStagedConfiguration : Prop :=
  (∀ (i : Nat) (s : State), s.alive = true → s.firstPassed (fun _ => true) = some i → (s.slot i).incomplete = false →
    Leaves .commitInstant s (s.commitSet i)) ∧
  (∀ (i : Nat) (s : State), s.firstPassed (fun _ => true) = some i → (s.slot i).incomplete = true →
    Leaves .commitInstant s s) ∧
  (∀ (i : Nat) (s : State), s.firstPassed (fun _ => true) = some i → (s.slot i).state = .passed ∧
    ∀ j, j < 4 → (s.slot j).state = .passed → (s.slot i).t ≤ (s.slot j).t) ∧
  (∀ (s : State) (x : CsSlot), x.t < 2 ^ 64 →
    (s.takeFields x).comp = { s.comp with owners := (s.cfg.apply x.entries).owners } ∧
    (s.takeFields x).fld .CMP_EPOCH_PREVIOUS = fldGet (resetRegs .epoch (s.cfg.apply x.entries).regs) .CMP_EPOCH_CURRENT 0 ∧
    (s.takeFields x).fld .CMP_EPOCH_CURRENT =
      (if fldGet (resetRegs .epoch (s.cfg.apply x.entries).regs) .CMP_EPOCH_CURRENT 0 = 0xFFFFFFFF then 1
       else fldGet (resetRegs .epoch (s.cfg.apply x.entries).regs) .CMP_EPOCH_CURRENT 0 + 1) ∧
    (s.takeFields x).rd .STG_LAST_T 0 = word x.t ∧
    (∀ (r : Reg) (i : Nat), regIdxOk r i = true → r ∉ [.CMP_EPOCH, .STG_LAST_T, .ADM_W, .ADM_FLOOR] →
      (s.takeFields x).rd r i = regGet (resetRegs .epoch (s.cfg.apply x.entries).regs) r i))

/-- The GTB falls back and returns, copies lock, and the fabric manager's polls give the residency counters (R67, R68,
R87, R88). -/
def Obligations.GlobalTimeBaseAndMetering : Prop :=
  (∀ s : State, s.alive = true → s.fld .STG_GTB_STATUS_FALLBACK = 0 →
    Leaves .aclkStopped s (({ s.setFld .STG_GTB_STATUS_FALLBACK 0 1 with fresh := s.fresh + 1 } : State).queueAlarm
      ((Config.freeWord s.fresh).toNat % 65536) 0 0x03 0)) ∧
  (∀ s : State, s.alive = true → Leaves .aclkRestored s (s.setFld .STG_GTB_STATUS_FALLBACK 0 0)) ∧
  (∀ (kind : StationKind) (k skew : Nat) (s : State), s.alive = true → s.clock.running = true →
    stationOk kind k = true → skew < 65536 → s.stationOn kind k = true →
    Answers (.gtbCopyLocked kind k skew) s (fun t =>
      t.clock.gtb = (s.clock.gtb + 999) / 1000 * 1000 ∧
      (skew ≤ 2000 → (∀ x, x ∈ t.clock.locked ↔ x ∈ s.clock.locked ∨ x = sourceOf kind k) ∧
        (∀ x, x ∈ t.clock.skews ↔ (x ∈ s.clock.skews ∧ x.1 ≠ sourceOf kind k) ∨ x = (sourceOf kind k, skew)) ∧
        ((∀ x ∈ s.clock.skews, x.1 = sourceOf kind k ∨ x.2 ≤ skew) → t.fld .STG_GTB_STATUS_MAX_SKEW_PS = skew)) ∧
      (2000 < skew → (∀ x, x ∈ t.clock.locked ↔ x ∈ s.clock.locked ∧ x ≠ sourceOf kind k) ∧
        (∀ x, x ∈ t.clock.skews ↔ x ∈ s.clock.skews ∧ x.1 ≠ sourceOf kind k)))) ∧
  (∀ (tag seq : Nat) (s : State), s.alive = true → 3 ≤ s.step → seq < 65536 → tag ≤ 0x80 →
    Leaves (.meterPoll tag seq) s (s.emit (.fmMeter seq tag (s.rd .CMP_RES_TIME_NS tag) (s.rd .CMP_RES_CORE_US tag)
      (s.rd .CMP_RES_MEMCH_US tag) (s.rd .CMP_RES_LINK_US tag)))) ∧
  (∀ (seq : Nat) (s : State), s.alive = true → 3 ≤ s.step → seq < 65536 →
    Leaves (.meterPoll 0xFF seq) s { s with out := s.out ++
      (0 :: (List.range' 1 128).filter (cfgEnabled s.regs)).map (fun sl =>
        .fmMeter seq sl (s.rd .CMP_RES_TIME_NS sl) (s.rd .CMP_RES_CORE_US sl) (s.rd .CMP_RES_MEMCH_US sl)
          (s.rd .CMP_RES_LINK_US sl)) }) ∧
  (∀ s : State, s.alive = true → 0 < s.meterNs → s.clock.running = true →
    Answers .meterReport s (fun t => t.clock.gtb = (s.clock.gtb / s.meterNs + 1) * s.meterNs ∧
      t.out = s.out ++ (0 :: (List.range' 1 128).filter (cfgEnabled t.regs)).map (fun sl =>
        .fmMeter ((Config.freeWord s.fresh).toNat % 65536) sl (t.rd .CMP_RES_TIME_NS sl) (t.rd .CMP_RES_CORE_US sl)
          (t.rd .CMP_RES_MEMCH_US sl) (t.rd .CMP_RES_LINK_US sl))))

/-- The Hedge grants local memory only to its owner or to a reading member of its commons, and refuses all else (R53, R54,
R57, R58, R107). -/
def Obligations.HedgeKeepsSlicesApart : Prop :=
  (∀ (s : State) (k : Nat) (a : PortAccess) (g : Grant), s.hedge k a = .grant g none → a.req.opc ≠ 5 → a.req.opc ≠ 6 →
    ∃ e pa, s.lookup k a = some (e, pa) ∧ g.pa = pa ∧ g.keyid = e.keyid ∧ permits e a.req.accessKind = true ∧
      e.ownerValid = true ∧ pa / 2 ^ 50 = s.fld .CMP_CHIPNUM_CHIPNUM ∧
      ((e.owner = a.slice ∧ a.slice ≠ 0xFF ∧ a.slice ≠ 0xFE) ∨
       (e.owner = 0xFE ∧ a.req.accessKind = .read ∧ cfgMember (s.cfgFor k a.epoch) e.cid a.slice = true))) ∧
  (∀ (s : State) (k : Nat) (a : PortAccess) (g : Grant) (p : Nat), s.hedge k a = .grant g (some p) →
    p < 16 ∧ cfgLinkOwner (s.cfgFor k a.epoch) p = a.slice ∧
      bitOf (g.pa / 2 ^ 50) (regGet (s.cfgFor k a.epoch) .CMP_CHIPS a.slice) = true) ∧
  (∀ (s : State) (k : Nat) (a : PortAccess) (t off : Nat), s.hedge k a = .sram t off →
    cfgCoreTag (s.cfgFor k a.epoch) t = a.slice ∧ t ≤ 611 ∧ a.slice ≠ 0xFF) ∧
  (∀ (s : State) (k epoch : Nat), s.cfgFor k epoch =
    if (s.cluster k).stub = true ∧ epoch = (s.cluster k).prevEpoch then s.comp.prev else s.regs) ∧
  (∀ (s : State) (k : Nat) (a : PortAccess), a.req.formatBad = false → a.slice = 0xFF → s.hedge k a = .deny 0x0501 0) ∧
  (∀ (s : State) (k : Nat) (a : PortAccess), a.req.formatBad = true → s.hedge k a = .deny 0x0509 0)

/-- A request that is accepted goes out, is deferred, or is denied, as the Hedge answers it (R53, R55, R56, R162, R239,
R242, R243, R248, R256). -/
def Obligations.RequestsFollowTheHedgesAnswer : Prop :=
  (∀ (r : Req) (s : State) (g : Grant), reqOk 1 r = true → r.opc = 1 → r.ord = 0 → s.accepts r = true →
    (s.numbered r.port).hedge r.port (s.stamp r [] 0 0) = .grant g none →
    ((s.numbered r.port).cluster r.port).mayIssue ⟨s.stamp r [] 0 0, g, none, none⟩ = true →
    Leaves (.read r) s
      (((s.numbered r.port).emit (.hdgAns r.port r.txn 1)).issueRead r.port (s.stamp r [] 0 0) g none).pumpEngines) ∧
  (∀ (r : Req) (s : State) (g : Grant), reqOk 2 r = true → r.opc = 2 → r.ord = 0 → s.accepts r = true →
    (s.numbered r.port).hedge r.port (s.stamp r [] 0 0) = .grant g none →
    ((s.numbered r.port).cluster r.port).mayIssue ⟨s.stamp r [] 0 0, g, none, none⟩ = true →
    Leaves (.readUnique r) s
      (((s.numbered r.port).emit (.hdgAns r.port r.txn 1)).issueRead r.port (s.stamp r [] 0 0) g none).pumpEngines) ∧
  (∀ (r : Req) (bs : List (Line × ByteMask)) (s : State) (g : Grant), writeOk r bs = true → r.opc = 3 → r.ord = 0 →
    r.mover = false → r.akind ≠ 2 → s.accepts r = true → s.EnginesIdle →
    (s.numbered r.port).hedge r.port (s.stamp r bs 0 0) = .grant g none →
    ((s.numbered r.port).cluster r.port).mayIssue ⟨s.stamp r bs 0 0, g, none, none⟩ = true →
    Answers (.write r bs) s (fun t => t.mems = s.mems ∧ t.coh = s.coh ∧ t.regs = s.regs ∧
      t.out = s.out ++ [.hdgAns r.port r.txn 1,
        .rsp r.port r.txn (s.coreField (s.stamp r bs 0 0).core) 0 0 0] ∧
      (t.cluster r.port).held.length = (s.cluster r.port).held.length + bs.length ∧
      (t.cluster r.port).held.map (fun h => (h.core, h.addr, h.data, h.be)) =
        (s.cluster r.port).held.map (fun h => (h.core, h.addr, h.data, h.be)) ++
        ((List.range bs.length).zip bs).map (fun x =>
          ((s.stamp r bs 0 0).core, (g.pa / 128 + x.1) * 128, x.2.1, x.2.2)))) ∧
  (∀ (r : Req) (op cmp : Word) (s : State) (g : Grant), reqOk 4 r = true → r.opc = 4 → r.scope ≤ 1 →
    atomicBad r g.pa = false → s.accepts r = true → (s.numbered r.port).hedge r.port (s.stamp r [] op cmp) = .grant g none →
    ((s.numbered r.port).cluster r.port).mayIssue ⟨s.stamp r [] op cmp, g, none, none⟩ = true →
    Leaves (.atomic r op cmp) s
      (((s.numbered r.port).emit (.hdgAns r.port r.txn 1)).issueAtomic r.port (s.stamp r [] op cmp) g none).pumpEngines) ∧
  (∀ (k : Nat) (a : PortAccess) (g : Grant) (s : State),
    (a.req.scope ≤ 1 → s.issueAtomic k a g none = s.issueView k a g none false) ∧
    (a.req.scope = 2 → s.issueAtomic k a g none = s.issueBuffer k a g) ∧
    (2 < a.req.scope → s.issueAtomic k a g none = s.issueMemAtomic k a g)) ∧
  (∀ (r : Req) (s : State), reqOk 5 r = true → r.opc = 5 → r.scope ≤ 1 → r.formatBad = false → s.accepts r = true →
    (s.stamp r [] 0 0).slice ≠ 0xFF →
    ((s.numbered r.port).cluster r.port).mayIssue ⟨s.stamp r [] 0 0, ⟨0, 0, none⟩, none, none⟩ = true →
    Leaves (.fence r) s
      (((s.numbered r.port).emit (.hdgAns r.port r.txn 1)).answer r.port r.txn (s.stamp r [] 0 0).core 0 0).pumpEngines) ∧
  (∀ (r : Req) (s : State) (recheck : Bool), reqOk 1 r = true → s.accepts r = true →
    (s.numbered r.port).hedge r.port (s.stamp r [] 0 0) = .defer recheck →
    Leaves (.read r) s ((((s.numbered r.port).emit (.hdgAns r.port r.txn 3)).bump .HDG_COUNT_DEFER r.port).modCluster r.port
      (fun c => { c with retry := c.retry ++ [⟨s.stamp r [] 0 0, recheck, s.ctxGen (s.stamp r [] 0 0).ctx⟩] })).pumpEngines) ∧
  (∀ (r : Req) (s : State) (code pa : Nat), reqOk 1 r = true → s.accepts r = true →
    (s.numbered r.port).hedge r.port (s.stamp r [] 0 0) = .deny code pa →
    Leaves (.read r) s
      (((s.numbered r.port).emit (.hdgAns r.port r.txn 2)).denyAccess r.port (s.stamp r [] 0 0) code pa).pumpEngines) ∧
  (∀ (r : Req) (s : State), reqOk 1 r = true → s.accepts r = false → Leaves (.read r) s s)

/-- A line read that no other core caches is presented at the memory station of its line (R45, R160, R256). -/
def Obligations.ReadOfUncachedLineReachesItsMemoryStation : Prop :=
  ∀ (s : State) (k : Nat) (a : PortAccess) (g : Grant) (p l : Nat), a.req.beatsM1 = 0 → a.req.opc = 1 →
    s.placeAt k a.epoch (g.pa / 128 * 128) = some (p, l) → (∀ x ∈ (s.cluster k).atomics, x.line ≠ g.pa / 128) →
    s.lineBusy (g.pa / 128) = false → (∀ x ∈ s.coh.queue, x.line ≠ g.pa / 128) →
    (∀ e ∈ s.coh.filter, e.line = g.pa / 128 → e.core = a.core ∨ e.st = .rr ∨
      (e.tag ≠ a.slice ∧ ∀ n, g.cid = some n → cfgMember s.regs n e.tag = false)) →
    ((s.issueRead k a g none).memSt p).waiting = (s.memSt p).waiting ++
      [{ MemOp.fresh a.epoch (.core k a.seq 0) a.core a.slice a.ctx g.keyid l (g.pa / 128) .read 0 0 with
          id := (s.memSt p).nextId }] ∧
    (∀ q, q ≠ p → (s.issueRead k a g none).memSt q = s.memSt q) ∧
    ((s.issueRead k a g none).cluster k).flights =
      (s.cluster k).flights ++ [⟨a, g.keyid, 1, false, none, [], [heldOver (s.cluster k) a.core (g.pa / 128)], false, none⟩] ∧
    (∀ j, j ≠ k → (s.issueRead k a g none).cluster j = s.cluster j) ∧
    (a.cached = true → ⟨g.pa / 128, a.core, .e, a.slice, g.keyid⟩ ∈ (s.issueRead k a g none).coh.filter) ∧
    (s.issueRead k a g none).regs = s.regs ∧ (s.issueRead k a g none).out = s.out

/-- The atomics compute R178's values on the bytes they name, and leave the rest of the line alone (R178). -/
def Obligations.AtomicOperationsCompute : Prop :=
  (∀ n old x c : Nat, atomicValue 0x0 n old x c = x ∧ atomicValue 0x1 n old x c = (if old = c then x else old) ∧
    atomicValue 0x2 n old x c = (old + x) % 2 ^ (8 * n) ∧ atomicValue 0x4 n old x c = Nat.land old x ∧
    atomicValue 0x5 n old x c = Nat.lor old x ∧ atomicValue 0x6 n old x c = Nat.xor old x ∧
    atomicValue 0x9 n old x c = min old x ∧ atomicValue 0xA n old x c = max old x) ∧
  (∀ n old x c : Nat, n = 4 ∨ n = 8 → old < 2 ^ (8 * n) → x < 2 ^ (8 * n) →
    (BitVec.ofNat (8 * n) (atomicValue 0x7 n old x c)).toInt =
      min (BitVec.ofNat (8 * n) old).toInt (BitVec.ofNat (8 * n) x).toInt ∧
    (BitVec.ofNat (8 * n) (atomicValue 0x8 n old x c)).toInt =
      max (BitVec.ofNat (8 * n) old).toInt (BitVec.ofNat (8 * n) x).toInt) ∧
  (∀ (a : PortAccess) (off : Nat) (l : Line), off + a.req.size ≤ 128 →
    (atomicOn a off l).1 = word (lineGet l off a.req.size) ∧
    (∀ i, i < 128 → (i < off ∨ off + a.req.size ≤ i) → lineGet (atomicOn a off l).2 i 1 = lineGet l i 1) ∧
    lineGet (atomicOn a off l).2 off a.req.size = atomicValue a.req.aop a.req.size (lineGet l off a.req.size)
      (a.operand.toNat % 2 ^ (8 * a.req.size)) (a.compare.toNat % 2 ^ (8 * a.req.size)) % 2 ^ (8 * a.req.size))

/-- The device-side allocator gives the lowest run of free granules and takes a run back (R291, R292). -/
def Obligations.AllocatorTakesTheLowestRun : Prop :=
  (∀ (code : Nat → Nat) (n size : Nat), 0 < n →
    (∀ g, findRun code n size 0 0 = some g → g + n ≤ size ∧ (∀ i, i < n → code (g + i) = 0) ∧
      ∀ h, h < g → ∃ i, i < n ∧ code (h + i) ≠ 0) ∧
    (findRun code n size 0 0 = none → ∀ h, h + n ≤ size → ∃ i, i < n ∧ code (h + i) ≠ 0)) ∧
  (∀ (r : Req) (s : State), allocOk r = true → r.opc = 6 → s.accepts r = true → r.formatBad = false →
    (s.stamp r [] 0 0).slice ≠ 0xFF →
    Leaves (.alloc r) s (((s.numbered r.port).emit (.hdgAns r.port r.txn 1)).throughLog r.port (s.stamp r [] 0 0) true 0
      (fun a u => ((u.heapService a).2.answer r.port r.txn a.core 0 0 (u.heapService a).1).fillLog a.core a.slot
        (u.heapService a).1 [])).pumpEngines) ∧
  (∀ (r : Req) (s : State), freeOk r = true → r.opc = 6 → s.accepts r = true → r.formatBad = false →
    (s.stamp r [] 0 0).slice ≠ 0xFF →
    Leaves (.free r) s (((s.numbered r.port).emit (.hdgAns r.port r.txn 1)).throughLog r.port (s.stamp r [] 0 0) true 0
      (fun a u => ((u.heapService a).2.answer r.port r.txn a.core 0 0 (u.heapService a).1).fillLog a.core a.slot
        (u.heapService a).1 [])).pumpEngines) ∧
  (∀ (a : PortAccess) (s : State),
    (24 ≤ ((mapGet [] s.obj.served (a.ctx * 8 + getBits 61 59 a.req.addr)).filter (fun t => decide (s.clock.gtb < t))).length →
      s.heapService a = (heapReply 2 0, s)) ∧
    (((mapGet [] s.obj.served (a.ctx * 8 + getBits 61 59 a.req.addr)).filter (fun t => decide (s.clock.gtb < t))).length < 24 →
      ∃ l, s.heapService a = ({ s with obj := { s.obj with served := l } } : State).serveHeap a)) ∧
  (∀ (a : PortAccess) (s : State), a.ctx < 8192 → s.heapValid a.ctx (getBits 61 59 a.req.addr) = true →
    a.req.heapOp = 1 →
    (findRun (s.heapCode a.ctx (getBits 61 59 a.req.addr)) (getBits 55 48 a.req.addr + 1)
      (s.heapGranules a.ctx (getBits 61 59 a.req.addr)) 0 0 = none → s.serveHeap a = (heapReply 1 0, s)) ∧
    (∀ g, findRun (s.heapCode a.ctx (getBits 61 59 a.req.addr)) (getBits 55 48 a.req.addr + 1)
      (s.heapGranules a.ctx (getBits 61 59 a.req.addr)) 0 0 = some g →
      (s.serveHeap a).1 = heapReply 0 (s.heapBase a.ctx (getBits 61 59 a.req.addr) + g * 65536) ∧
      (∀ i, (s.serveHeap a).2.heapCode a.ctx (getBits 61 59 a.req.addr) i =
        if i = g then 1 else if g < i ∧ i < g + (getBits 55 48 a.req.addr + 1) then 2
        else s.heapCode a.ctx (getBits 61 59 a.req.addr) i) ∧
      (getBits 55 48 a.req.addr + 1 ≤ getBits 31 0 (s.heapWord a.ctx (getBits 61 59 a.req.addr) 2) →
        getBits 31 0 ((s.serveHeap a).2.heapWord a.ctx (getBits 61 59 a.req.addr) 2) =
          getBits 31 0 (s.heapWord a.ctx (getBits 61 59 a.req.addr) 2) - (getBits 55 48 a.req.addr + 1)))) ∧
  (∀ (a : PortAccess) (s : State) (g : Nat), a.ctx < 8192 → s.heapValid a.ctx (getBits 61 59 a.req.addr) = true →
    a.req.heapOp = 2 → getBits 47 0 a.req.addr = s.heapBase a.ctx (getBits 61 59 a.req.addr) + g * 65536 →
    getBits 47 0 a.req.addr % 65536 = 0 → g < s.heapGranules a.ctx (getBits 61 59 a.req.addr) →
    s.heapCode a.ctx (getBits 61 59 a.req.addr) g = 1 →
    (s.serveHeap a).1 = heapReply 0 0 ∧
    (∀ i, (s.serveHeap a).2.heapCode a.ctx (getBits 61 59 a.req.addr) i =
      if g ≤ i ∧ i < g + 1 + runTail (s.heapCode a.ctx (getBits 61 59 a.req.addr))
          (s.heapGranules a.ctx (getBits 61 59 a.req.addr) - g - 1) (g + 1) then 0
      else s.heapCode a.ctx (getBits 61 59 a.req.addr) i)) ∧
  (∀ (a : PortAccess) (s : State), a.ctx < 8192 → s.heapValid a.ctx (getBits 61 59 a.req.addr) = true →
    a.req.heapOp = 2 → (getBits 47 0 a.req.addr < s.heapBase a.ctx (getBits 61 59 a.req.addr) ∨
      getBits 47 0 a.req.addr % 65536 ≠ 0) →
    s.serveHeap a = (heapReply 3 0, s.objErr 0x0209 a.slice 0 (a.ctx % 8192))) ∧
  (∀ (a : PortAccess) (s : State), (8192 ≤ a.ctx ∨ s.heapValid a.ctx (getBits 61 59 a.req.addr) = false) →
    s.serveHeap a = (heapReply 3 0, s.objErr 0x0209 a.slice 0 (a.ctx % 8192)))

/-- Checkpoints, verdicts, RSPs, atomic-buffer write-backs and the drain end as their rules say (R60, R63, R64, R162,
R163, R165, R201, R244, R258). -/
def Obligations.CheckpointsVerdictsAndDrainEnd : Prop :=
  (∀ (core : Nat) (s : State), s.alive = true → core < 612 → Leaves (.checkpoint core) s
    (((s.modTile core (fun t => { t with checkpoint := true })).tryCheckpoint core).coreProgress core).pumpEngines) ∧
  (∀ (port txn code : Nat) (v : Verdict) (tok : Token) (s : State), s.alive = true → verdictOk port txn v code = true →
    ((s.cluster port).tokens.filter (fun t => t.txn == txn)).find? (fun t => (s.cluster port).verdicts.contains (t.seq, v, code)) =
      some tok →
    Leaves (.verifyVerdict port txn v code) s ((s.setCluster port { s.cluster port with
      verdicts := eraseFirst (· == (tok.seq, v, code)) (s.cluster port).verdicts }).onVerdict port tok v code).pumpEngines) ∧
  (∀ (s : State) (k : Nat) (t : Token) (v : Verdict) (code : Nat),
    (t.epoch = (s.cluster k).epoch ∨ t.epoch = (s.cluster k).prevEpoch → s.onVerdict k t v code = s.takeVerdict k t v code) ∧
    (t.epoch ≠ (s.cluster k).epoch → t.epoch ≠ (s.cluster k).prevEpoch → s.onVerdict k t v code =
      (s.raise .alarm 0x0602 (s.coreTag t.core) (stationSource k) (word t.txn)).failToken k t 0x0602)) ∧
  (∀ (port id code : Nat) (w : Released) (s : State), s.alive = true → port < 68 → code < 65536 →
    (s.cluster port).released.find? (fun r => r.id == id) = some w → (id, code) ∈ (s.cluster port).rsps →
    Leaves (.releasedWriteRsp port id code) s ((s.setCluster port { s.cluster port with
      rsps := eraseFirst (· == (id, code)) (s.cluster port).rsps }).onRelease port w code).pumpEngines) ∧
  (∀ (k line : Nat) (x : AtomicLine) (s : State), s.alive = true → k < 68 →
    (s.cluster k).atomics.find? (fun a => a.line == line) = some x →
    Leaves (.clusterAtomicBufferIdle k line) s ((s.advance 1000).writeBackAtomic k x)) ∧
  (∀ (kind : StationKind) (k : Nat) (s : State), s.alive = true → stationOk kind k = true → s.hasStub kind k = true →
    (s.drainCount kind k = 0 → Leaves (.stubRelease kind k) s (s.dropStub kind k)) ∧
    (0 < s.drainCount kind k → Leaves (.stubRelease kind k) s s ∧ Leaves (.drainTimeout kind k) s
      (((s.advanceTo ((s.rd .STG_LAST_T 0).toNat + 50000)).drainOut kind k).dropStub kind k).pumpEngines)) ∧
  (∀ (s : State) (k : Nat), (s.dropStub .cluster k).cluster k = { s.cluster k with stub := false } ∧
    (s.dropStub .memory k).memSt k = { s.memSt k with stub := false } ∧
    (s.dropStub .link k).link k = { s.link k with stub := false }) ∧
  (∀ s : State, s.alive = true → s.comp.flushing ≠ [] → s.flushUnderWay = false →
    Leaves .flushComplete s { s with comp := { s.comp with
      scrubbing := s.comp.scrubbing ++ s.comp.flushing, flushing := [] } }) ∧
  (∀ (core : Nat) (s : State), s.alive = true → core < 612 → core ∈ s.comp.zeroing →
    Leaves (.coreSramZeroDone core) s
      ({ s with comp := { s.comp with zeroing := s.comp.zeroing.filter (· ≠ core) } } : State).releaseHeld) ∧
  (∀ (sl : Nat) (hs : List Nat) (s : State), s.alive = true → tenantOk sl = true →
    s.comp.tearing.find? (fun t => t.1 == sl) = some (sl, hs) →
    ((s.liveContexts.filter (fun c => s.ctxSlice c == sl)).all s.teardownOver = false → Leaves (.sliceTeardownDone sl) s s) ∧
    ((s.liveContexts.filter (fun c => s.ctxSlice c == sl)).all s.teardownOver = true → Leaves (.sliceTeardownDone sl) s
      (let u := forEach (s.liveContexts.filter (fun c => s.ctxSlice c == sl)) s (fun c v => v.contextGone c)
      let w : State := { u with comp := { u.comp with tearing := u.comp.tearing.filter (fun x => x.1 ≠ sl) } }
      (forEach hs w (fun h v => v.notice 5 1 0 sl h)).releaseHeld)))

/-- Snoop answers, writebacks and evictions leave the filter as R256 to R261 say (R256, R257, R259, R261, R265). -/
def Obligations.SnoopAnswersEndTheirSnoops : Prop :=
  (∀ (port core sid : Nat) (x : Snoop) (s : State), s.alive = true → port < 68 → core < 9 → sid < 256 →
    s.snoopOf port core sid = some x → Leaves (.ackI port core sid) s (s.endSnoop x none none).pumpEngines) ∧
  (∀ (port core sid : Nat) (x : Snoop) (s : State), s.alive = true → port < 68 → core < 9 → sid < 256 →
    s.snoopOf port core sid = some x → Leaves (.ackS port core sid) s (s.endSnoop x (some .s) none).pumpEngines) ∧
  (∀ (port core sid : Nat) (d : Line) (x : Snoop) (s : State), s.alive = true → port < 68 → core < 9 → sid < 256 →
    s.snoopOf port core sid = some x →
    Leaves (.dataDirty port core sid d) s (s.endSnoop x (if x.opc = 0 then some .s else none) (some d)).pumpEngines) ∧
  (∀ (port core sid : Nat) (x : Snoop) (s : State), s.alive = true → port < 68 → core < 9 → sid < 256 →
    s.snoopOf port core sid = some x →
    s.coh.heldWb.find? (fun h => h.1 == port && h.2.1 == core && h.2.2.1 == x.line) = none →
    Leaves (.wbPending port core sid) s { s with coh := { s.coh with
      snoops := s.coh.snoops.map (fun y => if y.sid = sid then { y with wbPending := true } else y) } }) ∧
  (∀ (s : State) (x : Snoop) (g : SnoopGroup) (e : FilterEntry) (left : Option LineState),
    s.coh.groups.find? (fun y => y.id == x.group) = some g → g.next = .flush → g.left = 1 →
    s.filterEntry x.line x.core = some e → s.coh.queue = [] → s.coh.unsent = [] →
    (∀ y ∈ (s.endSnoop x left none).coh.snoops, y.sid ≠ x.sid) ∧
    (∀ y ∈ (s.endSnoop x left none).coh.groups, y.id ≠ x.group) ∧
    (s.endSnoop x left none).filterEntry x.line x.core = left.map (fun st => ⟨x.line, x.core, st, e.tag, e.keyid⟩)) ∧
  (∀ (port core line : Nat) (d : Line) (e : FilterEntry) (s : State), s.alive = true → port < 68 → core < 9 → line < 2 ^ 49 →
    s.filterEntry line (s.logicalCore (9 * port + core)) = some e → e.st = .m →
    Leaves (.writeback port core line d) s (s.takeWriteback port core e d).pumpEngines) ∧
  (∀ (port core : Nat) (d : Line) (e : FilterEntry) (s : State),
    (∀ x ∈ s.coh.snoops ++ s.coh.unsent, ¬ (x.line = e.line ∧ x.core = e.core)) →
    (s.takeWriteback port core e d).filterEntry e.line e.core = none ∧
    (s.takeWriteback port core e d).out = s.out ++ [.rsp port 0 core 4 0 0] ∧
    (s.takeWriteback port core e d).regs = s.regs) ∧
  (∀ (port core line : Nat) (d : Line) (s : State), s.alive = true → port < 68 → core < 9 → line < 2 ^ 49 →
    s.filterEntry line (s.logicalCore (9 * port + core)) = none →
    Leaves (.writeback port core line d) s (s.lineErr .error 0x0C02 (s.coreTag (9 * port + core))
      (s.logicalCore (9 * port + core)) line)) ∧
  (∀ (port core line : Nat) (e : FilterEntry) (s : State), s.alive = true → port < 68 → core < 9 → line < 2 ^ 49 →
    s.filterEntry line (s.logicalCore (9 * port + core)) = some e → e.st ≠ .m →
    Leaves (.evict port core line) s (s.setFilter line (s.logicalCore (9 * port + core)) none 0 0)) ∧
  (∀ (port core line : Nat) (s : State), s.alive = true → port < 68 → core < 9 → line < 2 ^ 49 →
    s.filterEntry line (s.logicalCore (9 * port + core)) = none →
    Leaves (.evict port core line) s (s.lineErr .error 0x0C02 (s.coreTag (9 * port + core))
      (s.logicalCore (9 * port + core)) line)) ∧
  (∀ (sid : Nat) (x : Snoop) (s : State), s.alive = true → sid < 256 →
    s.coh.snoops.find? (fun y => y.sid == sid && !y.wbPending) = some x →
    Leaves (.snoopTimeout sid) s (s.snoopFails x))

/-- A walk ends in a fault record and a FAULT answer or in a TLB fill, and a leaf it accepts is well-formed and permits
the access (R101, R102, R104, R105, R106, R114, R129). -/
def Obligations.WalksEndInALeafOrAFault : Prop :=
  (∀ (port txn : Nat) (d : Deferred) (s : State), s.alive = true → port < 69 → txn < 8192 →
    s.pumpXlt.deferredOf port txn = some d →
    Leaves (.walkComplete port txn) s (s.pumpXlt.completeWalk port d).pumpEngines) ∧
  (∀ (s : State) (k : Nat) (d : Deferred) (w : TableWalk) (r : WalkEnd), s.walkFor k d = some w → w.ended = some r →
    (w.gen ≠ s.ctxGen d.acc.ctx → s.completeWalk k d = s.walkEnd w.id) ∧
    (w.gen = s.ctxGen d.acc.ctx → r.stops s d.acc = false ∨ s.faultAhead d.acc = false →
      s.completeWalk k d = (s.walkEnd w.id).walkDone k d r) ∧
    (w.gen = s.ctxGen d.acc.ctx → r.stops s d.acc = true → s.faultAhead d.acc = true → s.completeWalk k d = s)) ∧
  (∀ (port txn : Nat) (d : Deferred) (w : TableWalk) (s : State), s.alive = true → port < 69 → txn < 8192 →
    s.deferredOf port txn = some d → s.walkFor port d = some w → w.ended = none → w.device = false →
    Leaves (.walkReadTimeout port txn) s (((s.advance 100000).walkFailed w.id).completeWalk port d).pumpEngines) ∧
  (∀ (s : State) (w : TableWalk) (id : Nat), s.walkOf id = some w →
    s.walkFailed id = s.setWalk { w with ended := some (.fault 0x070B w.level w.last) }) ∧
  (∀ (w : TableWalk) (e : Word) (level at_ : Nat) (dev : Bool), w.ended = none → 1 ≤ w.level → w.level ≤ 4 →
    (walkUse w e).ended = some (.leaf e level dev at_) →
    kptValid e = true ∧ kptLeaf e = true ∧ level = w.level ∧ 2 ≤ level ∧ kptCont e ≤ 4 ∧
    kptAddr e % levelSize level = 0 ∧ kptPermits e w.access = true ∧ at_ = w.table + 8 * (w.dva / 2 ^ (48 - 9 * w.level) % 512)) ∧
  (∀ (w : TableWalk) (e : Word), w.ended = none →
    (kptValid e = false → (walkUse w e).ended = some (.fault 0x0701 w.level e)) ∧
    (kptValid e = true → kptLeaf e = true → w.level = 1 ∨ 4 < kptCont e ∨ kptAddr e % levelSize w.level ≠ 0 →
      (walkUse w e).ended = some (.fault 0x0703 w.level e)) ∧
    (kptValid e = true → kptLeaf e = false → w.level = 4 ∨ kptKeyid e ≠ 0 ∨ kptCont e ≠ 0 ∨ getBits 4 2 e ≠ 0 →
      (walkUse w e).ended = some (.fault 0x0703 w.level e)) ∧
    (kptValid e = true → kptLeaf e = false → w.level ≠ 4 → kptKeyid e = 0 → kptCont e = 0 → getBits 4 2 e = 0 →
      walkUse w e = { w with last := e, level := w.level + 1, table := kptAddr e, device := kptLocal e })) ∧
  (∀ (s : State) (k : Nat) (d : Deferred) (code level : Nat) (w : Word),
    s.walkDone k d (.fault code level w) = (s.modCluster k (fun c => { c with
      retry := c.retry.filter (fun x => x.acc.seq ≠ d.acc.seq) })).faultAccess k d.acc code level w) ∧
  (∀ (s : State) (k : Nat) (d : Deferred) (e : Word) (level at_ : Nat) (dev : Bool), kptLocal e = true →
    s.walkDone k d (.leaf e level dev at_) =
      (if s.keyDenied d.acc.slice (kptKeyid e) (kptAddr e + getBits 47 0 d.acc.req.addr % levelSize level) then
        (s.modCluster k (fun c => { c with retry := c.retry.filter (fun x => x.acc.seq ≠ d.acc.seq) })).faultAccess k d.acc
          0x0704 level e
      else (s.tlbFill k (s.fillEntry d.acc.ctx (getBits 47 0 d.acc.req.addr) e level)).reevaluate k d)) ∧
  (∀ (s : State) (k : Nat) (e : TlbEntry), ∃ rest : List TlbEntry, ((s.tlbFill k e).cluster k).tlb = e :: rest ∧
    rest.length ≤ 255 ∧ ∀ x ∈ rest, x ∈ (s.cluster k).tlb ∧
      ¬ (x.ctx = e.ctx ∧ x.va < e.va + e.size ∧ e.va < x.va + x.size)) ∧
  (∀ (s : State) (f : FaultInfo), (s.postFault f).1 =
      (if mapGet 0 s.xlt.seqs f.ctx = 0xFFFFFFFF then 1 else mapGet 0 s.xlt.seqs f.ctx + 1) ∧
    mapGet 0 (s.postFault f).2.xlt.seqs f.ctx = (s.postFault f).1)

/-- An invalidation advances GEN, drops what it covers and completes with its last acknowledgement (R122, R123, R124,
R125). -/
def Obligations.InvalidationsAdvanceAndComplete : Prop :=
  (∀ (path : Path) (ctx pasid sl pages : Nat) (s : State), s.isReady = true → pathOk path = true → contextOk ctx = true →
    pasid < 2 ^ 20 → sl < 256 → pages < 2 ^ 20 → 8 ≤ (s.xlt.invals.filter (fun i => i.seq != retireSeq)).length →
    Leaves (.invDvaRange path ctx pages) s (s.setFld .XLT_STATUS_INV_FULL 0 1) ∧
    Leaves (.invHvaRange path pasid pages) s (s.setFld .XLT_STATUS_INV_FULL 0 1) ∧
    Leaves (.invContext path ctx) s (s.setFld .XLT_STATUS_INV_FULL 0 1) ∧
    Leaves (.invSlice path sl) s (s.setFld .XLT_STATUS_INV_FULL 0 1)) ∧
  (∀ (path : Path) (ctx pasid sl pages : Nat) (s : State), s.isReady = true → pathOk path = true → contextOk ctx = true →
    pasid < 2 ^ 20 → sl < 256 → pages < 2 ^ 20 →
    Leaves (.invDvaRange path ctx pages) s (s.invalidate 1 ctx 0 0 pages) ∧
    Leaves (.invHvaRange path pasid pages) s (s.invalidate 2 0 pasid 0 pages) ∧
    Leaves (.invContext path ctx) s (s.invalidate 3 ctx 0 0 0) ∧
    Leaves (.invSlice path sl) s (s.invalidate 4 0 0 sl 0)) ∧
  (∀ (s : State) (scope ctx pasid sl pages : Nat), (s.xlt.invals.filter (fun i => i.seq != retireSeq)).length < 8 →
    scope ≠ 2 ∨ s.xlt.migrations = [] →
    (s.invalidate scope ctx pasid sl pages).fld .XLT_INV_SEQ_ISSUED = (s.fld .XLT_INV_SEQ_ISSUED + 1) % 2 ^ 32) ∧
  (∀ (s : State) (ctx : Nat), (s.xlt.invals.filter (fun i => i.seq != retireSeq)).length < 8 →
    (s.invalidate 3 ctx 0 0 0).ctxGen ctx = (s.ctxGen ctx + 1) % 2 ^ 32 ∧
    (∀ k, ∀ e ∈ ((s.invalidate 3 ctx 0 0 0).cluster k).tlb, e.ctx ≠ ctx) ∧
    (∀ e ∈ (s.invalidate 3 ctx 0 0 0).xlt.cache, e.ctx ≠ ctx)) ∧
  (∀ (s : State) (ctx pages k : Nat), (s.xlt.invals.filter (fun i => i.seq != retireSeq)).length < 8 →
    (s.invalidate 1 ctx 0 0 pages).ctxGen ctx = (s.ctxGen ctx + 1) % 2 ^ 32 ∧
    ∀ e ∈ ((s.invalidate 1 ctx 0 0 pages).cluster k).tlb, e.ctx = ctx → 0 < e.size →
      e.va + e.size ≤ getBits 63 12 (s.rd .XLT_INV_ADDR 0) * 4096 ∨
      getBits 63 12 (s.rd .XLT_INV_ADDR 0) * 4096 + (pages + 1) * 4096 ≤ e.va) ∧
  (∀ s : State, (∀ i ∈ s.xlt.invals, i.missing ≠ []) → s.invProgress = s) ∧
  (∀ (s : State) (i : Inval), i ∈ s.xlt.invals → i.missing = [] → i.seq ≠ retireSeq →
    s.invProgress.xlt.invals = s.xlt.invals.filter (fun x => !x.missing.isEmpty) ∧
    bitOf 1 (s.invProgress.rd .IRQ_CAUSE 0x07) = true ∧
    (match (s.xlt.invals.filter (fun x => !x.missing.isEmpty)).filter (fun x => x.seq != retireSeq) with
    | [] => s.invProgress.fld .XLT_INV_SEQ_DONE = s.fld .XLT_INV_SEQ_ISSUED
    | x :: _ => x.seq < 2 ^ 32 → (s.invProgress.fld .XLT_INV_SEQ_DONE + 1) % 2 ^ 32 = x.seq)) ∧
  (∀ (seq n : Nat) (s : State), s.alive = true → n < 139 →
    Leaves (.invAck seq n) s ({ s with xlt := { s.xlt with invals := s.xlt.invals.map (fun i =>
      if i.seq = seq ∧ ackReady s i n then { i with missing := i.missing.filter (· ≠ n) } else i) } } : State).invProgress)

/-- RETRY and KILL end the fault they name, a stale one is ERROR 0x0712, and the fault ring and the cache flush go on
(R113, R131, R132, R133). -/
def Obligations.FaultResolvesRingAndCacheFlush : Prop :=
  (∀ (path : Path) (ctx seq : Nat) (f : OutFault) (s : State), s.isReady = true → pathOk path = true →
    contextOk ctx = true → u32Ok seq = true → s.xlt.faults.find? (fun x => x.ctx == ctx && x.seq == seq) = some f →
    Leaves (.retry path ctx seq) s
      (let u : State := { s with xlt := { s.xlt with faults := eraseFirst (fun x => x == f) s.xlt.faults } }
      match f.core with
      | some c => (u.unparkTile c f.ctx).pumpEngines
      | none => (u.retryCmd f.queue).pumpDrover) ∧
    Leaves (.kill path ctx seq) s
      (let u : State := { s with xlt := { s.xlt with faults := eraseFirst (fun x => x == f) s.xlt.faults } }
      match f.core with
      | some c => (u.killParked c f.ctx f.code).pumpEngines
      | none => (u.killCmd f.queue f.code).pumpDrover)) ∧
  (∀ (path : Path) (ctx seq : Nat) (s : State), s.isReady = true → pathOk path = true → contextOk ctx = true →
    u32Ok seq = true → s.xlt.faults.find? (fun x => x.ctx == ctx && x.seq == seq) = none →
    Leaves (.retry path ctx seq) s (s.err 0x0712 (s.ctxSlice ctx) (word (ctx + seq * 2 ^ 32))) ∧
    Leaves (.kill path ctx seq) s (s.err 0x0712 (s.ctxSlice ctx) (word (ctx + seq * 2 ^ 32)))) ∧
  (∀ (path : Path) (index : Nat) (s : State), s.isReady = true → pathOk path = true → index < 65536 →
    Leaves (.faultRingTail path index) s (s.setFld .XLT_FR_TAIL_INDEX 0 index).pumpFaults) ∧
  (∀ s : State, s.alive = true → 0 < s.xlt.batch →
    Leaves .faultBatchTimer s ((s.advanceTo (s.xlt.batchAt + 10000)).setCause 0x07 0)) ∧
  (∀ (path : Path) (s : State), s.isReady = true → pathOk path = true →
    Leaves (.cacheFlush path) s (s.setFld .XLT_CTL_CACHE_FLUSH 0 1)) ∧
  (∀ s : State, s.alive = true → s.fld .XLT_CTL_CACHE_FLUSH = 1 →
    Leaves .cacheFlushDone s (({ s with xlt := { s.xlt with cache := [] } } : State).setFld .XLT_CTL_CACHE_FLUSH 0 0))

/-- A migration's compare-and-swap ends it, new extents take effect, and host reads end at their uses (R121, R135, R136,
R299, R426). -/
def Obligations.PageMigrationAndHostReadsEnd : Prop :=
  (∀ (core : Nat) (r : CasResult) (m : Migration) (s : State), s.alive = true → core < 612 →
    s.xlt.migrations.find? (fun m => m.core == core && decide (m.stage = .swap) && !m.device) = some m →
    Leaves (.migrationCasResult core r) s
      (({ s with hif := { s.hif with
        reads := s.hif.reads.filter (fun e => decide (e.2.1 ≠ DmaUse.migrationCas m.id)) } } : State).finishMigration m.id
          r).pumpEngines) ∧
  (∀ (id : Nat) (m : Migration) (s : State), s.migrationOf id = some m → m.stage = .swap →
    (let u := (s.dropMigration m).cacheFill m.acc.ctx (getBits 47 0 m.acc.req.addr) 4 (migratedLeaf m);
      s.finishMigration id .swapped = (u.postFault (u.accessFault (u.stationOf m.core) m.acc 0x0711 0
        (word (m.page.getD (0, 0)).1))).2.unparkTile m.core m.acc.ctx) ∧
    s.finishMigration id .differs = s.migrationFault m 0x070D ∧
    s.finishMigration id .unsupported = s.migrationFault m 0x070F) ∧
  (∀ (core pos : Nat) (t : Tile) (s : State), s.alive = true → core < 612 → s.tileOf core = some t →
    Leaves (.extentRetranslate core pos) s (s.dmaTranslate t.queue pos).pumpEngines) ∧
  (∀ (tag q n : Nat) (data : List Word) (s : State), tag < 1024 → s.alive = true →
    s.hif.reads.find? (fun e => e.1 == tag) = some (tag, .ringFetch q, n) → (s.queueRun q).fetchTag = some tag →
    data.length = (n + 1) / 2 → s.qState q = 2 →
    Leaves (.hostDmaCompletion tag .success data) s
      (({ s with hif := { s.hif with reads := mapErase s.hif.reads tag } } : State).modQueueRun q (fun r =>
        { r with fetchTag := none, fetched := some data })).pumpEngines) ∧
  (∀ (tag q n : Nat) (st : DmaStatus) (s : State), tag < 1024 → s.alive = true → st ≠ .success →
    s.hif.reads.find? (fun e => e.1 == tag) = some (tag, .ringFetch q, n) → (s.queueRun q).fetchTag = some tag →
    Leaves (.hostDmaCompletion tag st []) s
      (({ s with hif := { s.hif with reads := mapErase s.hif.reads tag } } : State).ringFailed q).pumpEngines) ∧
  (∀ (tag : Nat) (st : DmaStatus) (data : List Word) (s : State), s.alive = true → tag < 1024 → s.EnginesIdle →
    s.hif.reads.find? (fun e => e.1 == tag) = none → Leaves (.hostDmaCompletion tag st data) s s) ∧
  (∀ (q : Nat) (s : State), queueOk q = true → s.alive = true → (s.queueRun q).fetchTag.isSome = true →
    Leaves (.ringDmaTimeout q) s ((({ s with hif := { s.hif with
      reads := s.hif.reads.filter (fun e => decide (e.2.1 ≠ .ringFetch q)) } } : State).advance 100000).ringFailed q))

/-- A memory station accepts the oldest operation of a line, and its MAC verdict passes, rereads, or fails it (R160, R161,
R166, R169, R170, R171, R179, R183, R398). -/
def Obligations.MemoryOperationsAreAcceptedAndJudged : Prop :=
  (∀ (port op slot : Nat) (o : MemOp) (s : State), s.alive = true → port < 72 → s.stationOn .memory port = true →
    (s.memSt port).waiting.find? (fun x => x.id == op) = some o → (s.memSt port).freeSlot = some slot →
    (∀ x ∈ (s.memSt port).waiting, x.line = o.line → op ≤ x.id) →
    Leaves (.memoryOpAccept port op) s
      (let o' : MemOp := { o with id := (s.memSt port).nextId, marked := s.mon.marked.contains (domainOf .memory port) }
      let u := s.setMem port { s.memSt port with
        waiting := (s.memSt port).waiting.filter (fun x => x.id ≠ op)
        slots := mapPut (s.memSt port).slots slot o'
        nextId := (s.memSt port).nextId + 1 }
      if o.epoch ≠ (s.memSt port).epoch ∧ o.epoch ≠ (s.memSt port).prevEpoch then u.refuseStaleOp port slot o'
      else if u.keyServes o' then u.runStation port else u.refuseOp port slot 0x0804 o')) ∧
  (∀ (m : MemStation) (slot : Nat), m.freeSlot = some slot → slot < 256 ∧ ∀ e ∈ m.slots, e.1 ≠ slot) ∧
  (∀ (port tag : Nat) (d : Line) (bad : Bool) (s : State), port < 72 →
    (s.memSt port).port.reads.find? (fun r => r.1 == tag) = none → Leaves (.dramReadReturn port tag d bad) s s) ∧
  (∀ (port tag n : Nat) (d : Line) (bad : Bool) (s u : State), s.alive = true → port < 72 →
    s.readBack port tag = (some n, u) →
    (findRead u port n = none → Leaves (.dramReadReturn port tag d bad) s u) ∧
    (∀ (p slot : Nat) (what : Fetch) (o : MemOp), findRead u port n = some (p, some slot, what) →
      (u.memSt p).op slot = some o → Leaves (.dramReadReturn port tag d bad) s
        (let o' : MemOp := { o with
          cmds := o.cmds.filter (fun c => !(c.1 == port && c.2.1 == n))
          got := o.got ++ [⟨what, d, bad⟩] }
        if o'.cmds = [] then (State.checkNodes p slot 5 (u.setOp p slot o')).runStation p else u.setOp p slot o'))) ∧
  (∀ (port slot : Nat) (o : MemOp) (s : State), s.alive = true → port < 72 → slot < 256 →
    (s.memSt port).op slot = some o → o.due = true → o.cmds = [] →
    Leaves (.macVerdict port slot) s ((s.verdict port slot o).runStation port)) ∧
  (∀ (p slot k seq beat : Nat) (o : MemOp) (s : State), p < 72 → o.origin = .core k seq beat →
    o.kind = .read →
    (o.zero = true → ((s.verdict p slot o).cluster k).verdicts =
      (s.cluster k).verdicts ++ [(seq, if o.marked then .replay else .pass, 0)]) ∧
    (o.zero = false → s.macOk p o = true → o.reread = false → ((s.verdict p slot o).cluster k).verdicts =
      (s.cluster k).verdicts ++ [(seq, if o.marked then .replay else .pass, 0)]) ∧
    (o.zero = false → s.macOk p o = true → o.reread = true →
      ((s.verdict p slot o).cluster k).verdicts = (s.cluster k).verdicts ++ [(seq, .replay, 0)] ∧
      (s.verdict p slot o).fld .MIL_ST_COUNT_REPLAY p = saturate 16 (s.fld .MIL_ST_COUNT_REPLAY p + 1)) ∧
    (o.zero = false → s.macOk p o = false → o.reread = false →
      s.verdict p slot o = s.rereadLine p slot { o with reread := true }) ∧
    (o.zero = false → s.macOk p o = false → o.reread = true →
      ((s.verdict p slot o).cluster k).verdicts = (s.cluster k).verdicts ++ [(seq, .fail, 0x0801)] ∧
      ((s.verdict p slot o).memSt p).op slot = none ∧
      (s.verdict p slot o).fld .MIL_ST_COUNT_MAC_FAIL p = saturate 16 (s.fld .MIL_ST_COUNT_MAC_FAIL p + 1))) ∧
  (∀ (port line : Nat) (b : LineBuf) (s : State), s.alive = true → port < 72 →
    (s.memSt port).buf.find? (fun x => x.line == line) = some b →
    Leaves (.atomicBufferIdle port line) s (((s.advance 1000).flushBuf port b).runStation port))

/-- A written line is stored without its zero sectors under its next version, and decrypts to itself (R144, R146, R149,
R150, R154, R156, R167). -/
def Obligations.LinesRoundTripUnderTheirVersion : Prop :=
  (∀ (d : Line) (i : Nat), i < 4 → ((zmapOf d).testBit i = true ↔ lineGet d (32 * i) 32 = 0)) ∧
  (∀ (z : Nat) (d : Line) (i : Nat), i < 4 →
    lineGet (clearSectors z d) (32 * i) 32 = (if z.testBit i then 0 else lineGet d (32 * i) 32)) ∧
  (∀ d ks : Line, clearSectors (zmapOf d) (clearSectors (zmapOf d) (d ^^^ ks) ^^^ ks) = d) ∧
  (∀ (s : State) (p line keyid ctx core : Nat) (d : Line) (n : Node), (s.memSt p).node 1 (line / 64) = some n →
    n.minors.getD (line % 64) 0 < 126 → (∀ e ∈ (s.memSt p).tagCache, e.1 ≠ line / 16) → keyid ≠ 0 → d ≠ 0 →
    (s.memSt p).port.unsent = [] → (s.memSt p).port.cmds.length < 64 →
    ((s.memSt p).port.cmds.map (·.2)).sum + beatsOf (15 - zmapOf d) ≤ 128 →
    (s.writeLine p line keyid ctx core d).out = s.out ++ [.memCmd p true line (15 - zmapOf d) 0 (clearSectors (zmapOf d)
      (d ^^^ keystream (s.millKey keyid) keyid p line n.major (n.minors.getD (line % 64) 0 + 1)))] ∧
    ((s.writeLine p line keyid ctx core d).memSt p).version line 0 = (n.major, n.minors.getD (line % 64) 0 + 1) ∧
    (∀ l, l / 64 = line / 64 → l ≠ line →
      ((s.writeLine p line keyid ctx core d).memSt p).version l 0 = (n.major, n.minors.getD (l % 64) 0)) ∧
    ((s.writeLine p line keyid ctx core d).memSt p).patches = ((s.memSt p).patches.filter (fun x => match x.kind with
      | .recrypt l _ _ _ _ => l != line
      | _ => true)) ++ [⟨p, .tagWord line (word (lineMac (s.millKey keyid) keyid p line n.major (n.minors.getD (line % 64) 0 + 1) (zmapOf d)
        (clearSectors (zmapOf d) (d ^^^ keystream (s.millKey keyid) keyid p line n.major
          (n.minors.getD (line % 64) 0 + 1))) * 16 + zmapOf d)), [], [], false⟩] ∧
    (∀ q, q ≠ p → (s.writeLine p line keyid ctx core d).memSt q = s.memSt q)) ∧
  (∀ (s : State) (p line keyid : Nat) (n : Node), (s.memSt p).node 1 (line / 64) = some n →
    n.minors.getD (line % 64) 0 = 126 →
    ((s.bumpLine p line keyid).memSt p).version line 0 = ((n.major + 1) % 2 ^ 64, 1) ∧
    ∀ l, l / 64 = line / 64 → l ≠ line → ((s.bumpLine p line keyid).memSt p).version l 0 = ((n.major + 1) % 2 ^ 64,
      if 1 ≤ n.minors.getD (l % 64) 0 ∧ n.minors.getD (l % 64) 0 ≤ 126 then 1 else n.minors.getD (l % 64) 0))

/-- Scrubs end granule by granule, the pound is cleared where the manager may, and raw access keeps out of slices'
granules (R159, R177, R180, R181, R369). -/
def Obligations.ScrubsPoundAndRawAccess : Prop :=
  (∀ (g : Nat) (s : State), s.alive = true → g < 262144 → (∃ x ∈ s.comp.scrubbing, x.first ≤ g ∧ g ≤ x.last) →
    (∀ x ∈ s.moot.slots, x.state ≠ .pendingScrub) →
    Answers (.scrubDone g) s (fun t => t.out = s.out ++ [.scrub g] ∧ t.moot = s.moot ∧
      (∀ (r : Reg) (i : Nat), regIdxOk r i = true → r ≠ .MON_ENERGY_TOTAL → t.rd r i = s.rd r i) ∧
      ∀ h, (∃ y ∈ t.comp.scrubbing, y.first ≤ h ∧ h ≤ y.last) ↔
        h ≠ g ∧ ∃ y ∈ s.comp.scrubbing, y.first ≤ h ∧ h ≤ y.last)) ∧
  (∀ (path : Path) (port level line : Nat) (s : State), s.isReady = true → pathOk path = true → port < 128 → level < 8 →
    line < 2 ^ 27 → (s.fld .CTR_POUND_STATUS_BUSY = 1 ∨ 6 ≤ level) → Leaves (.poundClear path port level line) s s) ∧
  (∀ (path : Path) (port level line : Nat) (s : State), s.isReady = true → pathOk path = true → port < 128 → level < 6 →
    line < 2 ^ 27 → s.fld .CTR_POUND_STATUS_BUSY = 0 →
    (71 < port ∨ 2 ^ 26 ≤ line ∨ ∃ o ∈ s.poundOwners port level line, o.tag ≠ 0 ∧ o.tag ≠ 0xFF) →
    Leaves (.poundClear path port level line) s
      (((s.setFld .CTR_POUND_STATUS_REASON 0 0x0905).err 0x0905 0 (word line)).setCause 0x09 0)) ∧
  (∀ (path : Path) (port level line : Nat) (s : State), s.isReady = true → pathOk path = true → port ≤ 71 → level < 6 →
    line < 2 ^ 26 → s.fld .CTR_POUND_STATUS_BUSY = 0 →
    (∀ o ∈ s.poundOwners port level line, o.tag = 0 ∨ o.tag = 0xFF) →
    Leaves (.poundClear path port level line) s
      ((s.wr .CTR_POUND_CLEAR 0 (setBits 63 57 port (setBits 56 54 level (setBits 26 0 line 0)))).setFld
        .CTR_POUND_STATUS_BUSY 0 1)) ∧
  (∀ s : State, s.alive = true → s.fld .CTR_POUND_STATUS_BUSY = 1 → Answers .poundClearDone s (fun t =>
    t.fld .CTR_POUND_STATUS_BUSY = 0 ∧ t.fld .CTR_POUND_STATUS_REASON = 0 ∧
    t.fld .CTR_POUND_STATUS_DONE = (s.fld .CTR_POUND_STATUS_DONE + 1) % 2 ^ 32 ∧
    bitOf 0 (t.rd .IRQ_CAUSE 0x09) = true ∧
    t.out = s.out ++ [.scrubLines (s.fld .CTR_POUND_CLEAR_PORT) (s.fld .CTR_POUND_CLEAR_LEVEL)
      (s.fld .CTR_POUND_CLEAR_LINE)])) ∧
  (∀ (jtag : Bool) (pa : Nat) (d : Line) (be : ByteMask) (s : State), pa < 2 ^ 56 → s.rawAllowed jtag = false →
    Leaves (.rawRead jtag pa) s s ∧ Leaves (.rawWrite jtag pa d be) s s) ∧
  (∀ (jtag : Bool) (pa : Nat) (d : Line) (be : ByteMask) (s : State), pa < 2 ^ 56 → s.rawAllowed jtag = true →
    s.rawBlocked pa = true →
    Leaves (.rawRead jtag pa) s (s.rawRefuse jtag pa) ∧ Leaves (.rawWrite jtag pa d be) s (s.rawRefuse jtag pa)) ∧
  (∀ (jtag : Bool) (pa p l : Nat) (d : Line) (be : ByteMask) (s : State), pa < 2 ^ 56 → s.rawAllowed jtag = true →
    s.rawBlocked pa = false → s.place pa = some (p, l) → ((s.ownerOf pa).tag = 0 ∨ (s.ownerOf pa).tag = 0xFF) →
    Leaves (.rawRead jtag pa) s
      (s.present p (MemOp.fresh s.epoch (.raw jtag pa) 0x3FF (s.ownerOf pa).tag 8192 0 l (pa / 128) .rawRead 0 0)) ∧
    Leaves (.rawWrite jtag pa d be) s
      (s.filterWrite p (MemOp.fresh s.epoch (.raw jtag pa) 0x3FF (s.ownerOf pa).tag 8192 0 l (pa / 128) .write d be) none)) ∧
  (∀ (jtag : Bool) (pa p l : Nat) (d : Line) (be : ByteMask) (s : State), pa < 2 ^ 56 → s.rawAllowed jtag = true →
    s.rawBlocked pa = false → s.place pa = some (p, l) → (s.ownerOf pa).tag ≠ 0 → (s.ownerOf pa).tag ≠ 0xFF →
    Leaves (.rawRead jtag pa) s (if s.viewCovers pa then
        s.present p (MemOp.fresh s.epoch (.raw jtag pa) 0x3FF (s.ownerOf pa).tag 8192 0 l (pa / 128) .rawRead 0 0)
      else s.rawRefuse jtag pa) ∧
    Leaves (.rawWrite jtag pa d be) s (s.rawRefuse jtag pa))

/-- A KeyID retires to EMPTY once nothing carries it, or is refused by R184; each CNT_CLEAR zeroes its counters alone
(R56, R171, R173, R182, R183, R184, R195, R222, R253). -/
def Obligations.KeyIdsRetireAndCountersClear : Prop :=
  (∀ (path : Path) (s : State), s.isReady = true → pathOk path = true → Leaves (.keyidRetire path 0) s s) ∧
  (∀ (path : Path) (k : Nat) (s : State), s.isReady = true → pathOk path = true → 0 < k → k < 1024 →
    s.retireRefused k = true → Answers (.keyidRetire path k) s (fun t =>
      t.fld .MIL_RETIRE_STATUS_REASON = 0x0807 ∧ bitOf 0 (t.rd .IRQ_CAUSE 0x08) = true ∧
      t.fld .MIL_RETIRE_STATUS_BUSY = s.fld .MIL_RETIRE_STATUS_BUSY ∧
      t.fld .MIL_RETIRE_STATUS_KEYID = k ∧
      (∀ j, j < 1024 → keyStateOf t.regs j = keyStateOf s.regs j) ∧ t.well = s.well ∧ t.clusters = s.clusters)) ∧
  (∀ (path : Path) (k : Nat) (s : State), s.isReady = true → pathOk path = true → 0 < k → k < 1024 →
    s.retireRefused k = false → Leaves (.keyidRetire path k) s
      (let u := (((s.setKeyState k 2).setFld .MIL_RETIRE_STATUS_KEYID 0 k).setFld .MIL_RETIRE_STATUS_BUSY 0 1).setFld
        .MIL_RETIRE_STATUS_REASON 0 0
      ({ u with well := { u.well with retiring := k } } : State).dropKey k)) ∧
  (∀ (s : State) (k c : Nat), ∀ e ∈ ((s.dropKey k).cluster c).tlb, e.leafKey ≠ k ∧ e.keyid ≠ k) ∧
  (∀ s : State, s.fld .MIL_RETIRE_STATUS_BUSY = 1 → s.keyInUse s.well.retiring = true →
    Leaves .retirementDone s s) ∧
  (∀ s : State, s.alive = true → s.fld .MIL_RETIRE_STATUS_BUSY = 1 → s.well.retiring < 1024 →
    s.keyInUse s.well.retiring = false →
    Answers .retirementDone s (fun t =>
      t.millKey s.well.retiring = 0 ∧ keyStateOf t.regs s.well.retiring = 0 ∧
      (∀ j, j < 1024 → j ≠ s.well.retiring →
        keyStateOf t.regs j = keyStateOf s.regs j ∧ t.millKey j = s.millKey j) ∧
      t.fld .MIL_RETIRE_STATUS_BUSY = 0 ∧ t.fld .MIL_RETIRE_STATUS_REASON = 0 ∧
      t.fld .MIL_RETIRE_STATUS_DONE = (s.fld .MIL_RETIRE_STATUS_DONE + 1) % 2 ^ 32 ∧
      bitOf 0 (t.rd .IRQ_CAUSE 0x08) = true)) ∧
  (∀ (path : Path) (s : State) (c : Instr) (rs : List Reg), s.isReady = true → pathOk path = true →
    (c, rs) ∈ [(.hdgCntClear path, [.HDG_COUNT]), (.milCntClear path, [.MIL_ST_COUNT, .MIL_ST_SKIPPED]),
      (.ctrCntClear path, [.CTR_ST_COUNT]),
      (.drvCntClear path, [.DRV_SLICE_BYTES, .DRV_SLICE_ROUTES, .DRV_SLICE_SKIP, .DRV_ST_COUNT]),
      (.schCntClear path, [.SCH_SLICE_COUNT, .SCH_RES_USE]), (.cohCntClear path, [.COH_FS_COUNT])] →
    Answers c s (fun t => t = { s with regs := t.regs, pins := t.pins } ∧
      ∀ (r : Reg) (i : Nat), regIdxOk r i = true → t.rd r i = if r ∈ rs then 0 else s.rd r i))

/-- A tile ends at its time or is killed at 4 x DECL, a core runs one tile, and rotating pointers choose fairly (R162,
R213, R219, R220, R221, R223, R228, R229, R294). -/
def Obligations.TilesEndAndAreKilledByTheirDeclaredTime : Prop :=
  (∀ (core ns : Nat) (t : Tile) (s : State), s.alive = true → core < 612 → s.runningTile core = some t →
    ns ≤ 4 * declNs t.decl →
    (s.copying t.queue = false →
      Leaves (.tileEnd core ns) s ((s.advanceTo (t.startAt + ns)).endTile core).pumpEngines) ∧
    (s.copying t.queue = true → Leaves (.tileEnd core ns) s s)) ∧
  (∀ (core ns : Nat) (t : Tile) (s : State), s.alive = true → core < 612 → s.runningTile core = some t →
    4 * declNs t.decl < ns →
    Leaves (.tileEnd core ns) s ((s.advanceTo (t.startAt + 4 * declNs t.decl)).killTile core).pumpEngines) ∧
  (∀ (core : Nat) (t : Tile) (s : State), s.alive = true → core < 612 → s.runningTile core = some t →
    Leaves (.tileWatchdog core) s ((s.advanceTo (t.startAt + 4 * declNs t.decl)).killTile core).pumpEngines) ∧
  (∀ (core : Nat) (t : Tile) (s : State), s.alive = true → core < 612 → s.runningTile core = some t →
    Leaves (.tileKilledAtDecl core) s
      (if s.ctxState t.ctx = 4 then ((s.advanceTo (t.startAt + declNs t.decl)).killTile core).pumpEngines else s)) ∧
  (∀ (s : State) (core : Nat) (t : Tile), s.tileOf core = some t →
    (∃ x ∈ (s.cluster (s.stationOf core)).tokens, x.core = core ∧ x.txn < 4096) →
    s.endTile core = s.modTile core (fun t => { t with ended := true, ranNs := s.clock.gtb - t.startAt })) ∧
  (∀ (last x : Nat) (l : List Nat), rotate last l = some x ↔
    x ∈ l ∧ ((last < x ∧ ∀ y ∈ l, last < y → x ≤ y) ∨ (x ≤ last ∧ ∀ y ∈ l, y ≤ last ∧ x ≤ y))) ∧
  (∀ (s : State) (core : Nat), (∃ t, s.tileOf core = some t) ∨ s.coreDeparting core = true ∨ s.coreDown core = true →
    s.schedule core = s) ∧
  (∀ (s : State) (core slot : Nat), slot ∈ s.candidates core → ∃ r : Resident, (slot, r) ∈ s.sched.residents ∧
    cfgCoreTag s.regs core = r.slice ∧ r.state ≠ .preloading ∧ r.state ≠ .suspended ∧ r.leaving = false ∧
    s.fld .TEN_SLICE_STATE_STATE r.slice ≤ 1) ∧
  (∀ (slot : Nat) (r : Resident) (s : State), s.alive = true → slot < 48 →
    s.sched.residents.find? (fun e => e.1 == slot) = some (slot, r) → r.state = .preloading →
    (s.preloadOver r = true → Leaves (.preloadDone slot) s (s.endPreload r)) ∧
    (s.preloadOver r = false → Leaves (.preloadDone slot) s s)) ∧
  (∀ (s : State) (r : Resident), (∀ p ∈ s.sched.preloads, p.ctx = r.ctx → p.failed = none) →
    (r.leaving = false → s.endPreload r = (s.dropPreloads r.ctx).residentReady r.ctx) ∧
    (r.leaving = true → s.endPreload r = (s.dropPreloads r.ctx).leaveStep r.ctx)) ∧
  (∀ (s : State) (r : Resident) (p : Preload) (out : Nat × Nat × Word), out.1 = 0x0801 →
    s.preloadFails r p out = ((s.modResident r.ctx (fun r => { r with state := .suspended })).setCause 0x0B 1).raise .error
      0x0801 r.slice 0x0B (word r.ctx)) ∧
  (∀ (slot : Nat) (r : Resident) (s : State), s.alive = true → slot < 48 → s.sched.residents.find? (fun e => e.1 == slot) = some (slot, r) →
    r.zeroing = true → Answers (.shareZeroDone slot) s (fun t => t.ctxState r.ctx ≠ 3 ∧
      (∀ e, e ∈ t.sched.residents ↔ e ∈ s.sched.residents ∧ e.2.ctx ≠ r.ctx) ∧
      (∀ c, c ≠ r.ctx → t.ctxState c = s.ctxState c)))

/-- A plan places every route in a slot of its own within the experts' capacity and R_max, and loses none (R191, R192,
R194). -/
def Obligations.DroverPlansPlaceWithinCapacity : Prop :=
  ∀ (ws : List Word) (routing : List (List Word)) (experts : List ExpertWords),
    (planRoutes ws routing experts).routes.length ≤ rMax ws ∧
    (planRoutes ws routing experts).routes.length + (planRoutes ws routing experts).dropped = dTokens ws * dTopk ws ∧
    (∀ e, ((planRoutes ws routing experts).routes.filter (fun r => r.expert == e && r.kind != 1)).map Route.slot =
        List.range ((planRoutes ws routing experts).routes.filter (fun r => r.expert == e && r.kind != 1)).length ∧
      ((planRoutes ws routing experts).routes.filter (fun r => r.expert == e && r.kind != 1)).length ≤
        eCap (experts.getD e []) ∧
      ((planRoutes ws routing experts).routes.filter (fun r => r.expert == e && r.kind == 1)).map Route.slot =
        List.range ((planRoutes ws routing experts).routes.filter (fun r => r.expert == e && r.kind == 1)).length ∧
      ((planRoutes ws routing experts).routes.filter (fun r => r.expert == e && r.kind == 1)).length ≤
        eSpillCap (experts.getD e [])) ∧
    (∀ r ∈ (planRoutes ws routing experts).routes, r.token < dTokens ws ∧ r.rank < dTopk ws ∧ (dPolicy ws ≠ 1 → r.kind ≠ 1))

/-- DISPATCH queues for the planner, COMBINE meets its journal, and a journal ends by expiry or loss with its code (R186,
R190, R194, R197, R203, R204, R205, R208, R211). -/
def Obligations.DroverCommandsAndJournals : Prop :=
  (∀ (q : Nat) (w ws : CmdWords) (s : State), cmdOk 4 q w = true → s.fetchOk q w = true →
    cfgPasidOk s.regs (s.ctxPasid (s.qCtx q)) (s.qSlice q) = true → s.convertAll (s.qCtx q) w = .inr ws →
    s.cmdRefusal q ws (s.queueRun q).pinBad = 0 →
    Leaves (.dispatch q w) s (((s.takeCmd q ws).droverRuns q).inRange q ws (fun u => u.takeDispatch q ws))) ∧
  (∀ (s : State) (q : Nat) (ws : CmdWords),
    (s.dispatchCode q ws ≠ 0 → s.takeDispatch q ws = s.failDrover q (s.dispatchCode q ws) 0 0xFFFF 0xFFFF) ∧
    (s.dispatchCode q ws = 0 → s.tableDenied q ws = 0 → s.takeDispatch q ws = s.readTables q ws)) ∧
  (∀ (q : Nat) (w ws : CmdWords) (s : State), cmdOk 5 q w = true → s.fetchOk q w = true →
    cfgPasidOk s.regs (s.ctxPasid (s.qCtx q)) (s.qSlice q) = true → s.convertAll (s.qCtx q) w = .inr ws →
    s.cmdRefusal q ws (s.queueRun q).pinBad = 0 →
    Leaves (.combine q w) s
      (let u := (s.takeCmd q ws).droverRuns q
      if u.pdOn 22 then u.tryCombine q else u.failDrover q 0x0A09 0 0xFFFF 0xFFFF)) ∧
  (∀ (q : Nat) (routing : List (List Word)) (s : State), queueOk q = true → s.isReady = true → q ∈ s.drv.planQ →
    cmdOpcode (s.runningWords q) = 4 → tableShape (s.runningWords q) routing = true →
    Leaves (.planDone q routing) s (s.planDone q routing).pumpEngines) ∧
  (∀ (q : Nat) (routing : List (List Word)) (s : State),
    (∀ bs, s.engineResult (dExpMap (s.runningWords q)) (32 * dExperts (s.runningWords q)) (s.mapReads q) = some (.inr bs) →
      s.planDone q routing = s.plan q routing (mapEntries (dExperts (s.runningWords q)) bs)) ∧
    (s.engineResult (dExpMap (s.runningWords q)) (32 * dExperts (s.runningWords q)) (s.mapReads q) = none →
      s.planDone q routing = s)) ∧
  (∀ (s : State) (q : Nat) (routing : List (List Word)) (experts : List ExpertWords),
    (∃ j, s.journal (s.qCtx q) (dJtag (s.runningWords q)) = some j) →
    s.plan q routing experts = s.failDrover q 0x0A0B 0 0xFFFF 0xFFFF) ∧
  (∀ (ctx jtag index q code : Nat) (row : List Byte) (j : Journal) (s : State), s.alive = true → contextOk ctx = true →
    jtag < 65536 → rspCodeOk code = true → s.journal ctx jtag = some j → j.queue = some q → (index, true) ∉ j.resend →
    Leaves (.droverTransferRsp ctx jtag index row code) s (s.phaseRsp q j index row code).pumpDrover) ∧
  (∀ (ctx jtag : Nat) (j : Journal) (s : State), s.alive = true → contextOk ctx = true → jtag < 65536 →
    s.journal ctx jtag = some j → j.state = .dispatched → j.frozenAt = none →
    Leaves (.journalExpired ctx jtag) s (((s.advanceTo (j.created + j.ttlNs)).freeJournal ctx jtag).drvErr 0x0A0A j.slice jtag
      ctx 0 0xFFFF 0xFFFF).pumpDrover) ∧
  (∀ (ctx jtag : Nat) (j : Journal) (s : State), s.alive = true → contextOk ctx = true → jtag < 65536 →
    s.journal ctx jtag = some j →
    Leaves (.journalLost ctx jtag) s (match j.queue with
      | some q => (s.failDrover q 0x0A05 0 0xFFFF 0xFFFF).pumpDrover
      | none =>
        let u := (s.freeJournal ctx jtag).drvErr 0x0A05 j.slice jtag ctx 0 0xFFFF 0xFFFF
        ({ u with drv := { u.drv with lost := u.drv.lost ++ [(ctx, jtag)] } } : State).pumpDrover)) ∧
  (∀ (s : State) (ctx jtag : Nat), (s.freeJournal ctx jtag).journal ctx jtag = none) ∧
  (∀ (s : State) (code sl jtag ctx sub token expert : Nat), code / 256 = 0x0A → code < 65536 →
    getBits 63 48 ((s.drvErr code sl jtag ctx sub token expert).rd .DRV_LAST_ERR 0) = code ∧
    getBits 47 40 ((s.drvErr code sl jtag ctx sub token expert).rd .DRV_LAST_ERR 0) = sl % 256 ∧
    getBits 31 16 ((s.drvErr code sl jtag ctx sub token expert).rd .DRV_LAST_ERR_INFO 0) = token % 65536 ∧
    bitOf 0 ((s.drvErr code sl jtag ctx sub token expert).rd .IRQ_CAUSE 0x0A) = true)

/-- Each OBJ_CMD command makes its object's state change and answers RESULT 0, or changes no object and answers a code
(R266, R272, R273, R274, R275, R286, R288, R448). -/
def Obligations.ObjectCommandsChangeStatesOrAnswer020B : Prop :=
  (∀ (path : Path) (kind index slice code op : Nat) (fences : List Nat) (s : State), s.isReady = true → pathOk path = true →
    kind < 16 → u32Ok index = true → slice < 256 → code < 65536 → fences.all u16Ok = true →
    (op = 0 ∨ (7 ≤ op ∧ op ≤ 15)) → s.fld .OBJ_CTL_ENABLE = 0 →
    ∀ c ∈ [Instr.objCreate path kind index, .objActivate path kind index, .objDeactivate path kind index,
      .objDestroy path kind index slice fences, .objSignal path kind index code, .objReset path kind index,
      .objCmdOpInvalid path op], Leaves c s s) ∧
  (∀ (path : Path) (kind index slice code : Nat) (fences : List Nat) (s : State), s.isReady = true → pathOk path = true →
    kind < 16 → u32Ok index = true → slice < 256 → code < 65536 → fences.all u16Ok = true → s.fld .OBJ_CTL_ENABLE = 1 →
    s.objBusy path = false → (kind ≤ 4 → index < kindCount kind) →
    Leaves (.objCreate path kind index) s (match s.objCreate kind index with
      | .inl c => s.objDone path c
      | .inr t => t.objDone path 0) ∧
    Leaves (.objActivate path kind index) s (match s.objActivate kind index with
      | .inl c => s.objDone path c
      | .inr t => t.objDone path 0) ∧
    Leaves (.objDeactivate path kind index) s (match s.objDeactivate kind index with
      | .inl c => s.objDone path c
      | .inr t => t.objDone path 0) ∧
    Leaves (.objDestroy path kind index slice fences) s (match s.objDestroy kind index slice fences with
      | .inl c => s.objDone path c
      | .inr t => t.objDone path 0) ∧
    Leaves (.objSignal path kind index code) s
      (if kind = 3 ∧ s.fLife index = .live then (s.signalFence index code).objDone path 0 else s.objDone path 0x020B) ∧
    Leaves (.objReset path kind index) s
      (if kind = 3 ∧ s.fLife index = .live then (s.resetFence index).objDone path 0 else s.objDone path 0x020B)) ∧
  (∀ (path : Path) (kind index slice op : Nat) (fences : List Nat) (s : State), s.isReady = true → pathOk path = true →
    u32Ok index = true → slice < 256 → fences.all u16Ok = true → s.fld .OBJ_CTL_ENABLE = 1 →
    s.objBusy path = false → (op = 0 ∨ (7 ≤ op ∧ op ≤ 15)) → kind ≤ 4 → kindCount kind ≤ index →
    Leaves (.objCreate path kind index) s (s.objDone path 0x020B) ∧
    Leaves (.objDestroy path kind index slice fences) s (s.objDone path 0x020B) ∧
    Leaves (.objCmdOpInvalid path op) s (s.objDone path 0x020B)) ∧
  (∀ (path : Path) (kind index slice code op : Nat) (fences : List Nat) (s : State), s.isReady = true → pathOk path = true →
    kind < 16 → u32Ok index = true → slice < 256 → code < 65536 → fences.all u16Ok = true →
    (op = 0 ∨ (7 ≤ op ∧ op ≤ 15)) → s.fld .OBJ_CTL_ENABLE = 1 → s.objBusy path = true →
    ∀ c ∈ [Instr.objCreate path kind index, .objActivate path kind index, .objDeactivate path kind index,
      .objDestroy path kind index slice fences, .objSignal path kind index code, .objReset path kind index,
      .objCmdOpInvalid path op], Leaves c s (s.setFld .OBJ_CMD_STATUS_REJECTED 0 1)) ∧
  (∀ (s : State) (path : Path) (code : Nat), code < 65536 → (s.objDone path code).fld .OBJ_CMD_STATUS_RESULT = code ∧
    (s.objDone path code).fld .OBJ_CMD_STATUS_DONE = (s.fld .OBJ_CMD_STATUS_DONE + 1) % 2 ^ 32 ∧
    bitOf 1 ((s.objDone path code).rd .IRQ_CAUSE 0x02) = true ∧ (s.objDone path code).obj = { s.obj with accepted := some (path, s.clock.gtb) } ∧ (s.objDone path code).hif = s.hif ∧
    (s.objDone path code).sched = s.sched) ∧
  (∀ (s : State) (c : Nat), s.sliceOk (s.ctxSlice c) = true →
    (s.ctxState c = 1 → cfgPasidOk s.regs (s.ctxPasid c) (s.ctxSlice c) = false → s.objCreate 1 c = .inl 0x0603) ∧
    (s.ctxState c = 1 → cfgPasidOk s.regs (s.ctxPasid c) (s.ctxSlice c) = true →
      ∃ t, s.objCreate 1 c = .inr t ∧ t.ctxState c = 2 ∧ (∀ x, x ≠ c → t.ctxState x = s.ctxState x) ∧
        ∀ h g, h < 8 → g < 65536 → mapGet 0 t.obj.heaps ((c * 8 + h) * 65536 + g) = 0) ∧
    (s.ctxState c ≠ 1 → s.objCreate 1 c = .inl 0x020B)) ∧
  (∀ (s : State) (q : Nat), s.sliceOk (s.qSlice q) = true → s.qState q = 1 → (s.ctxState (s.qCtx q) = 2 ∨
    s.ctxState (s.qCtx q) = 3) → 6 ≤ s.sqLog2 q → s.sqLog2 q ≤ 16 → 6 ≤ s.cqLog2 q → s.cqLog2 q ≤ 16 →
    s.objCreate 2 q = .inr (s.setQState q 2) ∧ (s.setQState q 2).qState q = 2) ∧
  (∀ (s : State) (f : Nat), s.sliceOk (s.fSlice f) = true → s.fLife f = .defined →
    ∃ t, s.objCreate 3 f = .inr t ∧ t.fLife f = .live ∧ (∀ x, x ≠ f → t.fLife x = s.fLife x)) ∧
  (∀ (s : State) (o : Nat), s.sliceOk (s.mSlice o) = true → s.mLife o = .defined →
    s.mBase o + (s.mPagesM1 o + 1) * 4096 ≤ 2 ^ 48 →
    ∃ t, s.objCreate 4 o = .inr t ∧ t.mLife o = .live ∧ t.mState o = 1 ∧ (∀ x, x ≠ o → t.mLife x = s.mLife x)) ∧
  (∀ (s : State) (q : Nat), s.qState q ≠ 3 → s.qState q ≠ 4 → s.objActivate 2 q = .inl 0x020B) ∧
  (∀ (s : State) (q : Nat), s.qState q = 2 → (s.queueRun q).running = none →
    ∃ t, s.objDeactivate 2 q = .inr t ∧ t.qState q = 3) ∧
  (∀ (s : State) (f code : Nat), code < 65536 → s.fLife f = .live → s.fState f = 0 →
    (s.signalFence f code).fState f = (if code = 0 then 1 else 2) ∧ (s.signalFence f code).fCode f = code ∧
    (s.signalFence f code).fWord f 1 = word s.clock.gtb ∧ (s.resetFence f).fState f = 0 ∧ (s.resetFence f).fCode f = 0) ∧
  (∀ (s : State) (sl i : Nat) (fs : List Nat),
    (s.ctxState i = 1 → ∃ t, s.objDestroy 1 i sl fs = .inr t ∧ t.ctxState i = 0) ∧
    (s.qState i = 1 → ∃ t, s.objDestroy 2 i sl fs = .inr t ∧ t.qState i = 0) ∧
    (s.mLife i = .defined → ∃ t, s.objDestroy 4 i sl fs = .inr t ∧ t.mLife i = .free) ∧
    (s.fLife i = .free → s.objDestroy 3 i sl fs = .inl 0x020B) ∧
    (∀ kind, kind = 0 ∨ 5 < kind → s.objDestroy kind i sl fs = .inl 0x020B))

/-- The record window writes open records only, OBJ enables over a window of the manager's granules, and teardown and
release end (R131, R266, R267, R276, R290, R294). -/
def Obligations.RecordWindowTeardownAndDeferredFree : Prop :=
  (∀ (path : Path) (i : Nat) (v : Word) (s : State), s.isReady = true → pathOk path = true → i < 512 →
    (s.fld .OBJ_CTL_ENABLE = 0 ∨ s.recOpen (s.fld .OBJ_REC_SEL_KIND) (s.fld .OBJ_REC_SEL_INDEX) = false) →
    Leaves (.objRecordWrite path i v) s s) ∧
  (∀ (path : Path) (i kind index : Nat) (v : Word) (s : State), s.isReady = true → pathOk path = true → i < kindWords kind →
    index < kindCount kind → s.fld .OBJ_CTL_ENABLE = 1 → s.fld .OBJ_REC_SEL_KIND = kind →
    s.fld .OBJ_REC_SEL_INDEX = index → s.recOpen kind index = true →
    Answers (.objRecordWrite path i v) s (fun t => t.regs = s.regs ∧ t.hif = s.hif ∧
      (0 < i ∨ kind = 3 ∨ kind = 4 →
        t.recWord kind index i = (s.recWord kind index i &&& hardwareBits kind i) |||
          (v &&& ~~~ hardwareBits kind i &&& fieldBits kind i)) ∧
      (kind = 1 → t.ctxState index = 1) ∧ (kind = 2 → t.qState index = 1) ∧ (kind = 3 → t.fLife index = .defined) ∧
      (kind = 4 → t.mLife index = .defined))) ∧
  (∀ (path : Path) (s : State), s.isReady = true → pathOk path = true →
    Leaves (.objEnable path false) s (s.setFld .OBJ_CTL_ENABLE 0 0)) ∧
  (∀ (path : Path) (g : Nat) (s : State), s.isReady = true → pathOk path = true → s.fld .OBJ_CTL_ENABLE = 0 →
    getBits 55 21 (s.rd .OBJ_TABLE_BASE 0) * 2097152 = s.fld .CMP_CHIPNUM_CHIPNUM * 2 ^ 50 + g * 2097152 → g + 20 < 262144 →
    Leaves (.objEnable path true) s
      (if s.managerOwns g (g + 20) then s.setFld .OBJ_CTL_ENABLE 0 1 else s.objErr 0x020B 0 0 0)) ∧
  (∀ (c : Nat) (s : State), contextOk c = true → (s.ctxState c ≠ 4 ∨ s.teardownOver c = false) →
    Leaves (.contextTeardownDone c) s s) ∧
  (∀ (c : Nat) (s : State), s.alive = true → contextOk c = true → s.ctxState c = 4 → s.teardownOver c = true →
    Leaves (.contextTeardownDone c) s (s.contextGone c)) ∧
  (∀ (s : State) (c : Nat), (s.freeContext c).ctxState c = 0 ∧
    (∀ x, x ≠ c → (s.freeContext c).ctxState x = s.ctxState x) ∧
    ∀ h g, h < 8 → g < 65536 → mapGet 0 (s.clearHeaps c).obj.heaps ((c * 8 + h) * 65536 + g) = 0) ∧
  (∀ (o : Nat) (r : Releasing) (s : State), s.alive = true → o < 262144 → s.obj.releasing.find? (fun x => x.index == o) = some r →
    Leaves (.memoryObjectFreed o) s
      (if s.mPin o = 0 ∧ r.tails.all (fun t => s.tailPassed t.1 t.2) then s.freeReleased o else s)) ∧
  (∀ (s : State) (o : Nat), (s.freeMemobj o).mLife o = .free ∧ (s.freeMemobj o).mWord o 0 = 0) ∧
  (∀ (path : Path) (index : Nat) (s : State), s.isReady = true → pathOk path = true → index < 65536 →
    Leaves (.noticeRingTail path index) s ((s.setFld .OBJ_NR_TAIL_INDEX 0 index).pumpNotices))

/-- A doorbell is checked for format, PASID and state, moves its index, and slots and posted writes follow their order
(R42, R276, R277, R279, R280, R281, R282, R285, R297, R299, R411, R426). -/
def Obligations.DoorbellsSlotsAndPostedWrites : Prop :=
  (∀ (q v bytes : Nat) (pasid : Option Nat) (s : State), s.isReady = true → queueOk q = true → v < 65536 → pasidOk pasid = true →
    (bytes ≠ 8 → Leaves (.sqTail q v pasid bytes) s (s.hifErr 0x0104 q (pasid.getD 0) (s.qSlice q)) ∧
      Leaves (.cqHead q v pasid bytes) s (s.hifErr 0x0104 q (pasid.getD 0) (s.qSlice q))) ∧
    (s.doorbellOk q pasid = false → Leaves (.sqTail q v pasid 8) s (s.err 0x0603 (s.qSlice q) (word q)) ∧
      Leaves (.cqHead q v pasid 8) s (s.err 0x0603 (s.qSlice q) (word q))) ∧
    (s.doorbellOk q pasid = true → s.qState q = 0 ∨ s.qState q = 1 ∨ s.qState q = 5 →
      Leaves (.sqTail q v pasid 8) s (s.hifErr 0x0105 q (pasid.getD 0) (s.qSlice q)) ∧
      Leaves (.cqHead q v pasid 8) s (s.hifErr 0x0105 q (pasid.getD 0) (s.qSlice q))) ∧
    (s.doorbellOk q pasid = true → s.qState q = 2 ∨ s.qState q = 3 ∨ s.qState q = 4 →
      Leaves (.sqTail q v pasid 8) s (s.newTail q v pasid) ∧ Leaves (.cqHead q v pasid 8) s (s.newCqHead q v pasid))) ∧
  (∀ (s : State) (q v : Nat) (pasid : Option Nat), v < 65536 →
    (idxSub v (s.sqTail q) ≤ 2 ^ s.sqLog2 q - s.sqCount q →
      (s.newTail q v pasid).sqTail q = v ∧ (s.newTail q v pasid).sqHead q = s.sqHead q ∧
      (s.qState q ≠ 2 → s.newTail q v pasid = s.putQ q 3 63 48 v)) ∧
    (2 ^ s.sqLog2 q - s.sqCount q < idxSub v (s.sqTail q) →
      (s.newTail q v pasid).sqTail q = s.sqTail q ∧ (s.newTail q v pasid).qState q = 4 ∧
      getBits 63 48 ((s.newTail q v pasid).qWord q 4) = 0x0102) ∧
    (idxSub v (s.cqHead q) ≤ idxSub (s.cqTail q) (s.cqHead q) → (s.newCqHead q v pasid).cqHead q = v) ∧
    (idxSub (s.cqTail q) (s.cqHead q) < idxSub v (s.cqHead q) →
      s.newCqHead q v pasid = s.hifErr 0x0102 q (pasid.getD 0) (s.qSlice q))) ∧
  (∀ (s : State) (code q pasid sl : Nat), code / 256 = 0x01 → q < 16384 → pasid < 2 ^ 20 →
    (s.hifErr code q pasid sl).obj = s.obj ∧ (s.hifErr code q pasid sl).hif = s.hif ∧
    getBits 63 48 ((s.hifErr code q pasid sl).rd .HIF_LAST_ERR 0) = code ∧
    getBits 45 32 ((s.hifErr code q pasid sl).rd .HIF_LAST_ERR 0) = q ∧
    getBits 19 0 ((s.hifErr code q pasid sl).rd .HIF_LAST_ERR 0) = pasid) ∧
  (∀ (q : Nat) (s : State), queueOk q = true → s.isReady = true → rotate s.hif.rotor s.waitingQueues = some q →
    s.slotQueues.length < 96 ∨ s.lruIdle.isSome = true →
    Answers (.queueSlotGrant q) s (fun t => (t.queueRun q).resident = true ∧ (t.queueRun q).waiting = false ∧ t.hif.rotor = q)) ∧
  (∀ (x : Posted) (rest : List Posted) (s : State), s.alive = true → s.hif.posts = x :: rest →
    Leaves (.postedWriteTaken x.id) s
      (let u : State := { s with hif := { s.hif with posts := rest } }
      match x.use with
      | .faultRecord => u.faultTaken
      | .notice => u.noticeTaken
      | .crier i => u.crierWritten i
      | .completion q irq => u.completionTaken q irq
      | .image => u.saveWait
      | .dma q => u.pieceTaken q) ∧
    ∀ id, id ≠ x.id → Leaves (.postedWriteTaken id) s s) ∧
  (∀ s : State,
    s.faultTaken.fld .XLT_FR_HEAD_INDEX = ringNext (ringSize 10 16 (s.rd .XLT_FR_BASE 0)) (s.fld .XLT_FR_HEAD_INDEX) ∧
    s.noticeTaken.fld .OBJ_NR_HEAD_INDEX = ringNext (ringSize 6 16 (s.rd .OBJ_NR_BASE 0)) (s.fld .OBJ_NR_HEAD_INDEX) ∧
    bitOf 0 (s.noticeTaken.rd .IRQ_CAUSE 0x02) = true ∧
    (∀ i, i < 3 → (s.crierWritten i).fld .TRC_RING_HEAD_INDEX i =
      ringNext (ringSize 6 16 (s.rd .TRC_RING_BASE i)) (s.fld .TRC_RING_HEAD_INDEX i)) ∧
    (∀ q irq, q < 16384 → 2 ≤ s.qState q → (s.completionTaken q irq).cqTail q = (s.cqTail q + 1) % 65536)) ∧
  (∀ (q v bytes : Nat) (pasid : Option Nat) (s t : State), ∀ c ∈ [Instr.sqTail q v pasid bytes, .cqHead q v pasid bytes,
    .queueSlotGrant q], exec c s = .next t →
    t = { s with
      regs := t.regs
      obj := t.obj
      hif := t.hif
      crier := t.crier
      out := t.out
      pins := t.pins })

/-- A fetched command runs with its effect or is refused with its code, and its end writes its completion record (R41,
R119, R218, R283, R284, R285, R286, R287, R288, R289, R297). -/
def Obligations.RingCommandsRunOrAreRefused : Prop :=
  (∀ (q : Nat) (w : CmdWords) (c : Instr) (s : State), queueOk q = true → w.length = 8 → ringCommand q w = some c →
    (s.fetchOk q w = false → Leaves c s s) ∧
    (s.fetchOk q w = true → cfgPasidOk s.regs (s.ctxPasid (s.qCtx q)) (s.qSlice q) = false →
      Leaves c s ((s.err 0x0603 (s.qSlice q) (word q)).faultQueue q 0x0603)) ∧
    (∀ p, s.fetchOk q w = true → cfgPasidOk s.regs (s.ctxPasid (s.qCtx q)) (s.qSlice q) = true →
      s.convertAll (s.qCtx q) w = .inl p →
      Leaves c s (((s.takeCmd q w).submitFault q 0x070A p).2.refuseCmd q 0x070A)) ∧
    (∀ ws, s.Starts q w ws → s.cmdRefusal q ws (s.queueRun q).pinBad ≠ 0 →
      Leaves c s ((s.takeCmd q ws).refuseCmd q (s.cmdRefusal q ws (s.queueRun q).pinBad)))) ∧
  (∀ (q : Nat) (w : CmdWords) (s : State), queueOk q = true → w.length = 8 → 9 < cmdOpcode w → s.fetchOk q w = true →
    cfgPasidOk s.regs (s.ctxPasid (s.qCtx q)) (s.qSlice q) = true →
    Leaves (.commandInvalid q w) s ((s.takeCmd q w).refuseCmd q 0x0201)) ∧
  (∀ (q : Nat) (w ws : CmdWords) (s : State), s.Starts q w ws → s.cmdRefusal q ws (s.queueRun q).pinBad = 0 →
    (cmdOk 0 q w = true → Leaves (.nop q w) s ((s.takeCmd q ws).completeCmd q 0 0)) ∧
    (s.tileCode (s.qCtx q) (ws.getD 1 0) = 0 →
      (cmdOk 1 q w = true → Leaves (.tile q w) s ((s.takeCmd q ws).submitTile q ws)) ∧
      (cmdOk 2 q w = true → Leaves (.dmaCopy q w) s ((s.takeCmd q ws).submitDma q ws)) ∧
      (cmdOk 3 q w = true → Leaves (.dmaFill q w) s ((s.takeCmd q ws).submitDma q ws))) ∧
    (s.tileCode (s.qCtx q) (ws.getD 1 0) ≠ 0 →
      (cmdOk 1 q w = true → Leaves (.tile q w) s ((s.takeCmd q ws).refuseCmd q (s.tileCode (s.qCtx q) (ws.getD 1 0)))) ∧
      (cmdOk 2 q w = true → Leaves (.dmaCopy q w) s ((s.takeCmd q ws).refuseCmd q (s.tileCode (s.qCtx q) (ws.getD 1 0)))) ∧
      (cmdOk 3 q w = true → Leaves (.dmaFill q w) s ((s.takeCmd q ws).refuseCmd q (s.tileCode (s.qCtx q) (ws.getD 1 0))))) ∧
    (cmdOk 6 q w = true → Leaves (.fenceSignal q w) s (((s.takeCmd q ws).signalFence (getBits 15 0 (ws.getD 1 0))
      (getBits 31 16 (ws.getD 1 0))).completeCmd q 0 0)) ∧
    (cmdOk 7 q w = true → Leaves (.fenceWait q w) s ((s.takeCmd q ws).waitFence q (getBits 15 0 (ws.getD 1 0)))) ∧
    (cmdOk 8 q w = true → Leaves (.fenceReset q w) s
      (((s.takeCmd q ws).resetFence (getBits 15 0 (ws.getD 1 0))).completeCmd q 0 0)) ∧
    (cmdOk 9 q w = true → Leaves (.objRef q w) s
      ((forEach (ws.drop 1) (s.takeCmd q ws) (fun x u => u.pinEntry q x)).completeCmd q 0 0))) ∧
  (∀ (q f : Nat) (rc : RunCmd) (s : State), s.alive = true → queueOk q = true → (s.queueRun q).running = some rc →
    rc.waitFence = some f →
    (s.fState f = 0 → Leaves (.fenceWaitWake q) s s) ∧
    (s.fState f = 1 → Leaves (.fenceWaitWake q) s (s.completeCmd q 0 0)) ∧
    (2 ≤ s.fState f → Leaves (.fenceWaitWake q) s
      ((if bitOf 16 (rc.words.getD 1 0) = true ∧ s.qState q = 2 then s.stopQueue q 0x0207 else s).completeCmd q 0x0207
        (s.fCode f)))) ∧
  (∀ (s : State) (q f : Nat) (rc : RunCmd), (s.queueRun q).running = some rc → s.fState f = 0 →
    ((s.waitFence q f).queueRun q).running = some { rc with waitFence := some f }) ∧
  (∀ (s : State) (q : Nat) (ws : List Word), (s.takeCmd q ws).sqHead q = (s.sqHead q + 1) % 65536 ∧
    (∃ rc, ((s.takeCmd q ws).queueRun q).running = some rc ∧ rc.index = s.sqHead q ∧ rc.words = ws ∧
      rc.pins = (s.queueRun q).pins) ∧ ((s.takeCmd q ws).queueRun q).pins = [] ∧
    (∀ p, p ≠ q → (s.takeCmd q ws).queueRun p = s.queueRun p ∧ ∀ i, i < 8 → (s.takeCmd q ws).qWord p i = s.qWord p i)) ∧
  (∀ (s : State) (q : Nat) (ws : List Word) (bad : Nat), (cmdInvalid ws = true → s.cmdRefusal q ws bad = 0x0201) ∧
    (cmdInvalid ws = false →
      ((∃ f ∈ cmdFences ws, s.fenceOfSlice q f = false) → s.cmdRefusal q ws bad = 0x0204) ∧
      ((∀ f ∈ cmdFences ws, s.fenceOfSlice q f = true) →
        (bad = 1 → s.cmdRefusal q ws bad = 0x0208) ∧
        (bad ≠ 1 → s.fld .OBJ_PHASE_PHASE = 3 → s.cmdRefusal q ws bad = 0) ∧
        (bad ≠ 1 → s.fld .OBJ_PHASE_PHASE ≠ 3 → getBits 17 5 (cmdW0 ws) ≠ s.qCtx q ∨ getBits 31 18 (cmdW0 ws) ≠ q →
          s.cmdRefusal q ws bad = 0x0202)))) ∧
  (∀ (s : State) (q : Nat) (ws : List Word),
    (beyondDva ws = none → s.submitTile q ws = s.submitTiles q (ws.getD 1 0) ∧
      s.submitDma q ws = ((s.setDma q (s.dmaDescriptor q ws)).dmaTranslate q 0).submitTiles q (ws.getD 1 0)) ∧
    (∀ d, beyondDva ws = some d →
      (let u := s.submitFault q 0x070C d
        let t : State := { u.2 with xlt := { u.2.xlt with
          faults := u.2.xlt.faults ++ [⟨u.2.qCtx q, u.1, 0x070C, none, q⟩] } }
        s.submitTile q ws = t ∧ s.submitDma q ws = t))) ∧
  (∀ (s : State) (q : Nat) (w : Word), bitOf 63 w = true → s.mLife (getBits 17 0 w) = .live → s.mState (getBits 17 0 w) ≠ 0 →
    s.mSlice (getBits 17 0 w) = s.qSlice q → s.mPin (getBits 17 0 w) + 1 < 2 ^ 32 →
    (s.pinEntry q w).mPin (getBits 17 0 w) = s.mPin (getBits 17 0 w) + 1 ∧
    ((s.pinEntry q w).queueRun q).pins = (s.queueRun q).pins ++ [getBits 17 0 w]) ∧
  (∀ (s : State) (q : Nat) (w : Word), bitOf 63 w = true → s.mLife (getBits 17 0 w) ≠ .live ∨
    s.mSlice (getBits 17 0 w) ≠ s.qSlice q → ((s.pinEntry q w).queueRun q).pinBad = 1 ∧ (s.pinEntry q w).obj = s.obj) ∧
  (∀ (s : State) (q code : Nat) (rc : RunCmd), q < 16384 → code < 65536 → rc.index < 65536 →
    (cfgPasidOk s.regs (s.ctxPasid (s.qCtx q)) (s.qSlice q) = true →
      (s.postCompletion q rc code).hif.posts = s.hif.posts ++ [⟨s.hif.nextPost,
        .completion q (s.qIrqEn q && (cmdIrq rc.words || decide (code ≠ 0))), cplRecord s q rc code⟩]) ∧
    (cfgPasidOk s.regs (s.ctxPasid (s.qCtx q)) (s.qSlice q) = false → s.qState q = 2 →
      s.postCompletion q rc code = (s.err 0x0603 (s.qSlice q) (word q)).faultQueue q 0x0603) ∧
    getBits 47 0 ((cplRecord s q rc code).getD 2 0) = rc.energy / 1000000 % 2 ^ 32 ∧
    getBits 62 61 ((cplRecord s q rc code).getD 0 0) = (if code = 0 then 0 else 1) ∧
    getBits 47 32 ((cplRecord s q rc code).getD 0 0) = code ∧ getBits 29 16 ((cplRecord s q rc code).getD 0 0) = q ∧
    getBits 15 0 ((cplRecord s q rc code).getD 0 0) = rc.index ∧
    (cplRecord s q rc code).getD 3 0 = word s.clock.gtb) ∧
  (∀ (q : Nat) (w : CmdWords) (s t : State), ∀ c ∈ [Instr.nop q w, .fenceSignal q w, .fenceWait q w, .fenceWaitWake q,
    .fenceReset q w, .objRef q w, .commandInvalid q w], exec c s = .next t →
    t = { s with
      regs := t.regs
      obj := t.obj
      hif := t.hif
      xlt := t.xlt
      crier := t.crier
      out := t.out
      fresh := t.fresh
      pins := t.pins })

/-- Mailbox indices move only within their rings, and TEN answers each request in order with its reply (R42, R300, R301,
R302, R303, R304, R305). -/
def Obligations.MailboxesCarryMessagesBothWays : Prop :=
  (∀ (sl v bytes : Nat) (pasid : Option Nat) (slots : List (Nat × Word)) (s : State), s.isReady = true → tenantOk sl = true →
    v < 65536 → pasidOk pasid = true → bytes ≤ 8 → slots.all (fun x => decide (x.1 < 2048)) = true →
    ((match pasid with
      | some p => cfgPasidOk s.regs p sl
      | none => s.fld .CMP_SLICE_CTL_PASID_REQUIRED sl == 0) = false →
      Leaves (.t2mTail sl v pasid bytes slots) s (s.tenErr 0x0603 sl) ∧ Leaves (.m2tHead sl v pasid bytes) s (s.tenErr 0x0603 sl)) ∧
    ((match pasid with
      | some p => cfgPasidOk s.regs p sl
      | none => s.fld .CMP_SLICE_CTL_PASID_REQUIRED sl == 0) = true →
      (bytes ≠ 8 ∨ cfgEnabled s.regs sl = false →
        Leaves (.t2mTail sl v pasid bytes slots) s (s.tenErr 0x1401 sl) ∧ Leaves (.m2tHead sl v pasid bytes) s (s.tenErr 0x1401 sl)) ∧
      (bytes = 8 → cfgEnabled s.regs sl = true →
        ((∀ x ∈ slots, 1024 ≤ x.1 ∧ x.1 < 1536) → idxSub v (s.t2mTail sl) ≤ 64 - idxSub (s.t2mTail sl) (s.t2mHead sl) →
          Leaves (.t2mTail sl v pasid bytes slots) s
            ((forEach slots s (fun x u => u.setMbx sl x.1 x.2)).setMbx sl 0 (word v))) ∧
        ((∀ x ∈ slots, 1024 ≤ x.1 ∧ x.1 < 1536) → 64 - idxSub (s.t2mTail sl) (s.t2mHead sl) < idxSub v (s.t2mTail sl) →
          Leaves (.t2mTail sl v pasid bytes slots) s
            ((forEach slots s (fun x u => u.setMbx sl x.1 x.2)).tenErr 0x1402 sl)) ∧
        (idxSub v (s.m2tHead sl) ≤ idxSub (s.m2tTail sl) (s.m2tHead sl) →
          Leaves (.m2tHead sl v pasid bytes) s ((s.setMbx sl 3 (word v)).pumpM2t sl)) ∧
        (idxSub (s.m2tTail sl) (s.m2tHead sl) < idxSub v (s.m2tHead sl) →
          Leaves (.m2tHead sl v pasid bytes) s (s.tenErr 0x1402 sl))))) ∧
  (∀ (s : State) (sl w : Nat) (v : Word), w < 1024 ∨ 1536 ≤ w → s.tenantWord sl w v = s.tenErr 0x1401 sl) ∧
  (∀ (path : Path) (sl v : Nat) (s : State), s.isReady = true → pathOk path = true → tenantOk sl = true → v < 65536 →
    (cfgEnabled s.regs sl = false → Leaves (.t2mHead path sl v) s (s.tenErr 0x1401 sl) ∧
      Leaves (.m2tTail path sl v) s (s.tenErr 0x1401 sl)) ∧
    (cfgEnabled s.regs sl = true →
      Leaves (.t2mHead path sl v) s (if v = s.t2mHead sl ∨ (idxSub v (s.t2mHead sl) = 1 ∧ 0x40 ≤ s.t2mType sl ∧ s.t2mType sl ≤ 0x7F)
        then s.setMbx sl 1 (word v) else s.tenErr 0x1402 sl) ∧
      (v ≠ s.m2tTail sl → idxSub v (s.m2tTail sl) ≤ 64 - idxSub (s.m2tTail sl) (s.m2tHead sl) →
        Leaves (.m2tTail path sl v) s ((s.setMbx sl 2 (word v)).setPending .TEN_M2T_PENDING sl)) ∧
      (64 - idxSub (s.m2tTail sl) (s.m2tHead sl) < idxSub v (s.m2tTail sl) →
        Leaves (.m2tTail path sl v) s (s.tenErr 0x1402 sl)))) ∧
  (∀ (sl code : Nat) (pages : List (Nat × Nat)) (ws : List Word) (s : State), s.alive = true → tenantOk sl = true →
    s.t2mMessage sl = some ws →
    (msgType ws = 1 → Leaves (.query sl) s ((s.t2mPast sl).tenReply sl 0x81 0 ws (word (getBits 31 0 (s.mbx sl 32))))) ∧
    (0x40 ≤ msgType ws → msgType ws ≤ 0x7F → Leaves (.managerMessage sl) s (s.setPending .TEN_T2M_PENDING sl)) ∧
    (msgType ws = 0 ∨ (3 ≤ msgType ws ∧ msgType ws < 0x40) ∨ 0x80 ≤ msgType ws →
      Leaves (.t2mTypeInvalid sl) s ((s.t2mPast sl).tenReply sl 0x81 0x1403 ws 0)) ∧
    (msgType ws = 2 → code = 0 ∨ code = 0x1404 ∨ code / 256 = 7 → pages.length = 2 → (∀ x ∈ pages, x.1 % 4096 = 0 ∧ x.2 < 1024) →
      Leaves (.tenAttest sl code pages) s
        (((s.t2mPast sl).attestReply sl code pages ws).2.tenReply sl 0x82 ((s.t2mPast sl).attestReply sl code pages ws).1 ws 0))) ∧
  (∀ (s : State) (sl code : Nat) (pages : List (Nat × Nat)) (ws : List Word),
    (s.attestContextOk sl ws = false → s.attestReply sl code pages ws = (0x1404, s)) ∧
    (s.attestContextOk sl ws = true → s.well.seed = none → s.attestReply sl code pages ws = (0x0E01, s)) ∧
    (s.attestContextOk sl ws = true → s.attestReply sl code pages ws =
      (match s.statement 2 sl (slice (wordsBytes (ws.drop 1)) 0 48) with
      | .inl c => (c, if c = 0x0E07 then s.err c sl else s)
      | .inr (st, t) => if code ≠ 0 then (code, t)
        else if ∀ x ∈ pages, s.pageWritable sl x.1 = true then (0, t.writeBuffer sl (getBits 60 48 (ws.getD 7 0)) pages st)
        else (0x1404, t)))) ∧
  (∀ (s : State) (sl w : Nat) (ws : List Word), w < 8 →
    (s.placeM2t sl ws).mbx sl (1536 + 8 * (s.m2tTail sl % 64) + w) = ws.getD w 0 ∧
    (s.placeM2t sl ws).m2tTail sl = (s.m2tTail sl + 1) % 65536 ∧
    (s.t2mPast sl).t2mHead sl = (s.t2mHead sl + 1) % 65536 ∧
    (s.m2tSpace sl = true → s.ten.waiting.any (fun x => x.1 == sl) = false → s.sendM2t sl ws = s.placeM2t sl ws) ∧
    (s.m2tSpace sl = false → (s.sendM2t sl ws).ten.mailbox = s.ten.mailbox ∧
      (sl, msgType ws, ws) ∈ (s.sendM2t sl ws).ten.waiting)) ∧
  (∀ (s : State) (sl : Nat), tenantOk sl = true →
    bitOf ((sl - 1) % 64) ((s.setPending .TEN_T2M_PENDING sl).rd .TEN_T2M_PENDING ((sl - 1) / 64)) = true ∧
    bitOf ((sl - 1) % 64) ((s.setPending .TEN_M2T_PENDING sl).rd .TEN_M2T_PENDING ((sl - 1) / 64)) = true) ∧
  (∀ (path : Path) (sl v bytes : Nat) (pasid : Option Nat) (slots : List (Nat × Word)) (s t : State),
    ∀ c ∈ [Instr.t2mTail sl v pasid bytes slots, .m2tHead sl v pasid bytes, .t2mHead path sl v, .m2tTail path sl v, .query sl,
      .managerMessage sl, .t2mTypeInvalid sl], exec c s = .next t →
    t = { s with
      ten := t.ten
      regs := t.regs
      crier := t.crier
      pins := t.pins } ∧
    ∀ x, x ≠ sl → ∀ w, w < 2048 → t.mbx x w = s.mbx x w)

/-- A TEN_CMD makes its slice's state change, or is refused with its code and changes only its answer (R311, R312, R313,
R314, R315, R317, R318, R319, R320, R321, R322). -/
def Obligations.SlicesFreezeMoveAndResume : Prop :=
  (∀ (path : Path) (sl cores channels links : Nat) (tagsOk : Bool) (st : PeerStatement) (pub : List Byte)
    (commons granules shares fences : List Nat) (objects : List (Nat × Nat)) (s : State), s.isReady = true → pathOk path = true →
    sl < 256 → (∀ g ∈ granules, g < 262144) → (∀ c ∈ shares, contextOk c = true) → fences.all u16Ok = true →
    ∀ x ∈ ([(.freeze path sl, 1, sl, s.freeze sl), (.thaw path sl, 2, sl, s.thaw sl), (.save path sl st pub, 3, sl, s.save sl st pub),
      (.offer path, 4, 0, s.offer), (.restore path sl tagsOk cores channels links commons granules objects shares, 5, sl,
        s.restore sl tagsOk cores channels links commons granules objects shares),
      (.restoreContinue path sl, 6, sl, if s.continueCode sl ≠ 0 then .inl (s.continueCode sl)
        else .inr (((s.tenBegin 6 sl).setSliceState sl 6).imageIn)),
      (.discard path sl fences, 7, sl, s.discard sl fences), (.tenCancel path sl, 8, sl, s.cancel sl)] :
        List (Instr × Nat × Nat × Sum Nat State)),
    (s.tenBusy x.2.1 x.2.2.1 = true → Leaves x.1 s (s.setFld .TEN_STATUS_REJECTED 0 1)) ∧
    (s.tenBusy x.2.1 x.2.2.1 = false → Leaves x.1 s (match x.2.2.2 with
      | .inl code => ((s.setFld .TEN_STATUS_SLICE 0 x.2.2.1).setFld .TEN_STATUS_RESULT 0 code).setCause 0x14 2
      | .inr t => t.setFld .TEN_STATUS_SLICE 0 x.2.2.1))) ∧
  (∀ (s : State) (op sl : Nat), (s.ten.run = none → s.tenBusy op sl = false) ∧
    (∀ r, s.ten.run = some r → (s.tenBusy op sl = true ↔ ¬(op = 8 ∧ r.slice = sl)))) ∧
  (∀ (s : State) (sl : Nat),
    (s.sliceState sl = 1 → ∃ t, s.freeze sl = .inr t ∧ t.sliceState sl = 2 ∧ t.fld .TEN_STATUS_RESULT = 0 ∧ t.drv = s.drv ∧
      t.hif.queues = s.hif.queues ∧ t.sched = s.sched ∧ t.obj = s.obj) ∧
    (s.sliceState sl ≠ 1 → s.freeze sl = .inl 0x1406) ∧
    (s.sliceState sl = 3 ∨ s.sliceState sl = 5 →
      s.thaw sl = .inr (((s.resumeSlice sl).freezeNotice sl 2).tenOver 0) ∧ ∀ fences, ∃ t, s.discard sl fences = .inr t) ∧
    (s.sliceState sl ≠ 3 → s.sliceState sl ≠ 5 → s.thaw sl = .inl 0x1406 ∧ ∀ fences, s.discard sl fences = .inl 0x1406) ∧
    (s.sliceState sl = 4 → ∃ t, s.cancel sl = .inr t ∧ t.sliceState sl = 3 ∧ t.ten.run = none ∧ t.ten.session.dek = none) ∧
    (s.sliceState sl = 6 ∨ s.sliceState sl = 7 → ∃ t, s.cancel sl = .inr t ∧ t.ten.run = none ∧ t.ten.session.offer = none ∧
      t.restoreOf sl = Restore.init) ∧
    (s.sliceState sl < 4 ∨ s.sliceState sl = 5 → s.cancel sl = .inl 0x1406) ∧
    (s.sliceState sl ≠ 7 → s.continueCode sl = 0x1406) ∧
    (s.sliceState sl = 7 → (∃ k ∈ (s.restoreOf sl).keyids, keyStateOf s.regs k ≠ 1) → s.continueCode sl = 0x030F) ∧
    (s.sliceState sl = 7 → (∀ k ∈ (s.restoreOf sl).keyids, keyStateOf s.regs k = 1) → s.continueCode sl = 0)) ∧
  (∀ (s : State) (sl : Nat) (st : PeerStatement) (pub : List Byte),
    (s.sliceState sl ≠ 3 → s.save sl st pub = .inl 0x1406) ∧
    (s.sliceState sl = 3 → s.offerCode st pub ≠ 0 → s.save sl st pub = .inl (s.offerCode st pub)) ∧
    (stLc st ≠ 5 → s.offerCode st pub = 0x1407) ∧
    (s.well.entropyOk = false → s.offer = .inl 0x0E0A)) ∧
  (∀ (s : State) (sl cores channels links : Nat) (tagsOk : Bool) (commons granules shares : List Nat) (objects : List (Nat × Nat)),
    (s.sliceState sl ≠ 1 ∨ s.noContexts sl = false →
      s.restore sl tagsOk cores channels links commons granules objects shares = .inl 0x1406) ∧
    (s.sliceState sl = 1 → s.noContexts sl = true →
      (tagsOk = false → s.restore sl tagsOk cores channels links commons granules objects shares = .inl 0x1408) ∧
      (tagsOk = true → s.ten.session.offer.isSome = true →
        ((cfgCores s.regs sl).length ≠ cores ∨ (∃ g ∈ granules, ownerAt s.comp.owners (s.windowGranule sl + g) ≠ ⟨sl, 0⟩) →
          s.restore sl tagsOk cores channels links commons granules objects shares = .inl 0x140A) ∧
        ((cfgCores s.regs sl).length = cores → (cfgMemset s.regs ⟨sl, 0⟩).2 = channels → (cfgLinks s.regs sl).length = links →
          (∀ g ∈ granules, ownerAt s.comp.owners (s.windowGranule sl + g) = ⟨sl, 0⟩) →
          (∀ n, 1 ≤ n → n ≤ 127 → cfgMember s.regs n sl = commons.contains n) → (∀ o ∈ objects, s.recDefined o.1 o.2 sl = true) →
          ∃ t, s.restore sl tagsOk cores channels links commons granules objects shares = .inr t ∧ t.sliceState sl = 6 ∧
            t.ten.run = some ⟨5, sl⟩ ∧ (t.restoreOf sl).granules = granules)))) ∧
  (∀ (sl : Nat) (s : State), tenantOk sl = true →
    (s.alive = true → s.sliceState sl = 2 → s.sliceAtRest sl = true → Answers (.sliceFrozen sl) s (fun t => t.sliceState sl = 3 ∧
      t.obj = s.obj ∧ t.hif = s.hif ∧ ∀ j ∈ t.drv.journals, j.slice = sl → j.frozenAt = some s.clock.gtb)) ∧
    (s.sliceState sl ≠ 2 ∨ s.sliceAtRest sl = false → Leaves (.sliceFrozen sl) s s)) ∧
  (∀ (sl : Nat) (s : State), s.alive = true → s.ten.run = some ⟨3, sl⟩ →
    Leaves (.saveDone 0x140E) s (s.tenStop 0x140E) ∧
    (s.imageWritten = true → Leaves (.saveDone 0) s (((s.setSliceState sl 5).endSave).tenOver 0)) ∧
    (s.imageWritten = false → Leaves (.saveDone 0) s s)) ∧
  (∀ (sl image : Nat) (zero : Bool) (x : SaveRun) (s : State), tenantOk sl = true → s.ten.run = some ⟨3, sl⟩ →
    s.ten.save = some x → x.image = image →
    (s.saveVerdict image .fail zero).sliceState sl = 3 ∧ (s.saveVerdict image .fail zero).fld .TEN_STATUS_RESULT = 0x0801 ∧
    (s.saveVerdict image .fail zero).ten.run = none ∧ (s.saveVerdict image .fail zero).ten.save = none) ∧
  (∀ (sl : Nat) (keys : List (Nat × Key)) (s : State), s.alive = true → (∀ k ∈ keys, k.1 < 1024) →
    s.ten.run = some ⟨5, sl⟩ →
    Leaves (.restoreKeysReady keys) s (match keys.foldl (restoreKey sl) (.inr s) with
      | .inl code => s.tenStop code
      | .inr t => (t.setSliceState sl 7).dropOffer.tenOver 0)) ∧
  (∀ (sl records code : Nat) (im : RestoreImage) (s : State), s.alive = true → records < 2 ^ 32 → code = 0 ∨ code = 0x140E → imageOk im = true →
    s.ten.run = some ⟨6, sl⟩ →
    Leaves (.restoreDone records code im) s
      (let u := s.setFld .TEN_STATUS_PROGRESS 0 records
      if code ≠ 0 then u.tenStop code else
      match u.restoreAll sl im with
      | .inl c => u.tenStop c
      | .inr t => (((t.setSliceState sl 3).freezeNotice sl 3).endRestore sl).tenOver 0)) ∧
  (∀ (s : State) (code sl op : Nat), code < 65536 → tenantOk sl = true → s.ten.run = some ⟨op, sl⟩ →
    (s.tenStop code).ten.run = none ∧ (s.tenStop code).fld .TEN_STATUS_RESULT = code ∧ (s.tenStop code).fld .TEN_STATUS_BUSY = 0 ∧
    (op = 3 → (s.tenStop code).sliceState sl = 3) ∧ (op = 5 → (s.tenStop code).sliceState sl = 1)) ∧
  (∀ (path : Path) (pages : Nat) (s : State), s.isReady = true → pathOk path = true → pages < 2 ^ 28 →
    Leaves (.migBufferHandover path pages) s (s.bufferGiven pages) ∧
    (s.bufferGiven pages).fld .TEN_STATUS_BUF_WAIT = 0 ∧ (s.bufferGiven pages).fld .TEN_MIG_LEN_PAGES = pages)

/-- Flits join in order, an unverified group is asked for again, then its port goes DOWN; inbound requests stay in the
owner's bounds (R324, R326, R327, R332, R333, R336, R337). -/
def Obligations.FlitGroupsVerifyBeforeTheirMessages : Prop :=
  (∀ (p : Nat) (f : Flit) (s : State), s.alive = true → p < 16 → flitOk f = true →
    (s.linkOpen p = false ∨ f.fsn ≠ (s.link p).fsnRx + (s.link p).partialRx.length → Leaves (.klfFlit p f) s s) ∧
    (s.linkOpen p = true → f.fsn = (s.link p).fsnRx + (s.link p).partialRx.length →
      (f.index ≠ (s.link p).partialRx.length ∨ (f.last = false ∧ (s.link p).partialRx.length = 7) →
        Leaves (.klfFlit p f) s (s.groupFails p (s.link p).fsnRx)) ∧
      (f.index = (s.link p).partialRx.length → f.last = true →
        Leaves (.klfFlit p f) s (s.groupDone p ((s.link p).partialRx ++ [f]))) ∧
      (f.index = (s.link p).partialRx.length → f.last = false → (s.link p).partialRx.length < 7 →
        Leaves (.klfFlit p f) s (s.modLink p (fun l => { l with partialRx := l.partialRx ++ [f] }))))) ∧
  (∀ (s : State) (p : Nat) (fs : List Flit),
    ((∃ f ∈ fs, 4 < f.cls) → s.openGroup p fs = none) ∧
    (∀ f t, fs = f :: t → (∀ e ∈ (s.link p).keys, e.1 ≠ 2 + bit01 f.phase) → s.openGroup p fs = none) ∧
    (s.openGroup p fs = none → s.groupDone p fs = s.groupFails p (s.link p).fsnRx)) ∧
  (∀ (s : State) (p fsn : Nat), (s.link p).failedFsn ≠ some fsn →
    ((s.groupFails p fsn).link p).failedFsn = some fsn ∧ ((s.groupFails p fsn).link p).partialRx = [] ∧
    (s.groupFails p fsn).out = s.out ++ [.linkCtl p 4 fsn []] ∧ (s.groupFails p fsn).regs = s.regs ∧
    (∀ q, q ≠ p → (s.groupFails p fsn).link q = s.link q)) ∧
  (∀ (s : State) (p fsn : Nat), (s.link p).failedFsn = some fsn →
    s.groupFails p fsn = (s.raise .alarm 0x0D01 (s.portSlice p) (172 + p)).portDown p) ∧
  (∀ (s : State) (p : Nat) (fs : List Flit) (plain : List Byte), (∃ f ∈ fs, s.wireBad p f = true) →
    s.groupMessages p fs plain =
      (((s.raise .error 0x0D04 (s.portSlice p) (172 + p)).denyInbound p).settleTxns p).pumpEngines) ∧
  (∀ (s : State) (p : Nat) (f : Flit), s.wireBad p f = true ↔
    (f.cls = 1 ∨ f.cls = 3) ∧ (cfgLinkOwner s.regs p = 0xFF ∨ f.wireTag ≠ cfgLinkOwner s.regs p)) ∧
  (∀ (s : State) (p pa keyid k : Nat) (read : Bool) (o : Owner), s.inbound p read pa keyid = .inr (o, k) →
    pa / 2 ^ 50 = s.fld .CMP_CHIPNUM_CHIPNUM ∧ pa % 2 ^ 50 < 2 ^ 39 ∧ o = s.ownerOf pa ∧ o.tag ≠ 0xFF ∧
    ((o.tag = cfgLinkOwner s.regs p ∧ o.tag ≠ 0xFE ∧ cfgKeyOwner s.regs keyid = cfgLinkOwner s.regs p ∧ k = keyid) ∨
      (o.tag = 0xFE ∧ read = true ∧ cfgMember s.regs o.cid (cfgLinkOwner s.regs p) = true ∧ keyid = 0))) ∧
  (∀ (s : State) (p txn pa n keyid code : Nat) (kind : MemKind) (d : Line) (be : ByteMask),
    s.inbound p (decide (kind = .read)) pa keyid = .inl code → s.inboundReq p txn pa n keyid kind d be = s.denyInbound p) ∧
  (∀ (p fsn : Nat) (s : State), s.alive = true → p < 16 →
    (s.linkOpen p = false → Leaves (.linkReplayRequest p fsn) s s) ∧
    (s.linkOpen p = true → (s.link p).window = false → Leaves (.linkReplayRequest p fsn) s
      { s with out := s.out ++ ((s.link p).replay.filter (fun g => decide (fsn ≤ g.fsn))).map (fun g =>
        .linkTx p g.cls (if g.cls = 1 ∨ g.cls = 3 then s.fld .LNK_PORT_CFG_WIRE_TAG p else 0) g.fsn g.flits g.phase) }) ∧
    (s.linkOpen p = true → (s.link p).window = true → Leaves (.linkReplayRequest p fsn) s
      (s.modLink p (fun l => { l with replayFrom := some (min fsn (l.replayFrom.getD fsn)) })))) ∧
  (∀ (p : Nat) (s : State), s.alive = true → p < 16 → s.linkOpen p = true →
    (s.fld .LNK_COUNT_GROUPS p ≤ 2 ^ 39 → Answers (.rekeyDue p) s (fun t => t.fld .LNK_COUNT_GROUPS p = 2 ^ 39 ∧
      bitOf 0 (t.rd .IRQ_CAUSE 0x0D) = true ∧ t.fld .LNK_PORT_STATUS_STATE p = s.fld .LNK_PORT_STATUS_STATE p)) ∧
    ((s.link p).sealHold = false → Answers (.sealLimit p) s (fun t => t.fld .LNK_PORT_STATUS_STATE p = 3 ∧
      (t.link p).sealHold = true ∧ (t.link p).txns = (s.link p).txns ∧ (t.link p).outq = (s.link p).outq ∧
      t.clusters = s.clusters))) ∧
  (∀ (p : Nat) (s : State), s.alive = true → p < 16 → s.fld .LNK_PORT_STATUS_STATE p ≠ 0 →
    Leaves (.linkDown p) s ((s.modLink p (fun l => { l with up := false })).portDown p)) ∧
  (∀ (p : Nat) (s : State), s.alive = true → p < 16 → s.fld .LNK_PORT_STATUS_STATE p = 0 →
    Leaves (.linkDown p) s (s.modLink p (fun l => { l with up := false }))) ∧
  (∀ (p : Nat) (s : State), p < 16 → (s.link p).txns = [] → (s.link p).outq = [] →
    (s.portDown p).fld .LNK_PORT_STATUS_STATE p = 0 ∧ ((s.portDown p).link p).keys = [] ∧ ((s.portDown p).link p).replay = [] ∧
    ((s.portDown p).link p).fsnTx = 0 ∧ ((s.portDown p).link p).fsnRx = 0 ∧ ((s.portDown p).link p).epoch = (s.link p).epoch ∧
    (∀ q, q ≠ p → (s.portDown p).link q = s.link q) ∧ (∀ x, s.kx = some x → x.port = p → (s.portDown p).kx = none ∧
      (s.portDown p).fld .LNK_KX_STATUS_RESULT = 0x0D06))

/-- A key exchange fills both its slots or neither, phases retire, and a lost lane is replaced at a window (R328, R329,
R330, R331, R337, R338, R346). -/
def Obligations.ExchangesFillSlotsAndLanesAreSpared : Prop :=
  (∀ (path : Path) (p tx rx : Nat) (up : Bool) (s : State), s.isReady = true → pathOk path = true → p < 16 → tx < 512 → rx < 512 →
    slotOk tx = true → slotOk rx = true →
    (s.kx.isSome = true → Leaves (.kxStart path p tx rx up) s s) ∧
    (s.kx = none → Leaves (.kxStart path p tx rx up) s (s.kxBegin p tx rx up)) ∧
    (up = false ∨ s.stationOn .link p = false ∨ s.kxSlotsOk tx rx = false →
      s.kxBegin p tx rx up = (s.modLink p (fun l => { l with up := up })).kxOver 0x0D06) ∧
    ((s.kxBegin p tx rx up).kx = none ∧ (s.kxBegin p tx rx up).fld .LNK_KX_STATUS_RESULT = 0x0D06 ∨
      ∃ x, (s.kxBegin p tx rx up).kx = some x ∧ x.port = p ∧ x.slotTx = tx ∧ x.slotRx = rx ∧ x.startAt = s.clock.gtb ∧
        (s.kxBegin p tx rx up).fld .LNK_KX_STATUS_BUSY = 1 ∧ (s.kxBegin p tx rx up).fld .LNK_KX_STATUS_RESULT = 0 ∧
        (s.kxBegin p tx rx up).fld .LNK_PORT_STATUS_STATE p =
          (if s.fld .LNK_PORT_STATUS_STATE p = 0 then 1 else s.fld .LNK_PORT_STATUS_STATE p)) ∧
    (s.kxBegin p tx rx up).well.slots = s.well.slots) ∧
  (∀ (s : State) (result : Nat), result < 65536 → (s.kxOver result).kx = none ∧ (s.kxOver result).fld .LNK_KX_STATUS_BUSY = 0 ∧
    (s.kxOver result).fld .LNK_KX_STATUS_RESULT = result ∧ (s.kxOver result).well = s.well ∧
    (s.kxOver result).fld .LNK_KX_STATUS_DONE = (s.fld .LNK_KX_STATUS_DONE + 1) % 2 ^ 32 ∧
    bitOf 1 ((s.kxOver result).rd .IRQ_CAUSE 0x0D) = true) ∧
  (∀ (p : Nat) (x : Kx) (st : PeerStatement) (pub cipher mac : List Byte) (s : State), s.alive = true →
    s.stationOn .link p = true → p < 16 → s.kx = some x → x.port = p →
    (x.peerHello = none → s.fld .LNK_PORT_STATUS_STATE p ≠ 0 → Leaves (.kxHello p st pub) s (s.onHello x st pub)) ∧
    (x.peerHello ≠ none → Leaves (.kxHello p st pub) s s) ∧
    (∀ h, x.peerHello = some h → x.peerCipher = none → Leaves (.kxFinish p cipher) s
      (match s.kxKeys x h (fit 1568 cipher) with
      | none => s.kxFail x
      | some keys => ({ s with kx := some { x with peerCipher := some (fit 1568 cipher) } } : State).ctl p 2 0
          (s.kxMac x keys h (fit 1568 cipher)))) ∧
    (∀ h c, x.peerHello = some h → x.peerCipher = some c → Leaves (.kxConfirm p mac) s
      (match s.kxKeys x h c with
      | none => s.kxFail x
      | some keys => if fit 48 mac = s.kxMac x keys h c ∧ s.kxSlotsOk x.slotTx x.slotRx = true
          then (s.kxStore x keys).kxOver 0 else s.kxFail x)) ∧
    Leaves (.kxTimeout p) s ((s.advanceTo (x.startAt + 10000000)).kxFail x)) ∧
  (∀ (s : State) (x : Kx) (st : PeerStatement) (pub : List Byte),
    (stLc st ≠ s.ledger.lc ∨ stChip st ≠ s.fld .LNK_PORT_CFG_PEER_CHIP x.port ∨ stNonce st ≠ sha384 (fit 1665 pub) ∨
      s.allows .LNK_PEER_ALLOW st = false → s.onHello x st pub = s.kxFail x)) ∧
  (∀ (s : State) (x : Kx), x.rekey = true ∨ s.fld .LNK_PORT_STATUS_STATE x.port ≠ 1 → s.kxFail x = s.kxOver 0x0D06) ∧
  (∀ (s : State) (x : Kx) (keys : List Byte), x.slotTx ≠ x.slotRx →
    ((s.kxStore x keys).keySlot x.slotTx).state = .full ∧ ((s.kxStore x keys).keySlot x.slotTx).attr = 1 ∧
    ((s.kxStore x keys).keySlot x.slotRx).state = .full ∧ ((s.kxStore x keys).keySlot x.slotRx).attr = 2 ∧
    (∀ n, n ≠ x.slotTx → n ≠ x.slotRx → (s.kxStore x keys).keySlot n = s.keySlot n)) ∧
  (∀ (path : Path) (p : Nat) (phase : Bool) (s : State), s.isReady = true → pathOk path = true → p < 16 →
    (s.stationOn .link p = true →
      Leaves (.linkRetire path p phase) s (s.modLink p (fun l => { l with retire := some phase }))) ∧
    (s.stationOn .link p = false → Leaves (.linkRetire path p phase) s s)) ∧
  (∀ (p : Nat) (phase : Bool) (s : State), s.alive = true → p < 16 → (s.link p).retire = some phase →
    (s.mayRetire p phase = false → Leaves (.linkRetireDone p) s s) ∧
    (s.mayRetire p phase = true → Answers (.linkRetireDone p) s (fun t => (t.link p).retire = none ∧
      (∀ e, e ∈ (t.link p).keys ↔ e ∈ (s.link p).keys ∧ e.1 ≠ bit01 phase ∧ e.1 ≠ 2 + bit01 phase) ∧
      t.fld .LNK_PORT_STATUS_RETIRE_DONE p = (s.fld .LNK_PORT_STATUS_RETIRE_DONE p + 1) % 2 ^ 32 ∧
      bitOf 3 (t.rd .IRQ_CAUSE 0x0D) = true))) ∧
  (∀ (s : State) (p : Nat) (phase : Bool), s.mayRetire p phase = true ↔ s.fld .LNK_PORT_CFG_TX_PHASE p ≠ bit01 phase ∧
    (∀ g ∈ (s.link p).replay, g.phase ≠ phase) ∧ (s.link p).sawPhase = true ∧ (s.link p).failedFsn = none) ∧
  (∀ (p n : Nat) (s : State), s.alive = true → p < 16 → n < 9 → s.stationOn .link p = true →
    Leaves (.laneCe p n) s
      (let ms := s.clock.gtb / 1000000
      let old := mapGet 0 (s.link p).laneCe n
      let k := if old / 2 ^ 32 = ms then old % 2 ^ 32 + 1 else 1
      let u := s.modLink p (fun l => { l with laneCe := mapSet 0 l.laneCe n (ms * 2 ^ 32 + k) })
      if s.fld .LNK_LANE_THRESHOLD p < k then u.laneFail p n else u) ∧
    (s.laneBad p n = true → Leaves (.laneLost p n) s s) ∧
    (s.laneBad p n = false → Leaves (.laneLost p n) s
      (if ((s.laneFail p n).link p).up = true ∧ ((s.laneFail p n).link p).window = false
        then (s.laneFail p n).openWindow p else s.laneFail p n)) ∧
    (n < 8 → s.laneFree p = true → Leaves (.laneMap p n) s (s.modLink p (fun l => { l with pendingMap := some n })))) ∧
  (∀ (s : State) (p n : Nat), p < 16 → n < 8 → s.laneBad p n = false → s.laneFree p = true →
    (s.laneFail p n).laneBad p n = true ∧ ((s.laneFail p n).link p).pendingMap = some n ∧
    .linkCtl p 3 n [] ∈ (s.laneFail p n).out) ∧
  (∀ (p : Nat) (s : State), s.alive = true → p < 16 → s.stationOn .link p = true → (s.link p).up = true →
    (s.link p).window = false → 0 < s.fld .LNK_LANE_WINDOW_US p →
    Leaves (.retrainingWindow p) s ((s.toMultiple (s.fld .LNK_LANE_WINDOW_US p * 1000)).openWindow p)) ∧
  (∀ (s : State) (p n : Nat), p < 16 → n < 16 → (s.link p).pendingMap = some n →
    (s.openWindow p).fld .LNK_LANE_MAPPED_OUT p = n ∧ ((s.openWindow p).link p).window = true ∧
    ((s.openWindow p).link p).pendingMap = none ∧
    (s.linkOpen p = true → (s.openWindow p).fld .LNK_PORT_STATUS_STATE p = 3)) ∧
  (∀ (p : Nat) (s : State), s.alive = true → p < 16 → (s.link p).window = true → s.fld .LNK_PORT_STATUS_STATE p = 3 → (s.link p).sealHold = false →
    (s.link p).outq = [] → Answers (.retrainAck p) s (fun t => t.fld .LNK_PORT_STATUS_STATE p = 2 ∧ (t.link p).window = false ∧
      (t.link p).replayFrom = none ∧ t.clusters = s.clusters ∧ t.mems = s.mems))

/-- A KEY_CMD runs to its end with its result; slots are filled only where they are empty, and children record their
parent (R340, R345, R346, R349, R350, R351, R357, R362, R366, R368). -/
def Obligations.KeyCommandsKeepTheSlotRules : Prop :=
  (∀ (path : Path) (attr parent target sl : Nat) (readings : List PufReading) (s : State), s.isReady = true → pathOk path = true →
    attr < 8 → slotOk parent = true → slotOk target = true → sl < 256 → readings.length = 8 → (∀ r ∈ readings, r.length = 64) →
    ∀ x ∈ ([(.generate path attr target, 1, target, s.generate attr target),
      (.derive path attr parent target, 2, target, s.derive attr parent target),
      (.unwrap path attr parent target, 3, target, s.unwrap attr parent target), (.seal path parent, 4, parent, s.seal parent),
      (.unseal path target, 5, target, s.unseal target), (.establish path sl target, 6, target, s.establish sl target),
      (.accept path target, 7, target, s.accept target), (.keyDestroy path target, 8, target, s.keyDestroy target),
      (.keyAttest path sl, 9, 0, s.keyAttest sl), (.endorse path, 10, 0, s.endorse),
      (.enroll path readings, 11, 0, s.enroll readings)] : List (Instr × Nat × Nat × KeyResult)),
    (s.well.run.isSome = true → Leaves x.1 s (s.setFld .KEY_STATUS_REJECTED 0 1)) ∧
    (s.well.run = none → s.functional = false → Leaves x.1 s (s.keyRuns x.2.1 x.2.2.1 0x0F02 0)) ∧
    (s.well.run = none → s.functional = true → s.well.seed = none → x.2.1 ≠ 11 →
      Leaves x.1 s (s.keyRuns x.2.1 x.2.2.1 0x0E01 0)) ∧
    (s.well.run = none → s.functional = true → s.well.seed.isSome = true ∨ x.2.1 = 11 →
      Leaves x.1 s (match x.2.2.2 with
        | .inl code => if x.2.1 = 7 ∧ code = 0x0E05 then (s.keyRuns 7 target code 0).setKeySlot target KeySlot.init
            else s.keyRuns x.2.1 x.2.2.1 code 0
        | .inr (t, out) => (if out.isEmpty then t else t.putKeyBuf out).keyRuns x.2.1 x.2.2.1 0 out.length))) ∧
  (∀ (r : KeyRun) (s : State), s.alive = true → s.well.run = some r → r.result < 65536 → r.outLen < 65536 →
    Answers .keyCmdDone s (fun t => t.well = { s.well with run := none } ∧ t.fld .KEY_STATUS_BUSY = 0 ∧
      t.fld .KEY_STATUS_RESULT = r.result ∧ t.fld .KEY_STATUS_OUT_LEN = r.outLen ∧ bitOf 0 (t.rd .IRQ_CAUSE 0x0E) = true ∧
      (r.zeroBuf = true → ∀ i, i < 2048 → t.rd .KEY_BUF i = 0) ∧
      (r.zeroBuf = false → ∀ i, i < 2048 → t.rd .KEY_BUF i = s.rd .KEY_BUF i))) ∧
  (∀ (s : State) (attr target : Nat),
    (272 ≤ target ∨ attr ≠ 0 ∧ attr ≠ 3 ∧ attr ≠ 4 → s.generate attr target = .inl 0x0E02) ∧
    (target < 272 → attr = 0 ∨ attr = 3 ∨ attr = 4 →
      ((s.keySlot target).state ≠ .empty → s.generate attr target = .inl 0x0E04) ∧
      (256 ≤ (s.well.slots.filter (fun e => e.2.occupied)).length → s.generate attr target = .inl 0x0E04) ∧
      ((s.keySlot target).state = .empty → (s.well.slots.filter (fun e => e.2.occupied)).length < 256 →
        (s.well.entropyOk = false → s.generate attr target = .inl 0x0E0A) ∧
        (s.well.entropyOk = true → ∃ t, s.generate attr target = .inr (t, []) ∧
          t.keySlot target = filledSlot attr 1 0x1FF 0 0 (Config.random s.well.draws) ∧
          (∀ n, n ≠ target → t.keySlot n = s.keySlot n) ∧ t.well.draws = s.well.draws + 1)))) ∧
  (∀ (s : State) (attr parent target : Nat), target < 272 → parent < 272 → attr = 0 ∨ attr = 3 ∨ attr = 4 →
    ((s.keySlot parent).state ≠ .full ∨ (s.keySlot parent).attr ≠ 4 ∨ 7 ≤ (s.keySlot parent).depth →
      s.derive attr parent target = .inl 0x0E02) ∧
    ((s.keySlot parent).state = .full → (s.keySlot parent).attr = 4 → (s.keySlot parent).depth < 7 →
      ((s.keySlot target).state ≠ .empty → s.derive attr parent target = .inl 0x0E04) ∧
      ((s.keySlot target).state = .empty → (s.well.slots.filter (fun e => e.2.occupied)).length < 256 →
        ∃ t, s.derive attr parent target = .inr (t, []) ∧ (t.keySlot target).state = .full ∧ (t.keySlot target).attr = attr ∧
          (t.keySlot target).parent = parent ∧ (t.keySlot target).depth = (s.keySlot parent).depth + 1 ∧
          ∀ n, n ≠ target → t.keySlot n = s.keySlot n))) ∧
  (∀ (s : State) (target : Nat), target < 272 →
    (s.slotNamed (s.descendants 8 [target]) = true → s.keyDestroy target = .inl 0x0E08) ∧
    (s.slotNamed (s.descendants 8 [target]) = false → ∃ t, s.keyDestroy target = .inr (t, []) ∧
      (∀ n ∈ s.descendants 8 [target], (s.keySlot n).state ≠ .bad → t.keySlot n = KeySlot.init) ∧
      (∀ n, n ∉ s.descendants 8 [target] ∨ (s.keySlot n).state = .bad → t.keySlot n = s.keySlot n)) ∧
    target ∈ s.descendants 8 [target] ∧
    (∀ n, (s.keySlot n).occupied = true → (s.keySlot n).parent = target → n ∈ s.descendants 8 [target])) ∧
  (∀ (s : State) (target sl : Nat) (readings : List PufReading),
    ((s.keySlot target).state ≠ .established → s.accept target = .inl 0x0E02) ∧
    (s.well.entropyOk = false → (∃ c, s.establish sl target = .inl c)) ∧
    (s.ledger.lc ≠ 4 ∨ s.ledger.otp.helper.isEmpty = false → s.enroll readings = .inl 0x0E09) ∧
    (s.ledger.lc = 4 → s.ledger.otp.helper.isEmpty = true → s.well.entropyOk = true →
      ∃ t, s.enroll readings = .inr (t, []) ∧ t.ledger.otp.helper.length = 64 ∧ t.fld .KEY_STATUS_UNENROLLED = 0 ∧
        t.well.slots = s.well.slots)) ∧
  (∀ s : State, s.alive = true → s.well.entropyOk = true →
    Answers .entropyFail s (fun t => t.well = { s.well with entropyOk := false } ∧ t.hif = s.hif ∧ t.clusters = s.clusters ∧
      (s.fld .TRC_ALARM_CODES_PENDING 0x0E = 0 → t.fld .TRC_ALARM_CODES_FIRST_CODE 0x0E = 0x0E0A)) ∧
    Leaves .reseed s { s with well := { s.well with requests := 0 } })

/-- A transition request is refused with its code or wipes the keys and closes the gate, and debug opens only by a
response (R367, R375, R376, R377, R378, R380, R381, R429). -/
def Obligations.LifeCycleTransitionsAndDebug : Prop :=
  (∀ (lc : Nat) (s : State), s.isReady = true → lc < 256 →
    Leaves (.lcTransition true .host lc) s (s.requestTransition lc) ∧ Leaves (.lcTransition false .steward lc) s (s.requestTransition lc) ∧
    Leaves (.lcTransition false .host lc) s (s.err 0x0F02)) ∧
  (∀ (s : State) (lc : Nat),
    (s.ledger.run.isSome = true → s.requestTransition lc = s) ∧
    (∀ x, s.ledger.run = none → s.transitionOf lc = .inr x →
      s.requestTransition lc = (s.transit x).zeroLcsBuf ∧ x.target = lc) ∧
    (∀ code, s.ledger.run = none → s.transitionOf lc = .inl code →
      (s.requestTransition lc).ledger.otp = s.ledger.otp ∧ (s.requestTransition lc).well = s.well ∧
      (s.requestTransition lc).ledger.tokenFails = (if code = 0x0F03 then min 3 (s.ledger.tokenFails + 1) else s.ledger.tokenFails) ∧
      (s.requestTransition lc).fld .LCS_XSTATUS_RESULT = code) ∧
    (s.ledger.stuck = true ∨ lcAllowed s.ledger.lc lc = false → s.transitionOf lc = .inl 0x0F02) ∧
    (s.ledger.stuck = false → s.ledger.run = none → s.ledger.lc = 2 → lc = 3 →
      (3 ≤ s.ledger.tokenFails → s.transitionOf lc = .inl 0x0F03) ∧
      (s.ledger.tokenFails < 3 → s.ledger.otp.nextToken = none → s.transitionOf lc = .inl 0x0F04)) ∧
    (s.ledger.stuck = false → s.ledger.run = none → s.ledger.lc = 1 → lc = 2 ∨ lc = 7 →
      (s.ledger.otp.nextGen = none → s.transitionOf lc = .inl 0x0F05) ∧
      (∀ g, s.ledger.otp.nextGen = some g → s.transitionOf lc = .inr ⟨lc, g, none⟩)) ∧
    (s.ledger.run = none → ∀ i, i < 640 → (s.requestTransition lc).rd .LCS_BUF i = 0)) ∧
  (∀ (s : State) (x : Transition), (s.transit x).gateClosed = true ∧ (s.transit x).fld .LCS_XSTATUS_BUSY = 1 ∧
    (s.transit x).fld .LCS_XSTATUS_STEP = 3 ∧ (s.transit x).fld .LCS_XSTATUS_RESULT = 0 ∧ (s.transit x).ledger.run = some x ∧
    (s.transit x).well.mill = [] ∧ (s.transit x).well.shadows = [] ∧ (s.transit x).well.run = none ∧
    (∀ n, ((s.transit x).keySlot n).occupied = false) ∧
    (∀ g w, s.ledger.otp.gens[x.gen]? = some g → w ∈ g.state → ∃ g' w', (s.transit x).ledger.otp.gens[x.gen]? = some g' ∧
      w' ∈ g'.state ∧ w' = w ||| lcCode x.target)) ∧
  (∀ (x : StartUp) (s : State), s.alive = true → startUpOk x = true →
    (s.ledger.run = none → Leaves (.lcTransitionReset x) s s) ∧
    (∀ r, s.ledger.run = some r → Leaves (.lcTransitionReset x) s
      (let u : State := { s with ledger := { s.ledger with
        otp := s.ledger.otp.finish r.gen
        resumed := false } }
      (((u.lcClear.setFld .LCS_XSTATUS_BUSY 0 0).setFld .LCS_XSTATUS_STEP 0 0).advance x.elapsedNs).bootScan x))) ∧
  (∀ (s : State) (r : Transition), s.alive = true → s.ledger.run = some r → Answers .programFail s (fun t => t.ledger.run = none ∧
    t.ledger.stuck = true ∧ t.ledger.lc = s.ledger.lc ∧ t.ledger.otp = s.ledger.otp ∧ t.fld .LCS_XSTATUS_BUSY = 0 ∧
    t.fld .LCS_XSTATUS_RESULT = 0x0F06 ∧ t.fld .TRC_ALARM_CODES_LAST_CODE 0x0F = 0x0F06)) ∧
  (∀ (level : Nat) (s : State), s.alive = true → level < 16 →
    Leaves (.challenge true .host level) s (s.challengeCmd level) ∧ Leaves (.respond true .host) s s.respondCmd ∧
    (s.isReady = true → Leaves (.challenge false .steward level) s (s.challengeCmd level) ∧
      Leaves (.respond false .steward) s s.respondCmd ∧ Leaves (.challenge false .host level) s (s.err 0x0F02) ∧
      Leaves (.respond false .host) s (s.err 0x0F02)) ∧
    (s.ledger.lc ≠ 5 → s.challengeCmd level = s) ∧
    (s.ledger.lc = 5 → 8 ≤ s.ledger.dbgFails → s.challengeCmd level = s.debugDone 0x0F08) ∧
    (s.ledger.lc = 5 → s.ledger.dbgFails < 8 → s.well.entropyOk = true →
      (s.challengeCmd level).ledger.challenge =
        some (s.challengeBytes level (Config.random s.well.draws), level) ∧
      (s.challengeCmd level).fld .LCS_DBG_STATUS_RESULT = 0 ∧ (s.challengeCmd level).well.draws = s.well.draws + 1)) ∧
  (∀ s : State, s.ledger.challenge = none → s.respondCmd.fld .LCS_DBG_STATUS_RESULT = 0x0F07 ∧
    s.respondCmd.ledger.dbgFails = min 8 (s.ledger.dbgFails + 1) ∧
    s.respondCmd.fld .LCS_DBG_STATUS_OPEN = s.fld .LCS_DBG_STATUS_OPEN ∧ ∀ i, i < 640 → s.respondCmd.rd .LCS_BUF i = 0) ∧
  (∀ (s : State) (granted : Nat), granted < 16 → (s.openDebug granted).ledger.challenge = none ∧
    (s.openDebug granted).ledger.reopened = true ∧
    (∀ k, k < 4 → bitOf k ((s.openDebug granted).rd .LCS_DBG_STATUS 0) = (bitOf k (s.rd .LCS_DBG_STATUS 0) || granted.testBit k)) ∧
    (granted.testBit 2 = true → ∀ n, ((s.openDebug granted).keySlot n).occupied = false)) ∧
  (∀ (path : Path) (s : State), s.isReady = true → pathOk path = true →
    Answers (.gateClose path) s (fun t => t.gateClosed = true ∧ t.ledger = s.ledger ∧ t.well = s.well)) ∧
  (∀ (code : Nat) (s : State), code ≤ 6 → s.alive = true → Leaves (.jtagInstruction code) s
    { s with ledger := { s.ledger with jtag := if s.jtagAllowed code = true then code else 0 } }) ∧
  (∀ (s : State) (code : Nat), (s.ledger.lc ∈ [0, 1, 7] → s.jtagAllowed code = true → code ≤ 1) ∧
    (s.ledger.lc = 5 → bitOf 1 (s.rd .LCS_DBG_STATUS 0) = false → s.jtagAllowed 6 = false)) ∧
  (∀ (o : Otp) (g lc : Nat) (old new : Generation) (i : Nat), o.gens[g]? = some old →
    ((o.target g lc).gens[g]? = some new ∨ (o.finish g).gens[g]? = some new ∨ (o.wipe lc).gens[g]? = some new ∨
      (o.resumed g lc).gens[g]? = some new) →
    old.state.getD i 0 &&& ~~~ new.state.getD i 0 = 0 ∧ old.done.getD i 0 &&& ~~~ new.done.getD i 0 = 0)

/-- STATE copies decode within 7 bits of a code, generations by two of three copies, and under 25 faults never change the
state (R371). -/
def Obligations.OtpCopiesDecodeWithMargin : Prop :=
  (∀ (w : Word) (lc : Nat), decodeCopy w = .state lc ↔ ∃ code, (lc, code) ∈ lcCodes ∧ popCount (w ^^^ code) ≤ 7) ∧
  (∀ w : Word, decodeCopy w = .blank ↔ popCount w ≤ 7) ∧
  (∀ w : Word, decodeCopy w = .undecodable ↔ 7 < popCount w ∧ ∀ x ∈ lcCodes, 7 < popCount (w ^^^ x.2)) ∧
  (∀ (g : Generation) (lc : Nat), g.state.length = 3 → (votedState g = some lc ↔ (∃ code, (lc, code) ∈ lcCodes) ∧
    2 ≤ (g.state.filter (fun w => decide (decodeCopy w = .state lc))).length)) ∧
  (∀ g : Generation, genDone g = true ↔ 2 ≤ (g.done.filter (fun w => decide (57 ≤ popCount w))).length) ∧
  (∀ g : Generation, doneBad g = true ↔ ∃ w ∈ g.done, 7 < popCount w ∧ popCount w < 57) ∧
  (∀ x ∈ lcCodes, popCount x.2 = 32 ∧ ∀ y ∈ lcCodes, x.1 ≠ y.1 → popCount (x.2 ^^^ y.2) = 32) ∧
  (∀ (w x : Word) (a b : Nat), (a, x) ∈ lcCodes → popCount (w ^^^ x) < 25 → decodeCopy w = .state b → b = a)

/-- The Tally keeps floor, clock and samples, audits contracts at a fallen floor, and reports slack and energy (R68, R92,
R396, R397, R398, R399, R400, R401, R402, R403). -/
def Obligations.MonitorsReportTheFloorAndEnergy : Prop :=
  (∀ (floor cap : Nat) (s : State), s.alive = true → floor < 65536 → cap < 65536 →
    Answers (.pmUpd floor cap) s (fun t => t.fld .MON_CLOCK_FLOOR_MHZ = floor ∧ t.fld .MON_CLOCK_CAP_W = cap ∧
      t.fld .MON_CLOCK_FCLK_MHZ = s.fld .MON_CLOCK_FCLK_MHZ ∧
      (t.mon.audit = true ↔ s.mon.audit = true ∨ floor < s.fld .MON_CLOCK_FLOOR_MHZ) ∧
      SameRegsBut [regAddr .MON_CLOCK 0] s t ∧ t = { s with
        regs := t.regs
        mon := t.mon
        pins := t.pins })) ∧
  (∀ s : State, (s.alive = true → s.mon.audit = true → Answers .audit s (fun t =>
      (∀ c, c < 256 → t.rd .ADM_W c =
        if ctValid s.regs c = true then auditWord s.regs (s.fld .MON_CLOCK_FLOOR_MHZ) c else s.rd .ADM_W c) ∧
      t.fld .ADM_FLOOR_FLOOR_MHZ = s.fld .MON_CLOCK_FLOOR_MHZ % 65536 ∧ t.mon.audit = false ∧
      (∀ i, i < 2048 → t.rd .ADM_CONTRACT i = s.rd .ADM_CONTRACT i))) ∧
    (s.mon.audit = false → Leaves .audit s s)) ∧
  (∀ (m : List (Nat × Word)) (f c : Nat), f < 65536 →
    (evalContract m f c).1 = 0 → getBits 63 63 (auditWord m f c) = 1 ∧ getBits 47 32 (auditWord m f c) = 0 ∧
      getBits 31 0 (auditWord m f c) = (evalContract m f c).2 ∧ (evalContract m f c).2 ≤ ctD m c) ∧
  (∀ (m : List (Nat × Word)) (f c : Nat), f < 65536 → (evalContract m f c).1 ≠ 0 → getBits 63 63 (auditWord m f c) = 0 ∧
    getBits 47 32 (auditWord m f c) = (evalContract m f c).1 ∧
    ((evalContract m f c).1 ≠ 0x0401 → getBits 31 0 (auditWord m f c) = 0xFFFFFFFF)) ∧
  (∀ (mhz : Nat) (s : State), s.alive = true → mhz < 65536 → Answers (.clockMeasurement mhz) s (fun t =>
    t.fld .MON_CLOCK_FCLK_MHZ = mhz ∧ t.fld .MON_CLOCK_FLOOR_MHZ = s.fld .MON_CLOCK_FLOOR_MHZ ∧
    (mhz < s.fld .MON_CLOCK_FLOOR_MHZ → t.fld .TRC_ALARM_CODES_LAST_CODE 0x11 = 0x1106 ∧ bitOf 1 (t.rd .IRQ_CAUSE 0x11) = true) ∧
    (s.fld .MON_CLOCK_FLOOR_MHZ ≤ mhz → t.rd .TRC_ALARM_CODES 0x11 = s.rd .TRC_ALARM_CODES 0x11))) ∧
  (∀ s : State, s.alive = true →
    Leaves .slackHint s (forEach (s.toMultiple 100000).enabledTenants (s.toMultiple 100000) (fun sl u => u.slackOf sl)) ∧
    Answers .sliceEnergyReport s (fun t => t.mon.sliceUj = s.mon.sliceUj ∧ t.out =
      s.out ++ (0 :: s.enabledTenants).map (fun sl => .pmEnergy sl (mapGet 0 s.mon.sliceUj sl)))) ∧
  (∀ (s : State) (sl : Nat), tenantOk sl = true →
    (∀ c ∈ cfgContractsOf s.regs sl, (s.slackOf sl).fld .MON_SLACK_SLACK sl ≤ s.contractSlack c) ∧
    (cfgContractsOf s.regs sl = [] → (s.slackOf sl).fld .MON_SLACK_SLACK sl = 255) ∧
    ((s.slackOf sl).fld .MON_SLACK_SLACK sl = 255 ∨
      ∃ c ∈ cfgContractsOf s.regs sl, (s.slackOf sl).fld .MON_SLACK_SLACK sl = s.contractSlack c)) ∧
  (∀ (n monitor : Nat) (s : State), s.alive = true → n < 24 → monitor < 32 →
    Answers (.droop (some n) monitor) s (fun t => n ∈ t.mon.marked ∧
      t.fld .MON_VOLT_DROOPS monitor = min (s.fld .MON_VOLT_DROOPS monitor + 1) 65535) ∧
    Answers (.droop none monitor) s (fun t => (∀ d, d < 24 → d ∈ t.mon.marked) ∧
      t.fld .MON_VOLT_DROOPS monitor = s.fld .MON_VOLT_DROOPS monitor)) ∧
  (∀ (sensor : Nat) (s : State), s.alive = true → sensor < 48 →
    Answers (.tempTrip sensor) s (fun t => t.fld .TRC_ALARM_CODES_LAST_CODE 0x11 = 0x1102 ∧
      (∀ a, s.mon.i3cAddr = some a → .i3cIbi 0x1102 ∈ t.out))) ∧
  (∀ (monitor mv : Nat) (cold : Bool) (s : State), s.alive = true → monitor < 48 → mv < 65536 →
    (cold = true ∨ mv < s.fld .MON_CTL_TAMPER_MV → Answers (.tamper monitor mv cold) s (fun t =>
      t.fld .TRC_ALARM_CODES_LAST_CODE 0x11 = 0x1104 ∧
      (s.fld .MON_CTL_ZEROIZE_EN = 1 → t.mon.zeroize = true ∧ (∀ n, (t.keySlot n).occupied = false) ∧ t.well.mill = [] ∧
        ∀ p, (t.link p).keys = []) ∧
      (s.fld .MON_CTL_ZEROIZE_EN = 0 → t.well = s.well ∧ t.mon.zeroize = s.mon.zeroize))) ∧
    (cold = false → s.fld .MON_CTL_TAMPER_MV ≤ mv → Leaves (.tamper monitor mv cold) s s)) ∧
  (∀ (m : MonitorSample) (s : State), s.alive = true → sampleOk m = true → Answers (.tempSample m) s (fun t =>
    (∀ i, i < 48 → t.fld .MON_TEMP_CURRENT i = (m.temps.getD i 0).toNat ∧
      (BitVec.ofNat 16 (s.fld .MON_TEMP_MAX i)).toInt ≤ (BitVec.ofNat 16 (t.fld .MON_TEMP_MAX i)).toInt ∧
      (m.temps.getD i 0).toInt ≤ (BitVec.ofNat 16 (t.fld .MON_TEMP_MAX i)).toInt) ∧
    (∀ i, i < 32 → t.fld .MON_VOLT_CURRENT_MV i = m.volts.getD i 0 ∧
      t.fld .MON_VOLT_MIN_MV i = min (s.fld .MON_VOLT_MIN_MV i) (m.volts.getD i 0)) ∧
    (∀ i, i < 16 → t.fld .MON_PROC_COUNT i = m.counts.getD i 0))) ∧
  (∀ (s : State) (n sl : Nat), s.clock.running = true → sl < 129 →
    (s.advance n).rd .CMP_RES_TIME_NS sl =
      (if cfgEnabled s.regs sl = true then s.rd .CMP_RES_TIME_NS sl + word n else s.rd .CMP_RES_TIME_NS sl) ∧
    (s.advance n).clock.gtb = s.clock.gtb + n) ∧
  (∀ (corrected : Nat) (mills worn : List (Nat × Nat)) (us : List PatrolTarget) (s : State), s.alive = true →
    us.all patrolOk = true → (∀ e ∈ mills, e.1 < 72) → (∀ e ∈ worn, e.1 < 4096) →
    Leaves (.patrol corrected mills worn us) s
      (forEach us (((s.symbolsCorrected corrected mills).rowsWorn worn).bump .SPR_RS_UNCORRECTABLE 0 us.length)
        (fun x u => u.patrolLost x)).pumpDrover ∧
    (∀ n, n < 272 → (s.patrolLost (.keySlot n)).keySlot n = { KeySlot.init with state := .bad }))

/-- A failed unit is counted once and takes its pool's spare with SPR_LAST, or ERROR 0x1004 leaves its EXHAUSTED bit
(R206, R233, R384, R385, R386, R388, R390, R391, R392, R393). -/
def Obligations.FailuresTakeASpareOrSayThereIsNone : Prop :=
  (∀ (p c : Nat) (s : State), s.alive = true → p < 68 → c < 9 → Leaves (.coreUe p c) s (s.coreFail (9 * p + c)) ∧
    Leaves (.coreHeartbeatTimeout p c) s ((s.advance 1000).coreFail (9 * p + c))) ∧
  (∀ (k : Nat) (s : State), s.alive = true → k < 68 → Leaves (.checkLogicDisagree k) s (s.clusterFail k) ∧
    Leaves (.moverSelfCheckFail k) s (s.moverFail k).pumpDrover) ∧
  (∀ (p : Nat) (s : State), s.alive = true → p < 72 → Leaves (.memoryCe p) s (s.ceReport p)) ∧
  (∀ (kind : StationKind) (k n : Nat) (s : State), s.alive = true → kind ≠ .cluster → stationOk kind k = true →
    n < (if kind = .memory then 6 else 28) → Leaves (.aesPipelineFail kind k n) s (s.pipeFail kind k n)) ∧
  (∀ (c : Nat) (s : State), s.alive = true → c < 5 → Leaves (.stewardHeartbeatTimeout c) s (s.stewardFail c)) ∧
  (∀ (c : Nat) (x : CoreSub) (bad : List Nat) (s : State), s.alive = true → c < 612 →
    bad.all (fun u => decide (u < 96)) = true → s.spr.coreSubs.find? (fun y => y.core == c) = some x →
    (s.cacheEmpty c = true → s.physical c ≠ x.subst → Leaves (.coreSubstitutionDone c bad) s (s.coreSubDone x bad)) ∧
    (s.cacheEmpty c = false ∨ s.physical c = x.subst → Leaves (.coreSubstitutionDone c bad) s s)) ∧
  (∀ (k x : Nat) (s : State), s.alive = true → k < 68 → s.spr.clusterSubs.find? (fun y => y.1 == k) = some (k, x) →
    Leaves (.clusterSubstitutionDone k) s (if (s.coresBehind k).all (fun c => s.atBoundary c && s.cacheEmpty c) = true
      then s.clusterSubDone k x else s)) ∧
  (∀ (macLost poisonLost : List Nat) (s : State), s.alive = true → (∀ l ∈ macLost ++ poisonLost, l < 2 ^ 26 ∧ l / 64 = s.fld .SPR_REBUILD_LEAF) →
    (s.fld .SPR_REBUILD_BUSY = 0 → Leaves (.rebuildLeaf macLost poisonLost) s s) ∧
    (s.fld .SPR_REBUILD_BUSY = 1 → s.fld .SPR_REBUILD_LEAF < 1048576 →
      ((∃ e ∈ (s.memSt (s.fld .SPR_REBUILD_FROM)).slots, e.2.line / 64 = s.fld .SPR_REBUILD_LEAF) →
        Leaves (.rebuildLeaf macLost poisonLost) s s) ∧
      ((∀ e ∈ (s.memSt (s.fld .SPR_REBUILD_FROM)).slots, e.2.line / 64 ≠ s.fld .SPR_REBUILD_LEAF) →
        s.fld .SPR_REBUILD_LEAF + 1 < 1048576 →
        Leaves (.rebuildLeaf macLost poisonLost) s (s.rebuildStep (s.fld .SPR_REBUILD_LCHAN) (s.fld .SPR_REBUILD_FROM)
          (s.fld .SPR_REBUILD_TO) (s.fld .SPR_REBUILD_LEAF) macLost poisonLost)))) ∧
  (∀ (s : State) (j p q leaf : Nat) (macLost poisonLost : List Nat), leaf < 1048576 →
    (s.rebuildStep j p q leaf macLost poisonLost).fld .SPR_REBUILD_LEAF = leaf + 1) ∧
  (∀ (s : State) (kind failed subst : Nat), kind < 16 → failed < 4096 → subst < 4096 →
    (s.substituted kind failed subst).fld .SPR_LAST_KIND = kind ∧ (s.substituted kind failed subst).fld .SPR_LAST_FAILED = failed ∧
    (s.substituted kind failed subst).fld .SPR_LAST_SUBST = subst ∧
    (s.substituted kind failed subst).out = s.out ++ [.fmSpare kind failed subst s.clock.gtb] ∧
    bitOf 0 ((s.substituted kind failed subst).rd .IRQ_CAUSE 0x10) = true) ∧
  (∀ (s : State) (kind failed sl : Nat), kind < 12 → bitOf kind ((s.noSpare kind failed sl).rd .SPR_STATUS 0) = true ∧
    (s.noSpare kind failed sl).out = s.out ∧ (s.noSpare kind failed sl).spr = s.spr) ∧
  (∀ (s : State) (c : Nat), (c ∈ s.spr.badCores → s.coreFail c = s) ∧
    (c ∉ s.spr.badCores → cfgCoreTag s.regs (s.logicalCore c) = 0xFF →
      s.coreFail c = { s with spr := { s.spr with badCores := s.spr.badCores ++ [c] } }) ∧
    (∀ q, c ∉ s.spr.badCores → cfgCoreTag s.regs (s.logicalCore c) ≠ 0xFF →
      ({ s with spr := { s.spr with badCores := s.spr.badCores ++ [c] } } : State).pickCore
        (({ s with spr := { s.spr with badCores := s.spr.badCores ++ [c] } } : State).stationOf (s.logicalCore c)) = some q →
      (s.coreFail c).fld .SPR_LAST_KIND = 0 ∧ (∃ hit, ⟨s.logicalCore c, q, hit⟩ ∈ (s.coreFail c).spr.coreSubs) ∧
        q ∈ (s.coreFail c).spr.usedCores)) ∧
  (∀ (s : State) (k q : Nat), s.pickCore k = some q → q ∉ s.spr.badCores ∧ q ∉ s.spr.usedCores ∧
    cfgCoreTag s.regs q = 0xFF ∧ (q = s.spareCoreOf k ∨ ∃ x ∈ s.ledger.otp.spareClusters, q / 9 = x ∧ x ∉ s.spr.badClusters)) ∧
  (∀ (s : State) (k : Nat), (k ∈ s.spr.badClusters → s.clusterFail k = s) ∧ (k ∈ s.spr.badMovers → s.moverFail k = s) ∧
    (k ∈ s.spr.badStewards → s.stewardFail k = s) ∧
    (k ∉ s.spr.badClusters → ((s.clusterFail k).cluster k).stopped = true ∧ k ∈ (s.clusterFail k).spr.badClusters) ∧
    (k < 4 → s.spr.badStewards = [] → (s.stewardFail k).fld .SPR_LAST_KIND = 9 ∧ (s.stewardFail k).fld .SPR_LAST_SUBST = 4) ∧
    (k ∉ s.spr.badStewards → s.spr.badStewards ≠ [] → bitOf 9 ((s.stewardFail k).rd .SPR_STATUS 0) = true)) ∧
  (∀ (s : State) (c q : Nat), c < 612 → q < 612 → (s.alias c q).physical c = q ∧
    ∀ x, x ≠ c → x < 612 → (s.alias c q).physical x = s.physical x) ∧
  (∀ (s : State) (p : Nat), countInSecond s.clock.gtb s.spr.ces p % 2 ^ 32 ≤ s.fld .SPR_CTL_MEMCH_CE_LIMIT →
    s.ceReport p = { s with spr := { s.spr with ces := mapPut s.spr.ces p (countInSecond s.clock.gtb s.spr.ces p) } })

/-- An ALARM latches and is never dropped, an ERROR is queued or merged, a LOG is queued or counted as dropped (R407,
R408, R409, R412, R413, R415). -/
def Obligations.RaisedEventsAreRecordedByClass : Prop :=
  (∀ (s : State) (cls : EventClass) (code sl src : Nat) (d : Word),
    s.raise cls code sl src d = { s with
      regs := (s.raise cls code sl src d).regs
      crier := (s.raise cls code sl src d).crier } ∧
    (∀ n b, causeOfCode code = some (n, b) → src < 188 → bitOf b ((s.raise cls code sl src d).rd .IRQ_CAUSE n) = true) ∧
    (∀ n b, n < 22 → b < 64 → bitOf b (s.rd .IRQ_CAUSE n) = true → src < 188 →
      bitOf b ((s.raise cls code sl src d).rd .IRQ_CAUSE n) = true)) ∧
  (∀ (s : State) (code sl src : Nat) (d : Word), src < 188 → code < 65536 → sl < 256 →
    (s.fld .TRC_ALARM_CODES_PENDING src = 0 →
      (s.raise .alarm code sl src d).fld .TRC_ALARM_CODES_PENDING src = 1 ∧
      (s.raise .alarm code sl src d).fld .TRC_ALARM_CODES_COUNT src = 1 ∧
      (s.raise .alarm code sl src d).fld .TRC_ALARM_CODES_FIRST_CODE src = code ∧
      (s.raise .alarm code sl src d).fld .TRC_ALARM_CODES_SLICE src = sl ∧
      (s.raise .alarm code sl src d).rd .TRC_ALARM_FIRST_GTB src = word s.clock.gtb ∧
      (s.raise .alarm code sl src d).rd .TRC_ALARM_DETAIL src = d) ∧
    (s.fld .TRC_ALARM_CODES_PENDING src = 1 →
      (s.raise .alarm code sl src d).fld .TRC_ALARM_CODES_PENDING src = 1 ∧
      (s.raise .alarm code sl src d).fld .TRC_ALARM_CODES_COUNT src = min (s.fld .TRC_ALARM_CODES_COUNT src + 1) 65535 ∧
      (s.raise .alarm code sl src d).fld .TRC_ALARM_CODES_FIRST_CODE src = s.fld .TRC_ALARM_CODES_FIRST_CODE src ∧
      (s.raise .alarm code sl src d).fld .TRC_ALARM_CODES_LAST_CODE src = code ∧
      (s.raise .alarm code sl src d).rd .TRC_ALARM_FIRST_GTB src = s.rd .TRC_ALARM_FIRST_GTB src ∧
      (s.raise .alarm code sl src d).rd .TRC_ALARM_LAST_GTB src = word s.clock.gtb) ∧
    (∀ x, x ≠ src → x < 188 → (s.raise .alarm code sl src d).rd .TRC_ALARM_CODES x = s.rd .TRC_ALARM_CODES x) ∧
    (s.pdOn 23 = true → (∃ r ∈ (s.raise .alarm code sl src d).crier.alarmQ, r.source = src) ∧
      ((s.crier.alarmQ.map Rec.source).Nodup → ((s.raise .alarm code sl src d).crier.alarmQ.map Rec.source).Nodup) ∧
      ∀ r ∈ s.crier.alarmQ, ∃ r' ∈ (s.raise .alarm code sl src d).crier.alarmQ, r'.source = r.source ∧ r'.code = r.code ∧
        r'.first = r.first)) ∧
  (∀ (s : State) (code sl src : Nat) (d : Word), code < 65536 → s.pdOn 23 = true →
    ((∃ r ∈ s.crier.errorQ, r.matches code sl src = true) →
      (s.raise .error code sl src d).crier.errorQ =
        modifyFirst (fun r => r.matches code sl src) (fun r => r.merge s.clock.gtb) s.crier.errorQ) ∧
    ((∀ r ∈ s.crier.errorQ, r.matches code sl src = false) →
      (s.crier.errorQ.length < 3584 → (s.raise .error code sl src d).crier.errorQ =
        s.crier.errorQ ++ [⟨.error, code, false, sl, src, s.clock.gtb, d, 1, s.clock.gtb, false⟩]) ∧
      (3584 ≤ s.crier.errorQ.length →
        (∃ r ∈ (s.raise .error code sl src d).crier.errorQ, r.merged = true ∧ r.code = code) ∧
        bitOf 4 ((s.raise .error code sl src d).rd .IRQ_CAUSE 0x13) = true))) ∧
  (∀ (s : State) (code sl src : Nat) (d : Word), s.pdOn 23 = false →
    (s.raise .error code sl src d).crier = s.crier ∧
    (s.raise .error code sl src d).fld .TRC_OFF_DROPS_ERRORS = min (s.fld .TRC_OFF_DROPS_ERRORS + 1) 0xFFFFFFFF ∧
    (s.raise .error code sl src d).fld .TRC_OFF_DROPS_COUNT = min (s.fld .TRC_OFF_DROPS_COUNT + 1) 0xFFFFFFFF ∧
    (s.raise .log code sl src d).crier = s.crier ∧
    (s.raise .log code sl src d).fld .TRC_OFF_DROPS_ERRORS = s.fld .TRC_OFF_DROPS_ERRORS ∧
    (s.raise .log code sl src d).fld .TRC_OFF_DROPS_COUNT = min (s.fld .TRC_OFF_DROPS_COUNT + 1) 0xFFFFFFFF) ∧
  (∀ (s : State) (code sl src : Nat) (d : Word), s.pdOn 23 = true → src < 188 →
    ((s.raise .log code sl src d).crier.logQ.getLast? =
        some ⟨.log, code, false, sl, src, s.clock.gtb, d, 1, s.clock.gtb, false⟩ ∧ s.crier.logQ.length < 836 ∧
        (s.raise .log code sl src d).fld .TRC_DROP_LOG src = s.fld .TRC_DROP_LOG src ∨
      (s.raise .log code sl src d).crier.logQ = s.crier.logQ ∧
        (s.raise .log code sl src d).fld .TRC_DROP_LOG src = min (s.fld .TRC_DROP_LOG src + 1) 0xFFFFFFFF ∧
        bitOf 4 ((s.raise .log code sl src d).rd .IRQ_CAUSE 0x13) = true) ∧
    (s.crier.logQ.length ≥ 836 → (s.raise .log code sl src d).crier.logQ = s.crier.logQ)) ∧
  (∀ (s : State) (code sl src : Nat) (d : Word), bitOf (code / 256) (s.rd .TRC_TRACE_EN 0) = false →
    (s.raise .trace code sl src d).crier = s.crier)

/-- The Crier writes an ALARM before any ERROR, an ERROR after its hold, into its ring while there is space (R408, R410,
R411, R412, R414, R416). -/
def Obligations.CrierRingsLatchesAndTheTestCause : Prop :=
  (∀ (path : Path) (s : State), s.isReady = true → pathOk path = true →
    Leaves (.irqTest path true) s (s.setCause 0x12 0) ∧ Leaves (.irqTest path false) s s) ∧
  (∀ (path : Path) (l : Nat) (s : State), s.isReady = true → pathOk path = true → l < 188 → Answers (.alarmAck path l) s (fun t =>
    t.fld .TRC_ALARM_CODES_PENDING l = 0 ∧ t.fld .TRC_ALARM_CODES_COUNT l = 0 ∧
    t.fld .TRC_ALARM_CODES_FIRST_CODE l = s.fld .TRC_ALARM_CODES_FIRST_CODE l ∧
    t.fld .TRC_ALARM_CODES_LAST_CODE l = s.fld .TRC_ALARM_CODES_LAST_CODE l ∧
    SameRegsBut [regAddr .TRC_ALARM_CODES l] s t ∧ t = { s with
      regs := t.regs
      pins := t.pins })) ∧
  (∀ (i : Nat) (s : State), i < 3 → s.alive = true → s.pdOn 23 = true → Leaves (.crierRecordWrite i) s (s.writeRecord i)) ∧
  (∀ (i : Nat) (s : State), i < 3 → s.pdOn 23 = false → Leaves (.crierRecordWrite i) s s) ∧
  (∀ (s : State) (r : Rec) (t : List Rec),
    (s.crier.alarmQ = r :: t → s.nextRecord 0 = some (r, { s.crier with alarmQ := t })) ∧
    (s.crier.alarmQ = [] → s.crier.errorQ = r :: t → s.nextRecord 0 =
      if r.held = true ∨ min 1000 (s.fld .TRC_CTL_HOLD_US) = 0 then some (r, { s.crier with errorQ := t }) else none) ∧
    (s.crier.logQ = r :: t → s.nextRecord 1 = some (r, { s.crier with logQ := t })) ∧
    (s.crier.traceQ = r :: t → s.nextRecord 2 = some (r, { s.crier with traceQ := t }))) ∧
  (∀ (s : State) (i size : Nat) (r : Rec) (c : Crier), i < 3 → ringSize 6 16 (s.rd .TRC_RING_BASE i) = some size →
    s.nextRecord i = some (r, c) →
    (∀ h, ringSlot size (s.fld .TRC_RING_HEAD_INDEX i) (s.fld .TRC_RING_TAIL_INDEX i)
        (s.inFlight (fun u => decide (u = .crier i))) = some h →
      (s.writeRecord i).crier.alarmQ = c.alarmQ ∧ (s.writeRecord i).crier.errorQ = c.errorQ ∧
      (bitOf 5 (s.rd .TRC_RING_BASE i) = false →
        (s.writeRecord i).hif.posts = s.hif.posts ++ [⟨s.hif.nextPost, .crier i, r.words⟩] ∧
        (s.writeRecord i).out = s.out ++ [.hostWrite s.hif.nextPost
          (getBits 63 12 (s.rd .TRC_RING_BASE i) * 4096 + 32 * h) none r.words]) ∧
      (bitOf 5 (s.rd .TRC_RING_BASE i) = true → (s.writeRecord i).hif = s.hif ∧
        (s.writeRecord i).fld .TRC_RING_HEAD_INDEX i = (s.fld .TRC_RING_HEAD_INDEX i + 1) % size)) ∧
    (ringSlot size (s.fld .TRC_RING_HEAD_INDEX i) (s.fld .TRC_RING_TAIL_INDEX i)
        (s.inFlight (fun u => decide (u = .crier i))) = none → s.writeRecord i = s)) ∧
  (∀ (s : State) (i : Nat), ringSize 6 16 (s.rd .TRC_RING_BASE i) = none → s.writeRecord i = s) ∧
  (∀ r : Rec, r.code < 65536 → r.slice < 256 → r.source < 256 → r.count < 2 ^ 32 →
    getBits 63 48 (r.words.getD 0 0) = r.code ∧ getBits 47 46 (r.words.getD 0 0) = EventClass.code r.cls ∧
    getBits 39 32 (r.words.getD 0 0) = r.slice ∧ getBits 31 24 (r.words.getD 0 0) = r.code / 256 ∧
    getBits 23 16 (r.words.getD 0 0) = r.source ∧ r.words.getD 1 0 = word r.first ∧ r.words.getD 2 0 = r.detail ∧
    getBits 63 32 (r.words.getD 3 0) = r.count ∧ getBits 31 0 (r.words.getD 3 0) = r.last % 2 ^ 32 ∧ r.words.length = 4) ∧
  (∀ (r : Rec) (s : State), s.alive = true → s.crier.errorQ.find? (fun x => !x.held) = some r →
    Answers .errorHoldExpired s (fun t => t.clock = (s.advanceTo (r.first + 1000 * min 1000 (s.fld .TRC_CTL_HOLD_US))).clock ∧
      t.crier.errorQ = modifyFirst (fun x => !x.held) (fun x => { x with held := true }) s.crier.errorQ ∧
      t.crier.alarmQ = s.crier.alarmQ)) ∧
  (∀ (i : Nat) (s : State), i < 3 →
    (s.alive = true → 0 < mapGet 0 s.crier.written i → Leaves (.ringIrqTimer i) s
      ((s.advanceTo (mapGet 0 s.crier.writtenAt i + 1000 * s.fld .TRC_CTL_IRQ_TIMER_US)).setCause 0x13 (1 + i))) ∧
    (mapGet 0 s.crier.written i = 0 → Leaves (.ringIrqTimer i) s s)) ∧
  (∀ (s : State) (i : Nat), i < 3 → s.fld .TRC_CTL_IRQ_THRESHOLD ≤ mapGet 0 s.crier.written i + 1 →
    bitOf (1 + i) ((s.crierWritten i).rd .IRQ_CAUSE 0x13) = true) ∧
  (∀ (s : State) (i : Nat), i < 3 → mapGet 0 s.crier.written i = 0 →
    mapGet 0 (s.crierWritten i).crier.writtenAt i = s.clock.gtb) ∧
  (∀ (path : Path) (i v : Nat) (s : State), s.isReady = true → pathOk path = true → i < 3 → v < 65536 →
    Leaves (.crierRingTail path i v) s (s.setFld .TRC_RING_TAIL_INDEX i v) ∧
    (s.setFld .TRC_RING_TAIL_INDEX i v).fld .TRC_RING_TAIL_INDEX i = v)

/-- A read of an unassigned BAR0 offset returns 0 and changes nothing else, and a write to one is ignored (R7). -/
def Obligations.UnassignedOffsetsReadZeroAndIgnoreWrites : Prop :=
  ∀ (a : Bar0Access) (s : State), a.bar = 0 → bar0Ok a = true → a.bytes = 8 → a.offset % 8 = 0 → s.taken a.path a.offset = true →
    (∀ (r : Reg) (i : Nat), regIdxOk r i = true → regAddr r i ≠ a.offset) →
    (a.write = false → Leaves (.registerWrite a) s
      { s with out := s.out ++ [if a.path = .host then .hostData a.tag 0 else .stewardData 0] }) ∧
    (a.write = true → Leaves (.registerWrite a) s s)

/-- Once the life-cycle gate has closed, a write to an LK field is discarded and the field keeps its value (R14). -/
def Obligations.ClosedGateKeepsLockedFields : Prop :=
  ∀ (a : Bar0Access) (s : State) (r : Reg) (i k : Nat), s.gateClosed = true → a.bar = 0 → bar0Ok a = true → a.write = true →
    regIdxOk r i = true → a.offset = regAddr r i → k < 64 → bitAccess r i k = some .lk →
    Answers (.registerWrite a) s (fun t => (t.rd r i).getLsbD k = (s.rd r i).getLsbD k)
end

