-- ==== Sys2Proof/Laws/Tables.lean ====
section
/-! SUPPORT. The laws of the canonical tables: what a read after a write gives, and that every table operation keeps the
canonical form. -/

namespace Sys2Proof.Laws

open Sys2Proof.Machine

variable {α : Type}

@[simp] theorem mapGet_mapErase_same (d : α) (m : List (Nat × α)) (k : Nat) : mapGet d (mapErase m k) k = d := by
  induction m with
  | nil => rfl
  | cons e t ih =>
    obtain ⟨j, v⟩ := e
    by_cases h : j = k
    · simp [mapErase, h, ih]
    · simp [mapErase, mapGet, h, ih]

theorem mapGet_mapErase_ne (d : α) (m : List (Nat × α)) {j k : Nat} (h : j ≠ k) :
    mapGet d (mapErase m k) j = mapGet d m j := by
  induction m with
  | nil => rfl
  | cons e t ih =>
    obtain ⟨i, v⟩ := e
    by_cases hi : i = k
    · simp [mapErase, mapGet, hi, ih, h.symm]
    · simp [mapErase, mapGet, hi, ih]

@[simp] theorem mapGet_mapPut_same (d : α) (m : List (Nat × α)) (k : Nat) (v : α) : mapGet d (mapPut m k v) k = v := by
  induction m with
  | nil => simp [mapPut, mapGet]
  | cons e t ih =>
    obtain ⟨j, w⟩ := e
    by_cases h1 : k < j
    · simp [mapPut, mapGet, h1]
    · by_cases h2 : k = j
      · simp [mapPut, mapGet, h2]
      · simp [mapPut, mapGet, h1, h2, ih, Ne.symm h2]

theorem mapGet_mapPut_ne (d : α) (m : List (Nat × α)) {j k : Nat} (v : α) (h : j ≠ k) :
    mapGet d (mapPut m k v) j = mapGet d m j := by
  induction m with
  | nil => simp [mapPut, mapGet, h.symm]
  | cons e t ih =>
    obtain ⟨i, w⟩ := e
    by_cases h1 : k < i
    · simp [mapPut, mapGet, h1, h.symm]
    · by_cases h2 : k = i
      · subst h2
        simp [mapPut, mapGet, h.symm]
      · simp [mapPut, mapGet, h1, h2, ih]

@[simp] theorem mapGet_mapSet_same [DecidableEq α] (d : α) (m : List (Nat × α)) (k : Nat) (v : α) :
    mapGet d (mapSet d m k v) k = v := by
  unfold mapSet
  split
  · simp [*]
  · simp

theorem mapGet_mapSet_ne [DecidableEq α] (d d' : α) (m : List (Nat × α)) {j k : Nat} (v : α) (h : j ≠ k) :
    mapGet d (mapSet d' m k v) j = mapGet d m j := by
  unfold mapSet
  split
  · exact mapGet_mapErase_ne d m h
  · exact mapGet_mapPut_ne d m v h

/-- A key at or below every key of a rising table with a smaller first key. -/
theorem keysRising_cons {j : Nat} {v : α} {t : List (Nat × α)} :
    keysRising ((j, v) :: t) = true ↔ (∀ e ∈ t, j < e.1) ∧ keysRising t = true := by
  induction t generalizing j v with
  | nil => simp [keysRising]
  | cons e t ih =>
    obtain ⟨k, w⟩ := e
    constructor
    · intro h
      simp only [keysRising, Bool.and_eq_true, decide_eq_true_eq] at h
      obtain ⟨h1, h2⟩ := h
      refine ⟨?_, h2⟩
      intro e he
      rcases List.mem_cons.mp he with rfl | he
      · exact h1
      · exact Nat.lt_trans h1 ((ih.mp h2).1 e he)
    · rintro ⟨h1, h2⟩
      simp only [keysRising, Bool.and_eq_true, decide_eq_true_eq]
      exact ⟨h1 _ (List.mem_cons_self ..), h2⟩

theorem mem_mapErase {m : List (Nat × α)} {k : Nat} {e : Nat × α} (h : e ∈ mapErase m k) : e ∈ m := by
  induction m with
  | nil => cases h
  | cons x t ih =>
    obtain ⟨j, v⟩ := x
    by_cases hj : j = k
    · simp only [mapErase, hj, if_true] at h
      exact List.mem_cons_of_mem _ (ih h)
    · simp only [mapErase, hj, if_false] at h
      rcases List.mem_cons.mp h with rfl | h
      · exact List.mem_cons_self ..
      · exact List.mem_cons_of_mem _ (ih h)

theorem mem_mapPut {m : List (Nat × α)} {k : Nat} {v : α} {e : Nat × α} (h : e ∈ mapPut m k v) :
    e = (k, v) ∨ e ∈ m := by
  induction m with
  | nil => simpa [mapPut] using h
  | cons x t ih =>
    obtain ⟨j, w⟩ := x
    by_cases h1 : k < j
    · simp only [mapPut, h1, if_true] at h
      simpa using h
    · by_cases h2 : k = j
      · subst h2
        simp only [mapPut, Nat.lt_irrefl, if_true, if_false] at h
        rcases List.mem_cons.mp h with rfl | h
        · exact .inl rfl
        · exact .inr (List.mem_cons_of_mem _ h)
      · simp only [mapPut, h1, h2, if_false] at h
        rcases List.mem_cons.mp h with rfl | h
        · exact .inr (List.mem_cons_self ..)
        · exact (ih h).imp_right (List.mem_cons_of_mem _)

theorem keysRising_mapErase {m : List (Nat × α)} (k : Nat) (h : keysRising m = true) : keysRising (mapErase m k) = true := by
  induction m with
  | nil => rfl
  | cons x t ih =>
    obtain ⟨j, v⟩ := x
    have h' := keysRising_cons.mp h
    by_cases hj : j = k
    · simpa [mapErase, hj] using ih h'.2
    · simp only [mapErase, hj, if_false]
      exact keysRising_cons.mpr ⟨fun e he => h'.1 e (mem_mapErase he), ih h'.2⟩

theorem keysRising_mapPut {m : List (Nat × α)} (k : Nat) (v : α) (h : keysRising m = true) :
    keysRising (mapPut m k v) = true := by
  induction m with
  | nil => rfl
  | cons x t ih =>
    obtain ⟨j, w⟩ := x
    have h' := keysRising_cons.mp h
    by_cases h1 : k < j
    · simp only [mapPut, h1, if_true]
      refine keysRising_cons.mpr ⟨?_, h⟩
      intro e he
      rcases List.mem_cons.mp he with rfl | he
      · exact h1
      · exact Nat.lt_trans h1 (h'.1 e he)
    · by_cases h2 : k = j
      · subst h2
        simp only [mapPut, Nat.lt_irrefl, if_true, if_false]
        exact keysRising_cons.mpr h'
      · simp only [mapPut, h1, h2, if_false]
        refine keysRising_cons.mpr ⟨?_, ih h'.2⟩
        intro e he
        rcases mem_mapPut he with rfl | he
        · simp only
          omega
        · exact h'.1 e he

/-- A table operation keeps the canonical form: keys strictly rising, no entry an unlisted key's value. -/
theorem mapWf_mapSet [DecidableEq α] (d : Nat → α) {m : List (Nat × α)} (k : Nat) (v : α) (h : mapWf d m = true) :
    mapWf d (mapSet (d k) m k v) = true := by
  simp only [mapWf, Bool.and_eq_true, List.all_eq_true, decide_eq_true_eq] at h ⊢
  unfold mapSet
  split
  · exact ⟨keysRising_mapErase k h.1, fun e he => h.2 e (mem_mapErase he)⟩
  · rename_i hv
    refine ⟨keysRising_mapPut k v h.1, fun e he => ?_⟩
    rcases mem_mapPut he with rfl | he
    · exact hv
    · exact h.2 e he

theorem keysRising_filter {m : List (Nat × α)} (p : Nat × α → Bool) (h : keysRising m = true) :
    keysRising (m.filter p) = true := by
  induction m with
  | nil => rfl
  | cons x t ih =>
    obtain ⟨j, v⟩ := x
    have h' := keysRising_cons.mp h
    by_cases hp : p (j, v) = true
    · rw [List.filter_cons_of_pos hp]
      exact keysRising_cons.mpr ⟨fun e he => h'.1 e (List.mem_filter.mp he).1, ih h'.2⟩
    · rw [List.filter_cons_of_neg hp]
      exact ih h'.2

theorem mapWf_filter [DecidableEq α] (d : Nat → α) {m : List (Nat × α)} (p : Nat × α → Bool) (h : mapWf d m = true) :
    mapWf d (m.filter p) = true := by
  simp only [mapWf, Bool.and_eq_true, List.all_eq_true, decide_eq_true_eq] at h ⊢
  exact ⟨keysRising_filter p h.1, fun e he => h.2 e (List.mem_filter.mp he).1⟩

end Sys2Proof.Laws
end

