-- ==== Sys2Proof/Laws/State.lean ====
section
/-! SUPPORT. What the named updates of the state leave alone: one lemma per field per update, each true by definition. -/

namespace Sys2Proof.Laws

open Sys2Proof Sys2Proof.Machine

@[simp] theorem wr_pending (s : State) (r : Reg) (i : Nat) (v : Word) : (s.wr r i v).pending = s.pending := rfl
@[simp] theorem wr_out (s : State) (r : Reg) (i : Nat) (v : Word) : (s.wr r i v).out = s.out := rfl
@[simp] theorem wr_fresh (s : State) (r : Reg) (i : Nat) (v : Word) : (s.wr r i v).fresh = s.fresh := rfl
@[simp] theorem wr_clock (s : State) (r : Reg) (i : Nat) (v : Word) : (s.wr r i v).clock = s.clock := rfl
@[simp] theorem wr_boot (s : State) (r : Reg) (i : Nat) (v : Word) : (s.wr r i v).boot = s.boot := rfl
@[simp] theorem wr_power (s : State) (r : Reg) (i : Nat) (v : Word) : (s.wr r i v).power = s.power := rfl
@[simp] theorem wr_moot (s : State) (r : Reg) (i : Nat) (v : Word) : (s.wr r i v).moot = s.moot := rfl
@[simp] theorem wr_comp (s : State) (r : Reg) (i : Nat) (v : Word) : (s.wr r i v).comp = s.comp := rfl
@[simp] theorem wr_clusters (s : State) (r : Reg) (i : Nat) (v : Word) : (s.wr r i v).clusters = s.clusters := rfl
@[simp] theorem wr_mems (s : State) (r : Reg) (i : Nat) (v : Word) : (s.wr r i v).mems = s.mems := rfl
@[simp] theorem wr_xlt (s : State) (r : Reg) (i : Nat) (v : Word) : (s.wr r i v).xlt = s.xlt := rfl
@[simp] theorem wr_sched (s : State) (r : Reg) (i : Nat) (v : Word) : (s.wr r i v).sched = s.sched := rfl
@[simp] theorem wr_coh (s : State) (r : Reg) (i : Nat) (v : Word) : (s.wr r i v).coh = s.coh := rfl
@[simp] theorem wr_hif (s : State) (r : Reg) (i : Nat) (v : Word) : (s.wr r i v).hif = s.hif := rfl
@[simp] theorem wr_obj (s : State) (r : Reg) (i : Nat) (v : Word) : (s.wr r i v).obj = s.obj := rfl
@[simp] theorem wr_drv (s : State) (r : Reg) (i : Nat) (v : Word) : (s.wr r i v).drv = s.drv := rfl
@[simp] theorem wr_ten (s : State) (r : Reg) (i : Nat) (v : Word) : (s.wr r i v).ten = s.ten := rfl
@[simp] theorem wr_links (s : State) (r : Reg) (i : Nat) (v : Word) : (s.wr r i v).links = s.links := rfl
@[simp] theorem wr_kx (s : State) (r : Reg) (i : Nat) (v : Word) : (s.wr r i v).kx = s.kx := rfl
@[simp] theorem wr_well (s : State) (r : Reg) (i : Nat) (v : Word) : (s.wr r i v).well = s.well := rfl
@[simp] theorem wr_ledger (s : State) (r : Reg) (i : Nat) (v : Word) : (s.wr r i v).ledger = s.ledger := rfl
@[simp] theorem wr_spr (s : State) (r : Reg) (i : Nat) (v : Word) : (s.wr r i v).spr = s.spr := rfl
@[simp] theorem wr_mon (s : State) (r : Reg) (i : Nat) (v : Word) : (s.wr r i v).mon = s.mon := rfl
@[simp] theorem wr_crier (s : State) (r : Reg) (i : Nat) (v : Word) : (s.wr r i v).crier = s.crier := rfl
@[simp] theorem wr_pins (s : State) (r : Reg) (i : Nat) (v : Word) : (s.wr r i v).pins = s.pins := rfl

@[simp] theorem setFld_pending (s : State) (f : Fld) (i v : Nat) : (s.setFld f i v).pending = s.pending := wr_pending s _ _ _
@[simp] theorem setFld_out (s : State) (f : Fld) (i v : Nat) : (s.setFld f i v).out = s.out := wr_out s _ _ _
@[simp] theorem setFld_fresh (s : State) (f : Fld) (i v : Nat) : (s.setFld f i v).fresh = s.fresh := wr_fresh s _ _ _
@[simp] theorem setFld_clock (s : State) (f : Fld) (i v : Nat) : (s.setFld f i v).clock = s.clock := wr_clock s _ _ _
@[simp] theorem setFld_boot (s : State) (f : Fld) (i v : Nat) : (s.setFld f i v).boot = s.boot := wr_boot s _ _ _
@[simp] theorem setFld_power (s : State) (f : Fld) (i v : Nat) : (s.setFld f i v).power = s.power := wr_power s _ _ _
@[simp] theorem setFld_moot (s : State) (f : Fld) (i v : Nat) : (s.setFld f i v).moot = s.moot := wr_moot s _ _ _
@[simp] theorem setFld_comp (s : State) (f : Fld) (i v : Nat) : (s.setFld f i v).comp = s.comp := wr_comp s _ _ _
@[simp] theorem setFld_clusters (s : State) (f : Fld) (i v : Nat) : (s.setFld f i v).clusters = s.clusters := wr_clusters s _ _ _
@[simp] theorem setFld_mems (s : State) (f : Fld) (i v : Nat) : (s.setFld f i v).mems = s.mems := wr_mems s _ _ _
@[simp] theorem setFld_xlt (s : State) (f : Fld) (i v : Nat) : (s.setFld f i v).xlt = s.xlt := wr_xlt s _ _ _
@[simp] theorem setFld_sched (s : State) (f : Fld) (i v : Nat) : (s.setFld f i v).sched = s.sched := wr_sched s _ _ _
@[simp] theorem setFld_coh (s : State) (f : Fld) (i v : Nat) : (s.setFld f i v).coh = s.coh := wr_coh s _ _ _
@[simp] theorem setFld_hif (s : State) (f : Fld) (i v : Nat) : (s.setFld f i v).hif = s.hif := wr_hif s _ _ _
@[simp] theorem setFld_obj (s : State) (f : Fld) (i v : Nat) : (s.setFld f i v).obj = s.obj := wr_obj s _ _ _
@[simp] theorem setFld_drv (s : State) (f : Fld) (i v : Nat) : (s.setFld f i v).drv = s.drv := wr_drv s _ _ _
@[simp] theorem setFld_ten (s : State) (f : Fld) (i v : Nat) : (s.setFld f i v).ten = s.ten := wr_ten s _ _ _
@[simp] theorem setFld_links (s : State) (f : Fld) (i v : Nat) : (s.setFld f i v).links = s.links := wr_links s _ _ _
@[simp] theorem setFld_kx (s : State) (f : Fld) (i v : Nat) : (s.setFld f i v).kx = s.kx := wr_kx s _ _ _
@[simp] theorem setFld_well (s : State) (f : Fld) (i v : Nat) : (s.setFld f i v).well = s.well := wr_well s _ _ _
@[simp] theorem setFld_ledger (s : State) (f : Fld) (i v : Nat) : (s.setFld f i v).ledger = s.ledger := wr_ledger s _ _ _
@[simp] theorem setFld_spr (s : State) (f : Fld) (i v : Nat) : (s.setFld f i v).spr = s.spr := wr_spr s _ _ _
@[simp] theorem setFld_mon (s : State) (f : Fld) (i v : Nat) : (s.setFld f i v).mon = s.mon := wr_mon s _ _ _
@[simp] theorem setFld_crier (s : State) (f : Fld) (i v : Nat) : (s.setFld f i v).crier = s.crier := wr_crier s _ _ _
@[simp] theorem setFld_pins (s : State) (f : Fld) (i v : Nat) : (s.setFld f i v).pins = s.pins := wr_pins s _ _ _

@[simp] theorem emit_pending (s : State) (o : Output) : (s.emit o).pending = s.pending := rfl
@[simp] theorem emit_fresh (s : State) (o : Output) : (s.emit o).fresh = s.fresh := rfl
@[simp] theorem emit_regs (s : State) (o : Output) : (s.emit o).regs = s.regs := rfl
@[simp] theorem emit_clock (s : State) (o : Output) : (s.emit o).clock = s.clock := rfl
@[simp] theorem emit_boot (s : State) (o : Output) : (s.emit o).boot = s.boot := rfl
@[simp] theorem emit_power (s : State) (o : Output) : (s.emit o).power = s.power := rfl
@[simp] theorem emit_moot (s : State) (o : Output) : (s.emit o).moot = s.moot := rfl
@[simp] theorem emit_comp (s : State) (o : Output) : (s.emit o).comp = s.comp := rfl
@[simp] theorem emit_clusters (s : State) (o : Output) : (s.emit o).clusters = s.clusters := rfl
@[simp] theorem emit_mems (s : State) (o : Output) : (s.emit o).mems = s.mems := rfl
@[simp] theorem emit_xlt (s : State) (o : Output) : (s.emit o).xlt = s.xlt := rfl
@[simp] theorem emit_sched (s : State) (o : Output) : (s.emit o).sched = s.sched := rfl
@[simp] theorem emit_coh (s : State) (o : Output) : (s.emit o).coh = s.coh := rfl
@[simp] theorem emit_hif (s : State) (o : Output) : (s.emit o).hif = s.hif := rfl
@[simp] theorem emit_obj (s : State) (o : Output) : (s.emit o).obj = s.obj := rfl
@[simp] theorem emit_drv (s : State) (o : Output) : (s.emit o).drv = s.drv := rfl
@[simp] theorem emit_ten (s : State) (o : Output) : (s.emit o).ten = s.ten := rfl
@[simp] theorem emit_links (s : State) (o : Output) : (s.emit o).links = s.links := rfl
@[simp] theorem emit_kx (s : State) (o : Output) : (s.emit o).kx = s.kx := rfl
@[simp] theorem emit_well (s : State) (o : Output) : (s.emit o).well = s.well := rfl
@[simp] theorem emit_ledger (s : State) (o : Output) : (s.emit o).ledger = s.ledger := rfl
@[simp] theorem emit_spr (s : State) (o : Output) : (s.emit o).spr = s.spr := rfl
@[simp] theorem emit_mon (s : State) (o : Output) : (s.emit o).mon = s.mon := rfl
@[simp] theorem emit_crier (s : State) (o : Output) : (s.emit o).crier = s.crier := rfl
@[simp] theorem emit_pins (s : State) (o : Output) : (s.emit o).pins = s.pins := rfl

@[simp] theorem setCluster_pending (s : State) (k : Nat) (c : Cluster) : (s.setCluster k c).pending = s.pending := rfl
@[simp] theorem setCluster_out (s : State) (k : Nat) (c : Cluster) : (s.setCluster k c).out = s.out := rfl
@[simp] theorem setCluster_fresh (s : State) (k : Nat) (c : Cluster) : (s.setCluster k c).fresh = s.fresh := rfl
@[simp] theorem setCluster_regs (s : State) (k : Nat) (c : Cluster) : (s.setCluster k c).regs = s.regs := rfl
@[simp] theorem setCluster_clock (s : State) (k : Nat) (c : Cluster) : (s.setCluster k c).clock = s.clock := rfl
@[simp] theorem setCluster_boot (s : State) (k : Nat) (c : Cluster) : (s.setCluster k c).boot = s.boot := rfl
@[simp] theorem setCluster_power (s : State) (k : Nat) (c : Cluster) : (s.setCluster k c).power = s.power := rfl
@[simp] theorem setCluster_moot (s : State) (k : Nat) (c : Cluster) : (s.setCluster k c).moot = s.moot := rfl
@[simp] theorem setCluster_comp (s : State) (k : Nat) (c : Cluster) : (s.setCluster k c).comp = s.comp := rfl
@[simp] theorem setCluster_mems (s : State) (k : Nat) (c : Cluster) : (s.setCluster k c).mems = s.mems := rfl
@[simp] theorem setCluster_xlt (s : State) (k : Nat) (c : Cluster) : (s.setCluster k c).xlt = s.xlt := rfl
@[simp] theorem setCluster_sched (s : State) (k : Nat) (c : Cluster) : (s.setCluster k c).sched = s.sched := rfl
@[simp] theorem setCluster_coh (s : State) (k : Nat) (c : Cluster) : (s.setCluster k c).coh = s.coh := rfl
@[simp] theorem setCluster_hif (s : State) (k : Nat) (c : Cluster) : (s.setCluster k c).hif = s.hif := rfl
@[simp] theorem setCluster_obj (s : State) (k : Nat) (c : Cluster) : (s.setCluster k c).obj = s.obj := rfl
@[simp] theorem setCluster_drv (s : State) (k : Nat) (c : Cluster) : (s.setCluster k c).drv = s.drv := rfl
@[simp] theorem setCluster_ten (s : State) (k : Nat) (c : Cluster) : (s.setCluster k c).ten = s.ten := rfl
@[simp] theorem setCluster_links (s : State) (k : Nat) (c : Cluster) : (s.setCluster k c).links = s.links := rfl
@[simp] theorem setCluster_kx (s : State) (k : Nat) (c : Cluster) : (s.setCluster k c).kx = s.kx := rfl
@[simp] theorem setCluster_well (s : State) (k : Nat) (c : Cluster) : (s.setCluster k c).well = s.well := rfl
@[simp] theorem setCluster_ledger (s : State) (k : Nat) (c : Cluster) : (s.setCluster k c).ledger = s.ledger := rfl
@[simp] theorem setCluster_spr (s : State) (k : Nat) (c : Cluster) : (s.setCluster k c).spr = s.spr := rfl
@[simp] theorem setCluster_mon (s : State) (k : Nat) (c : Cluster) : (s.setCluster k c).mon = s.mon := rfl
@[simp] theorem setCluster_crier (s : State) (k : Nat) (c : Cluster) : (s.setCluster k c).crier = s.crier := rfl
@[simp] theorem setCluster_pins (s : State) (k : Nat) (c : Cluster) : (s.setCluster k c).pins = s.pins := rfl

@[simp] theorem setMem_pending (s : State) (p : Nat) (c : MemStation) : (s.setMem p c).pending = s.pending := rfl
@[simp] theorem setMem_out (s : State) (p : Nat) (c : MemStation) : (s.setMem p c).out = s.out := rfl
@[simp] theorem setMem_fresh (s : State) (p : Nat) (c : MemStation) : (s.setMem p c).fresh = s.fresh := rfl
@[simp] theorem setMem_regs (s : State) (p : Nat) (c : MemStation) : (s.setMem p c).regs = s.regs := rfl
@[simp] theorem setMem_clock (s : State) (p : Nat) (c : MemStation) : (s.setMem p c).clock = s.clock := rfl
@[simp] theorem setMem_boot (s : State) (p : Nat) (c : MemStation) : (s.setMem p c).boot = s.boot := rfl
@[simp] theorem setMem_power (s : State) (p : Nat) (c : MemStation) : (s.setMem p c).power = s.power := rfl
@[simp] theorem setMem_moot (s : State) (p : Nat) (c : MemStation) : (s.setMem p c).moot = s.moot := rfl
@[simp] theorem setMem_comp (s : State) (p : Nat) (c : MemStation) : (s.setMem p c).comp = s.comp := rfl
@[simp] theorem setMem_clusters (s : State) (p : Nat) (c : MemStation) : (s.setMem p c).clusters = s.clusters := rfl
@[simp] theorem setMem_xlt (s : State) (p : Nat) (c : MemStation) : (s.setMem p c).xlt = s.xlt := rfl
@[simp] theorem setMem_sched (s : State) (p : Nat) (c : MemStation) : (s.setMem p c).sched = s.sched := rfl
@[simp] theorem setMem_coh (s : State) (p : Nat) (c : MemStation) : (s.setMem p c).coh = s.coh := rfl
@[simp] theorem setMem_hif (s : State) (p : Nat) (c : MemStation) : (s.setMem p c).hif = s.hif := rfl
@[simp] theorem setMem_obj (s : State) (p : Nat) (c : MemStation) : (s.setMem p c).obj = s.obj := rfl
@[simp] theorem setMem_drv (s : State) (p : Nat) (c : MemStation) : (s.setMem p c).drv = s.drv := rfl
@[simp] theorem setMem_ten (s : State) (p : Nat) (c : MemStation) : (s.setMem p c).ten = s.ten := rfl
@[simp] theorem setMem_links (s : State) (p : Nat) (c : MemStation) : (s.setMem p c).links = s.links := rfl
@[simp] theorem setMem_kx (s : State) (p : Nat) (c : MemStation) : (s.setMem p c).kx = s.kx := rfl
@[simp] theorem setMem_well (s : State) (p : Nat) (c : MemStation) : (s.setMem p c).well = s.well := rfl
@[simp] theorem setMem_ledger (s : State) (p : Nat) (c : MemStation) : (s.setMem p c).ledger = s.ledger := rfl
@[simp] theorem setMem_spr (s : State) (p : Nat) (c : MemStation) : (s.setMem p c).spr = s.spr := rfl
@[simp] theorem setMem_mon (s : State) (p : Nat) (c : MemStation) : (s.setMem p c).mon = s.mon := rfl
@[simp] theorem setMem_crier (s : State) (p : Nat) (c : MemStation) : (s.setMem p c).crier = s.crier := rfl
@[simp] theorem setMem_pins (s : State) (p : Nat) (c : MemStation) : (s.setMem p c).pins = s.pins := rfl

@[simp] theorem setLink_pending (s : State) (p : Nat) (c : LinkStation) : (s.setLink p c).pending = s.pending := rfl
@[simp] theorem setLink_out (s : State) (p : Nat) (c : LinkStation) : (s.setLink p c).out = s.out := rfl
@[simp] theorem setLink_fresh (s : State) (p : Nat) (c : LinkStation) : (s.setLink p c).fresh = s.fresh := rfl
@[simp] theorem setLink_regs (s : State) (p : Nat) (c : LinkStation) : (s.setLink p c).regs = s.regs := rfl
@[simp] theorem setLink_clock (s : State) (p : Nat) (c : LinkStation) : (s.setLink p c).clock = s.clock := rfl
@[simp] theorem setLink_boot (s : State) (p : Nat) (c : LinkStation) : (s.setLink p c).boot = s.boot := rfl
@[simp] theorem setLink_power (s : State) (p : Nat) (c : LinkStation) : (s.setLink p c).power = s.power := rfl
@[simp] theorem setLink_moot (s : State) (p : Nat) (c : LinkStation) : (s.setLink p c).moot = s.moot := rfl
@[simp] theorem setLink_comp (s : State) (p : Nat) (c : LinkStation) : (s.setLink p c).comp = s.comp := rfl
@[simp] theorem setLink_clusters (s : State) (p : Nat) (c : LinkStation) : (s.setLink p c).clusters = s.clusters := rfl
@[simp] theorem setLink_mems (s : State) (p : Nat) (c : LinkStation) : (s.setLink p c).mems = s.mems := rfl
@[simp] theorem setLink_xlt (s : State) (p : Nat) (c : LinkStation) : (s.setLink p c).xlt = s.xlt := rfl
@[simp] theorem setLink_sched (s : State) (p : Nat) (c : LinkStation) : (s.setLink p c).sched = s.sched := rfl
@[simp] theorem setLink_coh (s : State) (p : Nat) (c : LinkStation) : (s.setLink p c).coh = s.coh := rfl
@[simp] theorem setLink_hif (s : State) (p : Nat) (c : LinkStation) : (s.setLink p c).hif = s.hif := rfl
@[simp] theorem setLink_obj (s : State) (p : Nat) (c : LinkStation) : (s.setLink p c).obj = s.obj := rfl
@[simp] theorem setLink_drv (s : State) (p : Nat) (c : LinkStation) : (s.setLink p c).drv = s.drv := rfl
@[simp] theorem setLink_ten (s : State) (p : Nat) (c : LinkStation) : (s.setLink p c).ten = s.ten := rfl
@[simp] theorem setLink_kx (s : State) (p : Nat) (c : LinkStation) : (s.setLink p c).kx = s.kx := rfl
@[simp] theorem setLink_well (s : State) (p : Nat) (c : LinkStation) : (s.setLink p c).well = s.well := rfl
@[simp] theorem setLink_ledger (s : State) (p : Nat) (c : LinkStation) : (s.setLink p c).ledger = s.ledger := rfl
@[simp] theorem setLink_spr (s : State) (p : Nat) (c : LinkStation) : (s.setLink p c).spr = s.spr := rfl
@[simp] theorem setLink_mon (s : State) (p : Nat) (c : LinkStation) : (s.setLink p c).mon = s.mon := rfl
@[simp] theorem setLink_crier (s : State) (p : Nat) (c : LinkStation) : (s.setLink p c).crier = s.crier := rfl
@[simp] theorem setLink_pins (s : State) (p : Nat) (c : LinkStation) : (s.setLink p c).pins = s.pins := rfl

@[simp] theorem setQueueRun_pending (s : State) (q : Nat) (r : QueueRun) : (s.setQueueRun q r).pending = s.pending := rfl
@[simp] theorem setQueueRun_out (s : State) (q : Nat) (r : QueueRun) : (s.setQueueRun q r).out = s.out := rfl
@[simp] theorem setQueueRun_fresh (s : State) (q : Nat) (r : QueueRun) : (s.setQueueRun q r).fresh = s.fresh := rfl
@[simp] theorem setQueueRun_regs (s : State) (q : Nat) (r : QueueRun) : (s.setQueueRun q r).regs = s.regs := rfl
@[simp] theorem setQueueRun_clock (s : State) (q : Nat) (r : QueueRun) : (s.setQueueRun q r).clock = s.clock := rfl
@[simp] theorem setQueueRun_boot (s : State) (q : Nat) (r : QueueRun) : (s.setQueueRun q r).boot = s.boot := rfl
@[simp] theorem setQueueRun_power (s : State) (q : Nat) (r : QueueRun) : (s.setQueueRun q r).power = s.power := rfl
@[simp] theorem setQueueRun_moot (s : State) (q : Nat) (r : QueueRun) : (s.setQueueRun q r).moot = s.moot := rfl
@[simp] theorem setQueueRun_comp (s : State) (q : Nat) (r : QueueRun) : (s.setQueueRun q r).comp = s.comp := rfl
@[simp] theorem setQueueRun_clusters (s : State) (q : Nat) (r : QueueRun) : (s.setQueueRun q r).clusters = s.clusters := rfl
@[simp] theorem setQueueRun_mems (s : State) (q : Nat) (r : QueueRun) : (s.setQueueRun q r).mems = s.mems := rfl
@[simp] theorem setQueueRun_xlt (s : State) (q : Nat) (r : QueueRun) : (s.setQueueRun q r).xlt = s.xlt := rfl
@[simp] theorem setQueueRun_sched (s : State) (q : Nat) (r : QueueRun) : (s.setQueueRun q r).sched = s.sched := rfl
@[simp] theorem setQueueRun_coh (s : State) (q : Nat) (r : QueueRun) : (s.setQueueRun q r).coh = s.coh := rfl
@[simp] theorem setQueueRun_obj (s : State) (q : Nat) (r : QueueRun) : (s.setQueueRun q r).obj = s.obj := rfl
@[simp] theorem setQueueRun_drv (s : State) (q : Nat) (r : QueueRun) : (s.setQueueRun q r).drv = s.drv := rfl
@[simp] theorem setQueueRun_ten (s : State) (q : Nat) (r : QueueRun) : (s.setQueueRun q r).ten = s.ten := rfl
@[simp] theorem setQueueRun_links (s : State) (q : Nat) (r : QueueRun) : (s.setQueueRun q r).links = s.links := rfl
@[simp] theorem setQueueRun_kx (s : State) (q : Nat) (r : QueueRun) : (s.setQueueRun q r).kx = s.kx := rfl
@[simp] theorem setQueueRun_well (s : State) (q : Nat) (r : QueueRun) : (s.setQueueRun q r).well = s.well := rfl
@[simp] theorem setQueueRun_ledger (s : State) (q : Nat) (r : QueueRun) : (s.setQueueRun q r).ledger = s.ledger := rfl
@[simp] theorem setQueueRun_spr (s : State) (q : Nat) (r : QueueRun) : (s.setQueueRun q r).spr = s.spr := rfl
@[simp] theorem setQueueRun_mon (s : State) (q : Nat) (r : QueueRun) : (s.setQueueRun q r).mon = s.mon := rfl
@[simp] theorem setQueueRun_crier (s : State) (q : Nat) (r : QueueRun) : (s.setQueueRun q r).crier = s.crier := rfl
@[simp] theorem setQueueRun_pins (s : State) (q : Nat) (r : QueueRun) : (s.setQueueRun q r).pins = s.pins := rfl

@[simp] theorem setMbx_pending (s : State) (sl w : Nat) (v : Word) : (s.setMbx sl w v).pending = s.pending := rfl
@[simp] theorem setMbx_out (s : State) (sl w : Nat) (v : Word) : (s.setMbx sl w v).out = s.out := rfl
@[simp] theorem setMbx_fresh (s : State) (sl w : Nat) (v : Word) : (s.setMbx sl w v).fresh = s.fresh := rfl
@[simp] theorem setMbx_regs (s : State) (sl w : Nat) (v : Word) : (s.setMbx sl w v).regs = s.regs := rfl
@[simp] theorem setMbx_clock (s : State) (sl w : Nat) (v : Word) : (s.setMbx sl w v).clock = s.clock := rfl
@[simp] theorem setMbx_boot (s : State) (sl w : Nat) (v : Word) : (s.setMbx sl w v).boot = s.boot := rfl
@[simp] theorem setMbx_power (s : State) (sl w : Nat) (v : Word) : (s.setMbx sl w v).power = s.power := rfl
@[simp] theorem setMbx_moot (s : State) (sl w : Nat) (v : Word) : (s.setMbx sl w v).moot = s.moot := rfl
@[simp] theorem setMbx_comp (s : State) (sl w : Nat) (v : Word) : (s.setMbx sl w v).comp = s.comp := rfl
@[simp] theorem setMbx_clusters (s : State) (sl w : Nat) (v : Word) : (s.setMbx sl w v).clusters = s.clusters := rfl
@[simp] theorem setMbx_mems (s : State) (sl w : Nat) (v : Word) : (s.setMbx sl w v).mems = s.mems := rfl
@[simp] theorem setMbx_xlt (s : State) (sl w : Nat) (v : Word) : (s.setMbx sl w v).xlt = s.xlt := rfl
@[simp] theorem setMbx_sched (s : State) (sl w : Nat) (v : Word) : (s.setMbx sl w v).sched = s.sched := rfl
@[simp] theorem setMbx_coh (s : State) (sl w : Nat) (v : Word) : (s.setMbx sl w v).coh = s.coh := rfl
@[simp] theorem setMbx_hif (s : State) (sl w : Nat) (v : Word) : (s.setMbx sl w v).hif = s.hif := rfl
@[simp] theorem setMbx_obj (s : State) (sl w : Nat) (v : Word) : (s.setMbx sl w v).obj = s.obj := rfl
@[simp] theorem setMbx_drv (s : State) (sl w : Nat) (v : Word) : (s.setMbx sl w v).drv = s.drv := rfl
@[simp] theorem setMbx_links (s : State) (sl w : Nat) (v : Word) : (s.setMbx sl w v).links = s.links := rfl
@[simp] theorem setMbx_kx (s : State) (sl w : Nat) (v : Word) : (s.setMbx sl w v).kx = s.kx := rfl
@[simp] theorem setMbx_well (s : State) (sl w : Nat) (v : Word) : (s.setMbx sl w v).well = s.well := rfl
@[simp] theorem setMbx_ledger (s : State) (sl w : Nat) (v : Word) : (s.setMbx sl w v).ledger = s.ledger := rfl
@[simp] theorem setMbx_spr (s : State) (sl w : Nat) (v : Word) : (s.setMbx sl w v).spr = s.spr := rfl
@[simp] theorem setMbx_mon (s : State) (sl w : Nat) (v : Word) : (s.setMbx sl w v).mon = s.mon := rfl
@[simp] theorem setMbx_crier (s : State) (sl w : Nat) (v : Word) : (s.setMbx sl w v).crier = s.crier := rfl
@[simp] theorem setMbx_pins (s : State) (sl w : Nat) (v : Word) : (s.setMbx sl w v).pins = s.pins := rfl

@[simp] theorem setCtxWord_pending (s : State) (c w : Nat) (v : Word) : (s.setCtxWord c w v).pending = s.pending := rfl
@[simp] theorem setCtxWord_out (s : State) (c w : Nat) (v : Word) : (s.setCtxWord c w v).out = s.out := rfl
@[simp] theorem setCtxWord_fresh (s : State) (c w : Nat) (v : Word) : (s.setCtxWord c w v).fresh = s.fresh := rfl
@[simp] theorem setCtxWord_regs (s : State) (c w : Nat) (v : Word) : (s.setCtxWord c w v).regs = s.regs := rfl
@[simp] theorem setCtxWord_clock (s : State) (c w : Nat) (v : Word) : (s.setCtxWord c w v).clock = s.clock := rfl
@[simp] theorem setCtxWord_boot (s : State) (c w : Nat) (v : Word) : (s.setCtxWord c w v).boot = s.boot := rfl
@[simp] theorem setCtxWord_power (s : State) (c w : Nat) (v : Word) : (s.setCtxWord c w v).power = s.power := rfl
@[simp] theorem setCtxWord_moot (s : State) (c w : Nat) (v : Word) : (s.setCtxWord c w v).moot = s.moot := rfl
@[simp] theorem setCtxWord_comp (s : State) (c w : Nat) (v : Word) : (s.setCtxWord c w v).comp = s.comp := rfl
@[simp] theorem setCtxWord_clusters (s : State) (c w : Nat) (v : Word) : (s.setCtxWord c w v).clusters = s.clusters := rfl
@[simp] theorem setCtxWord_mems (s : State) (c w : Nat) (v : Word) : (s.setCtxWord c w v).mems = s.mems := rfl
@[simp] theorem setCtxWord_xlt (s : State) (c w : Nat) (v : Word) : (s.setCtxWord c w v).xlt = s.xlt := rfl
@[simp] theorem setCtxWord_sched (s : State) (c w : Nat) (v : Word) : (s.setCtxWord c w v).sched = s.sched := rfl
@[simp] theorem setCtxWord_coh (s : State) (c w : Nat) (v : Word) : (s.setCtxWord c w v).coh = s.coh := rfl
@[simp] theorem setCtxWord_hif (s : State) (c w : Nat) (v : Word) : (s.setCtxWord c w v).hif = s.hif := rfl
@[simp] theorem setCtxWord_drv (s : State) (c w : Nat) (v : Word) : (s.setCtxWord c w v).drv = s.drv := rfl
@[simp] theorem setCtxWord_ten (s : State) (c w : Nat) (v : Word) : (s.setCtxWord c w v).ten = s.ten := rfl
@[simp] theorem setCtxWord_links (s : State) (c w : Nat) (v : Word) : (s.setCtxWord c w v).links = s.links := rfl
@[simp] theorem setCtxWord_kx (s : State) (c w : Nat) (v : Word) : (s.setCtxWord c w v).kx = s.kx := rfl
@[simp] theorem setCtxWord_well (s : State) (c w : Nat) (v : Word) : (s.setCtxWord c w v).well = s.well := rfl
@[simp] theorem setCtxWord_ledger (s : State) (c w : Nat) (v : Word) : (s.setCtxWord c w v).ledger = s.ledger := rfl
@[simp] theorem setCtxWord_spr (s : State) (c w : Nat) (v : Word) : (s.setCtxWord c w v).spr = s.spr := rfl
@[simp] theorem setCtxWord_mon (s : State) (c w : Nat) (v : Word) : (s.setCtxWord c w v).mon = s.mon := rfl
@[simp] theorem setCtxWord_crier (s : State) (c w : Nat) (v : Word) : (s.setCtxWord c w v).crier = s.crier := rfl
@[simp] theorem setCtxWord_pins (s : State) (c w : Nat) (v : Word) : (s.setCtxWord c w v).pins = s.pins := rfl

@[simp] theorem setQWord_pending (s : State) (q w : Nat) (v : Word) : (s.setQWord q w v).pending = s.pending := rfl
@[simp] theorem setQWord_out (s : State) (q w : Nat) (v : Word) : (s.setQWord q w v).out = s.out := rfl
@[simp] theorem setQWord_fresh (s : State) (q w : Nat) (v : Word) : (s.setQWord q w v).fresh = s.fresh := rfl
@[simp] theorem setQWord_regs (s : State) (q w : Nat) (v : Word) : (s.setQWord q w v).regs = s.regs := rfl
@[simp] theorem setQWord_clock (s : State) (q w : Nat) (v : Word) : (s.setQWord q w v).clock = s.clock := rfl
@[simp] theorem setQWord_boot (s : State) (q w : Nat) (v : Word) : (s.setQWord q w v).boot = s.boot := rfl
@[simp] theorem setQWord_power (s : State) (q w : Nat) (v : Word) : (s.setQWord q w v).power = s.power := rfl
@[simp] theorem setQWord_moot (s : State) (q w : Nat) (v : Word) : (s.setQWord q w v).moot = s.moot := rfl
@[simp] theorem setQWord_comp (s : State) (q w : Nat) (v : Word) : (s.setQWord q w v).comp = s.comp := rfl
@[simp] theorem setQWord_clusters (s : State) (q w : Nat) (v : Word) : (s.setQWord q w v).clusters = s.clusters := rfl
@[simp] theorem setQWord_mems (s : State) (q w : Nat) (v : Word) : (s.setQWord q w v).mems = s.mems := rfl
@[simp] theorem setQWord_xlt (s : State) (q w : Nat) (v : Word) : (s.setQWord q w v).xlt = s.xlt := rfl
@[simp] theorem setQWord_sched (s : State) (q w : Nat) (v : Word) : (s.setQWord q w v).sched = s.sched := rfl
@[simp] theorem setQWord_coh (s : State) (q w : Nat) (v : Word) : (s.setQWord q w v).coh = s.coh := rfl
@[simp] theorem setQWord_hif (s : State) (q w : Nat) (v : Word) : (s.setQWord q w v).hif = s.hif := rfl
@[simp] theorem setQWord_drv (s : State) (q w : Nat) (v : Word) : (s.setQWord q w v).drv = s.drv := rfl
@[simp] theorem setQWord_ten (s : State) (q w : Nat) (v : Word) : (s.setQWord q w v).ten = s.ten := rfl
@[simp] theorem setQWord_links (s : State) (q w : Nat) (v : Word) : (s.setQWord q w v).links = s.links := rfl
@[simp] theorem setQWord_kx (s : State) (q w : Nat) (v : Word) : (s.setQWord q w v).kx = s.kx := rfl
@[simp] theorem setQWord_well (s : State) (q w : Nat) (v : Word) : (s.setQWord q w v).well = s.well := rfl
@[simp] theorem setQWord_ledger (s : State) (q w : Nat) (v : Word) : (s.setQWord q w v).ledger = s.ledger := rfl
@[simp] theorem setQWord_spr (s : State) (q w : Nat) (v : Word) : (s.setQWord q w v).spr = s.spr := rfl
@[simp] theorem setQWord_mon (s : State) (q w : Nat) (v : Word) : (s.setQWord q w v).mon = s.mon := rfl
@[simp] theorem setQWord_crier (s : State) (q w : Nat) (v : Word) : (s.setQWord q w v).crier = s.crier := rfl
@[simp] theorem setQWord_pins (s : State) (q w : Nat) (v : Word) : (s.setQWord q w v).pins = s.pins := rfl

@[simp] theorem setFWord_pending (s : State) (f w : Nat) (v : Word) : (s.setFWord f w v).pending = s.pending := rfl
@[simp] theorem setFWord_out (s : State) (f w : Nat) (v : Word) : (s.setFWord f w v).out = s.out := rfl
@[simp] theorem setFWord_fresh (s : State) (f w : Nat) (v : Word) : (s.setFWord f w v).fresh = s.fresh := rfl
@[simp] theorem setFWord_regs (s : State) (f w : Nat) (v : Word) : (s.setFWord f w v).regs = s.regs := rfl
@[simp] theorem setFWord_clock (s : State) (f w : Nat) (v : Word) : (s.setFWord f w v).clock = s.clock := rfl
@[simp] theorem setFWord_boot (s : State) (f w : Nat) (v : Word) : (s.setFWord f w v).boot = s.boot := rfl
@[simp] theorem setFWord_power (s : State) (f w : Nat) (v : Word) : (s.setFWord f w v).power = s.power := rfl
@[simp] theorem setFWord_moot (s : State) (f w : Nat) (v : Word) : (s.setFWord f w v).moot = s.moot := rfl
@[simp] theorem setFWord_comp (s : State) (f w : Nat) (v : Word) : (s.setFWord f w v).comp = s.comp := rfl
@[simp] theorem setFWord_clusters (s : State) (f w : Nat) (v : Word) : (s.setFWord f w v).clusters = s.clusters := rfl
@[simp] theorem setFWord_mems (s : State) (f w : Nat) (v : Word) : (s.setFWord f w v).mems = s.mems := rfl
@[simp] theorem setFWord_xlt (s : State) (f w : Nat) (v : Word) : (s.setFWord f w v).xlt = s.xlt := rfl
@[simp] theorem setFWord_sched (s : State) (f w : Nat) (v : Word) : (s.setFWord f w v).sched = s.sched := rfl
@[simp] theorem setFWord_coh (s : State) (f w : Nat) (v : Word) : (s.setFWord f w v).coh = s.coh := rfl
@[simp] theorem setFWord_hif (s : State) (f w : Nat) (v : Word) : (s.setFWord f w v).hif = s.hif := rfl
@[simp] theorem setFWord_drv (s : State) (f w : Nat) (v : Word) : (s.setFWord f w v).drv = s.drv := rfl
@[simp] theorem setFWord_ten (s : State) (f w : Nat) (v : Word) : (s.setFWord f w v).ten = s.ten := rfl
@[simp] theorem setFWord_links (s : State) (f w : Nat) (v : Word) : (s.setFWord f w v).links = s.links := rfl
@[simp] theorem setFWord_kx (s : State) (f w : Nat) (v : Word) : (s.setFWord f w v).kx = s.kx := rfl
@[simp] theorem setFWord_well (s : State) (f w : Nat) (v : Word) : (s.setFWord f w v).well = s.well := rfl
@[simp] theorem setFWord_ledger (s : State) (f w : Nat) (v : Word) : (s.setFWord f w v).ledger = s.ledger := rfl
@[simp] theorem setFWord_spr (s : State) (f w : Nat) (v : Word) : (s.setFWord f w v).spr = s.spr := rfl
@[simp] theorem setFWord_mon (s : State) (f w : Nat) (v : Word) : (s.setFWord f w v).mon = s.mon := rfl
@[simp] theorem setFWord_crier (s : State) (f w : Nat) (v : Word) : (s.setFWord f w v).crier = s.crier := rfl
@[simp] theorem setFWord_pins (s : State) (f w : Nat) (v : Word) : (s.setFWord f w v).pins = s.pins := rfl

@[simp] theorem setMWord_pending (s : State) (o w : Nat) (v : Word) : (s.setMWord o w v).pending = s.pending := rfl
@[simp] theorem setMWord_out (s : State) (o w : Nat) (v : Word) : (s.setMWord o w v).out = s.out := rfl
@[simp] theorem setMWord_fresh (s : State) (o w : Nat) (v : Word) : (s.setMWord o w v).fresh = s.fresh := rfl
@[simp] theorem setMWord_regs (s : State) (o w : Nat) (v : Word) : (s.setMWord o w v).regs = s.regs := rfl
@[simp] theorem setMWord_clock (s : State) (o w : Nat) (v : Word) : (s.setMWord o w v).clock = s.clock := rfl
@[simp] theorem setMWord_boot (s : State) (o w : Nat) (v : Word) : (s.setMWord o w v).boot = s.boot := rfl
@[simp] theorem setMWord_power (s : State) (o w : Nat) (v : Word) : (s.setMWord o w v).power = s.power := rfl
@[simp] theorem setMWord_moot (s : State) (o w : Nat) (v : Word) : (s.setMWord o w v).moot = s.moot := rfl
@[simp] theorem setMWord_comp (s : State) (o w : Nat) (v : Word) : (s.setMWord o w v).comp = s.comp := rfl
@[simp] theorem setMWord_clusters (s : State) (o w : Nat) (v : Word) : (s.setMWord o w v).clusters = s.clusters := rfl
@[simp] theorem setMWord_mems (s : State) (o w : Nat) (v : Word) : (s.setMWord o w v).mems = s.mems := rfl
@[simp] theorem setMWord_xlt (s : State) (o w : Nat) (v : Word) : (s.setMWord o w v).xlt = s.xlt := rfl
@[simp] theorem setMWord_sched (s : State) (o w : Nat) (v : Word) : (s.setMWord o w v).sched = s.sched := rfl
@[simp] theorem setMWord_coh (s : State) (o w : Nat) (v : Word) : (s.setMWord o w v).coh = s.coh := rfl
@[simp] theorem setMWord_hif (s : State) (o w : Nat) (v : Word) : (s.setMWord o w v).hif = s.hif := rfl
@[simp] theorem setMWord_drv (s : State) (o w : Nat) (v : Word) : (s.setMWord o w v).drv = s.drv := rfl
@[simp] theorem setMWord_ten (s : State) (o w : Nat) (v : Word) : (s.setMWord o w v).ten = s.ten := rfl
@[simp] theorem setMWord_links (s : State) (o w : Nat) (v : Word) : (s.setMWord o w v).links = s.links := rfl
@[simp] theorem setMWord_kx (s : State) (o w : Nat) (v : Word) : (s.setMWord o w v).kx = s.kx := rfl
@[simp] theorem setMWord_well (s : State) (o w : Nat) (v : Word) : (s.setMWord o w v).well = s.well := rfl
@[simp] theorem setMWord_ledger (s : State) (o w : Nat) (v : Word) : (s.setMWord o w v).ledger = s.ledger := rfl
@[simp] theorem setMWord_spr (s : State) (o w : Nat) (v : Word) : (s.setMWord o w v).spr = s.spr := rfl
@[simp] theorem setMWord_mon (s : State) (o w : Nat) (v : Word) : (s.setMWord o w v).mon = s.mon := rfl
@[simp] theorem setMWord_crier (s : State) (o w : Nat) (v : Word) : (s.setMWord o w v).crier = s.crier := rfl
@[simp] theorem setMWord_pins (s : State) (o w : Nat) (v : Word) : (s.setMWord o w v).pins = s.pins := rfl

@[simp] theorem setKeySlot_pending (s : State) (n : Nat) (k : KeySlot) : (s.setKeySlot n k).pending = s.pending := rfl
@[simp] theorem setKeySlot_out (s : State) (n : Nat) (k : KeySlot) : (s.setKeySlot n k).out = s.out := rfl
@[simp] theorem setKeySlot_fresh (s : State) (n : Nat) (k : KeySlot) : (s.setKeySlot n k).fresh = s.fresh := rfl
@[simp] theorem setKeySlot_regs (s : State) (n : Nat) (k : KeySlot) : (s.setKeySlot n k).regs = s.regs := rfl
@[simp] theorem setKeySlot_clock (s : State) (n : Nat) (k : KeySlot) : (s.setKeySlot n k).clock = s.clock := rfl
@[simp] theorem setKeySlot_boot (s : State) (n : Nat) (k : KeySlot) : (s.setKeySlot n k).boot = s.boot := rfl
@[simp] theorem setKeySlot_power (s : State) (n : Nat) (k : KeySlot) : (s.setKeySlot n k).power = s.power := rfl
@[simp] theorem setKeySlot_moot (s : State) (n : Nat) (k : KeySlot) : (s.setKeySlot n k).moot = s.moot := rfl
@[simp] theorem setKeySlot_comp (s : State) (n : Nat) (k : KeySlot) : (s.setKeySlot n k).comp = s.comp := rfl
@[simp] theorem setKeySlot_clusters (s : State) (n : Nat) (k : KeySlot) : (s.setKeySlot n k).clusters = s.clusters := rfl
@[simp] theorem setKeySlot_mems (s : State) (n : Nat) (k : KeySlot) : (s.setKeySlot n k).mems = s.mems := rfl
@[simp] theorem setKeySlot_xlt (s : State) (n : Nat) (k : KeySlot) : (s.setKeySlot n k).xlt = s.xlt := rfl
@[simp] theorem setKeySlot_sched (s : State) (n : Nat) (k : KeySlot) : (s.setKeySlot n k).sched = s.sched := rfl
@[simp] theorem setKeySlot_coh (s : State) (n : Nat) (k : KeySlot) : (s.setKeySlot n k).coh = s.coh := rfl
@[simp] theorem setKeySlot_hif (s : State) (n : Nat) (k : KeySlot) : (s.setKeySlot n k).hif = s.hif := rfl
@[simp] theorem setKeySlot_obj (s : State) (n : Nat) (k : KeySlot) : (s.setKeySlot n k).obj = s.obj := rfl
@[simp] theorem setKeySlot_drv (s : State) (n : Nat) (k : KeySlot) : (s.setKeySlot n k).drv = s.drv := rfl
@[simp] theorem setKeySlot_ten (s : State) (n : Nat) (k : KeySlot) : (s.setKeySlot n k).ten = s.ten := rfl
@[simp] theorem setKeySlot_links (s : State) (n : Nat) (k : KeySlot) : (s.setKeySlot n k).links = s.links := rfl
@[simp] theorem setKeySlot_kx (s : State) (n : Nat) (k : KeySlot) : (s.setKeySlot n k).kx = s.kx := rfl
@[simp] theorem setKeySlot_ledger (s : State) (n : Nat) (k : KeySlot) : (s.setKeySlot n k).ledger = s.ledger := rfl
@[simp] theorem setKeySlot_spr (s : State) (n : Nat) (k : KeySlot) : (s.setKeySlot n k).spr = s.spr := rfl
@[simp] theorem setKeySlot_mon (s : State) (n : Nat) (k : KeySlot) : (s.setKeySlot n k).mon = s.mon := rfl
@[simp] theorem setKeySlot_crier (s : State) (n : Nat) (k : KeySlot) : (s.setKeySlot n k).crier = s.crier := rfl
@[simp] theorem setKeySlot_pins (s : State) (n : Nat) (k : KeySlot) : (s.setKeySlot n k).pins = s.pins := rfl

theorem withPins_pending (s : State) (p : Pins) : ({ s with pins := p } : State).pending = s.pending := rfl
theorem withPins_out (s : State) (p : Pins) : ({ s with pins := p } : State).out = s.out := rfl
theorem withPins_fresh (s : State) (p : Pins) : ({ s with pins := p } : State).fresh = s.fresh := rfl
theorem withPins_regs (s : State) (p : Pins) : ({ s with pins := p } : State).regs = s.regs := rfl
theorem withPins_clock (s : State) (p : Pins) : ({ s with pins := p } : State).clock = s.clock := rfl
theorem withPins_boot (s : State) (p : Pins) : ({ s with pins := p } : State).boot = s.boot := rfl
theorem withPins_power (s : State) (p : Pins) : ({ s with pins := p } : State).power = s.power := rfl
theorem withPins_moot (s : State) (p : Pins) : ({ s with pins := p } : State).moot = s.moot := rfl
theorem withPins_comp (s : State) (p : Pins) : ({ s with pins := p } : State).comp = s.comp := rfl
theorem withPins_clusters (s : State) (p : Pins) : ({ s with pins := p } : State).clusters = s.clusters := rfl
theorem withPins_mems (s : State) (p : Pins) : ({ s with pins := p } : State).mems = s.mems := rfl
theorem withPins_xlt (s : State) (p : Pins) : ({ s with pins := p } : State).xlt = s.xlt := rfl
theorem withPins_sched (s : State) (p : Pins) : ({ s with pins := p } : State).sched = s.sched := rfl
theorem withPins_coh (s : State) (p : Pins) : ({ s with pins := p } : State).coh = s.coh := rfl
theorem withPins_hif (s : State) (p : Pins) : ({ s with pins := p } : State).hif = s.hif := rfl
theorem withPins_obj (s : State) (p : Pins) : ({ s with pins := p } : State).obj = s.obj := rfl
theorem withPins_drv (s : State) (p : Pins) : ({ s with pins := p } : State).drv = s.drv := rfl
theorem withPins_ten (s : State) (p : Pins) : ({ s with pins := p } : State).ten = s.ten := rfl
theorem withPins_links (s : State) (p : Pins) : ({ s with pins := p } : State).links = s.links := rfl
theorem withPins_kx (s : State) (p : Pins) : ({ s with pins := p } : State).kx = s.kx := rfl
theorem withPins_well (s : State) (p : Pins) : ({ s with pins := p } : State).well = s.well := rfl
theorem withPins_ledger (s : State) (p : Pins) : ({ s with pins := p } : State).ledger = s.ledger := rfl
theorem withPins_spr (s : State) (p : Pins) : ({ s with pins := p } : State).spr = s.spr := rfl
theorem withPins_mon (s : State) (p : Pins) : ({ s with pins := p } : State).mon = s.mon := rfl
theorem withPins_crier (s : State) (p : Pins) : ({ s with pins := p } : State).crier = s.crier := rfl

@[simp] theorem drivePins_pending (s : State) : s.drivePins.pending = s.pending := withPins_pending s _
@[simp] theorem drivePins_out (s : State) : s.drivePins.out = s.out := withPins_out s _
@[simp] theorem drivePins_fresh (s : State) : s.drivePins.fresh = s.fresh := withPins_fresh s _
@[simp] theorem drivePins_regs (s : State) : s.drivePins.regs = s.regs := withPins_regs s _
@[simp] theorem drivePins_clock (s : State) : s.drivePins.clock = s.clock := withPins_clock s _
@[simp] theorem drivePins_boot (s : State) : s.drivePins.boot = s.boot := withPins_boot s _
@[simp] theorem drivePins_power (s : State) : s.drivePins.power = s.power := withPins_power s _
@[simp] theorem drivePins_moot (s : State) : s.drivePins.moot = s.moot := withPins_moot s _
@[simp] theorem drivePins_comp (s : State) : s.drivePins.comp = s.comp := withPins_comp s _
@[simp] theorem drivePins_clusters (s : State) : s.drivePins.clusters = s.clusters := withPins_clusters s _
@[simp] theorem drivePins_mems (s : State) : s.drivePins.mems = s.mems := withPins_mems s _
@[simp] theorem drivePins_xlt (s : State) : s.drivePins.xlt = s.xlt := withPins_xlt s _
@[simp] theorem drivePins_sched (s : State) : s.drivePins.sched = s.sched := withPins_sched s _
@[simp] theorem drivePins_coh (s : State) : s.drivePins.coh = s.coh := withPins_coh s _
@[simp] theorem drivePins_hif (s : State) : s.drivePins.hif = s.hif := withPins_hif s _
@[simp] theorem drivePins_obj (s : State) : s.drivePins.obj = s.obj := withPins_obj s _
@[simp] theorem drivePins_drv (s : State) : s.drivePins.drv = s.drv := withPins_drv s _
@[simp] theorem drivePins_ten (s : State) : s.drivePins.ten = s.ten := withPins_ten s _
@[simp] theorem drivePins_links (s : State) : s.drivePins.links = s.links := withPins_links s _
@[simp] theorem drivePins_kx (s : State) : s.drivePins.kx = s.kx := withPins_kx s _
@[simp] theorem drivePins_well (s : State) : s.drivePins.well = s.well := withPins_well s _
@[simp] theorem drivePins_ledger (s : State) : s.drivePins.ledger = s.ledger := withPins_ledger s _
@[simp] theorem drivePins_spr (s : State) : s.drivePins.spr = s.spr := withPins_spr s _
@[simp] theorem drivePins_mon (s : State) : s.drivePins.mon = s.mon := withPins_mon s _
@[simp] theorem drivePins_crier (s : State) : s.drivePins.crier = s.crier := withPins_crier s _

/-! The derived updates, in terms of the named ones. -/

@[simp] theorem bump_eq (s : State) (f : Fld) (i n : Nat) :
    s.bump f i n = s.setFld f i (saturate (f.hi + 1 - f.lo) (s.fld f i + n)) := rfl
@[simp] theorem count_eq (s : State) (f : Fld) (i : Nat) : s.count f i = s.setFld f i (s.fld f i + 1) := rfl
@[simp] theorem modCluster_eq (s : State) (k : Nat) (f : Cluster → Cluster) :
    s.modCluster k f = s.setCluster k (f (s.cluster k)) := rfl
@[simp] theorem modMem_eq (s : State) (p : Nat) (f : MemStation → MemStation) : s.modMem p f = s.setMem p (f (s.memSt p)) := rfl
@[simp] theorem modLink_eq (s : State) (p : Nat) (f : LinkStation → LinkStation) :
    s.modLink p f = s.setLink p (f (s.link p)) := rfl
@[simp] theorem modQueueRun_eq (s : State) (q : Nat) (f : QueueRun → QueueRun) :
    s.modQueueRun q f = s.setQueueRun q (f (s.queueRun q)) := rfl
@[simp] theorem emit_out (s : State) (o : Output) : (s.emit o).out = s.out ++ [o] := rfl
@[simp] theorem drivePins_pins (s : State) : s.drivePins.pins = ⟨s.intN, s.stewardInt⟩ := rfl

/-! The tables of the stations and the records. -/

@[simp] theorem cluster_setCluster (s : State) (k : Nat) (c : Cluster) : (s.setCluster k c).cluster k = c := by
  simp [State.cluster, State.setCluster]
theorem cluster_setCluster_ne (s : State) {j k : Nat} (c : Cluster) (h : j ≠ k) : (s.setCluster k c).cluster j = s.cluster j :=
  mapGet_mapSet_ne _ _ _ _ h
@[simp] theorem memSt_setMem (s : State) (p : Nat) (c : MemStation) : (s.setMem p c).memSt p = c := by
  simp [State.memSt, State.setMem]
theorem memSt_setMem_ne (s : State) {j p : Nat} (c : MemStation) (h : j ≠ p) : (s.setMem p c).memSt j = s.memSt j :=
  mapGet_mapSet_ne _ _ _ _ h
@[simp] theorem link_setLink (s : State) (p : Nat) (c : LinkStation) : (s.setLink p c).link p = c := by
  simp [State.link, State.setLink]
theorem link_setLink_ne (s : State) {j p : Nat} (c : LinkStation) (h : j ≠ p) : (s.setLink p c).link j = s.link j :=
  mapGet_mapSet_ne _ _ _ _ h
@[simp] theorem queueRun_setQueueRun (s : State) (q : Nat) (r : QueueRun) : (s.setQueueRun q r).queueRun q = r := by
  simp [State.queueRun, State.setQueueRun]
theorem queueRun_setQueueRun_ne (s : State) {j q : Nat} (r : QueueRun) (h : j ≠ q) :
    (s.setQueueRun q r).queueRun j = s.queueRun j := mapGet_mapSet_ne _ _ _ _ h
@[simp] theorem keySlot_setKeySlot (s : State) (n : Nat) (k : KeySlot) : (s.setKeySlot n k).keySlot n = k := by
  simp [State.keySlot, State.setKeySlot]
@[simp] theorem mbx_setMbx (s : State) (sl w : Nat) (v : Word) : (s.setMbx sl w v).mbx sl w = v := by
  simp [State.mbx, State.setMbx]

end Sys2Proof.Laws
end

