-- ==== Sys2Proof/Laws/Regs.lean ====
section
/-! SUPPORT. The laws of bit fields and of the register file: a read after a write, field by field. -/

namespace Sys2Proof.Laws

open Sys2Proof Sys2Proof.Machine

/-! ## Bits of words -/

theorem getLsbD_maskBits (hi lo j : Nat) :
    (maskBits hi lo).getLsbD j = (decide (j < 64) && decide (lo ≤ j) && decide (j < hi + 1)) := by
  simp only [maskBits, BitVec.getLsbD_ofNat, Nat.testBit_shiftLeft, Nat.testBit_two_pow_sub_one, Bool.and_assoc]
  by_cases h1 : lo ≤ j
  · by_cases h2 : j < hi + 1
    · have : j - lo < hi + 1 - lo := by omega
      simp [h1, h2, this]
    · have : ¬ (j - lo < hi + 1 - lo) := by omega
      simp [h1, h2, this]
  · simp [h1]

theorem getLsbD_setBits (hi lo v : Nat) (w : Word) (j : Nat) :
    (setBits hi lo v w).getLsbD j =
      (decide (j < 64) && if lo ≤ j ∧ j < hi + 1 then v.testBit (j - lo) else w.getLsbD j) := by
  simp only [setBits, BitVec.getLsbD_or, BitVec.getLsbD_and, BitVec.getLsbD_not, getLsbD_maskBits,
    BitVec.getLsbD_ofNat, Nat.testBit_shiftLeft]
  by_cases h0 : j < 64
  · by_cases h1 : lo ≤ j <;> by_cases h2 : j < hi + 1 <;> simp [h0, h1, h2]
  · simp [h0, BitVec.getLsbD_of_ge w j (by omega)]

theorem testBit_getBits (hi lo : Nat) (w : Word) (j : Nat) :
    (getBits hi lo w).testBit j = (decide (j < hi + 1 - lo) && w.getLsbD (lo + j)) := by
  simp [getBits, bits, Nat.testBit_shiftRight, BitVec.getLsbD]

/-- A field read after the same field was written. -/
theorem getBits_setBits_same (hi lo v : Nat) (w : Word) (h : hi < 64) :
    getBits hi lo (setBits hi lo v w) = v % 2 ^ (hi + 1 - lo) := by
  apply Nat.eq_of_testBit_eq
  intro j
  rw [testBit_getBits, getLsbD_setBits, Nat.testBit_mod_two_pow]
  by_cases hj : j < hi + 1 - lo
  · have h1 : lo + j < 64 := by omega
    have h2 : lo + j < hi + 1 := by omega
    simp [hj, h1, h2]
  · simp [hj]

/-- A field read after a disjoint field of the same word was written. -/
theorem getBits_setBits_other (hi lo hi' lo' v : Nat) (w : Word) (h : hi < lo' ∨ hi' < lo) :
    getBits hi lo (setBits hi' lo' v w) = getBits hi lo w := by
  apply Nat.eq_of_testBit_eq
  intro j
  rw [testBit_getBits, testBit_getBits, getLsbD_setBits]
  by_cases hj : j < hi + 1 - lo
  · have hn : ¬ (lo' ≤ lo + j ∧ lo + j < hi' + 1) := by omega
    rw [if_neg hn]
    by_cases h64 : lo + j < 64
    · simp [h64]
    · simp [BitVec.getLsbD_of_ge w (lo + j) (by omega)]
  · simp [hj]

/-! ## The register file -/

@[simp] theorem regGet_regSet_same (m : List (Nat × Word)) (r : Reg) (i : Nat) (v : Word) :
    regGet (regSet m r i v) r i = v := mapGet_mapSet_same _ _ _ _

theorem regGet_regSet_ne (m : List (Nat × Word)) {r r' : Reg} {i j : Nat} (v : Word) (h : regAddr r j ≠ regAddr r' i) :
    regGet (regSet m r' i v) r j = regGet m r j := mapGet_mapSet_ne _ _ _ _ h

@[simp] theorem rd_wr_same (s : State) (r : Reg) (i : Nat) (v : Word) : (s.wr r i v).rd r i = v :=
  regGet_regSet_same _ _ _ _

theorem rd_wr_ne (s : State) {r r' : Reg} {i j : Nat} (v : Word) (h : regAddr r j ≠ regAddr r' i) :
    (s.wr r' i v).rd r j = s.rd r j := regGet_regSet_ne _ _ h

/-- A field after it was written. -/
theorem fld_setFld_same (s : State) (f : Fld) (i v : Nat) (h : f.hi < 64) :
    (s.setFld f i v).fld f i = v % 2 ^ (f.hi + 1 - f.lo) := by
  simp only [State.fld, fldGet, State.setFld, State.wr, regGet_regSet_same]
  exact getBits_setBits_same _ _ _ _ h

/-- Another field of the same word keeps its value. -/
theorem fld_setFld_other (s : State) (f g : Fld) (i v : Nat) (hr : g.reg = f.reg) (h : g.hi < f.lo ∨ f.hi < g.lo) :
    (s.setFld f i v).fld g i = s.fld g i := by
  simp only [State.fld, fldGet, State.setFld, State.wr, hr, regGet_regSet_same, State.rd]
  exact getBits_setBits_other _ _ _ _ _ _ h

/-- A field of another register keeps its value. -/
theorem fld_setFld_ne (s : State) (f g : Fld) {i j : Nat} (v : Nat) (h : regAddr g.reg j ≠ regAddr f.reg i) :
    (s.setFld f i v).fld g j = s.fld g j := by
  simp only [State.fld, fldGet, State.setFld, State.wr]
  rw [regGet_regSet_ne _ _ h]

/-- The register file with what the state holds under another file of the same content. -/
theorem rd_setFld_ne (s : State) (f : Fld) {r : Reg} {i j : Nat} (v : Nat) (h : regAddr r j ≠ regAddr f.reg i) :
    (s.setFld f i v).rd r j = s.rd r j := rd_wr_ne _ _ h

end Sys2Proof.Laws
end

