-- ==== Sys2Proof/Laws/Ops.lean ====
section
/-! SUPPORT. The laws of the shared operations: what raising an event, the passing of time, the gate of R438 and a
command's outcome can do to the state. -/

namespace Sys2Proof.Laws

open Sys2Proof Sys2Proof.Machine

/-! ## Loops -/

@[simp] theorem forEach_nil {α σ : Type} (s : σ) (f : α → σ → σ) : forEach [] s f = s := rfl
@[simp] theorem forEach_cons {α σ : Type} (a : α) (l : List α) (s : σ) (f : α → σ → σ) :
    forEach (a :: l) s f = forEach l (f a s) f := rfl

/-- A relation that every round keeps holds after the loop. -/
theorem forEach_rel {α σ : Type} (R : σ → σ → Prop) (refl : ∀ s, R s s) (trans : ∀ a b c, R a b → R b c → R a c)
    (f : α → σ → σ) (h : ∀ a s, R s (f a s)) (l : List α) (s : σ) : R s (forEach l s f) := by
  induction l generalizing s with
  | nil => exact refl s
  | cons a t ih => exact trans _ _ _ (h a s) (ih (f a s))

/-! ## Raising an event -/

/-- Two states that differ in the register file and the Crier's queues only. -/
def OnlyEvents (s t : State) : Prop := t = { s with regs := t.regs, crier := t.crier }

theorem OnlyEvents.refl (s : State) : OnlyEvents s s := rfl

theorem OnlyEvents.trans {a b c : State} (h : OnlyEvents a b) (k : OnlyEvents b c) : OnlyEvents a c := by
  unfold OnlyEvents at *
  rw [k, h]

theorem onlyEvents_wr (s : State) (r : Reg) (i : Nat) (v : Word) : OnlyEvents s (s.wr r i v) := rfl
theorem onlyEvents_setFld (s : State) (f : Fld) (i v : Nat) : OnlyEvents s (s.setFld f i v) := onlyEvents_wr ..
theorem onlyEvents_bump (s : State) (f : Fld) (i n : Nat) : OnlyEvents s (s.bump f i n) := onlyEvents_setFld ..
theorem onlyEvents_setCause (s : State) (n b : Nat) : OnlyEvents s (s.setCause n b) := onlyEvents_wr ..
theorem onlyEvents_crier (s : State) (c : Crier) : OnlyEvents s { s with crier := c } := rfl

theorem onlyEvents_countOff (s : State) (b : Bool) : OnlyEvents s (s.countOff b) := by
  unfold State.countOff
  simp only
  split
  · exact (onlyEvents_bump ..).trans (onlyEvents_bump ..)
  · exact onlyEvents_bump ..

theorem onlyEvents_queueError (s : State) (code slice source : Nat) (detail : Word) :
    OnlyEvents s (s.queueError code slice source detail) := by
  unfold State.queueError
  simp only
  split
  · exact onlyEvents_crier ..
  · exact (onlyEvents_crier s _).trans (onlyEvents_setCause ..)

theorem onlyEvents_queueAlarm (s : State) (code slice source : Nat) (detail : Word) :
    OnlyEvents s (s.queueAlarm code slice source detail) := by
  have key : ∀ u : State, OnlyEvents s u → ∀ r : Rec, OnlyEvents s
      (if u.pdOn 23 then { u with crier := { u.crier with
        alarmQ := mergeOrAppend (fun x => x.source == source) r s.clock.gtb u.crier.alarmQ } } else u) := by
    intro u hu r
    split
    · exact hu.trans (onlyEvents_crier ..)
    · exact hu
  unfold State.queueAlarm
  simp only
  split
  · exact key _ ((((onlyEvents_wr ..).trans (onlyEvents_wr ..)).trans (onlyEvents_wr ..)).trans (onlyEvents_wr ..)) _
  · exact key _ (((onlyEvents_setFld ..).trans (onlyEvents_bump ..)).trans (onlyEvents_wr ..)) _

theorem onlyEvents_queueLog (s : State) (trace : Bool) (code slice source : Nat) (detail : Word) :
    OnlyEvents s (s.queueLog trace code slice source detail) := by
  unfold State.queueLog
  cases trace <;> simp only [Bool.false_eq_true, if_true, if_false]
  · split
    · exact ((onlyEvents_crier s _).trans (onlyEvents_bump ..)).trans (onlyEvents_setCause ..)
    · exact onlyEvents_crier ..
  · split
    · exact ((onlyEvents_crier s _).trans (onlyEvents_bump ..)).trans (onlyEvents_setCause ..)
    · exact onlyEvents_crier ..

/-- Raising an event changes the register file and the Crier's queues, and nothing else. -/
theorem onlyEvents_raise (s : State) (cls : EventClass) (code slice source : Nat) (detail : Word) :
    OnlyEvents s (s.raise cls code slice source detail) := by
  have key : ∀ u : State, OnlyEvents u (match cls with
      | .alarm => u.queueAlarm code slice source detail
      | .error => if u.pdOn 23 then u.queueError code slice source detail else u.countOff true
      | .log => if u.pdOn 23 then u.queueLog false code slice source detail else u.countOff false
      | .trace =>
        if bitOf (code / 256) (u.rd .TRC_TRACE_EN 0) then
          (if u.pdOn 23 then u.queueLog true code slice source detail else u.countOff false)
        else u) := by
    intro u
    cases cls with
    | alarm => exact onlyEvents_queueAlarm ..
    | error =>
      simp only
      split
      · exact onlyEvents_queueError ..
      · exact onlyEvents_countOff ..
    | log =>
      simp only
      split
      · exact onlyEvents_queueLog ..
      · exact onlyEvents_countOff ..
    | trace =>
      simp only
      split
      · split
        · exact onlyEvents_queueLog ..
        · exact onlyEvents_countOff ..
      · exact OnlyEvents.refl u
  unfold State.raise
  cases causeOfCode code with
  | none => exact key s
  | some x => exact (onlyEvents_setCause s x.1 x.2).trans (key _)

@[simp] theorem raise_pending (s : State) (cls : EventClass) (code slice source : Nat) (detail : Word) :
    (s.raise cls code slice source detail).pending = s.pending := by
  rw [onlyEvents_raise s cls code slice source detail]
@[simp] theorem raise_out (s : State) (cls : EventClass) (code slice source : Nat) (detail : Word) :
    (s.raise cls code slice source detail).out = s.out := by
  rw [onlyEvents_raise s cls code slice source detail]
@[simp] theorem raise_fresh (s : State) (cls : EventClass) (code slice source : Nat) (detail : Word) :
    (s.raise cls code slice source detail).fresh = s.fresh := by
  rw [onlyEvents_raise s cls code slice source detail]
@[simp] theorem raise_clock (s : State) (cls : EventClass) (code slice source : Nat) (detail : Word) :
    (s.raise cls code slice source detail).clock = s.clock := by
  rw [onlyEvents_raise s cls code slice source detail]
@[simp] theorem raise_boot (s : State) (cls : EventClass) (code slice source : Nat) (detail : Word) :
    (s.raise cls code slice source detail).boot = s.boot := by
  rw [onlyEvents_raise s cls code slice source detail]
@[simp] theorem raise_power (s : State) (cls : EventClass) (code slice source : Nat) (detail : Word) :
    (s.raise cls code slice source detail).power = s.power := by
  rw [onlyEvents_raise s cls code slice source detail]
@[simp] theorem raise_moot (s : State) (cls : EventClass) (code slice source : Nat) (detail : Word) :
    (s.raise cls code slice source detail).moot = s.moot := by
  rw [onlyEvents_raise s cls code slice source detail]
@[simp] theorem raise_comp (s : State) (cls : EventClass) (code slice source : Nat) (detail : Word) :
    (s.raise cls code slice source detail).comp = s.comp := by
  rw [onlyEvents_raise s cls code slice source detail]
@[simp] theorem raise_clusters (s : State) (cls : EventClass) (code slice source : Nat) (detail : Word) :
    (s.raise cls code slice source detail).clusters = s.clusters := by
  rw [onlyEvents_raise s cls code slice source detail]
@[simp] theorem raise_mems (s : State) (cls : EventClass) (code slice source : Nat) (detail : Word) :
    (s.raise cls code slice source detail).mems = s.mems := by
  rw [onlyEvents_raise s cls code slice source detail]
@[simp] theorem raise_xlt (s : State) (cls : EventClass) (code slice source : Nat) (detail : Word) :
    (s.raise cls code slice source detail).xlt = s.xlt := by
  rw [onlyEvents_raise s cls code slice source detail]
@[simp] theorem raise_sched (s : State) (cls : EventClass) (code slice source : Nat) (detail : Word) :
    (s.raise cls code slice source detail).sched = s.sched := by
  rw [onlyEvents_raise s cls code slice source detail]
@[simp] theorem raise_coh (s : State) (cls : EventClass) (code slice source : Nat) (detail : Word) :
    (s.raise cls code slice source detail).coh = s.coh := by
  rw [onlyEvents_raise s cls code slice source detail]
@[simp] theorem raise_hif (s : State) (cls : EventClass) (code slice source : Nat) (detail : Word) :
    (s.raise cls code slice source detail).hif = s.hif := by
  rw [onlyEvents_raise s cls code slice source detail]
@[simp] theorem raise_obj (s : State) (cls : EventClass) (code slice source : Nat) (detail : Word) :
    (s.raise cls code slice source detail).obj = s.obj := by
  rw [onlyEvents_raise s cls code slice source detail]
@[simp] theorem raise_drv (s : State) (cls : EventClass) (code slice source : Nat) (detail : Word) :
    (s.raise cls code slice source detail).drv = s.drv := by
  rw [onlyEvents_raise s cls code slice source detail]
@[simp] theorem raise_ten (s : State) (cls : EventClass) (code slice source : Nat) (detail : Word) :
    (s.raise cls code slice source detail).ten = s.ten := by
  rw [onlyEvents_raise s cls code slice source detail]
@[simp] theorem raise_links (s : State) (cls : EventClass) (code slice source : Nat) (detail : Word) :
    (s.raise cls code slice source detail).links = s.links := by
  rw [onlyEvents_raise s cls code slice source detail]
@[simp] theorem raise_kx (s : State) (cls : EventClass) (code slice source : Nat) (detail : Word) :
    (s.raise cls code slice source detail).kx = s.kx := by
  rw [onlyEvents_raise s cls code slice source detail]
@[simp] theorem raise_well (s : State) (cls : EventClass) (code slice source : Nat) (detail : Word) :
    (s.raise cls code slice source detail).well = s.well := by
  rw [onlyEvents_raise s cls code slice source detail]
@[simp] theorem raise_ledger (s : State) (cls : EventClass) (code slice source : Nat) (detail : Word) :
    (s.raise cls code slice source detail).ledger = s.ledger := by
  rw [onlyEvents_raise s cls code slice source detail]
@[simp] theorem raise_spr (s : State) (cls : EventClass) (code slice source : Nat) (detail : Word) :
    (s.raise cls code slice source detail).spr = s.spr := by
  rw [onlyEvents_raise s cls code slice source detail]
@[simp] theorem raise_mon (s : State) (cls : EventClass) (code slice source : Nat) (detail : Word) :
    (s.raise cls code slice source detail).mon = s.mon := by
  rw [onlyEvents_raise s cls code slice source detail]
@[simp] theorem raise_pins (s : State) (cls : EventClass) (code slice source : Nat) (detail : Word) :
    (s.raise cls code slice source detail).pins = s.pins := by
  rw [onlyEvents_raise s cls code slice source detail]
@[simp] theorem err_pending (s : State) (code slice : Nat) (detail : Word) : (s.err code slice detail).pending = s.pending := raise_pending ..
@[simp] theorem err_out (s : State) (code slice : Nat) (detail : Word) : (s.err code slice detail).out = s.out := raise_out ..
@[simp] theorem err_fresh (s : State) (code slice : Nat) (detail : Word) : (s.err code slice detail).fresh = s.fresh := raise_fresh ..
@[simp] theorem err_clock (s : State) (code slice : Nat) (detail : Word) : (s.err code slice detail).clock = s.clock := raise_clock ..
@[simp] theorem err_boot (s : State) (code slice : Nat) (detail : Word) : (s.err code slice detail).boot = s.boot := raise_boot ..
@[simp] theorem err_power (s : State) (code slice : Nat) (detail : Word) : (s.err code slice detail).power = s.power := raise_power ..
@[simp] theorem err_moot (s : State) (code slice : Nat) (detail : Word) : (s.err code slice detail).moot = s.moot := raise_moot ..
@[simp] theorem err_comp (s : State) (code slice : Nat) (detail : Word) : (s.err code slice detail).comp = s.comp := raise_comp ..
@[simp] theorem err_clusters (s : State) (code slice : Nat) (detail : Word) : (s.err code slice detail).clusters = s.clusters := raise_clusters ..
@[simp] theorem err_mems (s : State) (code slice : Nat) (detail : Word) : (s.err code slice detail).mems = s.mems := raise_mems ..
@[simp] theorem err_xlt (s : State) (code slice : Nat) (detail : Word) : (s.err code slice detail).xlt = s.xlt := raise_xlt ..
@[simp] theorem err_sched (s : State) (code slice : Nat) (detail : Word) : (s.err code slice detail).sched = s.sched := raise_sched ..
@[simp] theorem err_coh (s : State) (code slice : Nat) (detail : Word) : (s.err code slice detail).coh = s.coh := raise_coh ..
@[simp] theorem err_hif (s : State) (code slice : Nat) (detail : Word) : (s.err code slice detail).hif = s.hif := raise_hif ..
@[simp] theorem err_obj (s : State) (code slice : Nat) (detail : Word) : (s.err code slice detail).obj = s.obj := raise_obj ..
@[simp] theorem err_drv (s : State) (code slice : Nat) (detail : Word) : (s.err code slice detail).drv = s.drv := raise_drv ..
@[simp] theorem err_ten (s : State) (code slice : Nat) (detail : Word) : (s.err code slice detail).ten = s.ten := raise_ten ..
@[simp] theorem err_links (s : State) (code slice : Nat) (detail : Word) : (s.err code slice detail).links = s.links := raise_links ..
@[simp] theorem err_kx (s : State) (code slice : Nat) (detail : Word) : (s.err code slice detail).kx = s.kx := raise_kx ..
@[simp] theorem err_well (s : State) (code slice : Nat) (detail : Word) : (s.err code slice detail).well = s.well := raise_well ..
@[simp] theorem err_ledger (s : State) (code slice : Nat) (detail : Word) : (s.err code slice detail).ledger = s.ledger := raise_ledger ..
@[simp] theorem err_spr (s : State) (code slice : Nat) (detail : Word) : (s.err code slice detail).spr = s.spr := raise_spr ..
@[simp] theorem err_mon (s : State) (code slice : Nat) (detail : Word) : (s.err code slice detail).mon = s.mon := raise_mon ..
@[simp] theorem err_pins (s : State) (code slice : Nat) (detail : Word) : (s.err code slice detail).pins = s.pins := raise_pins ..
@[simp] theorem alarm_pending (s : State) (code slice : Nat) (detail : Word) : (s.alarm code slice detail).pending = s.pending := raise_pending ..
@[simp] theorem alarm_out (s : State) (code slice : Nat) (detail : Word) : (s.alarm code slice detail).out = s.out := raise_out ..
@[simp] theorem alarm_fresh (s : State) (code slice : Nat) (detail : Word) : (s.alarm code slice detail).fresh = s.fresh := raise_fresh ..
@[simp] theorem alarm_clock (s : State) (code slice : Nat) (detail : Word) : (s.alarm code slice detail).clock = s.clock := raise_clock ..
@[simp] theorem alarm_boot (s : State) (code slice : Nat) (detail : Word) : (s.alarm code slice detail).boot = s.boot := raise_boot ..
@[simp] theorem alarm_power (s : State) (code slice : Nat) (detail : Word) : (s.alarm code slice detail).power = s.power := raise_power ..
@[simp] theorem alarm_moot (s : State) (code slice : Nat) (detail : Word) : (s.alarm code slice detail).moot = s.moot := raise_moot ..
@[simp] theorem alarm_comp (s : State) (code slice : Nat) (detail : Word) : (s.alarm code slice detail).comp = s.comp := raise_comp ..
@[simp] theorem alarm_clusters (s : State) (code slice : Nat) (detail : Word) : (s.alarm code slice detail).clusters = s.clusters := raise_clusters ..
@[simp] theorem alarm_mems (s : State) (code slice : Nat) (detail : Word) : (s.alarm code slice detail).mems = s.mems := raise_mems ..
@[simp] theorem alarm_xlt (s : State) (code slice : Nat) (detail : Word) : (s.alarm code slice detail).xlt = s.xlt := raise_xlt ..
@[simp] theorem alarm_sched (s : State) (code slice : Nat) (detail : Word) : (s.alarm code slice detail).sched = s.sched := raise_sched ..
@[simp] theorem alarm_coh (s : State) (code slice : Nat) (detail : Word) : (s.alarm code slice detail).coh = s.coh := raise_coh ..
@[simp] theorem alarm_hif (s : State) (code slice : Nat) (detail : Word) : (s.alarm code slice detail).hif = s.hif := raise_hif ..
@[simp] theorem alarm_obj (s : State) (code slice : Nat) (detail : Word) : (s.alarm code slice detail).obj = s.obj := raise_obj ..
@[simp] theorem alarm_drv (s : State) (code slice : Nat) (detail : Word) : (s.alarm code slice detail).drv = s.drv := raise_drv ..
@[simp] theorem alarm_ten (s : State) (code slice : Nat) (detail : Word) : (s.alarm code slice detail).ten = s.ten := raise_ten ..
@[simp] theorem alarm_links (s : State) (code slice : Nat) (detail : Word) : (s.alarm code slice detail).links = s.links := raise_links ..
@[simp] theorem alarm_kx (s : State) (code slice : Nat) (detail : Word) : (s.alarm code slice detail).kx = s.kx := raise_kx ..
@[simp] theorem alarm_well (s : State) (code slice : Nat) (detail : Word) : (s.alarm code slice detail).well = s.well := raise_well ..
@[simp] theorem alarm_ledger (s : State) (code slice : Nat) (detail : Word) : (s.alarm code slice detail).ledger = s.ledger := raise_ledger ..
@[simp] theorem alarm_spr (s : State) (code slice : Nat) (detail : Word) : (s.alarm code slice detail).spr = s.spr := raise_spr ..
@[simp] theorem alarm_mon (s : State) (code slice : Nat) (detail : Word) : (s.alarm code slice detail).mon = s.mon := raise_mon ..
@[simp] theorem alarm_pins (s : State) (code slice : Nat) (detail : Word) : (s.alarm code slice detail).pins = s.pins := raise_pins ..

/-! ## The gate of R438 and a command's outcome -/

theorem gated_of_taken {s : State} {path : Path} {off : Nat} (t : State) (h : s.taken path off = true) :
    s.gated path off t = t := by simp [State.gated, h]

theorem gated_of_not_taken {s : State} {path : Path} {off : Nat} (t : State) (h : s.taken path off = false) :
    s.gated path off t = s.discardEarly path off := by simp [State.gated, h]

/-- What an outcome can be. -/
theorem onBlock_next {s t u : State} {ok : Bool} (h : onBlock s ok t = .next u) :
    ok = true ∧ u = { t.drivePins with pending := s.pending } := by
  unfold onBlock at h
  split at h
  · rename_i hk
    injection h with h
    exact ⟨hk, h.symm⟩
  · cases h

@[simp] theorem onBlock_true (s t : State) : onBlock s true t = .next { t.drivePins with pending := s.pending } := rfl

theorem onBlock_of {s t : State} {ok : Bool} (h : ok = true) : onBlock s ok t = .next { t.drivePins with pending := s.pending } := by
  simp [h]

/-- A command of the block acts only while it is powered and out of RST_POR_N (R25, R431). -/
theorem onUnit_of {s t : State} {ok : Bool} (h : ok = true) (ha : s.alive = true) :
    onUnit s ok t = .next { t.drivePins with pending := s.pending } := by
  simp [onUnit, h, ha]

theorem onUnit_dead {s t : State} {ok : Bool} (h : ok = true) (ha : s.alive = false) :
    onUnit s ok t = .next { s.drivePins with pending := s.pending } := by
  simp [onUnit, h, ha]

theorem onUnit_fault {s t : State} {ok : Bool} (h : ok = false) : onUnit s ok t = .fault .noSuchUnit := by
  simp [onUnit, onBlock, h]

/-! ## Time -/

/-- Two states that differ in registers, the scheduler, the clock and the monitors only. -/
def OnlyTime (s t : State) : Prop := t = { s with regs := t.regs, sched := t.sched, clock := t.clock, mon := t.mon }

theorem OnlyTime.trans {a b c : State} (h : OnlyTime a b) (k : OnlyTime b c) : OnlyTime a c := by
  unfold OnlyTime at *
  rw [k, h]

theorem onlyTime_wr (s : State) (r : Reg) (i : Nat) (v : Word) : OnlyTime s (s.wr r i v) := rfl

theorem onlyTime_sched (s : State) (x : Sched) : OnlyTime s { s with sched := x } := rfl
theorem onlyTime_tail (s : State) (c : Clock) (m : Tally) : OnlyTime s { s with clock := c, mon := m } := rfl

theorem onlyTime_meterSlice (t n sl : Nat) (s : State) : OnlyTime s (meterSlice t n sl s) := by
  unfold meterSlice
  simp only
  split
  · split
    · exact onlyTime_wr ..
    · exact (((onlyTime_wr ..).trans (onlyTime_wr ..)).trans (onlyTime_wr ..)).trans (onlyTime_wr ..)
  · rfl

theorem onlyTime_meterCommons (us n : Nat) (s : State) : OnlyTime s (meterCommons us n s) := onlyTime_wr ..

/-- The passing of time changes the residency counters, the scheduler, the clock and the monitors. -/
theorem onlyTime_advance (s : State) (n : Nat) : OnlyTime s (s.advance n) := by
  unfold State.advance
  split
  · rfl
  split
  · exact onlyTime_tail s _ s.mon
  · simp only
    have h2 := fun u => forEach_rel OnlyTime (fun _ => rfl) (fun _ _ _ => OnlyTime.trans)
      (meterSlice s.clock.gtb n) (fun a s => onlyTime_meterSlice _ _ a s) (List.range 129) u
    have h3 := fun us u => forEach_rel OnlyTime (fun _ => rfl) (fun _ _ _ => OnlyTime.trans)
      (meterCommons us) (fun a s => onlyTime_meterCommons _ a s) (List.range' 1 127) u
    split
    · exact ((onlyTime_sched s _).trans (h2 _)).trans (onlyTime_tail ..)
    · exact (((onlyTime_sched s _).trans (h2 _)).trans (h3 _ _)).trans (onlyTime_tail ..)

@[simp] theorem advance_pending (s : State) (n : Nat) : (s.advance n).pending = s.pending := by
  rw [onlyTime_advance s n]
@[simp] theorem advance_out (s : State) (n : Nat) : (s.advance n).out = s.out := by
  rw [onlyTime_advance s n]
@[simp] theorem advance_fresh (s : State) (n : Nat) : (s.advance n).fresh = s.fresh := by
  rw [onlyTime_advance s n]
@[simp] theorem advance_boot (s : State) (n : Nat) : (s.advance n).boot = s.boot := by
  rw [onlyTime_advance s n]
@[simp] theorem advance_power (s : State) (n : Nat) : (s.advance n).power = s.power := by
  rw [onlyTime_advance s n]
@[simp] theorem advance_moot (s : State) (n : Nat) : (s.advance n).moot = s.moot := by
  rw [onlyTime_advance s n]
@[simp] theorem advance_comp (s : State) (n : Nat) : (s.advance n).comp = s.comp := by
  rw [onlyTime_advance s n]
@[simp] theorem advance_clusters (s : State) (n : Nat) : (s.advance n).clusters = s.clusters := by
  rw [onlyTime_advance s n]
@[simp] theorem advance_mems (s : State) (n : Nat) : (s.advance n).mems = s.mems := by
  rw [onlyTime_advance s n]
@[simp] theorem advance_xlt (s : State) (n : Nat) : (s.advance n).xlt = s.xlt := by
  rw [onlyTime_advance s n]
@[simp] theorem advance_coh (s : State) (n : Nat) : (s.advance n).coh = s.coh := by
  rw [onlyTime_advance s n]
@[simp] theorem advance_hif (s : State) (n : Nat) : (s.advance n).hif = s.hif := by
  rw [onlyTime_advance s n]
@[simp] theorem advance_obj (s : State) (n : Nat) : (s.advance n).obj = s.obj := by
  rw [onlyTime_advance s n]
@[simp] theorem advance_drv (s : State) (n : Nat) : (s.advance n).drv = s.drv := by
  rw [onlyTime_advance s n]
@[simp] theorem advance_ten (s : State) (n : Nat) : (s.advance n).ten = s.ten := by
  rw [onlyTime_advance s n]
@[simp] theorem advance_links (s : State) (n : Nat) : (s.advance n).links = s.links := by
  rw [onlyTime_advance s n]
@[simp] theorem advance_kx (s : State) (n : Nat) : (s.advance n).kx = s.kx := by
  rw [onlyTime_advance s n]
@[simp] theorem advance_well (s : State) (n : Nat) : (s.advance n).well = s.well := by
  rw [onlyTime_advance s n]
@[simp] theorem advance_ledger (s : State) (n : Nat) : (s.advance n).ledger = s.ledger := by
  rw [onlyTime_advance s n]
@[simp] theorem advance_spr (s : State) (n : Nat) : (s.advance n).spr = s.spr := by
  rw [onlyTime_advance s n]
@[simp] theorem advance_crier (s : State) (n : Nat) : (s.advance n).crier = s.crier := by
  rw [onlyTime_advance s n]
@[simp] theorem advance_pins (s : State) (n : Nat) : (s.advance n).pins = s.pins := by
  rw [onlyTime_advance s n]

end Sys2Proof.Laws
end

