-- ==== Sys2Proof/Laws/Engines.lean ====
section
/-! SUPPORT. The block's own engines change nothing where they have nothing to do. -/

namespace Sys2Proof.Laws

open Sys2Proof Sys2Proof.Machine

/-- A step that changes nothing changes nothing however often. -/
theorem iterate_fix (f : State → State) {s : State} (h : f s = s) (n : Nat) : iterate f n s = s := by
  induction n with
  | zero => rfl
  | succ n ih => simp [iterate, h, ih]

/-- The translation core's step, with nothing to walk for. -/
theorem xltStep_idle {s : State} (h : s.EnginesIdle) : s.xltStep = s := by
  obtain ⟨h1, h2, h3, -⟩ := h
  have hc : ∀ f : Nat × Cluster → Option (Nat × Deferred), (∀ e ∈ s.clusters, f e = none) → s.clusters.findSome? f = none :=
    fun f hf => by simpa [List.findSome?_eq_none_iff] using hf
  simp only [State.xltStep, h2, h3, List.findSome?_nil, List.find?_nil]
  rw [hc]
  intro e he
  simp [h1 e he]

theorem pumpXlt_idle {s : State} (h : s.EnginesIdle) : s.pumpXlt = s := by
  have e : ({ s with xlt := { s.xlt with walks := s.xlt.walks.filter s.walkWanted } } : State) = s := by
    have hx : ({ s.xlt with walks := s.xlt.walks.filter s.walkWanted } : Xlt) = s.xlt := by
      rw [h.2.1, List.filter_nil, ← h.2.1]
    rw [hx]
  simp only [State.pumpXlt, e]
  exact iterate_fix _ (xltStep_idle h) _

/-- With nothing to do, the engines leave the state as it is. -/
theorem pumpEngines_idle {s : State} (h : s.EnginesIdle) : s.pumpEngines = s := by
  have hd : s.pumpDma = s := by simp [State.pumpDma, h.2.2.1, forEach]
  simp [State.pumpEngines, pumpXlt_idle h, hd, State.pumpPreloads, h.2.2.2]

/-- With no phase under way and no plan waiting, the Drover has nothing to do. -/
theorem pumpDrover_idle {s : State} (h : s.EnginesIdle) (hq : s.drv.planQ = []) (hj : s.drv.journals = [])
    (hs : s.spr.coreSubs = []) : s.pumpDrover = s := by
  have ht : s.pumpTransfers = s := by simp [State.pumpTransfers, hj, iterate]
  have hw : s.wakeCombines = s := by simp [State.wakeCombines, hq, forEach]
  have hf : s.finishSubs = s := by simp [State.finishSubs, hs, forEach]
  have hi : ∀ n, iterate (fun u => u.pumpTransfers.wakeCombines) n s = s := iterate_fix _ (by simp [ht, hw])
  simp [State.pumpDrover, hi, ht, hf, pumpEngines_idle h]

theorem tick_idle {s : State} (h : ∀ e ∈ s.mems, e.2.port.cmds = []) : s.tick = s := by
  have e : s.mems.filter (fun e => !e.2.port.cmds.isEmpty) = [] := by
    simp only [List.filter_eq_nil_iff]
    intro e he
    simp [h e he]
  simp [State.tick, e, forEach]

theorem tableTick_idle {s : State} (h1 : s.obj.dirty = []) (h2 : s.obj.dirtyMaps = []) (h3 : s.obj.wanted = []) :
    s.tableTick = s := by
  have eo : ({ s.obj with dirty := [], dirtyMaps := [], wanted := [] } : Obj) = s.obj := by
    conv_rhs => rw [show s.obj = { s.obj with dirty := s.obj.dirty, dirtyMaps := s.obj.dirtyMaps, wanted := s.obj.wanted }
      from rfl, h1, h2, h3]
  have es : ({ s with obj := { s.obj with dirty := [], dirtyMaps := [], wanted := [] } } : State) = s := by rw [eo]
  simp only [State.tableTick, h1, h2, h3, List.filter_nil, forEach, List.foldl_nil]
  split
  · rfl
  · split <;> exact es

/-- On a quiet state, a cycle in which no command is given only counts and drives the lines. -/
theorem engines_quiet {s : State} (h : s.Quiet) : s.tick.tableTick.pumpDrover = s := by
  obtain ⟨h1, h2, h3, h4, h5, h6, h7, h8, h9, h10, h11⟩ := h
  rw [tick_idle h1, tableTick_idle h2 h3 h4, pumpDrover_idle ⟨h5, h6, h7, h8⟩ h9 h10 h11]

end Sys2Proof.Laws
end

