-- ==== Sys2Proof/Laws/Exec.lean ====
section
/-! SUPPORT. Every meaning is an effect under the check that its operands name what the block has; when a register command is
taken; and how the words of the statements unfold. -/

namespace Sys2Proof.Laws

open Sys2Proof Sys2Proof.Machine

/-- The one shape of every meaning: an effect where the command is well-formed, a fault where it is not. -/
theorem exec_shape (i : Instr) (s : State) :
    (∃ t, exec i s = onBlock s i.wf t) ∨ (i.wf = false ∧ exec i s = .fault .ownRow) := by
  cases i with
  | registerWrite a =>
    by_cases hb : bar0Ok a = true <;> by_cases ho : ownRowWrite a = true
    · exact .inr ⟨by simp [Instr.wf, hb, ho], by simp [exec, execRegisterWrite, hb, ho]⟩
    all_goals
      exact .inl ⟨if s.alive then (if a.bar = 0 then s.bar0 a else s.barAccess a) else s,
        by simp [exec, execRegisterWrite, onUnit, Instr.wf, hb, ho]⟩
  | _ => exact .inl ⟨_, rfl⟩

/-- A command whose effect is `u` leaves `u`. -/
theorem leaves_of {i : Instr} {s u : State} {ok : Bool} (h : exec i s = onUnit s ok u) (hk : ok = true)
    (ha : s.alive = true) : Leaves i s u := h.trans (onUnit_of hk ha)

/-- A reset or a change of the supply leaves its effect, also while the block is not powered. -/
theorem leaves_onBlock {i : Instr} {s u : State} {ok : Bool} (h : exec i s = onBlock s ok u) (hk : ok = true) : Leaves i s u :=
  h.trans (onBlock_of hk)

/-- What holds of the state that a command leaves is what it answers. -/
theorem Leaves.answers {i : Instr} {s u : State} {P : State → Prop} (h : Leaves i s u)
    (hp : P { u.drivePins with pending := s.pending }) : Answers i s P := ⟨_, h, hp⟩

/-- A command whose effect is `u` answers whatever holds of `u` with the lines driven. -/
theorem answers_of {i : Instr} {s u : State} {ok : Bool} {P : State → Prop} (h : exec i s = onUnit s ok u) (hk : ok = true)
    (ha : s.alive = true) (hp : P { u.drivePins with pending := s.pending }) : Answers i s P :=
  ⟨_, h.trans (onUnit_of hk ha), hp⟩

theorem isReady_alive {s : State} (h : s.isReady = true) : s.alive = true := by
  simp only [State.isReady, Bool.and_eq_true] at h
  exact h.1

theorem isReady_step {s : State} (h : s.isReady = true) : s.step = 10 := by
  simp only [State.isReady, Bool.and_eq_true, beq_iff_eq] at h
  exact h.2

/-- At READY every register command of the host and the Steward is taken. -/
theorem taken_of_ready {s : State} (h : s.isReady = true) {path : Path} (hp : pathOk path = true) (off : Nat) :
    s.taken path off = true := by
  cases path with
  | fm => simp [pathOk] at hp
  | _ => simp [State.taken, isReady_alive h, isReady_step h]

theorem gated_of_ready {s : State} (h : s.isReady = true) {path : Path} (hp : pathOk path = true) (off : Nat) (t : State) :
    s.gated path off t = t := gated_of_taken t (taken_of_ready h hp off)

@[simp] theorem gated_ready_host {s : State} (h : s.isReady = true) (off : Nat) (t : State) : s.gated .host off t = t :=
  gated_of_ready h rfl off t

/-- A fetched command that nothing refuses runs on its converted words (R283, R284). -/
theorem startCmd_runs {s : State} {q : Nat} {w ws : CmdWords} (run : List Word → State → State) (h : s.Starts q w ws)
    (hop : cmdOpcode w ≤ 9) (hr : s.cmdRefusal q ws (s.queueRun q).pinBad = 0) :
    s.startCmd q w run = run ws (s.takeCmd q ws) := by
  obtain ⟨h1, h2, h3⟩ := h
  simp [State.startCmd, h1, h2, h3, hop, hr]

/-- An accepted KEY_CMD command with its SEED that nothing refuses runs on to its end (R349). -/
theorem keyCmd_runs {s t : State} {path : Path} {op target : Nat} {r : KeyResult} {out : List Byte} (h : s.isReady = true)
    (hp : pathOk path = true) (hw : s.well.run = none) (hf : s.functional = true) (hs : s.well.seed.isSome = true)
    (hr : r = .inr (t, out)) :
    s.keyCmd path op target r = (if out.isEmpty then t else t.putKeyBuf out).keyRuns op target 0 out.length := by
  subst hr
  have hn : s.well.seed.isNone = false := by cases hq : s.well.seed <;> simp_all
  simp [State.keyCmd, gated_of_ready h hp, hw, hf, hn, State.keyRuns]

/-- An object command that is taken answers the refusal's code, or leaves its effect with RESULT 0 (R272). -/
theorem objAccept_taken {s : State} {path : Path} {kind index : Nat} {r : Sum Nat State} (he : s.fld .OBJ_CTL_ENABLE = 1)
    (hb : s.objBusy path = false) (hk : kind ≤ 4 → index < kindCount kind) :
    s.objAccept path kind index r = match r with
      | .inl code => s.objDone path code
      | .inr t => t.objDone path 0 := by
  have hn : ¬ (kind ≤ 4 ∧ kindCount kind ≤ index) := fun x => absurd (hk x.1) (by omega)
  simp only [State.objAccept, he, hb, hn]
  cases r <;> rfl

/-- The interrupt lines do not depend on the lines driven or on the queue. -/
theorem intN_withQueue (s : State) (p : List Instr) : State.intN { s with pending := p } = s.intN := rfl
theorem stewardInt_withQueue (s : State) (p : List Instr) : State.stewardInt { s with pending := p } = s.stewardInt := rfl
theorem intN_withPins (s : State) (q : Pins) : State.intN { s with pins := q } = s.intN := rfl
theorem stewardInt_withPins (s : State) (q : Pins) : State.stewardInt { s with pins := q } = s.stewardInt := rfl

end Sys2Proof.Laws
end

