-- ==== Sys2Proof/Laws/PerInstr.lean ====
section
/-! SUPPORT. One family of statements about the commands as syntax: the fabric manager's path carries the four change-set
commands of R71 alone. -/

namespace Sys2Proof.Laws

set_option Elab.async false

open Sys2Proof Sys2Proof.Machine

/-- The path a command comes on: BAR0, the Steward's or, for change sets, the fabric manager's port (R71). -/
def pathOf : Instr → Option Path
  | .go p _ => some p
  | .ready p => some p
  | .stFieldWrite p _ _ => some p
  | .pdOnRequest p _ => some p
  | .pdOffRequest p _ => some p
  | .csOpen p _ => some p
  | .csSelect p _ => some p
  | .csStage p _ _ _ _ => some p
  | .csCheck p _ _ => some p
  | .csAbandon p _ _ => some p
  | .csRefuseRead p _ => some p
  | .invDvaRange p _ _ => some p
  | .invHvaRange p _ _ => some p
  | .invContext p _ => some p
  | .invSlice p _ => some p
  | .cacheFlush p => some p
  | .retry p _ _ => some p
  | .kill p _ _ => some p
  | .faultRingTail p _ => some p
  | .poundClear p _ _ _ => some p
  | .keyidRetire p _ => some p
  | .hdgCntClear p => some p
  | .milCntClear p => some p
  | .ctrCntClear p => some p
  | .drvCntClear p => some p
  | .schCntClear p => some p
  | .cohCntClear p => some p
  | .objCreate p _ _ => some p
  | .objActivate p _ _ => some p
  | .objDeactivate p _ _ => some p
  | .objDestroy p _ _ _ _ => some p
  | .objSignal p _ _ _ => some p
  | .objReset p _ _ => some p
  | .objRecordWrite p _ _ => some p
  | .objEnable p _ => some p
  | .noticeRingTail p _ => some p
  | .t2mHead p _ _ => some p
  | .m2tTail p _ _ => some p
  | .freeze p _ => some p
  | .thaw p _ => some p
  | .save p _ _ _ => some p
  | .offer p => some p
  | .restore p _ _ _ _ _ _ _ _ _ => some p
  | .restoreContinue p _ => some p
  | .discard p _ _ => some p
  | .tenCancel p _ => some p
  | .migBufferHandover p _ => some p
  | .kxStart p _ _ _ _ => some p
  | .linkRetire p _ _ => some p
  | .generate p _ _ => some p
  | .derive p _ _ _ => some p
  | .unwrap p _ _ _ => some p
  | .seal p _ => some p
  | .unseal p _ => some p
  | .establish p _ _ => some p
  | .accept p _ => some p
  | .keyDestroy p _ => some p
  | .keyAttest p _ => some p
  | .endorse p => some p
  | .enroll p _ => some p
  | .lcTransition _ p _ => some p
  | .challenge _ p _ => some p
  | .respond _ p => some p
  | .gateClose p => some p
  | .irqTest p _ => some p
  | .alarmAck p _ => some p
  | .crierRingTail p _ _ => some p
  | .objCmdOpInvalid p _ => some p
  | _ => none

/-- The change-set commands that the fabric manager sends (R71). -/
def isChangeSet : Instr → Bool
  | .csOpen _ _ => true
  | .csStage _ _ _ _ _ => true
  | .csCheck _ _ _ => true
  | .csAbandon _ _ _ => true
  | _ => false

namespace FmSendsChangeSets

/-- A well-formed command on the fabric manager's path is one of its change-set commands. -/
def Statement (i : Instr) : Prop := i.wf = true → pathOf i = some .fm → isChangeSet i = true

theorem andLeft {a b : Bool} (h : (a && b) = true) : a = true := (Bool.and_eq_true_iff.mp h).1

/-- A command whose path is checked never comes on the fabric manager's. -/
theorem path_of_wf {i : Instr} {p : Path} (h : i.wf = true → pathOk p = true) (hp : pathOf i = some p := by rfl) : Statement i := by
  intro hw hf
  rw [hp] at hf
  cases hf
  exact absurd (h hw) (by decide)

theorem porAssert : Statement .porAssert := fun _ h => nomatch h
theorem sysReset (x : StartUp) : Statement (.sysReset x) := fun _ h => nomatch h
theorem porRelease (x : StartUp) : Statement (.porRelease x) := fun _ h => nomatch h
theorem go (path : Path) (pasid : Nat) : Statement (.go path pasid) := path_of_wf (fun h => andLeft h)
theorem imageFetchDone (opgar : ImageBytes) (policy : ImageBytes) (deadDomain : Option Nat) (elapsedNs : Nat) : Statement (.imageFetchDone opgar policy deadDomain elapsedNs) := fun _ h => nomatch h
theorem ready (path : Path) : Statement (.ready path) := path_of_wf (fun h => h)
theorem registerWrite (a : Bar0Access) : Statement (.registerWrite a) := fun _ h => nomatch h
theorem stFieldWrite (path : Path) (offset : Nat) (value : Word) : Statement (.stFieldWrite path offset value) := path_of_wf (fun h => andLeft h)
theorem pdOnRequest (path : Path) (n : Nat) : Statement (.pdOnRequest path n) := path_of_wf (fun h => andLeft h)
theorem pdOffRequest (path : Path) (n : Nat) : Statement (.pdOffRequest path n) := path_of_wf (fun h => andLeft h)
theorem pdOn (n : Nat) : Statement (.pdOn n) := fun _ h => nomatch h
theorem pdOffComplete (n : Nat) : Statement (.pdOffComplete n) := fun _ h => nomatch h
theorem supplyRemoved : Statement .supplyRemoved := fun _ h => nomatch h
theorem aclkStopped : Statement .aclkStopped := fun _ h => nomatch h
theorem aclkRestored : Statement .aclkRestored := fun _ h => nomatch h
theorem gtbCopyLocked (kind : StationKind) (k : Nat) (skewPs : Nat) : Statement (.gtbCopyLocked kind k skewPs) := fun _ h => nomatch h
theorem csOpen (path : Path) (seq : Nat) : Statement (.csOpen path seq) := fun _ _ => rfl
theorem csSelect (path : Path) (ticket : Nat) : Statement (.csSelect path ticket) := path_of_wf (fun h => andLeft h)
theorem csStage (path : Path) (ticket : Nat) (w0 : Word) (w1 : Word) (seq : Nat) : Statement (.csStage path ticket w0 w1 seq) := fun _ _ => rfl
theorem csCheck (path : Path) (ticket : Nat) (seq : Nat) : Statement (.csCheck path ticket seq) := fun _ _ => rfl
theorem csAbandon (path : Path) (ticket : Nat) (seq : Nat) : Statement (.csAbandon path ticket seq) := fun _ _ => rfl
theorem csRefuseRead (path : Path) (slot : Nat) : Statement (.csRefuseRead path slot) := path_of_wf (fun h => andLeft h)
theorem messageInvalid (type : Nat) (seq : Nat) : Statement (.messageInvalid type seq) := fun _ h => nomatch h
theorem meterPoll (tag : Nat) (seq : Nat) : Statement (.meterPoll tag seq) := fun _ h => nomatch h
theorem meterReport : Statement .meterReport := fun _ h => nomatch h
theorem checkBegin : Statement .checkBegin := fun _ h => nomatch h
theorem checkEnd : Statement .checkEnd := fun _ h => nomatch h
theorem stationAck (kind : StationKind) (k : Nat) : Statement (.stationAck kind k) := fun _ h => nomatch h
theorem distributionTimeout : Statement .distributionTimeout := fun _ h => nomatch h
theorem scrubOverrun (slot : Nat) : Statement (.scrubOverrun slot) := fun _ h => nomatch h
theorem commitInstant : Statement .commitInstant := fun _ h => nomatch h
theorem stubRelease (kind : StationKind) (k : Nat) : Statement (.stubRelease kind k) := fun _ h => nomatch h
theorem drainTimeout (kind : StationKind) (k : Nat) : Statement (.drainTimeout kind k) := fun _ h => nomatch h
theorem sliceTeardownDone (slice : Nat) : Statement (.sliceTeardownDone slice) := fun _ h => nomatch h
theorem flushComplete : Statement .flushComplete := fun _ h => nomatch h
theorem scrubDone (granule : Nat) : Statement (.scrubDone granule) := fun _ h => nomatch h
theorem coreSramZeroDone (core : Nat) : Statement (.coreSramZeroDone core) := fun _ h => nomatch h
theorem pmUpd (floorMhz : Nat) (capW : Nat) : Statement (.pmUpd floorMhz capW) := fun _ h => nomatch h
theorem audit : Statement .audit := fun _ h => nomatch h
theorem clockMeasurement (mhz : Nat) : Statement (.clockMeasurement mhz) := fun _ h => nomatch h
theorem slackHint : Statement .slackHint := fun _ h => nomatch h
theorem sliceEnergyReport : Statement .sliceEnergyReport := fun _ h => nomatch h
theorem droop (domain : Option Nat) (monitor : Nat) : Statement (.droop domain monitor) := fun _ h => nomatch h
theorem tamper (monitor : Nat) (millivolts : Nat) (cold : Bool) : Statement (.tamper monitor millivolts cold) := fun _ h => nomatch h
theorem tempSample (m : MonitorSample) : Statement (.tempSample m) := fun _ h => nomatch h
theorem tempTrip (sensor : Nat) : Statement (.tempTrip sensor) := fun _ h => nomatch h
theorem read (r : Req) : Statement (.read r) := fun _ h => nomatch h
theorem readUnique (r : Req) : Statement (.readUnique r) := fun _ h => nomatch h
theorem write (r : Req) (beats : List (Line × ByteMask)) : Statement (.write r beats) := fun _ h => nomatch h
theorem atomic (r : Req) (operand : Word) (compare : Word) : Statement (.atomic r operand compare) := fun _ h => nomatch h
theorem fence (r : Req) : Statement (.fence r) := fun _ h => nomatch h
theorem alloc (r : Req) : Statement (.alloc r) := fun _ h => nomatch h
theorem free (r : Req) : Statement (.free r) := fun _ h => nomatch h
theorem checkpoint (core : Nat) : Statement (.checkpoint core) := fun _ h => nomatch h
theorem walkComplete (port : Nat) (txn : Nat) : Statement (.walkComplete port txn) := fun _ h => nomatch h
theorem walkReadTimeout (port : Nat) (txn : Nat) : Statement (.walkReadTimeout port txn) := fun _ h => nomatch h
theorem migrationCasResult (core : Nat) (result : CasResult) : Statement (.migrationCasResult core result) := fun _ h => nomatch h
theorem extentRetranslate (core : Nat) (pos : Nat) : Statement (.extentRetranslate core pos) := fun _ h => nomatch h
theorem hostDmaCompletion (tag : Nat) (status : DmaStatus) (data : List Word) : Statement (.hostDmaCompletion tag status data) := fun _ h => nomatch h
theorem ringDmaTimeout (queue : Nat) : Statement (.ringDmaTimeout queue) := fun _ h => nomatch h
theorem invDvaRange (path : Path) (context : Nat) (pagesM1 : Nat) : Statement (.invDvaRange path context pagesM1) := path_of_wf (fun h => andLeft (andLeft h))
theorem invHvaRange (path : Path) (pasid : Nat) (pagesM1 : Nat) : Statement (.invHvaRange path pasid pagesM1) := path_of_wf (fun h => andLeft (andLeft h))
theorem invContext (path : Path) (context : Nat) : Statement (.invContext path context) := path_of_wf (fun h => andLeft h)
theorem invSlice (path : Path) (slice : Nat) : Statement (.invSlice path slice) := path_of_wf (fun h => andLeft h)
theorem invAck (seq : Nat) (acknowledger : Nat) : Statement (.invAck seq acknowledger) := fun _ h => nomatch h
theorem cacheFlush (path : Path) : Statement (.cacheFlush path) := path_of_wf (fun h => h)
theorem cacheFlushDone : Statement .cacheFlushDone := fun _ h => nomatch h
theorem retry (path : Path) (context : Nat) (seq : Nat) : Statement (.retry path context seq) := path_of_wf (fun h => andLeft (andLeft h))
theorem kill (path : Path) (context : Nat) (seq : Nat) : Statement (.kill path context seq) := path_of_wf (fun h => andLeft (andLeft h))
theorem faultRingTail (path : Path) (index : Nat) : Statement (.faultRingTail path index) := path_of_wf (fun h => andLeft h)
theorem faultBatchTimer : Statement .faultBatchTimer := fun _ h => nomatch h
theorem memoryOpAccept (port : Nat) (op : Nat) : Statement (.memoryOpAccept port op) := fun _ h => nomatch h
theorem dramReadReturn (port : Nat) (tag : Nat) (data : Line) (poison : Bool) : Statement (.dramReadReturn port tag data poison) := fun _ h => nomatch h
theorem macVerdict (port : Nat) (slot : Nat) : Statement (.macVerdict port slot) := fun _ h => nomatch h
theorem atomicBufferIdle (port : Nat) (line : Nat) : Statement (.atomicBufferIdle port line) := fun _ h => nomatch h
theorem clusterAtomicBufferIdle (station : Nat) (line : Nat) : Statement (.clusterAtomicBufferIdle station line) := fun _ h => nomatch h
theorem verifyVerdict (port : Nat) (txn : Nat) (v : Verdict) (code : Nat) : Statement (.verifyVerdict port txn v code) := fun _ h => nomatch h
theorem releasedWriteRsp (port : Nat) (id : Nat) (code : Nat) : Statement (.releasedWriteRsp port id code) := fun _ h => nomatch h
theorem rawRead (jtag : Bool) (pa : Nat) : Statement (.rawRead jtag pa) := fun _ h => nomatch h
theorem rawWrite (jtag : Bool) (pa : Nat) (data : Line) (be : ByteMask) : Statement (.rawWrite jtag pa data be) := fun _ h => nomatch h
theorem poundClear (path : Path) (port : Nat) (level : Nat) (line : Nat) : Statement (.poundClear path port level line) := path_of_wf (fun h => andLeft (andLeft (andLeft h)))
theorem poundClearDone : Statement .poundClearDone := fun _ h => nomatch h
theorem keyidRetire (path : Path) (keyid : Nat) : Statement (.keyidRetire path keyid) := path_of_wf (fun h => andLeft h)
theorem retirementDone : Statement .retirementDone := fun _ h => nomatch h
theorem hdgCntClear (path : Path) : Statement (.hdgCntClear path) := path_of_wf (fun h => h)
theorem milCntClear (path : Path) : Statement (.milCntClear path) := path_of_wf (fun h => h)
theorem ctrCntClear (path : Path) : Statement (.ctrCntClear path) := path_of_wf (fun h => h)
theorem drvCntClear (path : Path) : Statement (.drvCntClear path) := path_of_wf (fun h => h)
theorem schCntClear (path : Path) : Statement (.schCntClear path) := path_of_wf (fun h => h)
theorem cohCntClear (path : Path) : Statement (.cohCntClear path) := path_of_wf (fun h => h)
theorem planDone (queue : Nat) (routing : List (List Word)) : Statement (.planDone queue routing) := fun _ h => nomatch h
theorem droverTransferRsp (context : Nat) (jtag : Nat) (index : Nat) (row : List Byte) (code : Nat) : Statement (.droverTransferRsp context jtag index row code) := fun _ h => nomatch h
theorem journalExpired (context : Nat) (jtag : Nat) : Statement (.journalExpired context jtag) := fun _ h => nomatch h
theorem journalLost (context : Nat) (jtag : Nat) : Statement (.journalLost context jtag) := fun _ h => nomatch h
theorem tileEnd (core : Nat) (ns : Nat) : Statement (.tileEnd core ns) := fun _ h => nomatch h
theorem tileWatchdog (core : Nat) : Statement (.tileWatchdog core) := fun _ h => nomatch h
theorem preloadDone (slot : Nat) : Statement (.preloadDone slot) := fun _ h => nomatch h
theorem shareZeroDone (slot : Nat) : Statement (.shareZeroDone slot) := fun _ h => nomatch h
theorem coreUe (port : Nat) (core : Nat) : Statement (.coreUe port core) := fun _ h => nomatch h
theorem coreHeartbeatTimeout (port : Nat) (core : Nat) : Statement (.coreHeartbeatTimeout port core) := fun _ h => nomatch h
theorem coreSubstitutionDone (core : Nat) (badUnits : List Nat) : Statement (.coreSubstitutionDone core badUnits) := fun _ h => nomatch h
theorem writeback (port : Nat) (core : Nat) (line : Nat) (data : Line) : Statement (.writeback port core line data) := fun _ h => nomatch h
theorem evict (port : Nat) (core : Nat) (line : Nat) : Statement (.evict port core line) := fun _ h => nomatch h
theorem ackI (port : Nat) (core : Nat) (sid : Nat) : Statement (.ackI port core sid) := fun _ h => nomatch h
theorem ackS (port : Nat) (core : Nat) (sid : Nat) : Statement (.ackS port core sid) := fun _ h => nomatch h
theorem dataDirty (port : Nat) (core : Nat) (sid : Nat) (data : Line) : Statement (.dataDirty port core sid data) := fun _ h => nomatch h
theorem wbPending (port : Nat) (core : Nat) (sid : Nat) : Statement (.wbPending port core sid) := fun _ h => nomatch h
theorem snoopTimeout (sid : Nat) : Statement (.snoopTimeout sid) := fun _ h => nomatch h
theorem objCreate (path : Path) (kind : Nat) (index : Nat) : Statement (.objCreate path kind index) := path_of_wf (fun h => andLeft (andLeft h))
theorem objActivate (path : Path) (kind : Nat) (index : Nat) : Statement (.objActivate path kind index) := path_of_wf (fun h => andLeft (andLeft h))
theorem objDeactivate (path : Path) (kind : Nat) (index : Nat) : Statement (.objDeactivate path kind index) := path_of_wf (fun h => andLeft (andLeft h))
theorem objDestroy (path : Path) (kind : Nat) (index : Nat) (slice : Nat) (fences : List Nat) : Statement (.objDestroy path kind index slice fences) := path_of_wf (fun h => andLeft (andLeft (andLeft (andLeft h))))
theorem objSignal (path : Path) (kind : Nat) (index : Nat) (code : Nat) : Statement (.objSignal path kind index code) := path_of_wf (fun h => andLeft (andLeft (andLeft h)))
theorem objReset (path : Path) (kind : Nat) (index : Nat) : Statement (.objReset path kind index) := path_of_wf (fun h => andLeft (andLeft h))
theorem objRecordWrite (path : Path) (w : Nat) (value : Word) : Statement (.objRecordWrite path w value) := path_of_wf (fun h => andLeft h)
theorem objEnable (path : Path) (enable : Bool) : Statement (.objEnable path enable) := path_of_wf (fun h => h)
theorem contextTeardownDone (context : Nat) : Statement (.contextTeardownDone context) := fun _ h => nomatch h
theorem memoryObjectFreed (index : Nat) : Statement (.memoryObjectFreed index) := fun _ h => nomatch h
theorem sqTail (queue : Nat) (value : Nat) (pasid : Option Nat) (bytes : Nat) : Statement (.sqTail queue value pasid bytes) := fun _ h => nomatch h
theorem cqHead (queue : Nat) (value : Nat) (pasid : Option Nat) (bytes : Nat) : Statement (.cqHead queue value pasid bytes) := fun _ h => nomatch h
theorem queueSlotGrant (queue : Nat) : Statement (.queueSlotGrant queue) := fun _ h => nomatch h
theorem nop (queue : Nat) (w : CmdWords) : Statement (.nop queue w) := fun _ h => nomatch h
theorem tile (queue : Nat) (w : CmdWords) : Statement (.tile queue w) := fun _ h => nomatch h
theorem dmaCopy (queue : Nat) (w : CmdWords) : Statement (.dmaCopy queue w) := fun _ h => nomatch h
theorem dmaFill (queue : Nat) (w : CmdWords) : Statement (.dmaFill queue w) := fun _ h => nomatch h
theorem dispatch (queue : Nat) (w : CmdWords) : Statement (.dispatch queue w) := fun _ h => nomatch h
theorem combine (queue : Nat) (w : CmdWords) : Statement (.combine queue w) := fun _ h => nomatch h
theorem fenceSignal (queue : Nat) (w : CmdWords) : Statement (.fenceSignal queue w) := fun _ h => nomatch h
theorem fenceWait (queue : Nat) (w : CmdWords) : Statement (.fenceWait queue w) := fun _ h => nomatch h
theorem fenceWaitWake (queue : Nat) : Statement (.fenceWaitWake queue) := fun _ h => nomatch h
theorem fenceReset (queue : Nat) (w : CmdWords) : Statement (.fenceReset queue w) := fun _ h => nomatch h
theorem objRef (queue : Nat) (w : CmdWords) : Statement (.objRef queue w) := fun _ h => nomatch h
theorem noticeRingTail (path : Path) (index : Nat) : Statement (.noticeRingTail path index) := path_of_wf (fun h => andLeft h)
theorem t2mTail (slice : Nat) (value : Nat) (pasid : Option Nat) (bytes : Nat) (slots : List (Nat × Word)) : Statement (.t2mTail slice value pasid bytes slots) := fun _ h => nomatch h
theorem m2tHead (slice : Nat) (value : Nat) (pasid : Option Nat) (bytes : Nat) : Statement (.m2tHead slice value pasid bytes) := fun _ h => nomatch h
theorem t2mHead (path : Path) (slice : Nat) (value : Nat) : Statement (.t2mHead path slice value) := path_of_wf (fun h => andLeft (andLeft h))
theorem m2tTail (path : Path) (slice : Nat) (value : Nat) : Statement (.m2tTail path slice value) := path_of_wf (fun h => andLeft (andLeft h))
theorem query (slice : Nat) : Statement (.query slice) := fun _ h => nomatch h
theorem tenAttest (slice : Nat) (bufferCode : Nat) (pages : List (Nat × Nat)) : Statement (.tenAttest slice bufferCode pages) := fun _ h => nomatch h
theorem managerMessage (slice : Nat) : Statement (.managerMessage slice) := fun _ h => nomatch h
theorem t2mTypeInvalid (slice : Nat) : Statement (.t2mTypeInvalid slice) := fun _ h => nomatch h
theorem freeze (path : Path) (slice : Nat) : Statement (.freeze path slice) := path_of_wf (fun h => andLeft h)
theorem sliceFrozen (slice : Nat) : Statement (.sliceFrozen slice) := fun _ h => nomatch h
theorem thaw (path : Path) (slice : Nat) : Statement (.thaw path slice) := path_of_wf (fun h => andLeft h)
theorem save (path : Path) (slice : Nat) (offer : PeerStatement) (pubKeys : List Byte) : Statement (.save path slice offer pubKeys) := path_of_wf (fun h => andLeft h)
theorem saveDone (code : Nat) : Statement (.saveDone code) := fun _ h => nomatch h
theorem offer (path : Path) : Statement (.offer path) := path_of_wf (fun h => h)
theorem restore (path : Path) (slice : Nat) (tagsOk : Bool) (cores : Nat) (channels : Nat) (links : Nat) (commons : List Nat) (granules : List Nat) (objects : List (Nat × Nat)) (shares : List Nat) : Statement (.restore path slice tagsOk cores channels links commons granules objects shares) := path_of_wf (fun h => andLeft (andLeft (andLeft h)))
theorem restoreKeysReady (keys : List (Nat × Key)) : Statement (.restoreKeysReady keys) := fun _ h => nomatch h
theorem restoreContinue (path : Path) (slice : Nat) : Statement (.restoreContinue path slice) := path_of_wf (fun h => andLeft h)
theorem restoreDone (records : Nat) (code : Nat) (image : RestoreImage) : Statement (.restoreDone records code image) := fun _ h => nomatch h
theorem discard (path : Path) (slice : Nat) (fences : List Nat) : Statement (.discard path slice fences) :=
  path_of_wf (fun h => andLeft (andLeft h))
theorem tenCancel (path : Path) (slice : Nat) : Statement (.tenCancel path slice) := path_of_wf (fun h => andLeft h)
theorem migBufferHandover (path : Path) (pages : Nat) : Statement (.migBufferHandover path pages) := path_of_wf (fun h => andLeft h)
theorem klfFlit (port : Nat) (f : Flit) : Statement (.klfFlit port f) := fun _ h => nomatch h
theorem linkReplayRequest (port : Nat) (fsn : Nat) : Statement (.linkReplayRequest port fsn) := fun _ h => nomatch h
theorem kxStart (path : Path) (port : Nat) (slotTx : Nat) (slotRx : Nat) (up : Bool) : Statement (.kxStart path port slotTx slotRx up) := path_of_wf (fun h => andLeft (andLeft (andLeft h)))
theorem kxHello (port : Nat) (st : PeerStatement) (pubKeys : List Byte) : Statement (.kxHello port st pubKeys) := fun _ h => nomatch h
theorem kxFinish (port : Nat) (ciphertext : List Byte) : Statement (.kxFinish port ciphertext) := fun _ h => nomatch h
theorem kxConfirm (port : Nat) (mac : List Byte) : Statement (.kxConfirm port mac) := fun _ h => nomatch h
theorem kxTimeout (port : Nat) : Statement (.kxTimeout port) := fun _ h => nomatch h
theorem linkRetire (path : Path) (port : Nat) (phase : Bool) : Statement (.linkRetire path port phase) := path_of_wf (fun h => andLeft h)
theorem linkRetireDone (port : Nat) : Statement (.linkRetireDone port) := fun _ h => nomatch h
theorem rekeyDue (port : Nat) : Statement (.rekeyDue port) := fun _ h => nomatch h
theorem sealLimit (port : Nat) : Statement (.sealLimit port) := fun _ h => nomatch h
theorem linkDown (port : Nat) : Statement (.linkDown port) := fun _ h => nomatch h
theorem laneCe (port : Nat) (lane : Nat) : Statement (.laneCe port lane) := fun _ h => nomatch h
theorem laneLost (port : Nat) (lane : Nat) : Statement (.laneLost port lane) := fun _ h => nomatch h
theorem laneMap (port : Nat) (lane : Nat) : Statement (.laneMap port lane) := fun _ h => nomatch h
theorem retrainingWindow (port : Nat) : Statement (.retrainingWindow port) := fun _ h => nomatch h
theorem retrainAck (port : Nat) : Statement (.retrainAck port) := fun _ h => nomatch h
theorem generate (path : Path) (attr : Nat) (target : Nat) : Statement (.generate path attr target) := path_of_wf (fun h => andLeft (andLeft h))
theorem derive (path : Path) (attr : Nat) (parent : Nat) (target : Nat) : Statement (.derive path attr parent target) := path_of_wf (fun h => andLeft (andLeft (andLeft h)))
theorem unwrap (path : Path) (attr : Nat) (parent : Nat) (target : Nat) : Statement (.unwrap path attr parent target) := path_of_wf (fun h => andLeft (andLeft (andLeft h)))
theorem establish (path : Path) (slice : Nat) (target : Nat) : Statement (.establish path slice target) := path_of_wf (fun h => andLeft (andLeft h))
theorem accept (path : Path) (target : Nat) : Statement (.accept path target) := path_of_wf (fun h => andLeft h)
theorem keyDestroy (path : Path) (target : Nat) : Statement (.keyDestroy path target) := path_of_wf (fun h => andLeft h)
theorem keyAttest (path : Path) (slice : Nat) : Statement (.keyAttest path slice) := path_of_wf (fun h => andLeft h)
theorem endorse (path : Path) : Statement (.endorse path) := path_of_wf (fun h => h)
theorem enroll (path : Path) (readings : List PufReading) : Statement (.enroll path readings) := path_of_wf (fun h => andLeft (andLeft h))
theorem keyCmdDone : Statement .keyCmdDone := fun _ h => nomatch h
theorem entropyFail : Statement .entropyFail := fun _ h => nomatch h
theorem reseed : Statement .reseed := fun _ h => nomatch h
theorem patrol (corrected : Nat) (mills worn : List (Nat × Nat)) (uncorrectable : List PatrolTarget) :
    Statement (.patrol corrected mills worn uncorrectable) := fun _ h => nomatch h
theorem lcTransition (fromJtag : Bool) (path : Path) (targetLc : Nat) : Statement (.lcTransition fromJtag path targetLc) := path_of_wf (fun h => andLeft h)
theorem lcTransitionReset (x : StartUp) : Statement (.lcTransitionReset x) := fun _ h => nomatch h
theorem programFail : Statement .programFail := fun _ h => nomatch h
theorem challenge (fromJtag : Bool) (path : Path) (level : Nat) : Statement (.challenge fromJtag path level) := path_of_wf (fun h => andLeft h)
theorem respond (fromJtag : Bool) (path : Path) : Statement (.respond fromJtag path) := path_of_wf (fun h => h)
theorem gateClose (path : Path) : Statement (.gateClose path) := path_of_wf (fun h => h)
theorem jtagInstruction (code : Nat) : Statement (.jtagInstruction code) := fun _ h => nomatch h
theorem checkLogicDisagree (station : Nat) : Statement (.checkLogicDisagree station) := fun _ h => nomatch h
theorem clusterSubstitutionDone (station : Nat) : Statement (.clusterSubstitutionDone station) := fun _ h => nomatch h
theorem memoryCe (port : Nat) : Statement (.memoryCe port) := fun _ h => nomatch h
theorem rebuildLeaf (macLost : List Nat) (poisonLost : List Nat) : Statement (.rebuildLeaf macLost poisonLost) := fun _ h => nomatch h
theorem aesPipelineFail (kind : StationKind) (k : Nat) (pipeline : Nat) : Statement (.aesPipelineFail kind k pipeline) := fun _ h => nomatch h
theorem stewardHeartbeatTimeout (core : Nat) : Statement (.stewardHeartbeatTimeout core) := fun _ h => nomatch h
theorem irqTest (path : Path) (set : Bool) : Statement (.irqTest path set) := path_of_wf (fun h => h)
theorem alarmAck (path : Path) (latch : Nat) : Statement (.alarmAck path latch) := path_of_wf (fun h => andLeft h)
theorem crierRecordWrite (ring : Nat) : Statement (.crierRecordWrite ring) := fun _ h => nomatch h
theorem errorHoldExpired : Statement .errorHoldExpired := fun _ h => nomatch h
theorem ringIrqTimer (ring : Nat) : Statement (.ringIrqTimer ring) := fun _ h => nomatch h
theorem crierRingTail (path : Path) (ring : Nat) (index : Nat) : Statement (.crierRingTail path ring index) := path_of_wf (fun h => andLeft (andLeft h))
theorem i3cEntdaa (address : Nat) : Statement (.i3cEntdaa address) := fun _ h => nomatch h
theorem i3cRead (offset : Nat) : Statement (.i3cRead offset) := fun _ h => nomatch h
theorem i3cWrite (offset : Nat) (value : Word) : Statement (.i3cWrite offset value) := fun _ h => nomatch h
theorem moverSelfCheckFail (station : Nat) : Statement (.moverSelfCheckFail station) := fun _ h => nomatch h
theorem commandInvalid (queue : Nat) (w : CmdWords) : Statement (.commandInvalid queue w) := fun _ h => nomatch h
theorem objCmdOpInvalid (path : Path) (op : Nat) : Statement (.objCmdOpInvalid path op) := path_of_wf (fun h => andLeft h)
theorem imageDmaTimeout : Statement .imageDmaTimeout := fun _ h => nomatch h
theorem tileKilledAtDecl (core : Nat) : Statement (.tileKilledAtDecl core) := fun _ h => nomatch h
theorem postedWriteTaken (id : Nat) : Statement (.postedWriteTaken id) := fun _ h => nomatch h

end FmSendsChangeSets

open FmSendsChangeSets in
theorem FmSendsChangeSets.seal (path : Path) (parent : Nat) : Statement (.seal path parent) := path_of_wf (fun h => andLeft h)

open FmSendsChangeSets in
theorem FmSendsChangeSets.unseal (path : Path) (target : Nat) : Statement (.unseal path target) := path_of_wf (fun h => andLeft h)

end Sys2Proof.Laws
end

