-- ==== Sys2Proof/Laws/Updates.lean ====
section
/-! SUPPORT. What the named updates of one station, slot, walk, descriptor, tile or run leave alone: one lemma per field per update,
each true by definition. -/

namespace Sys2Proof.Laws

open Sys2Proof Sys2Proof.Machine

@[simp] theorem modCluster_pending (s : State) (k : Nat) (f : Cluster → Cluster) : (s.modCluster k f).pending = s.pending := rfl
@[simp] theorem modCluster_out (s : State) (k : Nat) (f : Cluster → Cluster) : (s.modCluster k f).out = s.out := rfl
@[simp] theorem modCluster_fresh (s : State) (k : Nat) (f : Cluster → Cluster) : (s.modCluster k f).fresh = s.fresh := rfl
@[simp] theorem modCluster_regs (s : State) (k : Nat) (f : Cluster → Cluster) : (s.modCluster k f).regs = s.regs := rfl
@[simp] theorem modCluster_clock (s : State) (k : Nat) (f : Cluster → Cluster) : (s.modCluster k f).clock = s.clock := rfl
@[simp] theorem modCluster_boot (s : State) (k : Nat) (f : Cluster → Cluster) : (s.modCluster k f).boot = s.boot := rfl
@[simp] theorem modCluster_power (s : State) (k : Nat) (f : Cluster → Cluster) : (s.modCluster k f).power = s.power := rfl
@[simp] theorem modCluster_moot (s : State) (k : Nat) (f : Cluster → Cluster) : (s.modCluster k f).moot = s.moot := rfl
@[simp] theorem modCluster_comp (s : State) (k : Nat) (f : Cluster → Cluster) : (s.modCluster k f).comp = s.comp := rfl
@[simp] theorem modCluster_mems (s : State) (k : Nat) (f : Cluster → Cluster) : (s.modCluster k f).mems = s.mems := rfl
@[simp] theorem modCluster_xlt (s : State) (k : Nat) (f : Cluster → Cluster) : (s.modCluster k f).xlt = s.xlt := rfl
@[simp] theorem modCluster_sched (s : State) (k : Nat) (f : Cluster → Cluster) : (s.modCluster k f).sched = s.sched := rfl
@[simp] theorem modCluster_coh (s : State) (k : Nat) (f : Cluster → Cluster) : (s.modCluster k f).coh = s.coh := rfl
@[simp] theorem modCluster_hif (s : State) (k : Nat) (f : Cluster → Cluster) : (s.modCluster k f).hif = s.hif := rfl
@[simp] theorem modCluster_obj (s : State) (k : Nat) (f : Cluster → Cluster) : (s.modCluster k f).obj = s.obj := rfl
@[simp] theorem modCluster_drv (s : State) (k : Nat) (f : Cluster → Cluster) : (s.modCluster k f).drv = s.drv := rfl
@[simp] theorem modCluster_ten (s : State) (k : Nat) (f : Cluster → Cluster) : (s.modCluster k f).ten = s.ten := rfl
@[simp] theorem modCluster_links (s : State) (k : Nat) (f : Cluster → Cluster) : (s.modCluster k f).links = s.links := rfl
@[simp] theorem modCluster_kx (s : State) (k : Nat) (f : Cluster → Cluster) : (s.modCluster k f).kx = s.kx := rfl
@[simp] theorem modCluster_well (s : State) (k : Nat) (f : Cluster → Cluster) : (s.modCluster k f).well = s.well := rfl
@[simp] theorem modCluster_ledger (s : State) (k : Nat) (f : Cluster → Cluster) : (s.modCluster k f).ledger = s.ledger := rfl
@[simp] theorem modCluster_spr (s : State) (k : Nat) (f : Cluster → Cluster) : (s.modCluster k f).spr = s.spr := rfl
@[simp] theorem modCluster_mon (s : State) (k : Nat) (f : Cluster → Cluster) : (s.modCluster k f).mon = s.mon := rfl
@[simp] theorem modCluster_crier (s : State) (k : Nat) (f : Cluster → Cluster) : (s.modCluster k f).crier = s.crier := rfl
@[simp] theorem modCluster_pins (s : State) (k : Nat) (f : Cluster → Cluster) : (s.modCluster k f).pins = s.pins := rfl

@[simp] theorem modMem_pending (s : State) (p : Nat) (f : MemStation → MemStation) : (s.modMem p f).pending = s.pending := rfl
@[simp] theorem modMem_out (s : State) (p : Nat) (f : MemStation → MemStation) : (s.modMem p f).out = s.out := rfl
@[simp] theorem modMem_fresh (s : State) (p : Nat) (f : MemStation → MemStation) : (s.modMem p f).fresh = s.fresh := rfl
@[simp] theorem modMem_regs (s : State) (p : Nat) (f : MemStation → MemStation) : (s.modMem p f).regs = s.regs := rfl
@[simp] theorem modMem_clock (s : State) (p : Nat) (f : MemStation → MemStation) : (s.modMem p f).clock = s.clock := rfl
@[simp] theorem modMem_boot (s : State) (p : Nat) (f : MemStation → MemStation) : (s.modMem p f).boot = s.boot := rfl
@[simp] theorem modMem_power (s : State) (p : Nat) (f : MemStation → MemStation) : (s.modMem p f).power = s.power := rfl
@[simp] theorem modMem_moot (s : State) (p : Nat) (f : MemStation → MemStation) : (s.modMem p f).moot = s.moot := rfl
@[simp] theorem modMem_comp (s : State) (p : Nat) (f : MemStation → MemStation) : (s.modMem p f).comp = s.comp := rfl
@[simp] theorem modMem_clusters (s : State) (p : Nat) (f : MemStation → MemStation) : (s.modMem p f).clusters = s.clusters := rfl
@[simp] theorem modMem_xlt (s : State) (p : Nat) (f : MemStation → MemStation) : (s.modMem p f).xlt = s.xlt := rfl
@[simp] theorem modMem_sched (s : State) (p : Nat) (f : MemStation → MemStation) : (s.modMem p f).sched = s.sched := rfl
@[simp] theorem modMem_coh (s : State) (p : Nat) (f : MemStation → MemStation) : (s.modMem p f).coh = s.coh := rfl
@[simp] theorem modMem_hif (s : State) (p : Nat) (f : MemStation → MemStation) : (s.modMem p f).hif = s.hif := rfl
@[simp] theorem modMem_obj (s : State) (p : Nat) (f : MemStation → MemStation) : (s.modMem p f).obj = s.obj := rfl
@[simp] theorem modMem_drv (s : State) (p : Nat) (f : MemStation → MemStation) : (s.modMem p f).drv = s.drv := rfl
@[simp] theorem modMem_ten (s : State) (p : Nat) (f : MemStation → MemStation) : (s.modMem p f).ten = s.ten := rfl
@[simp] theorem modMem_links (s : State) (p : Nat) (f : MemStation → MemStation) : (s.modMem p f).links = s.links := rfl
@[simp] theorem modMem_kx (s : State) (p : Nat) (f : MemStation → MemStation) : (s.modMem p f).kx = s.kx := rfl
@[simp] theorem modMem_well (s : State) (p : Nat) (f : MemStation → MemStation) : (s.modMem p f).well = s.well := rfl
@[simp] theorem modMem_ledger (s : State) (p : Nat) (f : MemStation → MemStation) : (s.modMem p f).ledger = s.ledger := rfl
@[simp] theorem modMem_spr (s : State) (p : Nat) (f : MemStation → MemStation) : (s.modMem p f).spr = s.spr := rfl
@[simp] theorem modMem_mon (s : State) (p : Nat) (f : MemStation → MemStation) : (s.modMem p f).mon = s.mon := rfl
@[simp] theorem modMem_crier (s : State) (p : Nat) (f : MemStation → MemStation) : (s.modMem p f).crier = s.crier := rfl
@[simp] theorem modMem_pins (s : State) (p : Nat) (f : MemStation → MemStation) : (s.modMem p f).pins = s.pins := rfl

@[simp] theorem modLink_pending (s : State) (p : Nat) (f : LinkStation → LinkStation) : (s.modLink p f).pending = s.pending := rfl
@[simp] theorem modLink_out (s : State) (p : Nat) (f : LinkStation → LinkStation) : (s.modLink p f).out = s.out := rfl
@[simp] theorem modLink_fresh (s : State) (p : Nat) (f : LinkStation → LinkStation) : (s.modLink p f).fresh = s.fresh := rfl
@[simp] theorem modLink_regs (s : State) (p : Nat) (f : LinkStation → LinkStation) : (s.modLink p f).regs = s.regs := rfl
@[simp] theorem modLink_clock (s : State) (p : Nat) (f : LinkStation → LinkStation) : (s.modLink p f).clock = s.clock := rfl
@[simp] theorem modLink_boot (s : State) (p : Nat) (f : LinkStation → LinkStation) : (s.modLink p f).boot = s.boot := rfl
@[simp] theorem modLink_power (s : State) (p : Nat) (f : LinkStation → LinkStation) : (s.modLink p f).power = s.power := rfl
@[simp] theorem modLink_moot (s : State) (p : Nat) (f : LinkStation → LinkStation) : (s.modLink p f).moot = s.moot := rfl
@[simp] theorem modLink_comp (s : State) (p : Nat) (f : LinkStation → LinkStation) : (s.modLink p f).comp = s.comp := rfl
@[simp] theorem modLink_clusters (s : State) (p : Nat) (f : LinkStation → LinkStation) : (s.modLink p f).clusters = s.clusters := rfl
@[simp] theorem modLink_mems (s : State) (p : Nat) (f : LinkStation → LinkStation) : (s.modLink p f).mems = s.mems := rfl
@[simp] theorem modLink_xlt (s : State) (p : Nat) (f : LinkStation → LinkStation) : (s.modLink p f).xlt = s.xlt := rfl
@[simp] theorem modLink_sched (s : State) (p : Nat) (f : LinkStation → LinkStation) : (s.modLink p f).sched = s.sched := rfl
@[simp] theorem modLink_coh (s : State) (p : Nat) (f : LinkStation → LinkStation) : (s.modLink p f).coh = s.coh := rfl
@[simp] theorem modLink_hif (s : State) (p : Nat) (f : LinkStation → LinkStation) : (s.modLink p f).hif = s.hif := rfl
@[simp] theorem modLink_obj (s : State) (p : Nat) (f : LinkStation → LinkStation) : (s.modLink p f).obj = s.obj := rfl
@[simp] theorem modLink_drv (s : State) (p : Nat) (f : LinkStation → LinkStation) : (s.modLink p f).drv = s.drv := rfl
@[simp] theorem modLink_ten (s : State) (p : Nat) (f : LinkStation → LinkStation) : (s.modLink p f).ten = s.ten := rfl
@[simp] theorem modLink_kx (s : State) (p : Nat) (f : LinkStation → LinkStation) : (s.modLink p f).kx = s.kx := rfl
@[simp] theorem modLink_well (s : State) (p : Nat) (f : LinkStation → LinkStation) : (s.modLink p f).well = s.well := rfl
@[simp] theorem modLink_ledger (s : State) (p : Nat) (f : LinkStation → LinkStation) : (s.modLink p f).ledger = s.ledger := rfl
@[simp] theorem modLink_spr (s : State) (p : Nat) (f : LinkStation → LinkStation) : (s.modLink p f).spr = s.spr := rfl
@[simp] theorem modLink_mon (s : State) (p : Nat) (f : LinkStation → LinkStation) : (s.modLink p f).mon = s.mon := rfl
@[simp] theorem modLink_crier (s : State) (p : Nat) (f : LinkStation → LinkStation) : (s.modLink p f).crier = s.crier := rfl
@[simp] theorem modLink_pins (s : State) (p : Nat) (f : LinkStation → LinkStation) : (s.modLink p f).pins = s.pins := rfl

@[simp] theorem modQueueRun_pending (s : State) (q : Nat) (f : QueueRun → QueueRun) : (s.modQueueRun q f).pending = s.pending := rfl
@[simp] theorem modQueueRun_out (s : State) (q : Nat) (f : QueueRun → QueueRun) : (s.modQueueRun q f).out = s.out := rfl
@[simp] theorem modQueueRun_fresh (s : State) (q : Nat) (f : QueueRun → QueueRun) : (s.modQueueRun q f).fresh = s.fresh := rfl
@[simp] theorem modQueueRun_regs (s : State) (q : Nat) (f : QueueRun → QueueRun) : (s.modQueueRun q f).regs = s.regs := rfl
@[simp] theorem modQueueRun_clock (s : State) (q : Nat) (f : QueueRun → QueueRun) : (s.modQueueRun q f).clock = s.clock := rfl
@[simp] theorem modQueueRun_boot (s : State) (q : Nat) (f : QueueRun → QueueRun) : (s.modQueueRun q f).boot = s.boot := rfl
@[simp] theorem modQueueRun_power (s : State) (q : Nat) (f : QueueRun → QueueRun) : (s.modQueueRun q f).power = s.power := rfl
@[simp] theorem modQueueRun_moot (s : State) (q : Nat) (f : QueueRun → QueueRun) : (s.modQueueRun q f).moot = s.moot := rfl
@[simp] theorem modQueueRun_comp (s : State) (q : Nat) (f : QueueRun → QueueRun) : (s.modQueueRun q f).comp = s.comp := rfl
@[simp] theorem modQueueRun_clusters (s : State) (q : Nat) (f : QueueRun → QueueRun) : (s.modQueueRun q f).clusters = s.clusters := rfl
@[simp] theorem modQueueRun_mems (s : State) (q : Nat) (f : QueueRun → QueueRun) : (s.modQueueRun q f).mems = s.mems := rfl
@[simp] theorem modQueueRun_xlt (s : State) (q : Nat) (f : QueueRun → QueueRun) : (s.modQueueRun q f).xlt = s.xlt := rfl
@[simp] theorem modQueueRun_sched (s : State) (q : Nat) (f : QueueRun → QueueRun) : (s.modQueueRun q f).sched = s.sched := rfl
@[simp] theorem modQueueRun_coh (s : State) (q : Nat) (f : QueueRun → QueueRun) : (s.modQueueRun q f).coh = s.coh := rfl
@[simp] theorem modQueueRun_obj (s : State) (q : Nat) (f : QueueRun → QueueRun) : (s.modQueueRun q f).obj = s.obj := rfl
@[simp] theorem modQueueRun_drv (s : State) (q : Nat) (f : QueueRun → QueueRun) : (s.modQueueRun q f).drv = s.drv := rfl
@[simp] theorem modQueueRun_ten (s : State) (q : Nat) (f : QueueRun → QueueRun) : (s.modQueueRun q f).ten = s.ten := rfl
@[simp] theorem modQueueRun_links (s : State) (q : Nat) (f : QueueRun → QueueRun) : (s.modQueueRun q f).links = s.links := rfl
@[simp] theorem modQueueRun_kx (s : State) (q : Nat) (f : QueueRun → QueueRun) : (s.modQueueRun q f).kx = s.kx := rfl
@[simp] theorem modQueueRun_well (s : State) (q : Nat) (f : QueueRun → QueueRun) : (s.modQueueRun q f).well = s.well := rfl
@[simp] theorem modQueueRun_ledger (s : State) (q : Nat) (f : QueueRun → QueueRun) : (s.modQueueRun q f).ledger = s.ledger := rfl
@[simp] theorem modQueueRun_spr (s : State) (q : Nat) (f : QueueRun → QueueRun) : (s.modQueueRun q f).spr = s.spr := rfl
@[simp] theorem modQueueRun_mon (s : State) (q : Nat) (f : QueueRun → QueueRun) : (s.modQueueRun q f).mon = s.mon := rfl
@[simp] theorem modQueueRun_crier (s : State) (q : Nat) (f : QueueRun → QueueRun) : (s.modQueueRun q f).crier = s.crier := rfl
@[simp] theorem modQueueRun_pins (s : State) (q : Nat) (f : QueueRun → QueueRun) : (s.modQueueRun q f).pins = s.pins := rfl

@[simp] theorem modSlot_pending (s : State) (i : Nat) (f : CsSlot → CsSlot) : (s.modSlot i f).pending = s.pending := rfl
@[simp] theorem modSlot_out (s : State) (i : Nat) (f : CsSlot → CsSlot) : (s.modSlot i f).out = s.out := rfl
@[simp] theorem modSlot_fresh (s : State) (i : Nat) (f : CsSlot → CsSlot) : (s.modSlot i f).fresh = s.fresh := rfl
@[simp] theorem modSlot_regs (s : State) (i : Nat) (f : CsSlot → CsSlot) : (s.modSlot i f).regs = s.regs := rfl
@[simp] theorem modSlot_clock (s : State) (i : Nat) (f : CsSlot → CsSlot) : (s.modSlot i f).clock = s.clock := rfl
@[simp] theorem modSlot_boot (s : State) (i : Nat) (f : CsSlot → CsSlot) : (s.modSlot i f).boot = s.boot := rfl
@[simp] theorem modSlot_power (s : State) (i : Nat) (f : CsSlot → CsSlot) : (s.modSlot i f).power = s.power := rfl
@[simp] theorem modSlot_comp (s : State) (i : Nat) (f : CsSlot → CsSlot) : (s.modSlot i f).comp = s.comp := rfl
@[simp] theorem modSlot_clusters (s : State) (i : Nat) (f : CsSlot → CsSlot) : (s.modSlot i f).clusters = s.clusters := rfl
@[simp] theorem modSlot_mems (s : State) (i : Nat) (f : CsSlot → CsSlot) : (s.modSlot i f).mems = s.mems := rfl
@[simp] theorem modSlot_xlt (s : State) (i : Nat) (f : CsSlot → CsSlot) : (s.modSlot i f).xlt = s.xlt := rfl
@[simp] theorem modSlot_sched (s : State) (i : Nat) (f : CsSlot → CsSlot) : (s.modSlot i f).sched = s.sched := rfl
@[simp] theorem modSlot_coh (s : State) (i : Nat) (f : CsSlot → CsSlot) : (s.modSlot i f).coh = s.coh := rfl
@[simp] theorem modSlot_hif (s : State) (i : Nat) (f : CsSlot → CsSlot) : (s.modSlot i f).hif = s.hif := rfl
@[simp] theorem modSlot_obj (s : State) (i : Nat) (f : CsSlot → CsSlot) : (s.modSlot i f).obj = s.obj := rfl
@[simp] theorem modSlot_drv (s : State) (i : Nat) (f : CsSlot → CsSlot) : (s.modSlot i f).drv = s.drv := rfl
@[simp] theorem modSlot_ten (s : State) (i : Nat) (f : CsSlot → CsSlot) : (s.modSlot i f).ten = s.ten := rfl
@[simp] theorem modSlot_links (s : State) (i : Nat) (f : CsSlot → CsSlot) : (s.modSlot i f).links = s.links := rfl
@[simp] theorem modSlot_kx (s : State) (i : Nat) (f : CsSlot → CsSlot) : (s.modSlot i f).kx = s.kx := rfl
@[simp] theorem modSlot_well (s : State) (i : Nat) (f : CsSlot → CsSlot) : (s.modSlot i f).well = s.well := rfl
@[simp] theorem modSlot_ledger (s : State) (i : Nat) (f : CsSlot → CsSlot) : (s.modSlot i f).ledger = s.ledger := rfl
@[simp] theorem modSlot_spr (s : State) (i : Nat) (f : CsSlot → CsSlot) : (s.modSlot i f).spr = s.spr := rfl
@[simp] theorem modSlot_mon (s : State) (i : Nat) (f : CsSlot → CsSlot) : (s.modSlot i f).mon = s.mon := rfl
@[simp] theorem modSlot_crier (s : State) (i : Nat) (f : CsSlot → CsSlot) : (s.modSlot i f).crier = s.crier := rfl
@[simp] theorem modSlot_pins (s : State) (i : Nat) (f : CsSlot → CsSlot) : (s.modSlot i f).pins = s.pins := rfl

@[simp] theorem setWalk_pending (s : State) (w : TableWalk) : (s.setWalk w).pending = s.pending := rfl
@[simp] theorem setWalk_out (s : State) (w : TableWalk) : (s.setWalk w).out = s.out := rfl
@[simp] theorem setWalk_fresh (s : State) (w : TableWalk) : (s.setWalk w).fresh = s.fresh := rfl
@[simp] theorem setWalk_regs (s : State) (w : TableWalk) : (s.setWalk w).regs = s.regs := rfl
@[simp] theorem setWalk_clock (s : State) (w : TableWalk) : (s.setWalk w).clock = s.clock := rfl
@[simp] theorem setWalk_boot (s : State) (w : TableWalk) : (s.setWalk w).boot = s.boot := rfl
@[simp] theorem setWalk_power (s : State) (w : TableWalk) : (s.setWalk w).power = s.power := rfl
@[simp] theorem setWalk_moot (s : State) (w : TableWalk) : (s.setWalk w).moot = s.moot := rfl
@[simp] theorem setWalk_comp (s : State) (w : TableWalk) : (s.setWalk w).comp = s.comp := rfl
@[simp] theorem setWalk_clusters (s : State) (w : TableWalk) : (s.setWalk w).clusters = s.clusters := rfl
@[simp] theorem setWalk_mems (s : State) (w : TableWalk) : (s.setWalk w).mems = s.mems := rfl
@[simp] theorem setWalk_sched (s : State) (w : TableWalk) : (s.setWalk w).sched = s.sched := rfl
@[simp] theorem setWalk_coh (s : State) (w : TableWalk) : (s.setWalk w).coh = s.coh := rfl
@[simp] theorem setWalk_hif (s : State) (w : TableWalk) : (s.setWalk w).hif = s.hif := rfl
@[simp] theorem setWalk_obj (s : State) (w : TableWalk) : (s.setWalk w).obj = s.obj := rfl
@[simp] theorem setWalk_drv (s : State) (w : TableWalk) : (s.setWalk w).drv = s.drv := rfl
@[simp] theorem setWalk_ten (s : State) (w : TableWalk) : (s.setWalk w).ten = s.ten := rfl
@[simp] theorem setWalk_links (s : State) (w : TableWalk) : (s.setWalk w).links = s.links := rfl
@[simp] theorem setWalk_kx (s : State) (w : TableWalk) : (s.setWalk w).kx = s.kx := rfl
@[simp] theorem setWalk_well (s : State) (w : TableWalk) : (s.setWalk w).well = s.well := rfl
@[simp] theorem setWalk_ledger (s : State) (w : TableWalk) : (s.setWalk w).ledger = s.ledger := rfl
@[simp] theorem setWalk_spr (s : State) (w : TableWalk) : (s.setWalk w).spr = s.spr := rfl
@[simp] theorem setWalk_mon (s : State) (w : TableWalk) : (s.setWalk w).mon = s.mon := rfl
@[simp] theorem setWalk_crier (s : State) (w : TableWalk) : (s.setWalk w).crier = s.crier := rfl
@[simp] theorem setWalk_pins (s : State) (w : TableWalk) : (s.setWalk w).pins = s.pins := rfl

@[simp] theorem setMigration_pending (s : State) (m : Migration) : (s.setMigration m).pending = s.pending := rfl
@[simp] theorem setMigration_out (s : State) (m : Migration) : (s.setMigration m).out = s.out := rfl
@[simp] theorem setMigration_fresh (s : State) (m : Migration) : (s.setMigration m).fresh = s.fresh := rfl
@[simp] theorem setMigration_regs (s : State) (m : Migration) : (s.setMigration m).regs = s.regs := rfl
@[simp] theorem setMigration_clock (s : State) (m : Migration) : (s.setMigration m).clock = s.clock := rfl
@[simp] theorem setMigration_boot (s : State) (m : Migration) : (s.setMigration m).boot = s.boot := rfl
@[simp] theorem setMigration_power (s : State) (m : Migration) : (s.setMigration m).power = s.power := rfl
@[simp] theorem setMigration_moot (s : State) (m : Migration) : (s.setMigration m).moot = s.moot := rfl
@[simp] theorem setMigration_comp (s : State) (m : Migration) : (s.setMigration m).comp = s.comp := rfl
@[simp] theorem setMigration_clusters (s : State) (m : Migration) : (s.setMigration m).clusters = s.clusters := rfl
@[simp] theorem setMigration_mems (s : State) (m : Migration) : (s.setMigration m).mems = s.mems := rfl
@[simp] theorem setMigration_sched (s : State) (m : Migration) : (s.setMigration m).sched = s.sched := rfl
@[simp] theorem setMigration_coh (s : State) (m : Migration) : (s.setMigration m).coh = s.coh := rfl
@[simp] theorem setMigration_hif (s : State) (m : Migration) : (s.setMigration m).hif = s.hif := rfl
@[simp] theorem setMigration_obj (s : State) (m : Migration) : (s.setMigration m).obj = s.obj := rfl
@[simp] theorem setMigration_drv (s : State) (m : Migration) : (s.setMigration m).drv = s.drv := rfl
@[simp] theorem setMigration_ten (s : State) (m : Migration) : (s.setMigration m).ten = s.ten := rfl
@[simp] theorem setMigration_links (s : State) (m : Migration) : (s.setMigration m).links = s.links := rfl
@[simp] theorem setMigration_kx (s : State) (m : Migration) : (s.setMigration m).kx = s.kx := rfl
@[simp] theorem setMigration_well (s : State) (m : Migration) : (s.setMigration m).well = s.well := rfl
@[simp] theorem setMigration_ledger (s : State) (m : Migration) : (s.setMigration m).ledger = s.ledger := rfl
@[simp] theorem setMigration_spr (s : State) (m : Migration) : (s.setMigration m).spr = s.spr := rfl
@[simp] theorem setMigration_mon (s : State) (m : Migration) : (s.setMigration m).mon = s.mon := rfl
@[simp] theorem setMigration_crier (s : State) (m : Migration) : (s.setMigration m).crier = s.crier := rfl
@[simp] theorem setMigration_pins (s : State) (m : Migration) : (s.setMigration m).pins = s.pins := rfl

@[simp] theorem setDma_pending (s : State) (q : Nat) (d : DmaXlt) : (s.setDma q d).pending = s.pending := rfl
@[simp] theorem setDma_out (s : State) (q : Nat) (d : DmaXlt) : (s.setDma q d).out = s.out := rfl
@[simp] theorem setDma_fresh (s : State) (q : Nat) (d : DmaXlt) : (s.setDma q d).fresh = s.fresh := rfl
@[simp] theorem setDma_regs (s : State) (q : Nat) (d : DmaXlt) : (s.setDma q d).regs = s.regs := rfl
@[simp] theorem setDma_clock (s : State) (q : Nat) (d : DmaXlt) : (s.setDma q d).clock = s.clock := rfl
@[simp] theorem setDma_boot (s : State) (q : Nat) (d : DmaXlt) : (s.setDma q d).boot = s.boot := rfl
@[simp] theorem setDma_power (s : State) (q : Nat) (d : DmaXlt) : (s.setDma q d).power = s.power := rfl
@[simp] theorem setDma_moot (s : State) (q : Nat) (d : DmaXlt) : (s.setDma q d).moot = s.moot := rfl
@[simp] theorem setDma_comp (s : State) (q : Nat) (d : DmaXlt) : (s.setDma q d).comp = s.comp := rfl
@[simp] theorem setDma_clusters (s : State) (q : Nat) (d : DmaXlt) : (s.setDma q d).clusters = s.clusters := rfl
@[simp] theorem setDma_mems (s : State) (q : Nat) (d : DmaXlt) : (s.setDma q d).mems = s.mems := rfl
@[simp] theorem setDma_sched (s : State) (q : Nat) (d : DmaXlt) : (s.setDma q d).sched = s.sched := rfl
@[simp] theorem setDma_coh (s : State) (q : Nat) (d : DmaXlt) : (s.setDma q d).coh = s.coh := rfl
@[simp] theorem setDma_hif (s : State) (q : Nat) (d : DmaXlt) : (s.setDma q d).hif = s.hif := rfl
@[simp] theorem setDma_obj (s : State) (q : Nat) (d : DmaXlt) : (s.setDma q d).obj = s.obj := rfl
@[simp] theorem setDma_drv (s : State) (q : Nat) (d : DmaXlt) : (s.setDma q d).drv = s.drv := rfl
@[simp] theorem setDma_ten (s : State) (q : Nat) (d : DmaXlt) : (s.setDma q d).ten = s.ten := rfl
@[simp] theorem setDma_links (s : State) (q : Nat) (d : DmaXlt) : (s.setDma q d).links = s.links := rfl
@[simp] theorem setDma_kx (s : State) (q : Nat) (d : DmaXlt) : (s.setDma q d).kx = s.kx := rfl
@[simp] theorem setDma_well (s : State) (q : Nat) (d : DmaXlt) : (s.setDma q d).well = s.well := rfl
@[simp] theorem setDma_ledger (s : State) (q : Nat) (d : DmaXlt) : (s.setDma q d).ledger = s.ledger := rfl
@[simp] theorem setDma_spr (s : State) (q : Nat) (d : DmaXlt) : (s.setDma q d).spr = s.spr := rfl
@[simp] theorem setDma_mon (s : State) (q : Nat) (d : DmaXlt) : (s.setDma q d).mon = s.mon := rfl
@[simp] theorem setDma_crier (s : State) (q : Nat) (d : DmaXlt) : (s.setDma q d).crier = s.crier := rfl
@[simp] theorem setDma_pins (s : State) (q : Nat) (d : DmaXlt) : (s.setDma q d).pins = s.pins := rfl

@[simp] theorem modTile_pending (s : State) (c : Nat) (f : Tile → Tile) : (s.modTile c f).pending = s.pending := rfl
@[simp] theorem modTile_out (s : State) (c : Nat) (f : Tile → Tile) : (s.modTile c f).out = s.out := rfl
@[simp] theorem modTile_fresh (s : State) (c : Nat) (f : Tile → Tile) : (s.modTile c f).fresh = s.fresh := rfl
@[simp] theorem modTile_regs (s : State) (c : Nat) (f : Tile → Tile) : (s.modTile c f).regs = s.regs := rfl
@[simp] theorem modTile_clock (s : State) (c : Nat) (f : Tile → Tile) : (s.modTile c f).clock = s.clock := rfl
@[simp] theorem modTile_boot (s : State) (c : Nat) (f : Tile → Tile) : (s.modTile c f).boot = s.boot := rfl
@[simp] theorem modTile_power (s : State) (c : Nat) (f : Tile → Tile) : (s.modTile c f).power = s.power := rfl
@[simp] theorem modTile_moot (s : State) (c : Nat) (f : Tile → Tile) : (s.modTile c f).moot = s.moot := rfl
@[simp] theorem modTile_comp (s : State) (c : Nat) (f : Tile → Tile) : (s.modTile c f).comp = s.comp := rfl
@[simp] theorem modTile_clusters (s : State) (c : Nat) (f : Tile → Tile) : (s.modTile c f).clusters = s.clusters := rfl
@[simp] theorem modTile_mems (s : State) (c : Nat) (f : Tile → Tile) : (s.modTile c f).mems = s.mems := rfl
@[simp] theorem modTile_xlt (s : State) (c : Nat) (f : Tile → Tile) : (s.modTile c f).xlt = s.xlt := rfl
@[simp] theorem modTile_coh (s : State) (c : Nat) (f : Tile → Tile) : (s.modTile c f).coh = s.coh := rfl
@[simp] theorem modTile_hif (s : State) (c : Nat) (f : Tile → Tile) : (s.modTile c f).hif = s.hif := rfl
@[simp] theorem modTile_obj (s : State) (c : Nat) (f : Tile → Tile) : (s.modTile c f).obj = s.obj := rfl
@[simp] theorem modTile_drv (s : State) (c : Nat) (f : Tile → Tile) : (s.modTile c f).drv = s.drv := rfl
@[simp] theorem modTile_ten (s : State) (c : Nat) (f : Tile → Tile) : (s.modTile c f).ten = s.ten := rfl
@[simp] theorem modTile_links (s : State) (c : Nat) (f : Tile → Tile) : (s.modTile c f).links = s.links := rfl
@[simp] theorem modTile_kx (s : State) (c : Nat) (f : Tile → Tile) : (s.modTile c f).kx = s.kx := rfl
@[simp] theorem modTile_well (s : State) (c : Nat) (f : Tile → Tile) : (s.modTile c f).well = s.well := rfl
@[simp] theorem modTile_ledger (s : State) (c : Nat) (f : Tile → Tile) : (s.modTile c f).ledger = s.ledger := rfl
@[simp] theorem modTile_spr (s : State) (c : Nat) (f : Tile → Tile) : (s.modTile c f).spr = s.spr := rfl
@[simp] theorem modTile_mon (s : State) (c : Nat) (f : Tile → Tile) : (s.modTile c f).mon = s.mon := rfl
@[simp] theorem modTile_crier (s : State) (c : Nat) (f : Tile → Tile) : (s.modTile c f).crier = s.crier := rfl
@[simp] theorem modTile_pins (s : State) (c : Nat) (f : Tile → Tile) : (s.modTile c f).pins = s.pins := rfl

@[simp] theorem modResident_pending (s : State) (c : Nat) (f : Resident → Resident) : (s.modResident c f).pending = s.pending := rfl
@[simp] theorem modResident_out (s : State) (c : Nat) (f : Resident → Resident) : (s.modResident c f).out = s.out := rfl
@[simp] theorem modResident_fresh (s : State) (c : Nat) (f : Resident → Resident) : (s.modResident c f).fresh = s.fresh := rfl
@[simp] theorem modResident_regs (s : State) (c : Nat) (f : Resident → Resident) : (s.modResident c f).regs = s.regs := rfl
@[simp] theorem modResident_clock (s : State) (c : Nat) (f : Resident → Resident) : (s.modResident c f).clock = s.clock := rfl
@[simp] theorem modResident_boot (s : State) (c : Nat) (f : Resident → Resident) : (s.modResident c f).boot = s.boot := rfl
@[simp] theorem modResident_power (s : State) (c : Nat) (f : Resident → Resident) : (s.modResident c f).power = s.power := rfl
@[simp] theorem modResident_moot (s : State) (c : Nat) (f : Resident → Resident) : (s.modResident c f).moot = s.moot := rfl
@[simp] theorem modResident_comp (s : State) (c : Nat) (f : Resident → Resident) : (s.modResident c f).comp = s.comp := rfl
@[simp] theorem modResident_clusters (s : State) (c : Nat) (f : Resident → Resident) : (s.modResident c f).clusters = s.clusters := rfl
@[simp] theorem modResident_mems (s : State) (c : Nat) (f : Resident → Resident) : (s.modResident c f).mems = s.mems := rfl
@[simp] theorem modResident_xlt (s : State) (c : Nat) (f : Resident → Resident) : (s.modResident c f).xlt = s.xlt := rfl
@[simp] theorem modResident_coh (s : State) (c : Nat) (f : Resident → Resident) : (s.modResident c f).coh = s.coh := rfl
@[simp] theorem modResident_hif (s : State) (c : Nat) (f : Resident → Resident) : (s.modResident c f).hif = s.hif := rfl
@[simp] theorem modResident_obj (s : State) (c : Nat) (f : Resident → Resident) : (s.modResident c f).obj = s.obj := rfl
@[simp] theorem modResident_drv (s : State) (c : Nat) (f : Resident → Resident) : (s.modResident c f).drv = s.drv := rfl
@[simp] theorem modResident_ten (s : State) (c : Nat) (f : Resident → Resident) : (s.modResident c f).ten = s.ten := rfl
@[simp] theorem modResident_links (s : State) (c : Nat) (f : Resident → Resident) : (s.modResident c f).links = s.links := rfl
@[simp] theorem modResident_kx (s : State) (c : Nat) (f : Resident → Resident) : (s.modResident c f).kx = s.kx := rfl
@[simp] theorem modResident_well (s : State) (c : Nat) (f : Resident → Resident) : (s.modResident c f).well = s.well := rfl
@[simp] theorem modResident_ledger (s : State) (c : Nat) (f : Resident → Resident) : (s.modResident c f).ledger = s.ledger := rfl
@[simp] theorem modResident_spr (s : State) (c : Nat) (f : Resident → Resident) : (s.modResident c f).spr = s.spr := rfl
@[simp] theorem modResident_mon (s : State) (c : Nat) (f : Resident → Resident) : (s.modResident c f).mon = s.mon := rfl
@[simp] theorem modResident_crier (s : State) (c : Nat) (f : Resident → Resident) : (s.modResident c f).crier = s.crier := rfl
@[simp] theorem modResident_pins (s : State) (c : Nat) (f : Resident → Resident) : (s.modResident c f).pins = s.pins := rfl

@[simp] theorem setSave_pending (s : State) (x : SaveRun) : (s.setSave x).pending = s.pending := rfl
@[simp] theorem setSave_out (s : State) (x : SaveRun) : (s.setSave x).out = s.out := rfl
@[simp] theorem setSave_fresh (s : State) (x : SaveRun) : (s.setSave x).fresh = s.fresh := rfl
@[simp] theorem setSave_regs (s : State) (x : SaveRun) : (s.setSave x).regs = s.regs := rfl
@[simp] theorem setSave_clock (s : State) (x : SaveRun) : (s.setSave x).clock = s.clock := rfl
@[simp] theorem setSave_boot (s : State) (x : SaveRun) : (s.setSave x).boot = s.boot := rfl
@[simp] theorem setSave_power (s : State) (x : SaveRun) : (s.setSave x).power = s.power := rfl
@[simp] theorem setSave_moot (s : State) (x : SaveRun) : (s.setSave x).moot = s.moot := rfl
@[simp] theorem setSave_comp (s : State) (x : SaveRun) : (s.setSave x).comp = s.comp := rfl
@[simp] theorem setSave_clusters (s : State) (x : SaveRun) : (s.setSave x).clusters = s.clusters := rfl
@[simp] theorem setSave_mems (s : State) (x : SaveRun) : (s.setSave x).mems = s.mems := rfl
@[simp] theorem setSave_xlt (s : State) (x : SaveRun) : (s.setSave x).xlt = s.xlt := rfl
@[simp] theorem setSave_sched (s : State) (x : SaveRun) : (s.setSave x).sched = s.sched := rfl
@[simp] theorem setSave_coh (s : State) (x : SaveRun) : (s.setSave x).coh = s.coh := rfl
@[simp] theorem setSave_hif (s : State) (x : SaveRun) : (s.setSave x).hif = s.hif := rfl
@[simp] theorem setSave_obj (s : State) (x : SaveRun) : (s.setSave x).obj = s.obj := rfl
@[simp] theorem setSave_drv (s : State) (x : SaveRun) : (s.setSave x).drv = s.drv := rfl
@[simp] theorem setSave_links (s : State) (x : SaveRun) : (s.setSave x).links = s.links := rfl
@[simp] theorem setSave_kx (s : State) (x : SaveRun) : (s.setSave x).kx = s.kx := rfl
@[simp] theorem setSave_well (s : State) (x : SaveRun) : (s.setSave x).well = s.well := rfl
@[simp] theorem setSave_ledger (s : State) (x : SaveRun) : (s.setSave x).ledger = s.ledger := rfl
@[simp] theorem setSave_spr (s : State) (x : SaveRun) : (s.setSave x).spr = s.spr := rfl
@[simp] theorem setSave_mon (s : State) (x : SaveRun) : (s.setSave x).mon = s.mon := rfl
@[simp] theorem setSave_crier (s : State) (x : SaveRun) : (s.setSave x).crier = s.crier := rfl
@[simp] theorem setSave_pins (s : State) (x : SaveRun) : (s.setSave x).pins = s.pins := rfl

end Sys2Proof.Laws
end

