-- ==== Sys2Proof/Tests/Slice0.lean ====
section
/-! SUPPORT. Small tests: ill-formed operands are refused, each statement's hypotheses are met together by a concrete state
and operands (one conjunct per clause), and values the spec's text works out. -/

namespace Sys2Proof.Tests

set_option Elab.async false

open Sys2Proof Sys2Proof.Machine

/-! ## Concrete states -/

/-- Register words written into a register file. -/
def regsOf (m : List (Nat × Word)) (l : List (Reg × Nat × Nat)) : List (Nat × Word) :=
  l.foldl (fun m x => regSet m x.1 x.2.1 (word x.2.2)) m

/-- A state with register words written. -/
def withRegs (s : State) (l : List (Reg × Nat × Nat)) : State := { s with regs := regsOf s.regs l }

/-- A state with fields written. -/
def withFlds (s : State) (l : List (Fld × Nat × Nat)) : State := l.foldl (fun s x => s.setFld x.1 x.2.1 x.2.2) s

/-- READY in PROD, every domain on, the GTB at 5 ms. -/
def rdy : State :=
  { withRegs State.reset [(.GLB_BOOT, 0, 10), (.GLB_PD_STATUS, 0, 0xFFFFFF)] with
    boot := ⟨false, false, false, false, true⟩
    clock := ⟨5000000, true, [], []⟩
    ledger := { Ledger.init with lc := 5 } }

/-- The same at another STEP. -/
def atStep (n : Nat) : State := withRegs rdy [(.GLB_BOOT, 0, n)]

/-- What a start-up meets when nothing fails. -/
def good : StartUp := ⟨List.replicate 4 (List.replicate 64 0), true, none, 1000⟩

/-- A BAR0 access of the host. -/
def hostAccess (write : Bool) (off bytes : Nat) (v : Word) : Bar0Access := ⟨.host, 0, none, write, off, bytes, v, 0⟩

/-- A request control word: OPC, AKIND, core, scope, ord, beats less 1, atomic operation. -/
def ctlWord (opc akind core scope ord beats aop : Nat) : BitVec 32 :=
  BitVec.ofNat 32 (opc * 2 ^ 28 + akind * 2 ^ 26 + core * 2 ^ 22 + scope * 2 ^ 17 + ord * 2 ^ 15 + beats * 2 ^ 8 + aop * 2 ^ 4)

/-- A ring command's words: OPCODE, queue, context, W1. -/
def ringCmd (op q ctx w1 : Nat) : CmdWords :=
  [word (op * 2 ^ 56 + q * 2 ^ 18 + ctx * 2 ^ 5), word w1, 0, 0, 0, 0, 0, 0]

/-- A command completes. -/
def completes (c : Instr) (s : State) : Bool :=
  match exec c s with
  | .next _ => true
  | _ => false

/-! ## Ill-formed commands -/


theorem test_ill_formed_numbers : ([
    .sysReset ⟨[], true, some 24, 0⟩, .porRelease ⟨[], true, some 24, 0⟩, .go .fm 0, .go .host (2 ^ 20),
    .imageFetchDone [] [] (some 24) 0, .ready .fm, .stFieldWrite .host 0x0 0, .stFieldWrite .fm 0x80800 0,
    .pdOnRequest .host 24, .pdOffRequest .host 7, .pdOn 24, .pdOffComplete 24, .gtbCopyLocked .cluster 68 0,
    .gtbCopyLocked .memory 72 0, .gtbCopyLocked .link 16 0, .gtbCopyLocked .link 0 65536, .csOpen .host 65536,
    .csSelect .host (2 ^ 32), .csStage .host (2 ^ 32) 0 0 0, .csCheck .host 0 65536, .csAbandon .host 0 65536,
    .csRefuseRead .host 4, .csRefuseRead .fm 0, .messageInvalid 5 0, .messageInvalid 256 0, .meterPoll 256 0,
    .stationAck .memory 72, .scrubOverrun 4, .stubRelease .cluster 68, .drainTimeout .link 16, .sliceTeardownDone 0,
    .sliceTeardownDone 129, .scrubDone 262144, .coreSramZeroDone 612, .pmUpd 65536 0, .pmUpd 0 65536,
    .clockMeasurement 65536, .droop (some 24) 0, .droop none 32, .tamper 48 0 false, .tamper 0 65536 false,
    .tempSample ⟨[], [], []⟩, .tempTrip 48] : List Instr).all (fun c => !c.wf && !completes c rdy) = true := by
  decide +kernel

theorem test_ill_formed_requests : ([
    .read ⟨68, ctlWord 1 0 0 0 0 0 0, 0, 0⟩, .read ⟨0, ctlWord 1 0 9 0 0 0 0, 0, 0⟩, .read ⟨0, ctlWord 1 0 0 0 0 0 0, 4096, 0⟩,
    .read ⟨0, ctlWord 2 0 0 0 0 0 0, 0, 0⟩, .readUnique ⟨0, ctlWord 1 0 0 0 0 0 0, 0, 0⟩,
    .write ⟨0, ctlWord 3 0 0 0 0 1 0, 0, 0⟩ [(0, 0)], .write ⟨0, ctlWord 1 0 0 0 0 0 0, 0, 0⟩ [(0, 0)],
    .atomic ⟨0, ctlWord 5 0 0 0 0 0 0, 0, 0⟩ 0 0, .fence ⟨0, ctlWord 4 0 0 0 0 0 0, 0, 0⟩,
    .alloc ⟨0, ctlWord 6 0 0 0 0 0 0, 0, word (2 * 2 ^ 62)⟩, .free ⟨0, ctlWord 6 0 0 0 0 0 0, 0, word (2 ^ 62)⟩,
    .checkpoint 612, .walkComplete 69 0, .walkComplete 0 8192, .walkReadTimeout 69 0,
    .migrationCasResult 612 .swapped, .extentRetranslate 612 0, .hostDmaCompletion 1024 .success [], .ringDmaTimeout 16384,
    .invDvaRange .host 8192 0, .invDvaRange .host 0 (2 ^ 20), .invHvaRange .host (2 ^ 20) 0, .invHvaRange .host 0 (2 ^ 20),
    .invContext .host 8192, .invSlice .host 256, .invAck 0 139, .cacheFlush .fm, .retry .host 8192 0, .retry .host 0 (2 ^ 32),
    .kill .host 8192 0, .faultRingTail .host 65536, .memoryOpAccept 72 0, .dramReadReturn 72 0 0 false, .macVerdict 72 0,
    .macVerdict 0 256, .atomicBufferIdle 72 0, .clusterAtomicBufferIdle 68 0, .verifyVerdict 69 0 .pass 0,
    .verifyVerdict 0 0 .pass 1, .verifyVerdict 0 0 .fail 0, .releasedWriteRsp 68 0 0, .rawRead false (2 ^ 56),
    .rawWrite true (2 ^ 56) 0 0, .poundClear .host 128 0 0, .poundClear .host 0 8 0, .poundClear .host 0 0 (2 ^ 27),
    .keyidRetire .host 1024, .hdgCntClear .fm, .milCntClear .fm, .ctrCntClear .fm, .drvCntClear .fm, .schCntClear .fm,
    .cohCntClear .fm] : List Instr).all (fun c => !c.wf && !completes c rdy) = true := by
  decide +kernel

theorem test_ill_formed_tiles_and_objects : ([
    .planDone 16384 [], .droverTransferRsp 8192 0 0 [] 0, .droverTransferRsp 0 65536 0 [] 0,
    .droverTransferRsp 0 0 0 [] 0x0401, .journalExpired 8192 0, .journalLost 0 65536, .tileEnd 612 0, .tileWatchdog 612,
    .preloadDone 48, .shareZeroDone 48, .coreUe 68 0, .coreUe 0 9, .coreHeartbeatTimeout 0 9,
    .coreSubstitutionDone 612 [], .coreSubstitutionDone 0 [96], .writeback 68 0 0 0, .writeback 0 0 (2 ^ 49) 0, .evict 0 9 0,
    .ackI 0 0 256, .ackS 68 0 0, .dataDirty 0 9 0 0, .wbPending 0 0 256, .snoopTimeout 256, .objCreate .host 16 0,
    .objActivate .fm 0 0, .objDeactivate .host 0 (2 ^ 32), .objDestroy .host 1 0 256 [], .objDestroy .host 1 0 0 [65536],
    .objSignal .host 3 0 65536, .objReset .host 16 0, .objRecordWrite .host 512 0, .objEnable .fm true,
    .contextTeardownDone 8192, .memoryObjectFreed 262144, .sqTail 16384 0 none 8, .sqTail 0 65536 none 8,
    .sqTail 0 0 (some (2 ^ 20)) 8, .cqHead 16384 0 none 8, .queueSlotGrant 16384, .nop 0 [], .nop 0 (ringCmd 1 0 0 0),
    .tile 0 (ringCmd 0 0 0 0), .dmaCopy 16384 (ringCmd 2 0 0 0), .dmaFill 0 [], .dispatch 0 [], .combine 0 [],
    .fenceSignal 0 [], .fenceWait 0 [], .fenceWaitWake 16384, .fenceReset 0 [], .objRef 0 [], .commandInvalid 0 (ringCmd 9 0 0 0),
    .noticeRingTail .host 65536, .objCmdOpInvalid .host 6, .tileKilledAtDecl 612, .moverSelfCheckFail 68] : List Instr).all
    (fun c => !c.wf && !completes c rdy) = true := by
  decide +kernel

theorem test_ill_formed_services : ([
    .t2mTail 0 0 none 8 [], .t2mTail 129 0 none 8 [], .t2mTail 1 0 none 9 [], .t2mTail 1 0 none 8 [(2048, 0)], .m2tHead 1 65536 none 8,
    .t2mHead .fm 1 0, .m2tTail .host 1 65536, .query 0, .tenAttest 1 0 [], .tenAttest 1 0 [(1, 0), (0, 0)], .managerMessage 129,
    .t2mTypeInvalid 0, .freeze .host 256, .sliceFrozen 0, .thaw .host 256, .save .host 256 [] [], .saveDone 0x0801,
    .saveDone 0x1401, .offer .fm, .restore .host 256 true 0 0 0 [] [] [] [], .restore .host 1 true 0 0 0 [] [262144] [] [],
    .restoreKeysReady [(1024, 0)], .restoreContinue .host 256, .restoreDone 0 0x0801 ⟨[], [], [], [], [], []⟩, .discard .host 256 [], .discard .host 1 [65536],
    .tenCancel .fm 1, .migBufferHandover .host (2 ^ 28), .klfFlit 16 ⟨0, true, 0, false, 0, 0, 0, []⟩, .linkReplayRequest 16 0,
    .kxStart .host 16 0 1 true, .kxHello 16 [] [], .kxFinish 16 [], .kxConfirm 16 [], .kxTimeout 16, .linkRetire .fm 0 false,
    .linkRetireDone 16, .rekeyDue 16, .sealLimit 16, .linkDown 16, .laneCe 16 0, .laneCe 0 9, .laneLost 0 9, .laneMap 16 0,
    .retrainingWindow 16, .retrainAck 16, .generate .host 8 0, .derive .host 0 512 0, .unwrap .fm 0 0 0, .seal .host 512,
    .unseal .host 512, .establish .host 256 0, .accept .host 512, .keyDestroy .host 512, .keyAttest .host 256, .endorse .fm,
    .enroll .host [], .patrol 0 [] [] [.keySlot 272], .patrol 0 [(72, 1)] [] [], .patrol 0 [] [(4096, 17)] [], .lcTransition true .host 256, .lcTransitionReset ⟨[], true, some 24, 0⟩,
    .challenge true .host 16, .respond true .fm, .gateClose .fm, .jtagInstruction 7, .checkLogicDisagree 68,
    .clusterSubstitutionDone 68, .memoryCe 72, .rebuildLeaf [2 ^ 26] [], .aesPipelineFail .cluster 0 0,
    .aesPipelineFail .memory 0 6, .aesPipelineFail .link 0 28, .stewardHeartbeatTimeout 5, .irqTest .fm true,
    .alarmAck .host 188, .crierRecordWrite 3, .ringIrqTimer 3, .crierRingTail .host 3 0, .i3cEntdaa 128, .i3cRead (2 ^ 24),
    .i3cWrite (2 ^ 24) 0, .registerWrite ⟨.host, 0, none, true, 2 ^ 24, 8, 0, 0⟩, .registerWrite ⟨.host, 1, none, true, 0, 8, 0, 0⟩] : List Instr).all
    (fun c => !c.wf && !completes c rdy) = true := by
  decide +kernel


/-! ## Witnesses: the queue, the register file, start-up -/

theorem witness_EmptyQueueStepIsOneClockCycle :
    (rdy.pending = [] ∧ rdy.clock.running = true ∧ rdy.alive = true) ∧
    (State.reset.pending = [] ∧ State.reset.clock.running = false ∧ State.reset.alive = false) ∧ rdy.Quiet ∧
    (∃ t, step rdy = .next t ∧ t.clock.gtb = 5000010) := by
  refine ⟨by decide, by decide, ?_, _, rfl, ?_⟩
  · unfold State.Quiet
    decide
  · decide +kernel

theorem witness_CommandCompletesExactlyWhenWellFormed :
    Instr.wf .supplyRemoved = true ∧ completes .supplyRemoved rdy = true ∧ Instr.wf (.pdOn 24) = false := by
  decide +kernel

theorem witness_CommandLeavesQueueAlone : completes .aclkStopped { rdy with pending := [.reseed] } = true := by
  decide +kernel

theorem witness_InterruptLinesFollowCauses : completes (.irqTest .host true) rdy = true := by decide +kernel

theorem witness_SoundStateStaysSoundUnderStep : ({ rdy with pending := [.aclkStopped, .reseed] } : State).Sound := by
  unfold State.Sound State.linesDriven
  decide +kernel

theorem witness_QueueDrainsInOrder :
    (∀ c ∈ [Instr.aclkStopped, .reseed], c.wf = true) ∧
    ({ rdy with pending := [.aclkStopped, .reseed, .audit] } : State).pending = [.aclkStopped, .reseed] ++ [.audit] := by
  decide +kernel

theorem witness_RegisterMapIsUnambiguous :
    regIdxOk .IRQ_CAUSE 21 = true ∧ regIdxOk .IRQ_CAUSE 22 = false ∧
    regAt (regAddr .IRQ_CAUSE 21) = some (.IRQ_CAUSE, 21) := by
  decide +kernel

/-- One bit of each access type, at a boundary of its field. -/
theorem witness_AccessTypesDecideEachBit :
    bitAccess .GLB_PD_REQ 0 23 = some .rw ∧ bitAccess .MON_CTL 0 63 = some .lk ∧ bitAccess .IRQ_CAUSE 21 7 = some .w1c ∧
    bitAccess .LCS_GATE 0 0 = some .w1s ∧ bitAccess .CMP_LINK 15 7 = some .st ∧ bitAccess .IRQ_CAUSE 21 8 = some .ro := by
  decide +kernel

theorem witness_RegisterFileKeepsCanonicalForm :
    mapWf resetAt rdy.regs = true ∧ regIdxOk .STG_LAST_T 0 = true ∧ regIdxOk (Fld.reg .STW_STATUS_READY) 0 = true := by
  decide +kernel

theorem witness_ResetDomainsDecideWhatSurvives :
    regIdxOk .CMP_EPOCH 0 = true ∧ (regDef .GLB_BOOT).domain = .sys ∧
    (∃ r ∈ allRegs, (regDef r).domain = .por) ∧ (∃ r ∈ allRegs, (regDef r).domain = .epoch) := by
  decide +kernel

/-- An OTP whose first generation is in state `lc`, done. -/
def otpIn (lc : Nat) : Otp :=
  { Otp.init with gens := ⟨List.replicate 3 (lcCode lc), List.replicate 3 (BitVec.allOnes 64)⟩ ::
      List.replicate 23 Generation.init }

theorem witness_StartUpReachesWaitImageOrStops :
    State.reset.boot.porHeld = true ∧ startUpOk good = true ∧ good.entropyOk = true ∧ good.dead = none ∧
    scanOtp (otpIn 4) = .settled 4 ∧ (otpIn 4).helper = [] ∧ scanOtp (otpIn 5) = .settled 5 ∧
    scanOtp (otpIn 7) = .settled 7 := by
  decide +kernel

theorem witness_WarmResetRestartsAtDomains :
    rdy.alive = true ∧ rdy.clock.running = true ∧ rdy.functional = true ∧ startUpOk good = true ∧ good.entropyOk = true ∧
    good.dead = none ∧ (atStep 15).step = 15 ∧ (atStep 15).fld .GLB_BOOT_CODE ≠ 0x1506 := by
  decide +kernel

/-- STEP 6 with the image reads outstanding. -/
def fetchingImages : State := { atStep 6 with boot := ⟨false, false, false, true, false⟩ }

theorem witness_ImagesBringTheBlockToReady :
    ((atStep 5).alive = true ∧ (atStep 5).step = 5) ∧ ((atStep 3).step = 3 ∧ (atStep 4).step = 4) ∧
    (fetchingImages.alive = true ∧ fetchingImages.step = 6 ∧ fetchingImages.boot.fetching = true) ∧
    ((atStep 9).alive = true ∧ (atStep 9).step = 9) := by
  decide +kernel

theorem witness_PowerDomainsSwitchOnRequest :
    (let s := withRegs rdy [(.GLB_PD_STATUS, 0, 0x3FFFFF)]
     s.isReady = true ∧ pdBitOk 23 = true ∧ s.pdOn 23 = false ∧ s.power.goingOn = []) ∧
    (let s := withRegs rdy [(.GLB_PD_REQ, 0, 0x800000)]
     s.pdReq 23 = true ∧ s.pdOn 23 = true ∧ s.offRefused 23 = false) ∧
    (let s := withRegs rdy [(.GLB_PD_REQ, 0, 0x040000)]
     s.isReady = true ∧ pdBitOk 18 = true ∧ s.pdReq 18 = true ∧ s.offRefused 18 = true) ∧
    (let s : State := { withRegs rdy [(.GLB_PD_REQ, 0, 0x100)] with power := ⟨[], [8], 0⟩ }
     s.alive = true ∧ 8 ∈ s.power.goingOn ∧ s.pdReq 8 = true ∧ s.onWaits 8 = false) ∧
    (let s : State := { withRegs rdy [(.GLB_PD_REQ, 0, 0)] with power := ⟨[22], [], 0⟩ }
     s.alive = true ∧ 22 ∈ s.power.goingOff ∧ s.pdReq 22 = false ∧ s.drv.planQ = []) := by
  decide +kernel

/-- Of RegisterAccessReadsAndWrites, clause by clause. -/
theorem witness_RegisterAccessReadsAndWrites :
    ((atStep 3).alive = true ∧ (atStep 3).step = 3 ∧ bar0Ok (hostAccess false 0xFFFFF8 8 0) = true ∧
      ∀ i, i < 4 → regAt 0xFFFFF8 ≠ some (.STG_CS_REFUSE, i)) ∧
    regAt 0xFFFFF8 = none ∧
    (regAt (regAddr .STG_CS_CMD 0) = some (.STG_CS_CMD, 0) ∧
      ∀ f ∈ (regDef .STG_CS_CMD).fields, f.acc ≠ .wo → ¬ (f.lo ≤ 32 ∧ 32 ≤ f.hi)) ∧
    (rdy.isReady = true ∧ hasSt (regAddr .IRQ_ENABLE 0) = false ∧
      regAt (regAddr .IRQ_ENABLE 0) = some (.IRQ_ENABLE, 0) ∧ (commandWrite .host .IRQ_ENABLE 0 5 rdy).isNone = true ∧
      needsOwnRow .IRQ_ENABLE 5 = false) ∧
    hasSt 0xFFFFF8 = false ∧
    ((atStep 3).step = 3 ∧ ownRowWrite (hostAccess true 0x44 8 0) = false ∧ ownRowWrite (hostAccess true 0x40 4 0) = false) ∧
    ((atStep 9).step = 9 ∧ regAt (regAddr .MON_CTL 0) = some (.MON_CTL, 0) ∧ earlyBlock (regAddr .MON_CTL 0) = false ∧
      hasSt (regAddr .MON_CTL 0) = false ∧ (commandWrite .host .MON_CTL 0 0 (atStep 9)).isNone = true ∧
      needsOwnRow .MON_CTL 0 = false) ∧
    (hasSt (regAddr .CMP_LINK 15) = true ∧
      ({ rdy with moot := { rdy.moot with selHost := some 1 } } : State).moot.selHost = some 1 ∧ rdy.moot.selHost = none) := by
  decide +kernel

/-- Its reads of doorbell pages and of mailboxes: queue 3 LIVE, of slice 1, whose PASID 7 is mapped. -/
theorem witness_RegisterAccessOfOtherBars :
    let s : State := { withFlds rdy [(.CMP_PASID_VALID, 0, 1), (.CMP_PASID_PASID, 0, 7), (.CMP_PASID_SLICE, 0, 1),
        (.CMP_SLICE_CTL_ENABLE, 1, 1), (.CMP_SLICE_CTL_PASID_REQUIRED, 1, 1), (.OBJ_PHASE_PHASE, 0, 3)] with
      obj := { Obj.init with contexts := [(0, word (2 * 2 ^ 61 + 2 ^ 48))], queues := [(24, word (2 * 2 ^ 61))] } }
    let a : Bar0Access := ⟨.host, 2, some 7, false, 3 * 4096 + 0x10, 8, 0, 1023⟩
    let m : Bar0Access := ⟨.host, 4, some 7, false, 8, 8, 0, 0⟩
    s.isReady = true ∧ bar0Ok a = true ∧ a.offset % 8 = 0 ∧ s.doorbellOk (a.offset / 4096) (some 7) = true ∧
    s.doorbellOk (a.offset / 4096) none = false ∧ bar0Ok m = true ∧ m.offset / 16384 + 1 = 1 ∧ cfgEnabled s.regs 1 = true ∧
    s.mailboxMapped 1 (some 7) = true ∧ s.mailboxMapped 1 none = false ∧ completes (.registerWrite a) s = true ∧
    completes (.registerWrite m) s = true := by
  decide +kernel

theorem witness_I3cTargetGivesReadOnlyRegisters :
    (rdy.alive = true ∧ 127 < 128) ∧
    (let s : State := { rdy with mon := { rdy.mon with i3cAddr := some 8 } }
     s.mon.i3cAddr ≠ none ∧ regAt 32 = some (.GLB_INVENTORY, 0) ∧
     (regAt (regAddr .MON_TEMP 47)) = some (.MON_TEMP, 47) ∧ regAt 0x40 = some (.GLB_PD_REQ, 0) ∧ regAt 0xFFFFF8 = none) := by
  decide +kernel

/-! ## Witnesses: the Moot -/

/-- READY with change-set slot 1 as given. -/
def withSet (x : CsSlot) : State := { rdy with moot := { rdy.moot with slots := modifyAt rdy.moot.slots 1 (fun _ => x) } }

/-- A set of a path in a state, ticket 7. -/
def aSet (st : SlotState) (path : Path) : CsSlot := { CsSlot.init with state := st, ticket := 7, writer := path }

/-- Every slot is taken. -/
def allTaken : State := { rdy with moot := { rdy.moot with slots := List.replicate 4 (aSet .opened .host) } }

theorem witness_OpenGivesTicketAndSlot :
    rdy.isReady = true ∧ rdy.moot.slots.length = 4 ∧ rdy.openSlot .host = some 1 ∧ rdy.openSlot .steward = some 0 ∧
    rdy.openSlot .fm = some 1 ∧ allTaken.isReady = true ∧ allTaken.openSlot .host = none ∧ allTaken.openSlot .fm = none ∧
    (atStep 3).alive = true ∧ (atStep 3).step = 3 ∧ (atStep 3).openSlot .fm = none := by
  decide +kernel

theorem witness_StagingFillsTheSelectedSet :
    ((withSet (aSet .opened .host)).ownSet .host 7 = some 1 ∧ ((withSet (aSet .opened .host)).slot 1).state = .opened) ∧
    (withSet (aSet .opened .host)).ownSet .host 0xFFFFFFFF = none ∧ u32Ok 0xFFFFFFFF = true ∧
    ({ rdy with moot := { rdy.moot with selHost := some 1 } } : State).moot.selHost = some 1 ∧
    ((withSet (aSet .opened .fm)).ownSet .fm 7 = some 1) ∧ (withSet (aSet .opened .fm)).ownSet .host 7 = none := by
  decide +kernel

theorem witness_AbandonAndRefuseReadFreeTheSlot :
    (withSet (aSet .opened .host)).spr.records = [] ∧ (withSet (aSet .opened .host)).ownSet .host 7 = some 1 ∧
    (withSet (aSet .waiting .host)).ownSet .host 7 = some 1 ∧
    (let s := withSet { aSet .checking .host with begun := true }
     s.ownSet .host 7 = some 1 ∧ (s.slot 1).state = .checking ∧ (s.slot 1).begun = true) ∧
    (withSet (aSet .passed .host)).ownSet .host 7 = some 1 ∧
    (let s := withSet (aSet .refused .host)
     s.alive = true ∧ (s.slot 1).state = .refused ∧ (s.slot 1).writer = .host ∧ (s.slot 1).writer ≠ .steward) := by
  decide +kernel

/-- A set whose check runs, with entries. -/
def checkingSet (es : List Entry) : State := withSet { aSet .checking .host with begun := true, entries := es }

/-- READY, contract 0 of a disabled slice valid, its set empty: nothing to refuse but the contract itself. -/
def badContract : State :=
  { withRegs (checkingSet []) [(.ADM_CONTRACT, 0, 2 ^ 63 + 2 ^ 48)] with
    moot := { rdy.moot with slots := modifyAt rdy.moot.slots 1 (fun _ => { aSet .checking .host with begun := true, floor := 1 }) } }

theorem test_empty_set_is_consistent :
    ((checkingSet []).chk ((checkingSet []).slot 1)).consistency ((checkingSet []).slot 1).overflow = none := by
  decide +kernel

/-- Nothing touched, no contract evaluated: the Reeve passes it. -/
theorem test_reeve_passes_no_change (g : Granary) (f : Nat) (c : Cfg) : reeve g f c c [] = none := by
  have h : poolsToCheck g c c [] = [] := by
    simp only [poolsToCheck, poolTouched, List.any_nil, Bool.or_false, beq_self_eq_true, Bool.not_true, Bool.false_or, bne_self_eq_false]
    simp
  simp [reeve, evalContracts, h]

theorem witness_CheckRefusesOrPassesTheSet :
    (withSet (aSet .checking .host)).nextCheck = some 1 ∧
    (let s := checkingSet [⟨0, 0⟩]
     s.moot.slots.findIdx? (fun x => x.begun) = some 1 ∧ s.spr.records = [] ∧ (s.slot 1).state = .checking ∧
     (s.slot 1).abandon = false ∧ (s.slot 1).record = false ∧
     (s.chk (s.slot 1)).consistency (s.slot 1).overflow = some (0x0301, 0)) ∧
    (let s := badContract
     s.moot.slots.findIdx? (fun x => x.begun) = some 1 ∧ (s.chk (s.slot 1)).consistency (s.slot 1).overflow = none ∧
     (∀ y ∈ s.moot.slots, y.state ≠ .pendingScrub) ∧
     (reeve s.spr (s.slot 1).floor (s.chk (s.slot 1)).base (s.chk (s.slot 1)).cand
       ((s.chk (s.slot 1)).evaluated (s.slot 1).floor)) = some (0x0405, 0)) := by
  decide +kernel

theorem witness_CheckPassesTheEmptySet :
    let s := checkingSet []
    s.moot.slots.findIdx? (fun x => x.begun) = some 1 ∧ (s.slot 1).abandon = false ∧ (s.slot 1).record = false ∧
    (s.chk (s.slot 1)).consistency (s.slot 1).overflow = none ∧ (∀ y ∈ s.moot.slots, y.state ≠ .pendingScrub) ∧
    reeve s.spr (s.slot 1).floor (s.chk (s.slot 1)).base (s.chk (s.slot 1)).cand
      ((s.chk (s.slot 1)).evaluated (s.slot 1).floor) = none := by
  refine ⟨by decide +kernel, by decide +kernel, by decide +kernel, test_empty_set_is_consistent, by decide +kernel, ?_⟩
  have h : (((checkingSet []).chk ((checkingSet []).slot 1)).evaluated ((checkingSet []).slot 1).floor) = [] := by
    decide +kernel
  rw [h]
  exact test_reeve_passes_no_change _ _ _

theorem witness_DeliveryAcknowledgesOrTimesOut :
    (let s : State := { withSet { aSet .passed .host with unacked := [187] } with clock := ⟨5000000, true, [187], []⟩ }
     let t : State := s.modSlot 1 (fun x => { x with t := 5002000 })
     stationOk .link 15 = true ∧ sourceOf .link 15 ∈ t.clock.locked ∧
     t.firstPassed (fun x => x.unacked.contains (sourceOf .link 15) && decide (t.clock.gtb + 2000 ≤ x.t)) = some 1 ∧
     s.firstPassed (fun x => x.unacked.contains (sourceOf .link 15) && decide (s.clock.gtb + 2000 ≤ x.t)) = none) ∧
    sourceOf .cluster 0 ∉ rdy.clock.locked ∧
    (let s := withSet { aSet .passed .host with unacked := [33, 32] }
     s.spr.records = [] ∧ s.firstPassed CsSlot.incomplete = some 1 ∧ 32 ∈ (s.slot 1).unacked ∧
     ∀ n ∈ (s.slot 1).unacked, 32 ≤ n) ∧
    (let s := withSet { aSet .passed .host with wellFail := true }
     s.firstPassed CsSlot.incomplete = some 1 ∧ (s.slot 1).unacked = []) ∧
    ((withSet (aSet .refused .host)).slot 1).state = .refused ∧
    ((withSet (aSet .pendingScrub .host)).slot 1).state = .pendingScrub := by
  decide +kernel

theorem witness_CommitTakesTheStagedConfiguration :
    ((withSet (aSet .passed .host)).firstPassed (fun _ => true) = some 1 ∧
      ((withSet (aSet .passed .host)).slot 1).incomplete = false) ∧
    (let s := withSet { aSet .passed .host with unacked := [32] }
     s.firstPassed (fun _ => true) = some 1 ∧ (s.slot 1).incomplete = true) ∧
    (aSet .passed .host).t < 2 ^ 64 ∧ regIdxOk .CMP_LINK 15 = true := by
  decide +kernel

theorem witness_GlobalTimeBaseAndMetering :
    (rdy.alive = true ∧ rdy.fld .STG_GTB_STATUS_FALLBACK = 0) ∧
    (rdy.clock.running = true ∧ stationOk .memory 71 = true ∧ rdy.stationOn .memory 71 = true) ∧
    ((atStep 3).alive = true ∧ (atStep 3).step = 3) ∧
    (let s := withFlds rdy [(.CMP_METER_CTL_INTERVAL_MS, 0, 1)]
     s.alive = true ∧ 0 < s.meterNs ∧ s.clock.running = true) := by
  decide +kernel

/-! ## Witnesses: requests, the Hedge, the filter -/

/-- Slice 1 has core 0, channel 0 and link port 15, may use chip 3, and is member of commons 127; channel 1 is the
commons'. -/
def bound : State :=
  { withFlds (withRegs rdy [(.CMP_CORE_SLICE, 0, 0xFFFFFFFFFFFFFF01), (.CMP_CHIPS, 1, 8), (.XLT_ROUTE, 3, 0x8000)])
      [(.CMP_MEMCH_OWNER, 0, 1), (.CMP_MEMCH_OWNER, 1, 0xFE), (.CMP_MEMCH_CID, 1, 127), (.CMP_LINK_OWNER, 15, 1),
       (.LNK_PORT_STATUS_STATE, 15, 2)] with
    comp := { Comp.init with owners := [(0, ⟨1, 0⟩)] } }

/-- A TLB entry of a mover's or a tile-less core's context (8192): a page at DVA 0. -/
def page (pa owner cid : Nat) : TlbEntry := ⟨8192, 0, 4096, pa, true, true, true, 5, owner, true, cid, 5⟩

/-- The same with pages in the TLB of cluster station 0. -/
def withTlb (e : TlbEntry) : State := bound.setCluster 0 { Cluster.init with tlb := [e] }

def aRead : Req := ⟨0, ctlWord 1 0 0 0 0 0 0, 5, 128⟩
def aUnique : Req := ⟨0, ctlWord 2 0 0 0 0 0 0, 5, 128⟩
def aWrite : Req := ⟨0, ctlWord 3 0 0 0 0 0 0, 5, 128⟩
def anAtomic : Req := ⟨0, ctlWord 4 0 0 1 0 0 0xA, 5, 128⟩
def sramRead : Req := ⟨0, ctlWord 1 2 0 0 0 0 0, 5, 0⟩

theorem witness_HedgeKeepsSlicesApart :
    (let s := withTlb (page 0 1 0)
     s.hedge 0 (s.stamp aRead [] 0 0) = .grant ⟨128, 5, none⟩ none) ∧
    (let s := withFlds (withTlb (page (2 ^ 33) 0xFE 127)) [(.CMP_COMMONS_CTL_ENABLE, 127, 1)]
     let s := withRegs s [(.CMP_COMMONS_MEMBERS_LO, 127, 1)]
     s.hedge 0 (s.stamp aRead [] 0 0) = .grant ⟨2 ^ 33 + 128, 5, some 127⟩ none) ∧
    (let s := withTlb (page (3 * 2 ^ 50) 0xFF 0)
     s.hedge 0 (s.stamp aRead [] 0 0) = .grant ⟨3 * 2 ^ 50 + 128, 5, none⟩ (some 15)) ∧
    bound.hedge 0 (bound.stamp sramRead [] 0 0) = .sram 0 0 ∧
    (aRead.formatBad = false ∧ (rdy.stamp aRead [] 0 0).slice = 0xFF) ∧
    (⟨0, ctlWord 7 0 0 0 0 0 0, 5, 128⟩ : Req).formatBad = true := by
  decide +kernel

theorem witness_RequestsFollowTheHedgesAnswer :
    (let s := withTlb (page 0 1 0)
     let n := s.numbered 0
     (reqOk 1 aRead = true ∧ aRead.opc = 1 ∧ aRead.ord = 0 ∧ s.accepts aRead = true ∧
       n.hedge aRead.port (s.stamp aRead [] 0 0) = .grant ⟨128, 5, none⟩ none ∧
       (n.cluster 0).mayIssue ⟨s.stamp aRead [] 0 0, ⟨128, 5, none⟩, none, none⟩ = true) ∧
     (reqOk 2 aUnique = true ∧ aUnique.opc = 2 ∧ aUnique.ord = 0 ∧ s.accepts aUnique = true ∧
       n.hedge aUnique.port (s.stamp aUnique [] 0 0) = .grant ⟨128, 5, none⟩ none ∧
       (n.cluster 0).mayIssue ⟨s.stamp aUnique [] 0 0, ⟨128, 5, none⟩, none, none⟩ = true) ∧
     (writeOk aWrite [(0, 0)] = true ∧ aWrite.opc = 3 ∧ aWrite.ord = 0 ∧ aWrite.mover = false ∧ aWrite.akind ≠ 2 ∧
       s.accepts aWrite = true ∧ s.EnginesIdle ∧
       n.hedge aWrite.port (s.stamp aWrite [(0, 0)] 0 0) = .grant ⟨128, 5, none⟩ none ∧
       (n.cluster 0).mayIssue ⟨s.stamp aWrite [(0, 0)] 0 0, ⟨128, 5, none⟩, none, none⟩ = true) ∧
     (reqOk 4 anAtomic = true ∧ anAtomic.opc = 4 ∧ anAtomic.scope = 1 ∧ atomicBad anAtomic 128 = false ∧
       s.accepts anAtomic = true ∧ n.hedge anAtomic.port (s.stamp anAtomic [] 0 0) = .grant ⟨128, 5, none⟩ none ∧
       (n.cluster 0).mayIssue ⟨s.stamp anAtomic [] 0 0, ⟨128, 5, none⟩, none, none⟩ = true) ∧
     (let f : Req := ⟨0, ctlWord 5 0 0 1 1 0 0, 5, 0⟩
      reqOk 5 f = true ∧ f.opc = 5 ∧ f.scope = 1 ∧ f.formatBad = false ∧ s.accepts f = true ∧
        (s.stamp f [] 0 0).slice ≠ 0xFF ∧
        (n.cluster 0).mayIssue ⟨s.stamp f [] 0 0, ⟨0, 0, none⟩, none, none⟩ = true)) ∧
    (bound.numbered 0).hedge 0 (bound.stamp aRead [] 0 0) = .defer false ∧
    (rdy.numbered 0).hedge 0 (rdy.stamp aRead [] 0 0) = .deny 0x0501 0 ∧ rdy.accepts aRead = true ∧
    (atStep 9).accepts aRead = false := by
  unfold State.EnginesIdle
  decide +kernel

theorem witness_ReadOfUncachedLineReachesItsMemoryStation :
    (bound.stamp aRead [] 0 0).req.beatsM1 = 0 ∧ (bound.stamp aRead [] 0 0).req.opc = 1 ∧
    bound.placeAt 0 (bound.stamp aRead [] 0 0).epoch (128 / 128 * 128) = some (0, 1) ∧ (bound.cluster 0).atomics = [] ∧
    bound.lineBusy (128 / 128) = false ∧ (∀ x ∈ ([.flush 2 none] : List FilterReq), x.line ≠ 128 / 128) ∧
    (∀ e ∈ ([⟨1, 0, .s, 1, 5⟩, ⟨1, 7, .rr, 1, 5⟩, ⟨1, 8, .e, 2, 5⟩] : List FilterEntry), e.line = 128 / 128 →
      e.core = (bound.stamp aRead [] 0 0).core ∨ e.st = .rr ∨
      (e.tag ≠ (bound.stamp aRead [] 0 0).slice ∧ ∀ n, (none : Option Nat) = some n → cfgMember bound.regs n e.tag = false)) ∧
    (bound.stamp aRead [] 0 0).cached = true := by
  refine ⟨by decide +kernel, by decide +kernel, by decide +kernel, by decide +kernel, by decide +kernel, by decide +kernel, ?_,
    by decide +kernel⟩
  intro e he
  simp only [List.mem_cons, List.not_mem_nil, or_false] at he
  rcases he with rfl | rfl | rfl
  · exact fun _ => .inl (by decide +kernel)
  · exact fun _ => .inr (.inl rfl)
  · exact fun _ => .inr (.inr ⟨by decide +kernel, nofun⟩)

/-- A tile of context 0 of slice 1. -/
def aTile : Tile := ⟨0, 1, 0, 0, 256, 4000000, false, 0, false, 0, [], 0, false⟩

/-- Core 0 runs a tile whose context has heap 7: two granules at DVA 65536. -/
def withHeap : State :=
  { bound with
    sched := { Sched.init with tiles := [(0, aTile)] }
    obj := { Obj.init with
      contexts := mapPut (mapPut [] (heapWordAt 7 0) (word (2 ^ 63 + 65536 + 1))) (heapWordAt 7 2) 2
      heaps := [(heapKey 0 7 0, 1), (heapKey 0 7 1, 2)] } }

def allocReq (op heap n dva : Nat) : Req := ⟨0, ctlWord 6 0 0 0 0 0 0, 9, word (op * 2 ^ 62 + heap * 2 ^ 59 + n * 2 ^ 48 + dva)⟩

theorem witness_AllocatorTakesTheLowestRun :
    (let r := allocReq 1 7 0 0
     allocOk r = true ∧ r.opc = 6 ∧ withHeap.accepts r = true ∧ r.formatBad = false ∧ (withHeap.stamp r [] 0 0).slice ≠ 0xFF ∧
     (withHeap.tileOf (withHeap.stamp r [] 0 0).core) = some aTile ∧ aTile.replay = false ∧ aTile.log.length < 64 ∧
     (withHeap.stamp r [] 0 0).ctx < 8192 ∧
     withHeap.heapValid (withHeap.stamp r [] 0 0).ctx (getBits 61 59 r.addr) = true ∧ r.heapOp = 1 ∧
     findRun (withHeap.heapCode 0 7) 1 (withHeap.heapGranules 0 7) 0 0 = none ∧
     (let s : State := { withHeap with obj := { withHeap.obj with heaps := [] } }
      findRun (s.heapCode 0 7) 2 (s.heapGranules 0 7) 0 0 = some 0 ∧ 2 ≤ getBits 31 0 (s.heapWord 0 7 2))) ∧
    (let r := allocReq 2 7 0 65536
     freeOk r = true ∧ r.opc = 6 ∧ withHeap.accepts r = true ∧ r.formatBad = false ∧
     withHeap.heapValid 0 (getBits 61 59 r.addr) = true ∧ r.heapOp = 2 ∧
     getBits 47 0 r.addr = withHeap.heapBase 0 7 + 0 * 65536 ∧ getBits 47 0 r.addr % 65536 = 0 ∧ 0 < withHeap.heapGranules 0 7 ∧
     withHeap.heapCode 0 7 0 = 1) ∧
    (getBits 47 0 (allocReq 2 7 0 0).addr < withHeap.heapBase 0 7 ∧ getBits 47 0 (allocReq 2 7 0 65537).addr % 65536 ≠ 0) ∧
    withHeap.heapValid 0 6 = false := by
  decide +kernel

theorem witness_HeapQueueIsFull :
    let s : State := { withHeap with obj := { withHeap.obj with served := [(7, List.replicate 24 5000080)] } }
    24 ≤ ((mapGet [] s.obj.served 7).filter (fun t => decide (s.clock.gtb < t))).length ∧
    ((mapGet [] withHeap.obj.served 7).filter (fun t => decide (withHeap.clock.gtb < t))).length < 24 := by
  decide +kernel

/-- A request of core 0 of station 0 under an epoch, in slice 1. -/
def request0 (epoch : Nat) : PortAccess := ⟨aRead, 0, 0, 1, epoch, [], 0, 0, 0, none⟩

/-- A deferred read of a core's tile in context 0, at DVA 128. -/
def aDeferred (gen : Nat) : Deferred := ⟨request0 1, false, gen⟩

theorem witness_CheckpointsVerdictsAndDrainEnd :
    (let t : Token := ⟨5, 9, 0, 1, false, 0⟩
     let s := bound.setCluster 0 { Cluster.init with tokens := [t], verdicts := [(9, .pass, 0)] }
     verdictOk 0 5 .pass 0 = true ∧ ((s.cluster 0).tokens.filter (fun t => t.txn == 5)).find?
       (fun t => (s.cluster 0).verdicts.contains (t.seq, .pass, 0)) = some t ∧ t.epoch = (s.cluster 0).epoch ∧
     ({ t with epoch := 3 } : Token).epoch ≠ (s.cluster 0).epoch ∧ ({ t with epoch := 3 } : Token).epoch ≠ (s.cluster 0).prevEpoch) ∧
    (let r : Released := ⟨9, 603, 0, none, false, 5, 0, false⟩
     let s := bound.setCluster 67 { Cluster.init with released := [r], rsps := [(9, 0)] }
     (s.cluster 67).released.find? (fun r => r.id == 9) = some r ∧ (9, 0) ∈ (s.cluster 67).rsps) ∧
    (let s := bound.setCluster 67 { Cluster.init with atomics := [⟨1, 1, 0, 5, 0, 0⟩] }
     (s.cluster 67).atomics.find? (fun a => a.line == 1) = some ⟨1, 1, 0, 5, 0, 0⟩) ∧
    (let s := bound.setCluster 67 { Cluster.init with stub := true }
     s.hasStub .cluster 67 = true ∧ s.drainCount .cluster 67 = 0) ∧
    (let s := bound.setCluster 67 { Cluster.init with stub := true, epoch := 2, prevEpoch := 1, retry := [aDeferred 0] }
     s.hasStub .cluster 67 = true ∧ 0 < s.drainCount .cluster 67) ∧
    (let o : MemOp := MemOp.fresh 1 (.core 0 5 0) 0 1 8192 5 0 0 .read 0 0
     let s := (bound.setMem 71 { MemStation.init with stub := true, epoch := 2, prevEpoch := 1, waiting := [o] }).setLink 15
       { LinkStation.init with stub := true, epoch := 2, prevEpoch := 1, txns := [⟨0, false, 1, 1⟩] }
     s.hasStub .memory 71 = true ∧ 0 < s.drainCount .memory 71 ∧ s.hasStub .link 15 = true ∧ 0 < s.drainCount .link 15) ∧
    (let s : State := { bound with comp := { bound.comp with flushing := [⟨0, 0, 0, [], 1⟩], zeroing := [611], tearing := [(128, [])] } }
     s.comp.flushing ≠ [] ∧ s.flushUnderWay = false ∧ 611 ∈ s.comp.zeroing ∧ tenantOk 128 = true ∧
     s.comp.tearing.find? (fun t => t.1 == 128) = some (128, []) ∧
     (s.liveContexts.filter (fun c => s.ctxSlice c == 128)).all s.teardownOver = true ∧
     (let u : State := { s with
        obj := { Obj.init with contexts := [(512, word (2 * 2 ^ 61 + 128 * 2 ^ 48))] }
        sched := { Sched.init with tiles := [(0, { aTile with ctx := 1 })] } }
      (u.liveContexts.filter (fun c => u.ctxSlice c == 128)).all u.teardownOver = false)) := by
  decide +kernel

/-- The line 1 is cached by core 0 in a state, and a flush snoop of it is out. -/
def snooped (st : LineState) : State :=
  { bound with coh := { Coh.init with
      filter := [⟨1, 0, st, 1, 5⟩], snoops := [⟨255, 3, 1, 0, 0, false⟩], groups := [⟨3, 1, 1, none, .flush⟩], nextGroup := 4 } }

def cached (st : LineState) : State := { bound with coh := { Coh.init with filter := [⟨1, 0, st, 1, 5⟩] } }

theorem witness_SnoopAnswersEndTheirSnoops :
    ((snooped .s).snoopOf 0 0 255 = some ⟨255, 3, 1, 0, 0, false⟩ ∧ (snooped .s).coh.heldWb = [] ∧
      (snooped .s).coh.groups.find? (fun y => y.id == 3) = some ⟨3, 1, 1, none, .flush⟩ ∧
      (snooped .s).filterEntry 1 0 = some ⟨1, 0, .s, 1, 5⟩ ∧ (snooped .s).coh.queue = [] ∧ (snooped .s).coh.unsent = [] ∧
      (snooped .s).coh.snoops.find? (fun y => y.sid == 255 && !y.wbPending) = some ⟨255, 3, 1, 0, 0, false⟩) ∧
    ((cached .m).filterEntry 1 ((cached .m).logicalCore (9 * 0 + 0)) = some ⟨1, 0, .m, 1, 5⟩ ∧ (cached .m).coh.snoops = [] ∧
      (cached .m).coh.unsent = []) ∧
    (bound.filterEntry (2 ^ 49 - 1) (bound.logicalCore (9 * 67 + 8)) = none) ∧
    ((cached .s).filterEntry 1 ((cached .s).logicalCore (9 * 0 + 0)) = some ⟨1, 0, .s, 1, 5⟩) := by
  decide +kernel

/-! ## Witnesses: translation -/

/-- A leaf for all accesses in local memory under a KEYID. -/
def leafWord (keyid : Nat) : Word := word (keyid * 2 ^ 54 + 0x3F)

/-- A walk of the request of station 0, at a level of a host-resident or a device-resident table. -/
def aWalk (level : Nat) (device : Bool) (ended : Option WalkEnd) : TableWalk :=
  ⟨0, 0, .request 0 0, 0, 128, .read, false, 0, level, 4096, device, 0, ended⟩

/-- The request waits at station 0, and its walk is under way. -/
def walking (w : TableWalk) : State :=
  { bound with
    clusters := [(0, { Cluster.init with retry := [aDeferred 0] })]
    xlt := { Xlt.init with walks := [w], nextWalk := 1 } }

theorem witness_WalksEndInALeafOrAFault :
    (let s := walking (aWalk 2 false none)
     s.pumpXlt.deferredOf 0 5 = some (aDeferred 0) ∧ s.deferredOf 0 5 = some (aDeferred 0) ∧
     s.walkFor 0 (aDeferred 0) = some (aWalk 2 false none) ∧ s.walkOf 0 = some (aWalk 2 false none)) ∧
    (let w := aWalk 1 true (some (.fault 0x0701 1 0))
     let s := walking w
     s.walkFor 0 (aDeferred 0) = some w ∧ w.ended = some (.fault 0x0701 1 0) ∧ w.gen = s.ctxGen (aDeferred 0).acc.ctx ∧
     (WalkEnd.fault 0x0701 1 0).stops s (aDeferred 0).acc = true ∧ s.faultAhead (aDeferred 0).acc = false ∧
     { s with sched := { s.sched with parked := [(0, aTile)] } }.faultAhead (aDeferred 0).acc = true ∧
     ({ w with gen := 1 } : TableWalk).gen ≠ s.ctxGen (aDeferred 0).acc.ctx) ∧
    (∃ at_, (walkUse (aWalk 2 true none) (leafWord 5)).ended = some (.leaf (leafWord 5) 2 true at_)) ∧
    (kptValid 0 = false ∧ kptValid (leafWord 5) = true ∧ kptLeaf (leafWord 5) = true ∧ (aWalk 1 true none).level = 1) ∧
    (kptValid 5 = true ∧ kptLeaf 5 = false ∧ getBits 4 2 5 ≠ 0 ∧ kptValid 1 = true ∧ kptLeaf 1 = false ∧ kptKeyid 1 = 0 ∧
      kptCont 1 = 0 ∧ getBits 4 2 1 = 0) ∧
    kptLocal (leafWord 5) = true ∧ bound.keyDenied 1 5 128 = true ∧
    (withRegs bound [(.XLT_KEYOWN, 0, 0xFFFF01FFFFFFFFFF)]).keyDenied 1 5 128 = false := by
  refine ⟨by decide +kernel, by decide +kernel, ⟨_, rfl⟩, by decide +kernel, by decide +kernel, by decide +kernel,
    by decide +kernel, by decide +kernel⟩

/-- An outstanding invalidation whose acknowledgements are missing as given. -/
def anInval (seq : Nat) (missing : List Nat) : Inval := ⟨seq, 3, 0, 0, 0, 0, 0, missing, []⟩

theorem witness_InvalidationsAdvanceAndComplete :
    (let s : State := { bound with xlt := { Xlt.init with invals := (List.range 8).map (fun i => anInval i [138]) } }
     s.isReady = true ∧ contextOk 8191 = true ∧ 8 ≤ (s.xlt.invals.filter (fun i => i.seq != retireSeq)).length ∧
     ∀ i ∈ s.xlt.invals, i.missing ≠ []) ∧
    (let s : State := { bound with xlt := { Xlt.init with
        invals := (List.range 7).map (fun i => anInval i [138]) ++ [anInval retireSeq [138]] } }
     (s.xlt.invals.filter (fun i => i.seq != retireSeq)).length < 8 ∧ s.xlt.migrations = []) ∧
    (let s : State := { bound with xlt := { Xlt.init with invals := [anInval 1 [], anInval 2 [138]] } }
     anInval 1 [] ∈ s.xlt.invals ∧ (anInval 1 []).missing = [] ∧ (anInval 1 []).seq ≠ retireSeq ∧ (anInval 2 [138]).seq < 2 ^ 32) := by
  decide +kernel

theorem witness_FaultResolvesRingAndCacheFlush :
    (let s : State := { bound with xlt := { Xlt.init with faults := [⟨8191, 0xFFFFFFFF, 0x0701, some 0, 0⟩], batch := 1 } }
     s.isReady = true ∧ contextOk 8191 = true ∧ u32Ok 0xFFFFFFFF = true ∧
     s.xlt.faults.find? (fun x => x.ctx == 8191 && x.seq == 0xFFFFFFFF) = some ⟨8191, 0xFFFFFFFF, 0x0701, some 0, 0⟩ ∧
     s.xlt.faults.find? (fun x => x.ctx == 0 && x.seq == 0) = none ∧ 0 < s.xlt.batch) ∧
    (withFlds bound [(.XLT_CTL_CACHE_FLUSH, 0, 1)]).fld .XLT_CTL_CACHE_FLUSH = 1 := by
  decide +kernel

theorem witness_PageMigrationAndHostReadsEnd :
    (let m : Migration := ⟨7, 611, request0 1, 0, some (8192, 0), false, 4096, 8192, [], .swap⟩
     let s : State := { bound with xlt := { Xlt.init with migrations := [m] } }
     s.xlt.migrations.find? (fun x => x.core == 611 && decide (x.stage = .swap) && !x.device) = some m ∧
     s.migrationOf 7 = some m ∧ m.stage = .swap) ∧
    (let s : State := { bound with sched := { Sched.init with tiles := [(0, aTile)] } }
     s.tileOf 0 = some aTile) ∧
    (let s : State := { rdy with
        hif := { Hif.init with
          reads := [(1023, .ringFetch 16383, 16)]
          queues := [(16383, { QueueRun.init with fetchTag := some 1023 })] }
        obj := { Obj.init with queues := [(16383 * 8, word (2 * 2 ^ 61))] } }
     s.alive = true ∧ s.hif.reads.find? (fun e => e.1 == 1023) = some (1023, .ringFetch 16383, 16) ∧
     (s.queueRun 16383).fetchTag = some 1023 ∧ (List.replicate 8 (0 : Word)).length = (16 + 1) / 2 ∧ s.qState 16383 = 2 ∧
     s.hif.reads.find? (fun e => e.1 == 0) = none ∧ s.EnginesIdle ∧ queueOk 16383 = true) := by
  unfold State.EnginesIdle
  decide +kernel

/-! ## Witnesses: memory stations -/

/-- A read of core 0 in a slot of station 0, its line fetched with tag word `t`, its verdict due. -/
def judged (t : Word) (again : Bool) : MemOp :=
  { MemOp.fresh 0 (.core 0 5 0) 0 1 8192 5 0 0 .read 0 0 with
    due := true
    reread := again
    got := [⟨.tagLine, BitVec.ofNat 1024 t.toNat, false⟩, ⟨.data, 0, false⟩] }

/-- The same while its data line is still on the way. -/
def fetching : MemOp := { MemOp.fresh 0 (.core 0 5 0) 0 1 8192 5 0 0 .read 0 0 with cmds := [(71, 19, .data)] }

theorem witness_MemoryOperationsAreAcceptedAndJudged :
    (let o := { MemOp.fresh 0 (.core 0 5 0) 0 1 8192 5 0 0 .read 0 0 with id := 3 }
     let s := bound.setMem 71 { MemStation.init with waiting := [o], nextId := 4 }
     s.stationOn .memory 71 = true ∧ (s.memSt 71).waiting.find? (fun x => x.id == 3) = some o ∧
     (s.memSt 71).freeSlot = some 0 ∧ ∀ x ∈ (s.memSt 71).waiting, x.line = o.line → 3 ≤ x.id) ∧
    ((MemStation.init).port.reads.find? (fun r => r.1 == 0) = none ∧ fetching.epoch = 0 ∧
      ({ fetching with epoch := 4 } : MemOp).epoch ≠ (bound.memSt 71).epoch ∧
      ({ fetching with epoch := 4 } : MemOp).epoch ≠ (bound.memSt 71).prevEpoch) ∧
    (let s := bound.setMem 71 { MemStation.init with
        slots := [(255, fetching)], port := { MemPort.init with cmds := [(some 9, 0)], reads := [(9, 19, 4), (10, 20, 4)] } }
     let u := (s.readBack 71 9).2
     (s.readBack 71 9).1 = some 19 ∧ findRead u 71 19 = some (71, some 255, .data) ∧ (u.memSt 71).op 255 = some fetching ∧
     (s.readBack 71 10).1 = some 20 ∧ findRead (s.readBack 71 10).2 71 20 = none) ∧
    (let s := bound.setMem 71 { MemStation.init with slots := [(255, judged 0 false)] }
     (s.memSt 71).op 255 = some (judged 0 false) ∧ (judged 0 false).due = true ∧ (judged 0 false).cmds = []) ∧
    ((judged 0 false).origin = .core 0 5 0 ∧ (judged 0 true).kind = .read ∧ (judged 0 false).zero = false ∧
      (judged 0 true).tries = [] ∧ ({ judged 0 false with zero := true } : MemOp).zero = true) ∧
    (let s := bound.setMem 71 { MemStation.init with buf := [⟨7, 5, 1, 0, 0⟩] }
     (s.memSt 71).buf.find? (fun x => x.line == 7) = some ⟨7, 5, 1, 0, 0⟩) := by
  decide +kernel

theorem lineMac_lt (k : Key) (keyid port line major minor z : Nat) (c : Line) :
    lineMac k keyid port line major minor z c < 2 ^ 60 := by
  simp only [lineMac]
  exact Nat.div_lt_of_lt_mul (by omega)

theorem judged_tag (t : Word) (again : Bool) : (judged t again).tag = t := by
  have h : t.toNat < 2 ^ 1024 := Nat.lt_of_lt_of_le t.isLt (Nat.pow_le_pow_right (by decide) (by decide))
  have e : (BitVec.ofNat 1024 t.toNat).toNat = t.toNat := by rw [BitVec.toNat_ofNat, Nat.mod_eq_of_lt h]
  have f : (judged t again).tag = word ((BitVec.ofNat 1024 t.toNat).toNat % 2 ^ 64) := rfl
  rw [f, e, Nat.mod_eq_of_lt t.isLt]
  exact BitVec.ofNat_toNat _ _ |>.trans (BitVec.setWidth_eq t)

/-- The MAC of the judged line under ZMAP 0. -/
def judgedMac : Nat :=
  lineMac (rdy.millKey 5) 5 71 0 ((rdy.memSt 71).version 0 0).1 ((rdy.memSt 71).version 0 0).2 0 (clearSectors 0 0)

theorem judged_macOk (t : Word) (again : Bool) (h : getBits 3 0 t = 0) :
    rdy.macOk 71 (judged t again) = (judgedMac == getBits 63 4 t) := by
  have e : (judged t again).zmap = 0 := by rw [MemOp.zmap, judged_tag, h]
  have f : (judged t again).stored = clearSectors 0 0 := by rw [MemOp.stored, e]; rfl
  show (lineMac _ 5 71 0 _ _ (judged t again).zmap (judged t again).stored == getBits 63 4 (judged t again).tag) = _
  rw [e, f, judged_tag]
  rfl

/-- A line MAC can match, and fail to. -/
theorem witness_MacVerdictsBothWays (again : Bool) :
    (∃ t, rdy.macOk 71 (judged t again) = true) ∧ ∃ t, rdy.macOk 71 (judged t again) = false := by
  have hm : judgedMac < 2 ^ 60 := lineMac_lt ..
  constructor
  · refine ⟨word (judgedMac * 16), ?_⟩
    have e : (word (judgedMac * 16)).toNat = judgedMac * 16 := by
      rw [word, BitVec.toNat_ofNat]
      exact Nat.mod_eq_of_lt (by omega)
    rw [judged_macOk _ _ (by simp only [getBits, bits, e]; omega), beq_iff_eq]
    simp only [getBits, bits, e, Nat.shiftRight_eq_div_pow]
    omega
  · by_cases h : judgedMac = 0
    · exact ⟨16, by rw [judged_macOk _ _ (by decide), h]; decide⟩
    · refine ⟨0, ?_⟩
      rw [judged_macOk _ _ (by decide)]
      have g : getBits 63 4 0 = 0 := by decide
      rw [g]
      simpa using h

theorem witness_LinesRoundTripUnderTheirVersion :
    (let n : Node := ⟨1, 0, 7, List.replicate 63 5 ++ [125], false⟩
     let s := bound.setMem 71 { MemStation.init with nodes := [n] }
     (s.memSt 71).node 1 (63 / 64) = some n ∧ n.minors.getD (63 % 64) 0 < 126 ∧ (s.memSt 71).tagCache = []) ∧
    (let n : Node := ⟨1, 0, 7, List.replicate 63 127 ++ [126], false⟩
     let s := bound.setMem 71 { MemStation.init with nodes := [n] }
     (s.memSt 71).node 1 (63 / 64) = some n ∧ n.minors.getD (63 % 64) 0 = 126) := by
  decide +kernel

theorem witness_ScrubsPoundAndRawAccess :
    (let s : State := { bound with comp := { bound.comp with scrubbing := [⟨0, 262143, 0, [0], 1⟩] } }
     (∃ x ∈ s.comp.scrubbing, x.first ≤ 262143 ∧ 262143 ≤ x.last) ∧ ∀ x ∈ s.moot.slots, x.state ≠ .pendingScrub) ∧
    (withFlds bound [(.CTR_POUND_STATUS_BUSY, 0, 1)]).fld .CTR_POUND_STATUS_BUSY = 1 ∧
    (bound.isReady = true ∧ bound.fld .CTR_POUND_STATUS_BUSY = 0 ∧ ∃ o ∈ bound.poundOwners 0 5 (2 ^ 26 - 1), o.tag ≠ 0 ∧ o.tag ≠ 0xFF) ∧
    (∀ o ∈ rdy.poundOwners 71 5 (2 ^ 26 - 1), o.tag = 0 ∨ o.tag = 0xFF) ∧
    (State.reset.rawAllowed true = false ∧ rdy.rawAllowed false = true ∧ rdy.rawBlocked (2 ^ 56 - 1) = true) ∧
    (let s : State := { bound with comp := Comp.init }
     s.rawAllowed false = true ∧ s.rawBlocked 0 = false ∧ s.place 0 = some (0, 0) ∧ (s.ownerOf 0).tag = 0xFF) ∧
    (bound.rawBlocked 0 = false ∧ bound.place 0 = some (0, 0) ∧ (bound.ownerOf 0).tag = 1) := by
  decide +kernel

theorem witness_KeyIdsRetireAndCountersClear :
    (rdy.isReady = true ∧ rdy.retireRefused 1023 = true) ∧
    (let s := withRegs rdy [(.MIL_KEYSTATE, 31, 2 ^ 62)]
     s.retireRefused 1023 = false) ∧
    (let s := withFlds rdy [(.MIL_RETIRE_STATUS_BUSY, 0, 1), (.MIL_RETIRE_STATUS_KEYID, 0, 1023)]
     let s : State := { s with well := { s.well with retiring := 1023 } }
     s.fld .MIL_RETIRE_STATUS_BUSY = 1 ∧ s.well.retiring = 1023 ∧ s.keyInUse s.well.retiring = false ∧
     (s.setCluster 0 { Cluster.init with released := [⟨0, 0, 0, none, false, 1023, 0, false⟩] }).keyInUse 1023 = true) ∧
    regIdxOk .HDG_COUNT 67 = true ∧ pathOk .steward = true := by
  decide +kernel

/-! ## Witnesses: scheduling and the Drover -/

/-- Core 611 of slice 1 runs a tile for context 8191, which is resident in slot 47. -/
def running (st : ResState) (leaving zeroing : Bool) : State :=
  { withRegs rdy [(.CMP_CORE_SLICE, 76, 0x01FFFFFF)] with
    sched := { Sched.init with
      residents := [(47, ⟨8191, 1, st, 0, leaving, zeroing, none⟩)]
      tiles := [(611, { aTile with ctx := 8191 })]
      ready := [(611, { aTile with ctx := 8191, startAt := 0 })] } }

theorem witness_TilesEndAndAreKilledByTheirDeclaredTime :
    (let s := running .idle false false
     s.runningTile 611 = some { aTile with ctx := 8191 } ∧ declNs 256 = 1000 ∧ 4000 ≤ 4 * declNs 256 ∧ 4 * declNs 256 < 4001 ∧
     s.copying 0 = false ∧ s.ctxState 8191 ≠ 4 ∧ s.tileOf 611 = some { aTile with ctx := 8191 } ∧ 47 ∈ s.candidates 611 ∧
     (let d : DmaXlt := ⟨8191, 1, 0, 0, 128, none, 0, [], [], none, false, 0, some ⟨128, none, none⟩⟩
      { s with xlt := { s.xlt with extents := [(0, d)] } }.copying 0 = true) ∧
     { s with obj := { s.obj with contexts := [(8191 * 512, word (4 * 2 ^ 61))] } }.ctxState 8191 = 4) ∧
    (let s := (running .idle false false).setCluster 67 { Cluster.init with tokens := [⟨1, 0, 611, 0, false, 0⟩] }
     ∃ x ∈ (s.cluster (s.stationOf 611)).tokens, x.core = 611 ∧ x.txn < 4096) ∧
    (let s := running .preloading false false
     let r : Resident := ⟨8191, 1, .preloading, 0, false, false, none⟩
     s.sched.residents.find? (fun e => e.1 == 47) = some (47, r) ∧ s.preloadOver r = true ∧
     (∀ p ∈ s.sched.preloads, p.ctx = r.ctx → p.failed = none) ∧ { r with leaving := true }.leaving = true ∧
     { s with sched := { s.sched with preloads := [⟨8191, 611, 0, 65536, 0, some 3, none⟩] } }.preloadOver r = false) ∧
    (let s := running .idle true true
     s.sched.residents.find? (fun e => e.1 == 47) = some (47, ⟨8191, 1, .idle, 0, true, true, none⟩)) := by
  decide +kernel

/-- Queue 16383 LIVE in context 8191, RESIDENT, of slice 1 with PASID 7 mapped; fence 65535 LIVE; enforcement phase 3; the
command `w` fetched. -/
def ring (w : CmdWords) : State :=
  { withFlds rdy [(.CMP_PASID_VALID, 0, 1), (.CMP_PASID_PASID, 0, 7), (.CMP_PASID_SLICE, 0, 1), (.OBJ_PHASE_PHASE, 0, 3),
      (.ADM_SLICE_BE_TILE, 1, 0x1900)] with
    hif := { Hif.init with queues := [(16383, { QueueRun.init with resident := true, fetched := some w })] }
    obj := { Obj.init with
      contexts := [(8191 * 512, word (3 * 2 ^ 61 + 2 ^ 48)), (8191 * 512 + 10, 7)]
      queues := [(16383 * 8, word (2 * 2 ^ 61 + 8191 * 2 ^ 32)), (16383 * 8 + 1, 6), (16383 * 8 + 2, 6),
        (16383 * 8 + 3, word (2 ^ 48))]
      fences := [(65535 * 2, word (2 ^ 48))]
      fenceLife := [(65535, .live)] } }

/-- Command `w` is fetched, starts as it is and is not refused. -/
def startsWell (w : CmdWords) : Prop :=
  (ring w).fetchOk 16383 w = true ∧
  cfgPasidOk (ring w).regs ((ring w).ctxPasid ((ring w).qCtx 16383)) ((ring w).qSlice 16383) = true ∧
  (ring w).convertAll ((ring w).qCtx 16383) w = .inr w ∧
  (ring w).cmdRefusal 16383 w ((ring w).queueRun 16383).pinBad = 0

theorem witness_DroverCommandsAndJournals :
    (cmdOk 4 16383 (ringCmd 4 16383 8191 0) = true ∧ startsWell (ringCmd 4 16383 8191 0)) ∧
    (cmdOk 5 16383 (ringCmd 5 16383 8191 0) = true ∧ startsWell (ringCmd 5 16383 8191 0)) ∧
    (let ws := ringCmd 4 16383 8191 1
     let s : State := { ring ws with
       drv := { Drv.init with planQ := [16383] }
       hif := { Hif.init with queues := [(16383, { QueueRun.init with running := some ⟨0, ws, 0, 0, 0, [], none, true⟩ })] } }
     s.isReady = true ∧ 16383 ∈ s.drv.planQ ∧ cmdOpcode (s.runningWords 16383) = 4 ∧
     tableShape (s.runningWords 16383) (List.replicate (dTokens ws) (List.replicate 8 0)) = true ∧
     (∃ bs, s.engineResult (dExpMap (s.runningWords 16383)) (32 * dExperts (s.runningWords 16383)) (s.mapReads 16383) =
       some (.inr bs)) ∧
     (let u : State := { s with drv := { s.drv with mapReads := [(16383, [3])] } }
      (u.engineResult (dExpMap (u.runningWords 16383)) (32 * dExperts (u.runningWords 16383)) (u.mapReads 16383)).isNone = true)) ∧
    (let j : Journal := ⟨8191, 1, 65535, .dispatched, [], 0, 0, 1000, 0, 1, none, none, [], [], [], [], []⟩
     let s : State := { rdy with drv := { Drv.init with journals := [j, { j with ctx := 0, queue := some 3 }] } }
     s.journal 8191 65535 = some j ∧ j.frozenAt = none ∧ rspCodeOk 0 = true ∧
     (∃ i, s.journal 0 65535 = some i ∧ i.queue = some 3 ∧ (5, true) ∉ i.resend)) := by
  unfold startsWell
  refine ⟨by decide +kernel, by decide +kernel, ⟨by decide +kernel, by decide +kernel, by decide +kernel, by decide +kernel,
    ⟨_, rfl⟩, by decide +kernel⟩, by decide +kernel, by decide +kernel, by decide +kernel, ⟨_, rfl, rfl, by decide⟩⟩

/-- A DISPATCH of one token to one expert from core 0 is good and its tables are not denied; one of no token is not good. -/
theorem witness_DispatchReadsItsTables :
    (let ws : CmdWords := [(ringCmd 4 16383 8191 0).getD 0 0, word (2 ^ 52 + 2 ^ 48 + 0x100 * 2 ^ 16 + 1), 0, word (2 ^ 52 + 2 ^ 45),
       word (2 ^ 32 + 2 ^ 16), 0, 0, 0]
     let s := withRegs (ring ws) [(.CMP_CORE_SLICE, 0, 0xFFFFFFFFFFFFFF01)]
     s.dispatchCode 16383 ws = 0 ∧ s.tableDenied 16383 ws = 0) ∧
    (let ws := ringCmd 4 16383 8191 0
     (ring ws).dispatchCode 16383 ws ≠ 0) := by
  decide +kernel

/-- A journal of the plan's tag stands already. -/
theorem witness_PlanOfATakenTag :
    (let ws := ringCmd 4 16383 8191 0
     let s : State := { ring ws with
       drv := { Drv.init with journals := [⟨8191, 1, 0, .planned, [], 0, 0, 1, 0, 1, none, none, [], [], [], [], []⟩] }
       hif := { Hif.init with queues := [(16383, { QueueRun.init with running := some ⟨0, ws, 0, 0, 0, [], none, true⟩ })] } }
     (s.journal (s.qCtx 16383) (dJtag (s.runningWords 16383))).isSome = true) := by
  decide +kernel

/-! ## Witnesses: objects -/

/-- Fields of record words: contexts, queues, fences, memory objects. -/
def withObj (o : Obj) : State := { withFlds rdy [(.OBJ_CTL_ENABLE, 0, 1), (.CMP_SLICE_CTL_ENABLE, 1, 1),
  (.CMP_PASID_VALID, 0, 1), (.CMP_PASID_PASID, 0, 7), (.CMP_PASID_SLICE, 0, 1)] with obj := o }

theorem witness_ObjectCommandsChangeStatesOrAnswer020B :
    (rdy.isReady = true ∧ u32Ok 0xFFFFFFFF = true ∧ rdy.fld .OBJ_CTL_ENABLE = 0) ∧
    ((withObj Obj.init).isReady = true ∧ (withObj Obj.init).fld .OBJ_CTL_ENABLE = 1 ∧ 8191 < kindCount 1 ∧ 16383 < kindCount 2 ∧
      65535 < kindCount 3 ∧ 262143 < kindCount 4 ∧ kindCount 1 ≤ 8192) ∧
    (let s := withObj { Obj.init with accepted := some (.steward, 5000000) }
     s.fld .OBJ_CTL_ENABLE = 1 ∧ s.objBusy .host = true ∧ s.objBusy .steward = false ∧ (withObj Obj.init).objBusy .host = false) ∧
    (let s := withObj { Obj.init with contexts := [(8190 * 512, word (2 ^ 48)), (8191 * 512, word (2 ^ 61 + 2 ^ 48)), (8191 * 512 + 10, 7)] }
     s.sliceOk (s.ctxSlice 8191) = true ∧ s.ctxState 8191 = 1 ∧ cfgPasidOk s.regs (s.ctxPasid 8191) (s.ctxSlice 8191) = true ∧
     s.sliceOk (s.ctxSlice 8190) = true ∧ s.ctxState 8190 ≠ 1) ∧
    (let s := withObj { Obj.init with contexts := [(8191 * 512, word (2 ^ 61 + 2 ^ 48)), (8191 * 512 + 10, 8)] }
     s.ctxState 8191 = 1 ∧ cfgPasidOk s.regs (s.ctxPasid 8191) (s.ctxSlice 8191) = false) ∧
    (let s := withObj { Obj.init with
        contexts := [(8191 * 512, word (2 * 2 ^ 61 + 2 ^ 48))]
        queues := [(16383 * 8, word (2 ^ 61 + 8191 * 2 ^ 32)), (16383 * 8 + 1, 6), (16383 * 8 + 2, 16)] }
     s.sliceOk (s.qSlice 16383) = true ∧ s.qState 16383 = 1 ∧ s.ctxState (s.qCtx 16383) = 2 ∧ s.sqLog2 16383 = 6 ∧
     s.cqLog2 16383 = 16) ∧
    (let s := withObj { Obj.init with fences := [(65535 * 2, word (2 ^ 48))], fenceLife := [(65535, .defined)] }
     s.sliceOk (s.fSlice 65535) = true ∧ s.fLife 65535 = .defined ∧ s.fLife 0 = .free) ∧
    (let s := withObj { Obj.init with memobjs := [(262143 * 4, word (2 ^ 48))], memLife := [(262143, .defined)] }
     s.sliceOk (s.mSlice 262143) = true ∧ s.mLife 262143 = .defined ∧
     s.mBase 262143 + (s.mPagesM1 262143 + 1) * 4096 ≤ 2 ^ 48) ∧
    ((ring []).qState 16383 = 2 ∧ (ring []).qState 16383 ≠ 3 ∧ (ring []).qState 16383 ≠ 4 ∧
      ((ring []).queueRun 16383).running = none ∧ (ring []).fLife 65535 = .live ∧ (ring []).fState 65535 = 0) ∧
    (let s := withObj { Obj.init with queues := [(0, word (2 ^ 61))] }
     s.qState 0 = 1) := by
  decide +kernel

theorem witness_RecordWindowTeardownAndDeferredFree :
    (rdy.isReady = true ∧ rdy.fld .OBJ_CTL_ENABLE = 0) ∧
    (let s := withFlds (withObj Obj.init) [(.OBJ_REC_SEL_KIND, 0, 4), (.OBJ_REC_SEL_INDEX, 0, 262143)]
     3 < kindWords 4 ∧ 262143 < kindCount 4 ∧ s.fld .OBJ_CTL_ENABLE = 1 ∧ s.fld .OBJ_REC_SEL_KIND = 4 ∧
     s.fld .OBJ_REC_SEL_INDEX = 262143 ∧ s.recOpen 4 262143 = true) ∧
    (let s := withFlds (ring []) [(.OBJ_CTL_ENABLE, 0, 1), (.OBJ_REC_SEL_KIND, 0, 2), (.OBJ_REC_SEL_INDEX, 0, 16383)]
     s.recOpen (s.fld .OBJ_REC_SEL_KIND) (s.fld .OBJ_REC_SEL_INDEX) = false) ∧
    (getBits 55 21 (rdy.rd .OBJ_TABLE_BASE 0) * 2097152 = rdy.fld .CMP_CHIPNUM_CHIPNUM * 2 ^ 50 + 0 * 2097152) ∧
    ((ring []).ctxState 8191 ≠ 4) ∧
    (let s := withObj { Obj.init with contexts := [(8191 * 512, word (4 * 2 ^ 61 + 2 ^ 48))] }
     s.ctxState 8191 = 4 ∧ s.teardownOver 8191 = true) ∧
    (let s := withObj { Obj.init with releasing := [⟨262143, []⟩] }
     s.obj.releasing.find? (fun x => x.index == 262143) = some ⟨262143, []⟩) := by
  decide +kernel

/-! ## Witnesses: rings -/

/-- The ring state with words of queue 16383 (SQ_HEAD, SQ_TAIL, CQ_HEAD, CQ_TAIL as record word 3) and 96 slots in use. -/
def slotsFull (s : State) : State :=
  { s with hif := { s.hif with
      queues := (List.range 96).map (fun n => (n, { QueueRun.init with resident := true, lastUse := n })) ++
        [(16383, { QueueRun.init with waiting := true })] } }

theorem witness_DoorbellsSlotsAndPostedWrites :
    (let s := ring (ringCmd 0 16383 8191 0)
     s.isReady = true ∧ queueOk 16383 = true ∧ pasidOk (some (2 ^ 20 - 1)) = true ∧ pasidOk none = true ∧
     s.doorbellOk 16383 (some 7) = true ∧ s.qState 16383 = 2 ∧ s.doorbellOk 16383 (some 8) = false ∧
     s.doorbellOk 0 none = true ∧ s.qState 0 = 0 ∧
     idxSub 64 (s.sqTail 16383) ≤ 2 ^ s.sqLog2 16383 - s.sqCount 16383 ∧
     2 ^ s.sqLog2 16383 - s.sqCount 16383 < idxSub 65 (s.sqTail 16383) ∧
     idxSub 0 (s.cqHead 16383) ≤ idxSub (s.cqTail 16383) (s.cqHead 16383) ∧
     idxSub (s.cqTail 16383) (s.cqHead 16383) < idxSub 1 (s.cqHead 16383)) ∧
    (let s := (ring []).setQState 16383 4
     s.doorbellOk 16383 (some 7) = true ∧ s.qState 16383 = 4 ∧ s.qState 16383 ≠ 2) ∧
    (let s := (ring []).setQState 16383 5
     s.doorbellOk 16383 (some 7) = true ∧ s.qState 16383 = 5) ∧
    (0x0105 / 256 = 0x01 ∧ 16383 < 16384 ∧ 2 ^ 20 - 1 < 2 ^ 20) ∧
    (let s := slotsFull (ring [])
     queueOk 16383 = true ∧ s.isReady = true ∧ rotate s.hif.rotor s.waitingQueues = some 16383 ∧ s.lruIdle.isSome = true) ∧
    (let s : State := { rdy with hif := { Hif.init with posts := [⟨4, .notice, []⟩, ⟨5, .faultRecord, []⟩] } }
     s.alive = true ∧ s.hif.posts = ⟨4, .notice, []⟩ :: [⟨5, .faultRecord, []⟩] ∧ 5 ≠ 4) ∧
    (2 ≤ (ring []).qState 16383 ∧ 2 < 3) ∧
    (completes (.sqTail 16383 64 (some 7) 8) (ring []) = true ∧ completes (.cqHead 16383 0 (some 7) 8) (ring []) = true ∧
     completes (.queueSlotGrant 16383) (slotsFull (ring [])) = true) := by
  decide +kernel

/-- The hypotheses `Starts` and no refusal of each kind of command. -/
theorem witness_RingCommandsRunOrAreRefused :
    (∀ op ∈ [0, 4, 5, 6, 7, 8, 9], cmdOk op 16383 (ringCmd op 16383 8191 65535) = true ∧ startsWell (ringCmd op 16383 8191 65535)) ∧
    (∀ op ∈ [1, 2, 3], let w := (ringCmd op 16383 8191 0x1900).set 4 8
      cmdOk op 16383 w = true ∧ startsWell w ∧ (ring w).tileCode 8191 (w.getD 1 0) = 0 ∧
      (ring w).tileCode ((ring w).qCtx 16383) (word 0x1901) ≠ 0) ∧
    (∀ w ∈ [ringCmd 0 16383 8191 0], (ring w).fetchOk 16383 w = true ∧ (ringCommand 16383 w).isSome = true ∧
      (ring []).fetchOk 16383 w = false ∧ w.length = 8) ∧
    (let w := ringCmd 10 16383 8191 0
     w.length = 8 ∧ 9 < cmdOpcode w ∧ (ring w).fetchOk 16383 w = true ∧
     cfgPasidOk (ring w).regs ((ring w).ctxPasid ((ring w).qCtx 16383)) ((ring w).qSlice 16383) = true) ∧
    (let w := ringCmd 0 16383 8191 0
     let s := withFlds (ring w) [(.CMP_PASID_VALID, 0, 0)]
     s.fetchOk 16383 w = true ∧ cfgPasidOk s.regs (s.ctxPasid (s.qCtx 16383)) (s.qSlice 16383) = false) ∧
    (let w := ringCmd 7 16383 8191 (2 ^ 16 + 65535)
     let rc : RunCmd := ⟨65535, w, 0, 0, 0, [], some 65535, false⟩
     let s : State := { ring [] with hif := { Hif.init with queues := [(16383, { QueueRun.init with running := some rc })] } }
     (s.queueRun 16383).running = some rc ∧ rc.waitFence = some 65535 ∧ s.fState 65535 = 0 ∧
     ∀ v ∈ [1, 2, 3], (s.putF 65535 0 61 60 v).fState 65535 = v) ∧
    (let s := ring []
     let w := ringCmd 6 16383 8191 65534
     cmdInvalid w = false ∧ (∃ f ∈ cmdFences w, s.fenceOfSlice 16383 f = false) ∧ cmdInvalid (ringCmd 15 16383 8191 0) = true ∧
     (∀ f ∈ cmdFences (ringCmd 6 16383 8191 65535), s.fenceOfSlice 16383 f = true) ∧ s.fld .OBJ_PHASE_PHASE = 3 ∧
     (let t := withFlds s [(.OBJ_PHASE_PHASE, 0, 2)]
      t.fld .OBJ_PHASE_PHASE ≠ 3 ∧ getBits 17 5 (cmdW0 (ringCmd 0 16383 8190 0)) ≠ t.qCtx 16383)) ∧
    (beyondDva ((ringCmd 2 16383 8191 0).set 4 8) = none ∧
     beyondDva ((ringCmd 1 16383 8191 0).set 2 (word (2 ^ 48))) = some (word (2 ^ 48)) ∧
     beyondDva ((ringCmd 3 16383 8191 0).set 3 (word (2 ^ 63))) = some (word (2 ^ 63))) ∧
    (let w := (ringCmd 0 16383 8191 5).set 0 (word (2 ^ 49 + 16383 * 2 ^ 18 + 8191 * 2 ^ 5))
     (ring w).fetchOk 16383 w = true ∧ cfgPasidOk (ring w).regs ((ring w).ctxPasid ((ring w).qCtx 16383)) ((ring w).qSlice 16383) = true ∧
     (ringCommand 16383 w).isSome = true ∧ (ring w).convertAll ((ring w).qCtx 16383) w = .inl 5) ∧
    (let s := withFlds (ring []) [(.CMP_PASID_VALID, 0, 0)]
     cfgPasidOk s.regs (s.ctxPasid (s.qCtx 16383)) (s.qSlice 16383) = false ∧ s.qState 16383 = 2) ∧
    (let s : State := { ring [] with obj := { (ring []).obj with
        memobjs := [(262143 * 4, word (2 ^ 61 + 2 ^ 48))], memLife := [(262143, .live)] } }
     bitOf 63 (word (2 ^ 63 + 262143)) = true ∧ getBits 17 0 (word (2 ^ 63 + 262143)) = 262143 ∧ s.mLife 262143 = .live ∧ s.mState 262143 = 1 ∧
     s.mSlice 262143 = s.qSlice 16383 ∧ s.mPin 262143 + 1 < 2 ^ 32 ∧ s.mLife 0 ≠ .live) := by
  unfold startsWell
  decide +kernel

/-! ## Witnesses: tenancy -/

/-- Slice 128 enabled with PASID 7, in a TEN state, its mailbox words as given. -/
def tenant (st : Nat) (mbx : List (Nat × Nat)) : State :=
  { withFlds rdy [(.CMP_SLICE_CTL_ENABLE, 128, 1), (.CMP_PASID_VALID, 0, 1), (.CMP_PASID_PASID, 0, 7), (.CMP_PASID_SLICE, 0, 128),
      (.TEN_SLICE_STATE_STATE, 128, st)] with
    ten := { Ten.init with mailbox := mbx.map (fun x => (128 * 2048 + x.1, word x.2)) } }

/-- A request of a TYPE stands at T2M_HEAD. -/
def request (type : Nat) : State := tenant 1 [(0, 1), (1024, type * 2 ^ 56)]

theorem witness_MailboxesCarryMessagesBothWays :
    (let s := tenant 1 []
     s.isReady = true ∧ tenantOk 128 = true ∧ pasidOk (some 7) = true ∧
     ([(1024, 0), (1535, 0)] : List (Nat × Word)).all (fun x => decide (x.1 < 2048)) = true ∧
     cfgPasidOk s.regs 7 128 = true ∧ cfgPasidOk s.regs 8 128 = false ∧ (s.fld .CMP_SLICE_CTL_PASID_REQUIRED 128 == 0) = true ∧
     cfgEnabled s.regs 128 = true ∧ cfgEnabled s.regs 1 = false ∧
     (∀ x ∈ ([(1024, 0), (1535, 0)] : List (Nat × Word)), 1024 ≤ x.1 ∧ x.1 < 1536) ∧
     idxSub 64 (s.t2mTail 128) ≤ 64 - idxSub (s.t2mTail 128) (s.t2mHead 128) ∧
     64 - idxSub (s.t2mTail 128) (s.t2mHead 128) < idxSub 65 (s.t2mTail 128) ∧
     idxSub 0 (s.m2tHead 128) ≤ idxSub (s.m2tTail 128) (s.m2tHead 128) ∧
     idxSub (s.m2tTail 128) (s.m2tHead 128) < idxSub 65535 (s.m2tHead 128) ∧
     (64 ≠ s.m2tTail 128 ∧ idxSub 64 (s.m2tTail 128) ≤ 64 - idxSub (s.m2tTail 128) (s.m2tHead 128)) ∧
     64 - idxSub (s.m2tTail 128) (s.m2tHead 128) < idxSub 65 (s.m2tTail 128) ∧
     s.m2tSpace 128 = true ∧ s.ten.waiting.any (fun x => x.1 == 128) = false) ∧
    (let s := tenant 1 [(0, 65535), (1, 65535), (2, 64)]
     idxSub 63 (s.t2mTail 128) ≤ 64 - idxSub (s.t2mTail 128) (s.t2mHead 128) ∧ s.m2tSpace 128 = false) ∧
    (∀ y ∈ [0, 1, 2, 3, 0x3F, 0x40, 0x7F, 0x80, 0xFF], ((request y).t2mMessage 128).map msgType = some y ∧
      (idxSub 1 ((request y).t2mHead 128) = 1 ∧ (request y).t2mType 128 = y)) ∧
    (∀ x ∈ ([(4096, 1023), (0, 0)] : List (Nat × Nat)), x.1 % 4096 = 0 ∧ x.2 < 1024) ∧
    ((request 2).attestContextOk 128 [2] = false ∧
     (let ws : List Word := [0, 0, 0, 0, 0, 0, 0, word (8191 * 2 ^ 48)]
      let s : State := { request 2 with obj := { Obj.init with contexts := [(8191 * 512, word (2 * 2 ^ 61 + 128 * 2 ^ 48))] } }
      s.attestContextOk 128 ws = true ∧ s.well.seed = none)) ∧
    (completes (.t2mTail 128 64 none 8 []) (tenant 1 []) = true ∧ completes (.m2tHead 128 0 none 8) (tenant 1 []) = true ∧
     completes (.t2mHead .host 128 0) (tenant 1 []) = true ∧ completes (.m2tTail .host 128 64) (tenant 1 []) = true ∧
     completes (.query 128) (request 1) = true ∧ completes (.managerMessage 128) (request 0x40) = true ∧
     completes (.t2mTypeInvalid 128) (request 0xFF) = true) := by
  decide +kernel

/-- TEN runs a command on slice 128. -/
def tenRuns (op st : Nat) : State := { tenant st [] with ten := { Ten.init with run := some ⟨op, 128⟩ } }

theorem witness_SlicesFreezeMoveAndResume :
    (let s := tenant 1 []
     s.isReady = true ∧ (∀ g ∈ [0, 262143], g < 262144) ∧ (∀ c ∈ [0, 8191], contextOk c = true) ∧ s.tenBusy 1 128 = false ∧
     s.ten.run = none ∧ s.sliceState 128 = 1 ∧ s.sliceState 128 ≠ 3 ∧ s.sliceState 128 ≠ 7 ∧ s.noContexts 128 = true ∧
     (restoreKey 128 (.inr s) (1023, 0)).isLeft = true) ∧
    ((tenRuns 3 4).tenBusy 1 128 = true ∧ (tenRuns 3 4).tenBusy 8 128 = false ∧ (tenRuns 3 4).tenBusy 8 127 = true) ∧
    (∀ v ∈ [2, 3, 4, 5, 6, 7], (tenant v []).sliceState 128 = v) ∧
    (let s : State := { tenant 7 [] with ten := { Ten.init with restores := [(128, ⟨[], [], [], [1023]⟩)] } }
     s.sliceState 128 = 7 ∧ (∃ k ∈ (s.restoreOf 128).keyids, keyStateOf s.regs k ≠ 1) ∧
     (let t := withRegs s [(.MIL_KEYSTATE, 31, 2 ^ 62)]
      ∀ k ∈ (t.restoreOf 128).keyids, keyStateOf t.regs k = 1)) ∧
    (stLc (List.replicate 20 0 ++ [4]) ≠ 5) ∧
    (let s : State := { tenant 1 [] with ten := { Ten.init with session := { TenSession.init with offer := some 0 } } }
     s.ten.session.offer.isSome = true ∧ (cfgCores s.regs 128).length ≠ 1 ∧ (cfgCores s.regs 128).length = 0 ∧
     (cfgMemset s.regs ⟨128, 0⟩).2 = 0 ∧ (cfgLinks s.regs 128).length = 0 ∧
     (∀ n ∈ List.range' 1 127, cfgMember s.regs n 128 = ([] : List Nat).contains n) ∧
     ownerAt s.comp.owners (s.windowGranule 128 + 0) ≠ ⟨128, 0⟩) ∧
    ((tenant 2 []).sliceAtRest 128 = true ∧ tenantOk 128 = true ∧ (tenRuns 3 4).ten.run = some ⟨3, 128⟩ ∧
     (tenRuns 5 6).ten.run = some ⟨5, 128⟩ ∧ (tenRuns 6 6).ten.run = some ⟨6, 128⟩ ∧ imageOk ⟨[], [], [], [], [], []⟩ = true) ∧
    (let x : SaveRun := ⟨7, 9, [], [], 0, 4096, 80, [], 0, [], [], 0, true⟩
     let s : State := { tenRuns 3 4 with ten := { (tenRuns 3 4).ten with save := some x } }
     s.ten.run = some ⟨3, 128⟩ ∧ s.imageWritten = true ∧ (tenRuns 3 4).imageWritten = false ∧ s.ten.save = some x ∧ x.image = 7 ∧
     completes (.saveDone 0) s = true ∧ completes (.saveDone 0x140E) s = true) ∧
    (completes (.freeze .host 128) (tenant 1 []) = true ∧ completes (.thaw .steward 128) (tenant 3 []) = true ∧
     completes (.discard .host 128 [65535]) (tenant 5 []) = true ∧ completes (.tenCancel .host 128) (tenRuns 3 4) = true ∧
     completes (.migBufferHandover .host (2 ^ 28 - 1)) (tenant 1 []) = true) := by
  decide +kernel

/-! ## Witnesses: links -/

/-- Port 15 of slice 1 UP, its link station as given. -/
def port (l : LinkStation) : State := { bound with links := [(15, l)] }

/-- Flit `i` of the group at FSN `n`. -/
def flit (i n : Nat) (last : Bool) : Flit := ⟨1, last, i, false, 0, 1, n, List.replicate 240 0⟩

def sevenFlits : List Flit := (List.range 7).map (fun i => flit i i false)

theorem witness_FlitGroupsVerifyBeforeTheirMessages :
    (let s := port LinkStation.init
     flitOk (flit 0 0 false) = true ∧ s.linkOpen 15 = true ∧ (flit 0 1 false).fsn ≠ (s.link 15).fsnRx + (s.link 15).partialRx.length ∧
     (flit 0 0 false).fsn = (s.link 15).fsnRx + (s.link 15).partialRx.length ∧
     (flit 1 0 false).index ≠ (s.link 15).partialRx.length ∧ (flit 0 0 true).index = (s.link 15).partialRx.length ∧
     s.linkOpen 0 = false ∧ (∀ e ∈ (s.link 15).keys, e.1 ≠ 2 + bit01 (flit 0 0 true).phase) ∧
     s.openGroup 15 [flit 0 0 true] = none ∧ s.openGroup 15 [{ flit 0 0 true with cls := 5 }] = none ∧
     (s.link 15).failedFsn ≠ some 0 ∧ (s.link 15).failedFsn = none ∧
     s.wireBad 15 { flit 0 0 true with wireTag := 2 } = true ∧ s.wireBad 15 (flit 0 0 true) = false ∧
     (∃ f ∈ [{ flit 0 0 true with wireTag := 2 }], s.wireBad 15 f = true) ∧ (s.link 15).window = false ∧
     s.fld .LNK_COUNT_GROUPS 15 ≤ 2 ^ 39 ∧ (s.link 15).sealHold = false ∧ s.fld .LNK_PORT_STATUS_STATE 15 ≠ 0 ∧
     s.fld .LNK_PORT_STATUS_STATE 0 = 0 ∧ (s.link 15).txns = [] ∧ (s.link 15).outq = []) ∧
    (let s := port { LinkStation.init with partialRx := sevenFlits }
     (flit 7 7 false).fsn = (s.link 15).fsnRx + (s.link 15).partialRx.length ∧
     (flit 7 7 false).last = false ∧ (s.link 15).partialRx.length = 7 ∧ (flit 7 7 true).index = (s.link 15).partialRx.length) ∧
    (let s := port { LinkStation.init with failedFsn := some 65535, window := true }
     (s.link 15).failedFsn = some 65535 ∧ s.linkOpen 15 = true ∧ (s.link 15).window = true) ∧
    (let s := withRegs bound [(.XLT_KEYOWN, 0, 1)]
     (match s.inbound 15 false 128 0 with
      | .inr (o, k) => decide (o = ⟨1, 0⟩ ∧ k = 0)
      | .inl _ => false) = true) ∧
    (match bound.inbound 15 (decide (MemKind.write = .read)) (2 ^ 50) 0 with
      | .inl code => code == 0x0507
      | .inr _ => false) = true := by
  decide +kernel

/-- An exchange runs on port 15 for slots 0 and 1. -/
def exchanging (x : Kx) : State := { (withFlds (port LinkStation.init) [(.LNK_PORT_STATUS_STATE, 15, 1)]) with kx := some x }

def aKx : Kx := ⟨15, 0, 1, 0, false, 5000000, [], none, [], [], none⟩

theorem witness_ExchangesFillSlotsAndLanesAreSpared :
    (let s := port LinkStation.init
     s.isReady = true ∧ slotOk 511 = true ∧ s.kx = none ∧ s.stationOn .link 15 = true ∧ s.kxSlotsOk 0 271 = true ∧
     s.kxSlotsOk 0 272 = false ∧ s.kxSlotsOk 5 5 = false ∧ s.laneBad 15 8 = false ∧ s.laneBad 15 7 = false ∧
     s.laneFree 15 = true) ∧
    ((exchanging aKx).kx = some aKx ∧ aKx.port = 15 ∧ aKx.peerHello = none ∧ (exchanging aKx).fld .LNK_PORT_STATUS_STATE 15 ≠ 0 ∧
     aKx.slotTx ≠ aKx.slotRx ∧ stLc [] ≠ (exchanging aKx).ledger.lc ∧ (exchanging aKx).kx.isSome = true) ∧
    (let x := { aKx with peerHello := some [1], peerCipher := none }
     let y := { aKx with peerHello := some [1], peerCipher := some [2], rekey := true }
     (exchanging x).kx = some x ∧ x.peerHello = some [1] ∧ x.peerHello ≠ none ∧ x.peerCipher = none ∧ (exchanging y).kx = some y ∧
     y.peerCipher = some [2] ∧ y.rekey = true) ∧
    (let s := port { LinkStation.init with retire := some true, sawPhase := true }
     (s.link 15).retire = some true ∧ s.mayRetire 15 true = true ∧ s.mayRetire 15 false = false ∧
     (port { LinkStation.init with retire := some false }).mayRetire 15 false = false) ∧
    (let s := withFlds (port LinkStation.init) [(.LNK_LANE_FAILED, 15, 128)]
     s.laneBad 15 7 = true) ∧
    (withRegs rdy [(.GLB_PD_STATUS, 0, 0)]).stationOn .link 15 = false ∧
    (let s := withFlds (port { LinkStation.init with up := true }) [(.LNK_LANE_WINDOW_US, 15, 1)]
     s.stationOn .link 15 = true ∧ (s.link 15).up = true ∧ (s.link 15).window = false ∧ 0 < s.fld .LNK_LANE_WINDOW_US 15) ∧
    (let s := withFlds (port { LinkStation.init with pendingMap := some 7, window := true }) [(.LNK_PORT_STATUS_STATE, 15, 3)]
     (s.link 15).pendingMap = some 7 ∧ (s.link 15).window = true ∧ s.fld .LNK_PORT_STATUS_STATE 15 = 3 ∧
     (s.link 15).sealHold = false ∧ (s.link 15).outq = [] ∧ s.linkOpen 15 = true) := by
  decide +kernel

/-! ## Witnesses: keys, life cycle, OTP -/

/-- SEED recovered, slots as given. -/
def withKeys (l : List (Nat × KeySlot)) : State := { rdy with well := { Well.init with seed := some 1, slots := l } }

theorem witness_KeyCommandsKeepTheSlotRules :
    (let s := withKeys [(0, filledSlot 4 1 0x1FF 6 0 7), (1, filledSlot 0 2 0 7 0 8)]
     s.isReady = true ∧ slotOk 511 = true ∧ (∀ r ∈ List.replicate 8 (List.replicate 64 (0 : BitVec 255)), r.length = 64) ∧
     s.well.run = none ∧ s.functional = true ∧ s.well.seed.isSome = true ∧ s.alive = true ∧ s.well.entropyOk = true ∧
     (s.keySlot 271).state = .empty ∧ (s.keySlot 0).state ≠ .empty ∧ (s.keySlot 0).state = .full ∧ (s.keySlot 0).attr = 4 ∧
     (s.keySlot 0).depth < 7 ∧ 7 ≤ (s.keySlot 1).depth ∧ (s.well.slots.filter (fun e => e.2.occupied)).length < 256 ∧
     s.slotNamed (s.descendants 8 [0]) = false ∧ s.descendants 8 [0] = [0, 1] ∧ (s.keySlot 0).state ≠ .established ∧
     s.ledger.lc ≠ 4 ∧ (s.keySlot 1).occupied = true ∧ (s.keySlot 1).parent = 0) ∧
    (let s : State := { rdy with ledger := { Ledger.init with lc := 2 } }
     s.functional = false ∧ s.well.seed = none) ∧
    (let s := withKeys ((List.range 256).map (fun n => (n, filledSlot 0 1 0x1FF 0 0 1)))
     256 ≤ (s.well.slots.filter (fun e => e.2.occupied)).length) ∧
    (let s : State := { withKeys [] with ledger := { Ledger.init with lc := 4 } }
     s.ledger.lc = 4 ∧ s.ledger.otp.helper.isEmpty = true ∧ s.well.entropyOk = true) ∧
    (let r : KeyRun := ⟨1, 0, 0x0E04, 65535, true⟩
     let s : State := { rdy with well := { Well.init with run := some r } }
     s.well.run = some r ∧ s.well.run.isSome = true ∧ r.result < 65536 ∧ r.outLen < 65536 ∧ r.zeroBuf = true) ∧
    (let s : State := { rdy with well := { Well.init with entropyOk := false } }
     s.well.entropyOk = false) := by
  decide +kernel

/-- In a life-cycle state. -/
def inLc (lc : Nat) (o : Otp) : State := { rdy with ledger := { Ledger.init with lc := lc, otp := o } }

theorem witness_LifeCycleTransitionsAndDebug :
    (let s := inLc 1 Ledger.init.otp
     s.isReady = true ∧ s.alive = true ∧ s.ledger.stuck = false ∧ s.ledger.run = none ∧ s.ledger.lc = 1 ∧
     (match s.transitionOf 2 with
      | .inr x => x.target == 2
      | .inl _ => false) = true ∧
     (match s.transitionOf 3 with
      | .inl c => c == 0x0F02
      | .inr _ => false) = true ∧ lcAllowed 1 3 = false ∧ s.ledger.otp.nextGen.isSome = true) ∧
    ((inLc 1 { Ledger.init.otp with gens := [] }).ledger.otp.nextGen = none) ∧
    (let s := inLc 2 Ledger.init.otp
     s.ledger.lc = 2 ∧ s.ledger.tokenFails < 3 ∧ (inLc 2 { Ledger.init.otp with tokens := [] }).ledger.otp.nextToken = none) ∧
    (startUpOk good = true ∧
     (let s : State := { rdy with ledger := { Ledger.init with run := some ⟨7, 0, none⟩ } }
      s.ledger.run = some ⟨7, 0, none⟩)) ∧
    (rdy.ledger.lc = 5 ∧ rdy.ledger.dbgFails < 8 ∧ rdy.well.entropyOk = true ∧ rdy.ledger.challenge = none ∧
     (inLc 4 Ledger.init.otp).ledger.lc ≠ 5 ∧
     (let s : State := { rdy with ledger := { Ledger.init with lc := 5, dbgFails := 8 } }
      8 ≤ s.ledger.dbgFails)) ∧
    ((15).testBit 2 = true ∧ (inLc 7 Ledger.init.otp).jtagAllowed 1 = true ∧ bitOf 1 (rdy.rd .LCS_DBG_STATUS 0) = false) ∧
    (∃ old ∈ Ledger.init.otp.gens, ∃ new ∈ (Ledger.init.otp.target 0 7).gens,
      old.state.getD 0 0 ≠ new.state.getD 0 0) := by
  decide +kernel

theorem witness_OtpCopiesDecodeWithMargin :
    (∀ x ∈ lcCodes, decodeCopy (x.2 ^^^ 0x7F) = .state x.1 ∧ decodeCopy (x.2 ^^^ 0xFF) = .undecodable) ∧
    decodeCopy 0x7F = .blank ∧ decodeCopy 0xFF = .undecodable ∧
    (∀ x ∈ lcCodes, votedState ⟨[x.2, 0, x.2 ^^^ 0x7F], [0, 0, 0]⟩ = some x.1) ∧
    genDone ⟨[0, 0, 0], [0, 0xFFFFFFFFFFFFFF80, 0xFFFFFFFFFFFFFFFF]⟩ = true ∧
    doneBad ⟨[0, 0, 0], [0, 0, 0xFF]⟩ = true := by
  decide +kernel

/-! ## Witnesses: monitors, spares, the Crier, registers -/

def aSample : MonitorSample := ⟨List.replicate 48 0x8000, List.replicate 32 65535, List.replicate 16 0xFFFFFFFF⟩

theorem witness_MonitorsReportTheFloorAndEnergy :
    (rdy.alive = true ∧ rdy.mon.audit = false ∧ sampleOk aSample = true ∧ rdy.clock.running = true ∧
     [PatrolTarget.keySlot 271, .counterNode 71 5 0, .tagLine 0 0, .journalStore 67, .otherRow 4095 0, .otpWord 4095].all patrolOk = true ∧
     cfgContractsOf rdy.regs 128 = [] ∧ tenantOk 128 = true ∧ tenantOk 1 = true ∧
     0 < rdy.fld .MON_CTL_TAMPER_MV ∧ rdy.fld .MON_CTL_TAMPER_MV ≤ 65535 ∧ rdy.fld .MON_CTL_ZEROIZE_EN = 0) ∧
    (let s : State := { rdy with mon := { Tally.init with audit := true, i3cAddr := some 127 } }
     s.alive = true ∧ s.mon.audit = true ∧ s.mon.i3cAddr = some 127) ∧
    (evalContract rdy.regs 65535 0).1 ≠ 0 ∧ (evalContract rdy.regs 65535 0).1 ≠ 0x0401 ∧
    (withFlds rdy [(.MON_CTL_ZEROIZE_EN, 0, 1)]).fld .MON_CTL_ZEROIZE_EN = 1 ∧
    (let s := withFlds rdy [(.MON_CLOCK_FLOOR_MHZ, 0, 2000)]
     1999 < s.fld .MON_CLOCK_FLOOR_MHZ ∧ s.fld .MON_CLOCK_FLOOR_MHZ ≤ 2000) := by
  decide +kernel

theorem witness_FailuresTakeASpareOrSayThereIsNone :
    (rdy.alive = true ∧ stationOk .memory 71 = true ∧ stationOk .link 15 = true ∧
     (∀ c ∈ [8, 611], c ∉ rdy.spr.badCores ∧ cfgCoreTag rdy.regs c = 0xFF) ∧ rdy.spr.coreSubs = [] ∧
     rdy.pickCore (611 / 9) = some 611 ∧ rdy.spr.badStewards = [] ∧ rdy.fld .SPR_REBUILD_BUSY = 0 ∧
     0 ∉ rdy.spr.badClusters ∧ countInSecond rdy.clock.gtb rdy.spr.ces 71 % 2 ^ 32 ≤ rdy.fld .SPR_CTL_MEMCH_CE_LIMIT) ∧
    (let s := withRegs rdy [(.CMP_CORE_SLICE, 0, 0xFFFFFFFFFFFFFF01)]
     cfgCoreTag s.regs 0 ≠ 0xFF ∧
     ({ s with spr := { s.spr with badCores := s.spr.badCores ++ [0] } } : State).pickCore
       (({ s with spr := { s.spr with badCores := s.spr.badCores ++ [0] } } : State).stationOf 0) = some 8) ∧
    (let s : State := { rdy with spr := { Granary.init with
        coreSubs := [⟨611, 8, false⟩], clusterSubs := [(67, 3)], badCores := [611], badClusters := [67], badMovers := [67],
        badStewards := [4] } }
     s.spr.coreSubs.find? (fun y => y.core == 611) = some ⟨611, 8, false⟩ ∧ s.cacheEmpty 611 = true ∧ s.physical 611 ≠ 8 ∧
     (s.coresBehind 67).all (fun c => s.atBoundary c && s.cacheEmpty c) = true ∧ [0, 95].all (fun u => decide (u < 96)) = true ∧
     s.spr.clusterSubs.find? (fun y => y.1 == 67) = some (67, 3) ∧ 67 ∈ s.spr.badClusters ∧ 67 ∈ s.spr.badMovers ∧
     4 ∈ s.spr.badStewards ∧ 611 ∈ s.spr.badCores ∧ 0 ∉ s.spr.badStewards ∧ s.spr.badStewards ≠ []) ∧
    (let s := withFlds rdy [(.SPR_REBUILD_BUSY, 0, 1), (.SPR_REBUILD_LEAF, 0, 1048574)]
     s.fld .SPR_REBUILD_BUSY = 1 ∧ s.fld .SPR_REBUILD_LEAF < 1048576 ∧ s.fld .SPR_REBUILD_LEAF + 1 < 1048576 ∧
     (∀ l ∈ [1048574 * 64, 1048574 * 64 + 63], l < 2 ^ 26 ∧ l / 64 = s.fld .SPR_REBUILD_LEAF) ∧
     (∀ e ∈ (s.memSt (s.fld .SPR_REBUILD_FROM)).slots, e.2.line / 64 ≠ s.fld .SPR_REBUILD_LEAF)) := by
  decide +kernel

/-- A record of ERROR 0x0102. -/
def aRec : Rec := ⟨.error, 0x0102, false, 1, 187, 5000000, 0, 1, 5000000, false⟩

/-- Crier queues. -/
def withCrier (c : Crier) : State := { rdy with crier := c }

theorem witness_RaisedEventsAreRecordedByClass :
    (causeOfCode 0x0102 = some (1, 1) ∧ rdy.fld .TRC_ALARM_CODES_PENDING 187 = 0 ∧ rdy.pdOn 23 = true ∧
     (∀ r ∈ rdy.crier.errorQ, r.matches 0x0102 1 187 = false) ∧ rdy.crier.errorQ.length < 3584 ∧
     bitOf (0x0102 / 256) (rdy.rd .TRC_TRACE_EN 0) = false) ∧
    (let s := withFlds rdy [(.TRC_ALARM_CODES_PENDING, 187, 1)]
     s.fld .TRC_ALARM_CODES_PENDING 187 = 1) ∧
    (let s := withRegs rdy [(.IRQ_CAUSE, 21, 1)]
     bitOf 0 (s.rd .IRQ_CAUSE 21) = true) ∧
    (let s := withCrier { Crier.init with errorQ := [aRec], alarmQ := [{ aRec with cls := .alarm }] }
     (∃ r ∈ s.crier.errorQ, r.matches 0x0102 1 187 = true) ∧ (s.crier.alarmQ.map Rec.source).Nodup) ∧
    (let s := withCrier { Crier.init with errorQ := List.replicate 3584 aRec, logQ := List.replicate 836 { aRec with cls := .log } }
     (∀ r ∈ s.crier.errorQ, r.matches 0x0105 1 187 = false) ∧ 3584 ≤ s.crier.errorQ.length ∧ s.crier.logQ.length ≥ 836) ∧
    (withFlds rdy [(.GLB_PD_STATUS_ON, 0, 0x7FFFFF)]).pdOn 23 = false := by
  decide +kernel

theorem witness_CrierRingsLatchesAndTheTestCause :
    (rdy.isReady = true ∧ rdy.pdOn 23 = true ∧ rdy.alive = true ∧ pathOk .host = true ∧ pathOk .steward = true ∧
     (withFlds rdy [(.GLB_PD_STATUS_ON, 0, 0)]).pdOn 23 = false ∧ mapGet 0 rdy.crier.written 2 = 0) ∧
    (let s := withRegs (withCrier { Crier.init with alarmQ := [aRec], errorQ := [aRec], logQ := [aRec], traceQ := [aRec] })
        [(.TRC_RING_BASE, 0, 4096 + 6), (.TRC_RING_BASE, 1, 2 * 4096 + 32 + 16)]
     s.crier.alarmQ = aRec :: [] ∧ ringSize 6 16 (s.rd .TRC_RING_BASE 0) = some 64 ∧
     ringSize 6 16 (s.rd .TRC_RING_BASE 1) = some 65536 ∧ bitOf 5 (s.rd .TRC_RING_BASE 0) = false ∧
     bitOf 5 (s.rd .TRC_RING_BASE 1) = true ∧ (s.nextRecord 0).isSome = true ∧ (s.nextRecord 1).isSome = true ∧
     ringSlot 64 0 0 0 = some 0 ∧ ringSlot 64 63 0 0 = none ∧ (s.nextRecord 2).isSome = true ∧
     ringSize 6 16 (s.rd .TRC_RING_BASE 2) = none) ∧
    (let s := withCrier { Crier.init with errorQ := [{ aRec with held := true }, aRec], written := [(2, 1)] }
     s.crier.alarmQ = [] ∧ s.crier.errorQ = { aRec with held := true } :: [aRec] ∧
     s.crier.errorQ.find? (fun x => !x.held) = some aRec ∧ 0 < mapGet 0 s.crier.written 2 ∧
     (withFlds s [(.TRC_CTL_IRQ_THRESHOLD, 0, 2)]).fld .TRC_CTL_IRQ_THRESHOLD ≤ mapGet 0 s.crier.written 2 + 1) ∧
    (aRec.code < 65536 ∧ aRec.slice < 256 ∧ aRec.source < 256 ∧ aRec.count < 2 ^ 32) := by
  decide +kernel

/-- Offset 0xFFFFF8 is unassigned. -/
theorem witness_UnassignedOffsetsReadZeroAndIgnoreWrites :
    regAt 0xFFFFF8 = none ∧
    (let a := hostAccess false 0xFFFFF8 8 0
     bar0Ok a = true ∧ a.bytes = 8 ∧ a.offset % 8 = 0 ∧ rdy.taken a.path a.offset = true ∧
     completes (.registerWrite a) rdy = true ∧ completes (.registerWrite { a with write := true, value := 5 }) rdy = true) := by
  decide +kernel

theorem witness_ClosedGateKeepsLockedFields :
    (let s := withFlds rdy [(.LCS_GATE_CLOSE, 0, 1)]
     let a := hostAccess true (regAddr .MON_CTL 0) 8 0xFFFFFFFFFFFFFFFF
     s.gateClosed = true ∧ bar0Ok a = true ∧ a.write = true ∧ regIdxOk .MON_CTL 0 = true ∧ a.offset = regAddr .MON_CTL 0 ∧
     bitAccess .MON_CTL 0 63 = some .lk ∧ bitAccess .MON_CTL 0 32 = some .lk ∧ completes (.registerWrite a) s = true) := by
  decide +kernel

theorem witness_AtomicOperationsCompute :
    (let a : PortAccess := rdy.stamp anAtomic [] 5 0
     124 + a.req.size ≤ 128) ∧ (0xFFFFFFFF < 2 ^ (8 * 4) ∧ 0x7FFFFFFF < 2 ^ (8 * 8)) := by
  decide +kernel

/-! ## Values that the spec's text works out -/

/-- A contract's words: word 0 to word 3, and its phases. -/
def contractRegs (c sl floor d tile rhoMem rhoCom rhoDrv : Nat) (phases : List (Nat × Nat)) : List (Reg × Nat × Nat) :=
  [(.ADM_CONTRACT, 8 * c, 2 ^ 63 + sl * 2 ^ 48 + floor * 2 ^ 32 + d * 256), (.ADM_CONTRACT, 8 * c + 1, tile * 256),
   (.ADM_CONTRACT, 8 * c + 2, 2 ^ 48 + rhoMem * 2 ^ 24 + rhoCom), (.ADM_CONTRACT, 8 * c + 3, 960 * 2 ^ 48 + rhoDrv)] ++
  (List.range phases.length).map (fun i =>
    (.ADM_CONTRACT, 8 * c + 4 + i, (phases.getD i (0, 0)).1 * 2 ^ 60 + (phases.getD i (0, 0)).2))

/-- Heron and Wren, their channels, the commons between, and the contracts of Heron (0) and Wren (2) with Wren's RHO_COM. -/
def tenants (rhoCom : Nat) : List (Nat × Word) :=
  (withRegs (withFlds (withRegs rdy
      ((List.range 12).map (fun j => (.CMP_MEMCH, j,
        (j + j / 8) * 2 ^ 16 + (if j < 8 then 1 else if j < 10 then 0xFE else 3) * 2 ^ 8 + (if j = 8 ∨ j = 9 then 1 else 0)))))
      [(.CMP_SLICE_CTL_ENABLE, 1, 1), (.CMP_SLICE_CTL_ENABLE, 3, 1), (.ADM_SLICE_BE_TILE, 1, 20 * 256)])
    ([(.CMP_COMMONS_MEMBERS_LO, 1, 5)] ++
      contractRegs 0 1 1600 8000 20 875520 160000 200000 [(1, 3060164198), (2, 268435456), (4, 70778880), (5, 96)] ++
      contractRegs 2 3 1800 600 10 200000 rhoCom 0 [(1, 16777216), (2, 8388608), (5, 12)])).regs

/-- Chapter 2: PA 0x1_2345_6780 is on port 3, PA 0x10_0000_6000 on port 10. -/
theorem test_worked_placement :
    cfgPlace (tenants 50000) 0x123456780 = some (3, 0x2468A780) ∧ cfgChanPort (tenants 50000) 3 = 3 ∧
    cfgPlace (tenants 50000) 0x1000006000 = some (9, 0x2000) ∧ cfgChanPort (tenants 50000) 9 = 10 := by
  decide +kernel

/-- Chapter 3: ADM_W[0] = 0x001E_01DF, Wren's W 443.66015625 µs and 415.69921875 µs. -/
theorem test_worked_admission :
    evalContract (tenants 50000) 1800 0 = (0, 0x001E01DF) ∧ evalContract (tenants 50000) 1800 2 = (0, 113577) ∧
    evalContract (tenants 60000) 1800 2 = (0, 106419) := by
  decide +kernel

/-- Chapter 3: Heron's memory set holds exactly at its limit, the commons at 210,000 but not at 220,000 MB/s. -/
theorem test_worked_pools :
    poolCap9 (tenants 50000) Granary.init 1800 ⟨1, 1⟩ = 9 * 8 * 115200 ∧
    poolHolds (tenants 50000) Granary.init 1800 ⟨1, 1⟩ = true ∧ poolHolds (tenants 50000) Granary.init 1800 ⟨2, 1⟩ = true ∧
    poolHolds (tenants 60000) Granary.init 1800 ⟨2, 1⟩ = false := by
  decide +kernel

/-- Chapter 4: the leaf 0x0400_0000_48D0_00E7 of the worked walk. -/
theorem test_worked_leaf :
    let e : Word := 0x0400000048D000E7
    kptKeyid e = 16 ∧ kptAddr e = 0x123400000 ∧ kptCont e = 3 ∧ kptLocal e = true ∧ kptLeaf e = true ∧ kptValid e = true ∧
    kptPermits e .read = true ∧ kptPermits e .write = false := by
  decide +kernel

/-- Chapter 6: R_max of 32 tokens, TOPK 2, CF 1.25; token 27's element 0x3F97. -/
theorem test_worked_dispatch :
    rMax [0, word (32 * 2 ^ 52 + 2 * 2 ^ 48 + 0x0140 * 2 ^ 16 + 96)] = 80 ∧
    combineElement true 2 [(0x3F200000, 0x3FC00000), (0x3D800000, 0xC0000000)] = 0x3F97 ∧ journalBytes 63 = 1072 := by
  decide +kernel

/-- Chapter 11: PA 0x4_0000_1000_4000 of chip 1 leaves by the third port of the route. -/
theorem test_worked_remote_port :
    let s := withFlds (withRegs (withTlb (page (1 * 2 ^ 50 + 0x10004000) 0xFF 0)) [(.CMP_CHIPS, 1, 2), (.XLT_ROUTE, 1, 0x000F)])
      [(.CMP_LINK_OWNER, 0, 1), (.CMP_LINK_OWNER, 1, 1), (.CMP_LINK_OWNER, 2, 1), (.CMP_LINK_OWNER, 3, 1),
       (.LNK_PORT_STATUS_STATE, 0, 2), (.LNK_PORT_STATUS_STATE, 1, 2), (.LNK_PORT_STATUS_STATE, 2, 2), (.LNK_PORT_STATUS_STATE, 3, 2)]
    s.hedge 0 (s.stamp { aRead with addr := 0 } [] 0 0) = .grant ⟨1 * 2 ^ 50 + 0x10004000, 5, none⟩ (some 2) := by
  decide +kernel

/-- Chapter 13: power lost during an unlock. Generations 0–4 are done, 5 is not; entry 2 is burned in part. -/
def halfUnlocked : Otp :=
  { Otp.init with
    gens := [2, 3, 2, 3, 2].map (fun lc => ⟨List.replicate 3 (lcCode lc), List.replicate 3 (BitVec.allOnes 64)⟩) ++
      [⟨List.replicate 3 (lcCode 3), [0, 0, 0]⟩] ++ Otp.init.gens.drop 6
    tokens := List.replicate 2 (TokenEntry.burnAll TokenEntry.init) ++
      [{ TokenEntry.init with burn := [BitVec.allOnes 64, 0xFFF, 0] }] ++ Otp.init.tokens.drop 3 }

theorem test_worked_unlock_resumes :
    lcCode 3 = 0x0000FFFF0000FFFF ∧ scanOtp halfUnlocked = .resume 5 3 ∧
    (let o := halfUnlocked.resumed 5 3
     scanOtp o = .settled 3 ∧ o.gensUsed = 6 ∧ o.tokensLeft = 5 ∧
     (o.tokens.getD 2 TokenEntry.init).burn = List.replicate 3 (BitVec.allOnes 64)) := by
  decide +kernel

/-- Chapter 17: the six entries of the first commit. -/
theorem test_worked_first_entries :
    (([(0x1000000000300000, 0), (0x10000000003035F8, 0x0000000000460000), (0x2000010000000000, 0x000000000053F000),
       (0x1000000000380400, 0xFFFFFFFFFFFF0000), (0x3000000100000000, 0), (0x1000000000380010, 1)] :
      List (Word × Word)).map (fun x => (⟨x.1, x.2⟩ : Entry).form)) =
    [.reg (regAddr .CMP_CHIPNUM 0) 0, .reg (regAddr .CMP_MEMCH 63) 0x460000, .row ⟨0, 0⟩ 258048 258068,
     .reg (regAddr .XLT_KEYOWN 0) 0xFFFFFFFFFFFF0000, .key false 0 1 0, .reg (regAddr .XLT_MGR_KEYID 0) 1] := by
  decide +kernel

/-- Chapter 2: 16 cores over 400 ms, as CORE_US counts them for the slice. -/
theorem test_core_us_counts_bound_cores :
    let s := withFlds (withRegs rdy [(.CMP_CORE_SLICE, 72 / 8, 0x0303030303030303), (.CMP_CORE_SLICE, 88 / 8, 0x0303030303030303)])
      [(.CMP_SLICE_CTL_ENABLE, 3, 1)]
    (s.advance 400000000).rd .CMP_RES_CORE_US 3 = word (16 * 400000) := by
  decide +kernel

/-- R318: a buffer of 16 bytes takes two words of three; when the host has taken them, TEN waits for the next buffer. -/
theorem test_image_waits_for_a_buffer :
    let x : SaveRun := ⟨7, 1, [], List.replicate 24 1, 0x1000, 16, 0, [], 0, [], [], 0, false⟩
    let s := ({ tenRuns 3 4 with ten := { (tenRuns 3 4).ten with save := some x } } : State).saveFlush
    s.ten.save.map (fun x => (x.rest.length, x.pos)) = some (8, 16) ∧ s.imagePosts = 1 ∧ s.fld .TEN_STATUS_BUF_WAIT = 0 ∧
    (match exec (.postedWriteTaken 0) s with
      | .next t => t.fld .TEN_STATUS_BUF_WAIT == 1
      | _ => false) = true := by
  decide +kernel

end Sys2Proof.Tests
end

/-! # The register map, the register file, the resets and the BAR0 access (chapters 0, 1, 3, 17)

The register map is unambiguous (R8, R447): its 195 arrays are laid out apart from each other. From that one fact follow the laws of
the register file that the model's own laws state under a hypothesis on offsets. -/

namespace Sys2Proof.Scope

open Sys2Proof Sys2Proof.Machine Sys2Proof.Laws

/-! ## The register map -/

/-- The offset of an array's first element. -/
def firstAddr (d : RegDef) : Nat := d.base + d.stride * d.first

/-- The offset of an array's last element. -/
def lastAddr (d : RegDef) : Nat := d.base + d.stride * d.last

/-- Two arrays share no offset: one ends before the other begins, or they interleave, with one stride and different offsets
in it. -/
def apart (a b : RegDef) : Bool :=
  decide (lastAddr a < firstAddr b) || decide (lastAddr b < firstAddr a) ||
    (decide (a.stride = b.stride) && decide (a.base % a.stride ≠ b.base % b.stride))

/-- An array stands on 8-byte offsets inside the 16 MiB of BAR0, and a register without a stride is one element, with index 0. -/
def laidOut (d : RegDef) : Bool :=
  decide (8 ∣ d.base) && decide (8 ∣ d.stride) && decide (lastAddr d < 2 ^ 24) &&
    (decide (d.stride ≠ 0) || (decide (d.first = 0) && decide (d.last = 0) && decide (0 < d.words)))

theorem mem_allRegs (r : Reg) : r ∈ allRegs := by
  have h : allRegs[r.ctorIdx]? = some r := by cases r <;> rfl
  exact List.mem_of_getElem? h

theorem laidOut_regDef (r : Reg) : laidOut (regDef r) = true := by
  have h : allRegs.all (fun r => laidOut (regDef r)) = true := by decide +kernel
  exact List.all_eq_true.mp h r (mem_allRegs r)

theorem apart_comm {a b : RegDef} (h : apart a b = true) : apart b a = true := by
  simp only [apart, Bool.or_eq_true, Bool.and_eq_true, decide_eq_true_eq] at h ⊢
  rcases h with (h | h) | ⟨hstride, hmod⟩
  · exact .inl (.inr h)
  · exact .inl (.inl h)
  · exact .inr ⟨hstride.symm, hmod.symm⟩

theorem apart_regDef {r r' : Reg} (h : r ≠ r') : apart (regDef r) (regDef r') = true := by
  have hall : (allRegs.map regDef).Pairwise (fun a b => apart a b = true) := by decide +kernel
  have hsymm : Std.Symm (fun r r' => apart (regDef r) (regDef r') = true) := ⟨fun _ _ => apart_comm⟩
  exact (List.pairwise_map.mp hall).forall (mem_allRegs r) (mem_allRegs r') h

theorem regIdxOk_iff (r : Reg) (i : Nat) :
    regIdxOk r i = true ↔ (regDef r).first ≤ i ∧ i ≤ (regDef r).last ∧ i % 8 < (regDef r).words := by
  simp [regIdxOk, and_assoc]

theorem firstAddr_le_regAddr {r : Reg} {i : Nat} (h : regIdxOk r i = true) : firstAddr (regDef r) ≤ regAddr r i :=
  Nat.add_le_add_left (Nat.mul_le_mul_left _ ((regIdxOk_iff r i).mp h).1) _

theorem regAddr_le_lastAddr {r : Reg} {i : Nat} (h : regIdxOk r i = true) : regAddr r i ≤ lastAddr (regDef r) :=
  Nat.add_le_add_left (Nat.mul_le_mul_left _ ((regIdxOk_iff r i).mp h).2.1) _

/-- A register without a stride has the one element 0. -/
theorem regIdxOk_of_stride_zero {r : Reg} (hs : (regDef r).stride = 0) (i : Nat) : regIdxOk r i = true ↔ i = 0 := by
  have h := laidOut_regDef r
  simp only [laidOut, hs, ne_eq, not_true_eq_false, decide_false, Bool.false_or, Bool.and_eq_true, decide_eq_true_eq] at h
  obtain ⟨-, ⟨hfirst, hlast⟩, hwords⟩ := h
  rw [regIdxOk_iff, hfirst, hlast]
  constructor
  · omega
  · rintro rfl
    omega

/-- Elements of different registers stand at different offsets (R8, R447). -/
theorem regAddr_ne {r r' : Reg} {i j : Nat} (h : r ≠ r') (hi : regIdxOk r i = true) (hj : regIdxOk r' j = true) :
    regAddr r i ≠ regAddr r' j := by
  intro he
  have h1 := firstAddr_le_regAddr hi
  have h2 := regAddr_le_lastAddr hi
  have h3 := firstAddr_le_regAddr hj
  have h4 := regAddr_le_lastAddr hj
  have hap := apart_regDef h
  simp only [apart, Bool.or_eq_true, Bool.and_eq_true, decide_eq_true_eq] at hap
  rcases hap with (hlt | hlt) | ⟨hstride, hmod⟩
  · omega
  · omega
  · have hm : regAddr r i % (regDef r).stride = regAddr r' j % (regDef r').stride := by rw [he, hstride]
    simp only [regAddr, Nat.add_mul_mod_self_left] at hm
    exact hmod hm

/-- Elements of one register stand at different offsets. -/
theorem regAddr_inj {r : Reg} {i j : Nat} (hi : regIdxOk r i = true) (hj : regIdxOk r j = true)
    (h : regAddr r i = regAddr r j) : i = j := by
  by_cases hs : (regDef r).stride = 0
  · rw [(regIdxOk_of_stride_zero hs i).mp hi, (regIdxOk_of_stride_zero hs j).mp hj]
  · exact Nat.eq_of_mul_eq_mul_left (Nat.pos_of_ne_zero hs) (Nat.add_left_cancel h)

theorem regIndexAt_eq_some (r : Reg) (off i : Nat) :
    regIndexAt r off = some i ↔ regIdxOk r i = true ∧ regAddr r i = off := by
  unfold regIndexAt regAddr
  by_cases hlt : off < (regDef r).base
  · simp only [hlt, if_true]
    constructor
    · intro h
      cases h
    · rintro ⟨-, h⟩
      omega
  · by_cases hs : (regDef r).stride = 0
    · simp only [hlt, hs, if_true, if_false, regIdxOk_of_stride_zero hs, Nat.zero_mul, Nat.add_zero]
      grind
    · obtain ⟨k, rfl⟩ := Nat.exists_eq_add_of_le (Nat.le_of_not_lt hlt)
      simp only [hlt, hs, if_false, Nat.add_sub_cancel_left, Nat.add_left_cancel_iff]
      constructor
      · intro h
        split at h
        · rename_i hc
          simp only [Bool.and_eq_true, decide_eq_true_eq] at hc
          cases h
          exact ⟨hc.2, Nat.mul_div_cancel' (Nat.dvd_of_mod_eq_zero hc.1)⟩
        · cases h
      · rintro ⟨hi, rfl⟩
        simp [Nat.mul_div_cancel_left _ (Nat.pos_of_ne_zero hs), hi]

theorem regIndexAt_of_regAtIn {off : Nat} {l : List Reg} {r : Reg} {i : Nat} (h : regAtIn off l = some (r, i)) :
    regIndexAt r off = some i := by
  induction l with
  | nil => cases h
  | cons x t ih =>
    simp only [regAtIn] at h
    split at h
    · cases h
      assumption
    · exact ih h

/-- A register of the list that has an element at the offset is found, unless another one is. -/
theorem regAtIn_isSome {off : Nat} {l : List Reg} {r : Reg} {i : Nat} (hr : r ∈ l) (h : regIndexAt r off = some i) :
    (regAtIn off l).isSome = true := by
  induction l with
  | nil => cases hr
  | cons x t ih =>
    simp only [regAtIn]
    split
    · rfl
    · rename_i hx
      rcases List.mem_cons.mp hr with rfl | hr
      · rw [h] at hx
        cases hx
      · exact ih hr

/-- What stands at an offset: the element whose offset it is (R4, R8). -/
theorem regAt_eq_some (off : Nat) (r : Reg) (i : Nat) :
    regAt off = some (r, i) ↔ regIdxOk r i = true ∧ regAddr r i = off := by
  constructor
  · intro h
    exact (regIndexAt_eq_some r off i).mp (regIndexAt_of_regAtIn h)
  · rintro ⟨hi, ho⟩
    obtain ⟨⟨r', j⟩, hx⟩ :=
      Option.isSome_iff_exists.mp (regAtIn_isSome (mem_allRegs r) ((regIndexAt_eq_some r off i).mpr ⟨hi, ho⟩))
    obtain ⟨hj, ho'⟩ := (regIndexAt_eq_some r' off j).mp (regIndexAt_of_regAtIn hx)
    have hrr : r' = r := by
      by_contra hne
      exact regAddr_ne hne hj hi (ho'.trans ho.symm)
    subst hrr
    rw [regAddr_inj hi hj (ho.trans ho'.symm)]
    exact hx

theorem regAt_regAddr {r : Reg} {i : Nat} (h : regIdxOk r i = true) : regAt (regAddr r i) = some (r, i) :=
  (regAt_eq_some _ r i).mpr ⟨h, rfl⟩

theorem regAt_eq_none {off : Nat} (h : ∀ r i, regIdxOk r i = true → regAddr r i ≠ off) : regAt off = none := by
  match hx : regAt off with
  | none => rfl
  | some (r, i) =>
    obtain ⟨hi, ho⟩ := (regAt_eq_some off r i).mp hx
    exact absurd ho (h r i hi)

theorem regAddr_aligned (r : Reg) (i : Nat) : regAddr r i % 8 = 0 := by
  have h := laidOut_regDef r
  simp only [laidOut, Bool.and_eq_true, decide_eq_true_eq] at h
  obtain ⟨⟨⟨hbase, hstride⟩, -⟩, -⟩ := h
  exact Nat.mod_eq_zero_of_dvd (Nat.dvd_add hbase (Dvd.dvd.mul_right hstride i))

theorem regAddr_lt {r : Reg} {i : Nat} (h : regIdxOk r i = true) : regAddr r i < 2 ^ 24 := by
  have hl := laidOut_regDef r
  simp only [laidOut, Bool.and_eq_true, decide_eq_true_eq] at hl
  obtain ⟨⟨-, hlast⟩, -⟩ := hl
  exact Nat.lt_of_le_of_lt (regAddr_le_lastAddr h) hlast

/-- Settles O9: the arrays of R447 are laid out apart, so the search among them finds the one element at an offset. -/
theorem registerMapIsUnambiguous : Obligations.RegisterMapIsUnambiguous := by
  intro off r i
  exact ⟨regAt_eq_some off r i, fun h => ⟨regAddr_aligned r i, regAddr_lt h⟩⟩

end Sys2Proof.Scope

namespace Sys2Proof.Scope

open Sys2Proof Sys2Proof.Machine Sys2Proof.Laws

/-! ## The access types (R6, R10, R14) -/

/-- Bit `k` lies in the field. -/
def holdsBit (k : Nat) (f : Field) : Bool := decide (f.lo ≤ k) && decide (k ≤ f.hi)

/-- The fields of a register table do not overlap: they stand high to low (R9). -/
theorem fields_descending (r : Reg) : (regDef r).fields.Pairwise (fun f g => g.hi < f.lo) := by
  have h : ∀ r ∈ allRegs, (regDef r).fields.Pairwise (fun f g => g.hi < f.lo) := by decide +kernel
  exact h r (mem_allRegs r)

theorem getLsbD_maskBits_field (f : Field) {k : Nat} (hk : k < 64) : (maskBits f.hi f.lo).getLsbD k = holdsBit k f := by
  simp only [getLsbD_maskBits, holdsBit, hk, decide_true, Bool.true_and, Nat.lt_succ_iff]

/-- The mask of the fields that `p` selects has the bits that lie in one of them. -/
theorem getLsbD_fieldMask (p : Field → Prop) [DecidablePred p] (l : List Field) (m : Word) {k : Nat} (hk : k < 64) :
    (l.foldl (fun m f => if p f then m ||| maskBits f.hi f.lo else m) m).getLsbD k =
      (m.getLsbD k || l.any (fun f => decide (p f) && holdsBit k f)) := by
  induction l generalizing m with
  | nil => simp
  | cons f t ih =>
    rw [List.foldl_cons, ih, List.any_cons]
    by_cases hp : p f
    · simp only [hp, if_true, BitVec.getLsbD_or, getLsbD_maskBits_field f hk, decide_true, Bool.true_and, Bool.or_assoc]
    · simp [hp]

/-- Where fields do not overlap, a bit lies in a field of type `a` exactly if the field found for it has that type. -/
theorem any_holdsBit_eq (a : Access) {l : List Field} (h : l.Pairwise (fun f g => g.hi < f.lo)) (k : Nat) :
    l.any (fun f => decide (f.acc = a) && holdsBit k f) = decide ((l.find? (holdsBit k)).map Field.acc = some a) := by
  induction l with
  | nil => rfl
  | cons f t ih =>
    obtain ⟨hf, ht⟩ := List.pairwise_cons.mp h
    by_cases hk : holdsBit k f = true
    · have hnone : t.any (fun g => decide (g.acc = a) && holdsBit k g) = false := by
        rw [List.any_eq_false]
        intro g hg hb
        have hgf := hf g hg
        simp only [holdsBit, Bool.and_eq_true, decide_eq_true_eq] at hk hb
        omega
      simp [hk, hnone]
    · simp [hk, ih ht]

theorem getLsbD_accMask (a : Access) (r : Reg) (i : Nat) {k : Nat} (hk : k < 64) :
    (accMask a r i).getLsbD k = decide (bitAccess r i k = some a) := by
  have h := any_holdsBit_eq a (fields_descending r) k
  simp only [accMask, BitVec.getLsbD_and, BitVec.getLsbD_not, getLsbD_fieldMask _ _ _ hk, h, hk]
  unfold bitAccess
  cases (fixedBits r i).getLsbD k
  · simp
    rfl
  · simp

/-- A write changes a bit as the access type of its field says. -/
theorem getLsbD_accessWord (gate : Bool) (r : Reg) (i : Nat) (old v : Word) {k : Nat} (hk : k < 64) :
    (accessWord gate r i old v).getLsbD k =
      (match bitAccess r i k with
      | some .rw => v.getLsbD k
      | some .rws => v.getLsbD k
      | some .lk => if gate then old.getLsbD k else v.getLsbD k
      | some .w1c => old.getLsbD k && !v.getLsbD k
      | some .w1s => old.getLsbD k || v.getLsbD k
      | _ => old.getLsbD k) := by
  simp only [accessWord, BitVec.getLsbD_or, BitVec.getLsbD_and, BitVec.getLsbD_not, getLsbD_accMask _ _ _ hk, hk,
    apply_ite (fun w : Word => w.getLsbD k)]
  cases bitAccess r i k with
  | none => simp
  | some a => cases a <;> cases gate <;> simp

/-- Settles O10: each bit lies in the mask of its own access type and in no other. -/
theorem accessTypesDecideEachBit : Obligations.AccessTypesDecideEachBit :=
  fun gate r i old v _ hk => getLsbD_accessWord gate r i old v hk

/-! ## The register file -/

theorem resetAt_regAddr {r : Reg} {i : Nat} (h : regIdxOk r i = true) : resetAt (regAddr r i) = resetWord r i := by
  simp [resetAt, regAt_regAddr h]

/-- A word stored at an existing element keeps the canonical form of the register file. -/
theorem mapWf_regSet {m : List (Nat × Word)} {r : Reg} {i : Nat} (v : Word) (hm : mapWf resetAt m = true)
    (h : regIdxOk r i = true) : mapWf resetAt (regSet m r i v) = true := by
  rw [regSet, ← resetAt_regAddr h]
  exact mapWf_mapSet resetAt _ v hm

/-- Settles O11: a store at an existing element puts or erases one entry, a reset drops entries. -/
theorem registerFileKeepsCanonicalForm : Obligations.RegisterFileKeepsCanonicalForm :=
  ⟨fun _ _ _ _ hm h => ⟨mapWf_regSet _ hm h, mapWf_regSet _ hm h⟩, fun _ _ _ _ hm h => mapWf_regSet _ hm h,
    fun _ _ hm => mapWf_filter resetAt _ hm, rfl⟩

/-- A read of a filtered table, where the filter decides by the key. -/
theorem mapGet_filter {α : Type} (d : α) (m : List (Nat × α)) (p : Nat × α → Bool) (k : Nat) {b : Bool}
    (h : ∀ v, p (k, v) = b) : mapGet d (m.filter p) k = if b then mapGet d m k else d := by
  induction m with
  | nil => simp [mapGet]
  | cons e t ih =>
    obtain ⟨j, v⟩ := e
    by_cases hj : j = k
    · subst hj
      cases b <;> simp [h, mapGet, ih]
    · cases hp : p (j, v) <;> simp [hp, mapGet, hj, ih]

theorem regGet_resetRegs (dom : ResetDomain) (m : List (Nat × Word)) {r : Reg} {i : Nat} (h : regIdxOk r i = true) :
    regGet (resetRegs dom m) r i = if survives dom r then regGet m r i else resetWord r i :=
  mapGet_filter _ _ _ _ (fun _ => by simp [regAt_regAddr h])

/-- Settles O12, by the reset domain and the register's own. -/
theorem resetDomainsDecideWhatSurvives : Obligations.ResetDomainsDecideWhatSurvives := by
  intro dom m r i h
  rw [regGet_resetRegs dom m h]
  cases dom <;> cases hd : (regDef r).domain <;> simp [survives, hd]

/-- A store at one register leaves every element of another. -/
theorem rd_wr_other (s : State) {r r' : Reg} {i j : Nat} (v : Word) (hne : r ≠ r') (hi : regIdxOk r i = true)
    (hj : regIdxOk r' j = true) : (s.wr r' j v).rd r i = s.rd r i := rd_wr_ne s v (regAddr_ne hne hi hj)

/-- Settles O7: a reset register file is empty, so every element reads its reset value; that of each enable is 0. -/
theorem resetStateIsSound : Obligations.ResetStateIsSound := by
  refine ⟨⟨?_, by simp [State.reset]⟩, rfl, rfl, rfl, fun _ _ => rfl⟩
  have h1 : State.reset.rd .IRQ_ENABLE 0 = 0 := by decide +kernel
  have h2 : State.reset.rd .IRQ_STW_ENABLE 0 = 0 := by decide +kernel
  simp [State.linesDriven, State.intN, State.stewardInt, h1, h2]
  rfl

end Sys2Proof.Scope

namespace Sys2Proof.Scope

open Sys2Proof Sys2Proof.Machine Sys2Proof.Laws

/-! ## Which registers an operation can change -/

/-- From `s` to `t` no register element outside the registers of `l` changes. -/
structure KeepsRegs (l : List Reg) (s t : State) : Prop where
  rd : ∀ {r : Reg} {i : Nat}, regIdxOk r i = true → r ∉ l → t.rd r i = s.rd r i

variable {l : List Reg} {s t u : State}

theorem KeepsRegs.refl (l : List Reg) (s : State) : KeepsRegs l s s := ⟨fun _ _ => rfl⟩

theorem KeepsRegs.trans (h : KeepsRegs l s t) (k : KeepsRegs l t u) : KeepsRegs l s u :=
  ⟨fun hi hr => (k.rd hi hr).trans (h.rd hi hr)⟩

theorem KeepsRegs.mono {l' : List Reg} (h : KeepsRegs l s t) (hl : l ⊆ l') : KeepsRegs l' s t :=
  ⟨fun hi hr => h.rd hi (fun hm => hr (hl hm))⟩

theorem KeepsRegs.fld (h : KeepsRegs l s t) {f : Fld} {i : Nat} (hi : regIdxOk f.reg i = true) (hr : f.reg ∉ l) :
    t.fld f i = s.fld f i := by
  have hrd := h.rd hi hr
  simp only [State.rd] at hrd
  simp only [State.fld, fldGet, hrd]

theorem keepsRegs_of_regs_eq (l : List Reg) (h : t.regs = s.regs) : KeepsRegs l s t :=
  ⟨fun _ _ => by simp [State.rd, h]⟩

theorem keepsRegs_crier (l : List Reg) (s : State) (c : Crier) : KeepsRegs l s { s with crier := c } :=
  keepsRegs_of_regs_eq l rfl

theorem keepsRegs_wr (s : State) {r : Reg} {j : Nat} (v : Word) (hr : r ∈ l) (hj : regIdxOk r j = true) :
    KeepsRegs l s (s.wr r j v) := ⟨fun hi hni => rd_wr_other s v (fun he => hni (he ▸ hr)) hi hj⟩

theorem keepsRegs_setFld (s : State) {f : Fld} {j : Nat} (v : Nat) (hr : f.reg ∈ l) (hj : regIdxOk f.reg j = true) :
    KeepsRegs l s (s.setFld f j v) := keepsRegs_wr s _ hr hj

theorem keepsRegs_ite {c : Prop} [Decidable c] {a b : State} (ha : KeepsRegs l s a) (hb : KeepsRegs l s b) :
    KeepsRegs l s (if c then a else b) := by
  split
  · exact ha
  · exact hb

/-- A loop keeps what each of its rounds keeps. -/
theorem keepsRegs_forEach {α : Type} (as : List α) (s : State) (f : α → State → State)
    (h : ∀ a ∈ as, ∀ s, KeepsRegs l s (f a s)) : KeepsRegs l s (forEach as s f) := by
  induction as generalizing s with
  | nil => exact KeepsRegs.refl l s
  | cons a as ih =>
    exact (h a (List.mem_cons_self ..) s).trans (ih (f a s) (fun b hb => h b (List.mem_cons_of_mem _ hb)))

/-! ### What a command leaves -/

/-- `t` is `u` but for the interrupt lines and the queue: the shape of every state that a command leaves. -/
def LeftBy (u t : State) : Prop := t = { u with pins := t.pins, pending := t.pending }

theorem leftBy_withPins (u : State) (p : Pins) (q : List Instr) : LeftBy u { ({ u with pins := p } : State) with pending := q } :=
  rfl

theorem leftBy_drivePins (u : State) (q : List Instr) : LeftBy u { u.drivePins with pending := q } := leftBy_withPins u _ q

theorem LeftBy.rd (h : LeftBy u t) (r : Reg) (i : Nat) : t.rd r i = u.rd r i := by
  unfold State.rd
  rw [congrArg State.regs h]

theorem LeftBy.fld (h : LeftBy u t) (f : Fld) (i : Nat) : t.fld f i = u.fld f i := by
  unfold State.fld
  rw [congrArg State.regs h]

/-- A command answers what holds of every state that is its effect but for the lines and the queue. -/
theorem answers_of_leaves {c : Instr} {P : State → Prop} (h : Leaves c s u) (hp : ∀ t, LeftBy u t → P t) : Answers c s P :=
  ⟨_, h, hp _ (leftBy_drivePins u s.pending)⟩

/-! ### Raising an event (R407–R415) -/

/-- The registers that raising an event can change: the cause, the latch of an ALARM's source, the counts of drops. -/
def eventRegs : List Reg :=
  [.IRQ_CAUSE, .TRC_ALARM_CODES, .TRC_ALARM_FIRST_GTB, .TRC_ALARM_LAST_GTB, .TRC_ALARM_DETAIL, .TRC_OFF_DROPS, .TRC_DROP]

/-- IRQ_CAUSE has the elements 1 to 21 (R407). -/
theorem regIdxOk_irqCause {n : Nat} (h : 1 ≤ n ∧ n ≤ 21) : regIdxOk .IRQ_CAUSE n = true := by
  simp only [regIdxOk_iff, regDef]
  omega

theorem keepsRegs_setCause (s : State) {n : Nat} (b : Nat) (h : 1 ≤ n ∧ n ≤ 21) : KeepsRegs eventRegs s (s.setCause n b) :=
  keepsRegs_wr s _ (by decide) (regIdxOk_irqCause h)

/-- A choice among values that all satisfy `P` satisfies it. -/
theorem forall_mem_ite_some {α : Type} {P : α → Prop} {c : Prop} [Decidable c] {a : α} {o : Option α} (ha : P a)
    (ho : ∀ x ∈ o, P x) : ∀ x ∈ (if c then some a else o), P x := by
  split
  · simpa using ha
  · exact ho

/-- The cause bit of a code stands in an element of IRQ_CAUSE (R408). -/
theorem causeOfCode_range (code : Nat) : ∀ x ∈ causeOfCode code, 1 ≤ x.1 ∧ x.1 ≤ 21 := by
  unfold causeOfCode
  repeat refine forall_mem_ite_some (by decide) ?_
  nofun

/-- The state with the cause bit of a code set, if R408 gives it one. -/
def withCause (s : State) (code : Nat) : State :=
  match causeOfCode code with
  | some (n, b) => s.setCause n b
  | none => s

theorem keepsRegs_withCause (s : State) (code : Nat) : KeepsRegs eventRegs s (withCause s code) := by
  unfold withCause
  split
  · rename_i n b h
    exact keepsRegs_setCause s b (causeOfCode_range code (n, b) h)
  · exact KeepsRegs.refl ..

theorem keepsRegs_countOff (s : State) (isError : Bool) : KeepsRegs eventRegs s (s.countOff isError) := by
  have h1 := keepsRegs_setFld (l := eventRegs) s (f := .TRC_OFF_DROPS_COUNT) (j := 0)
    (saturate 32 (s.fld .TRC_OFF_DROPS_COUNT 0 + 1)) (by decide) rfl
  cases isError
  · exact h1
  · exact h1.trans (keepsRegs_setFld _ (f := .TRC_OFF_DROPS_ERRORS) _ (by decide) rfl)

theorem keepsRegs_queueError (s : State) (code slice source : Nat) (detail : Word) :
    KeepsRegs eventRegs s (s.queueError code slice source detail) := by
  unfold State.queueError
  simp only
  split
  · exact keepsRegs_crier ..
  · exact (keepsRegs_crier _ s _).trans (keepsRegs_setCause _ _ (by decide))

/-- The elements of the alarm latches, one for each source (R409, R412). -/
theorem regIdxOk_latch {source : Nat} (h : source < 188) :
    regIdxOk .TRC_ALARM_CODES source = true ∧ regIdxOk .TRC_ALARM_FIRST_GTB source = true ∧
      regIdxOk .TRC_ALARM_LAST_GTB source = true ∧ regIdxOk .TRC_ALARM_DETAIL source = true ∧
      regIdxOk .TRC_DROP source = true := by
  simp only [regIdxOk_iff, regDef]
  omega

theorem keepsRegs_queueAlarm (s : State) (code slice : Nat) {source : Nat} (detail : Word) (h : source < 188) :
    KeepsRegs eventRegs s (s.queueAlarm code slice source detail) := by
  obtain ⟨hcodes, hfirst, hlast, hdetail, -⟩ := regIdxOk_latch h
  have hq : ∀ (u : State) (c : Crier), KeepsRegs eventRegs s u →
      KeepsRegs eventRegs s (if u.pdOn 23 then { u with crier := c } else u) := fun u c hu =>
    keepsRegs_ite (hu.trans (keepsRegs_crier _ u c)) hu
  unfold State.queueAlarm
  simp only
  split
  · exact hq _ _ ((((keepsRegs_wr _ _ (by decide) hcodes).trans (keepsRegs_wr _ _ (by decide) hfirst)).trans
      (keepsRegs_wr _ _ (by decide) hlast)).trans (keepsRegs_wr _ _ (by decide) hdetail))
  · exact hq _ _ (((keepsRegs_setFld _ (f := .TRC_ALARM_CODES_LAST_CODE) _ (by decide) hcodes).trans
      (keepsRegs_setFld _ (f := .TRC_ALARM_CODES_COUNT) _ (by decide) hcodes)).trans (keepsRegs_wr _ _ (by decide) hlast))

theorem keepsRegs_queueLog (s : State) (trace : Bool) (code slice : Nat) {source : Nat} (detail : Word) (h : source < 188) :
    KeepsRegs eventRegs s (s.queueLog trace code slice source detail) := by
  have hdrop := (regIdxOk_latch h).2.2.2.2
  have hgap : ∀ (c : Crier) (f : Fld), f.reg = .TRC_DROP →
      KeepsRegs eventRegs s ((({ s with crier := c } : State).bump f source).setCause 0x13 4) := by
    intro c f hf
    have hbump : ∀ v, KeepsRegs eventRegs ({ s with crier := c } : State) (({ s with crier := c } : State).setFld f source v) :=
      fun v => keepsRegs_setFld _ v (by rw [hf]; decide) (by rw [hf]; exact hdrop)
    exact ((keepsRegs_crier _ s c).trans (hbump _)).trans (keepsRegs_setCause _ _ (by decide))
  unfold State.queueLog
  cases trace <;> simp only [Bool.false_eq_true, if_true, if_false] <;> split
  · exact hgap _ _ rfl
  · exact keepsRegs_crier ..
  · exact hgap _ _ rfl
  · exact keepsRegs_crier ..

/-- Raising an event under an existing source changes registers of `eventRegs` only. -/
theorem keepsRegs_raise (s : State) (cls : EventClass) (code slice : Nat) {source : Nat} (detail : Word) (h : source < 188) :
    KeepsRegs eventRegs s (s.raise cls code slice source detail) := by
  have hu := keepsRegs_withCause s code
  have hlog : ∀ trace, KeepsRegs eventRegs s (if (withCause s code).pdOn 23
      then (withCause s code).queueLog trace code slice source detail else (withCause s code).countOff false) := fun trace =>
    keepsRegs_ite (hu.trans (keepsRegs_queueLog _ trace code slice detail h)) (hu.trans (keepsRegs_countOff ..))
  cases cls with
  | alarm => exact hu.trans (keepsRegs_queueAlarm _ code slice detail h)
  | error => exact keepsRegs_ite (hu.trans (keepsRegs_queueError _ code slice source detail)) (hu.trans (keepsRegs_countOff ..))
  | log => exact hlog false
  | trace => exact keepsRegs_ite (hlog true) hu

theorem keepsRegs_err (s : State) {code : Nat} (slice : Nat) (detail : Word) (h : code / 256 < 188) :
    KeepsRegs eventRegs s (s.err code slice detail) := keepsRegs_raise s .error code slice detail h

theorem keepsRegs_alarm (s : State) {code : Nat} (slice : Nat) (detail : Word) (h : code / 256 < 188) :
    KeepsRegs eventRegs s (s.alarm code slice detail) := keepsRegs_raise s .alarm code slice detail h

/-! ### The passing of time (R33, R68) -/

/-- The residency counters. -/
def timeRegs : List Reg := [.CMP_RES_TIME_NS, .CMP_RES_CORE_US, .CMP_RES_MEMCH_US, .CMP_RES_LINK_US, .CMP_COMMONS_RES_MEMCH_US]

theorem keepsRegs_meterSlice (t n : Nat) {sl : Nat} (h : sl < 129) (s : State) : KeepsRegs timeRegs s (meterSlice t n sl s) := by
  have hok : regIdxOk .CMP_RES_TIME_NS sl = true ∧ regIdxOk .CMP_RES_CORE_US sl = true ∧
      regIdxOk .CMP_RES_MEMCH_US sl = true ∧ regIdxOk .CMP_RES_LINK_US sl = true := by
    simp only [regIdxOk_iff, regDef]
    omega
  obtain ⟨htime, hcore, hmem, hlink⟩ := hok
  unfold meterSlice
  simp only
  have ht := keepsRegs_wr s (s.rd .CMP_RES_TIME_NS sl + word n) (l := timeRegs) (by decide) htime
  exact keepsRegs_ite (keepsRegs_ite ht (((ht.trans (keepsRegs_wr _ _ (by decide) hcore)).trans
    (keepsRegs_wr _ _ (by decide) hmem)).trans (keepsRegs_wr _ _ (by decide) hlink))) (KeepsRegs.refl ..)

theorem keepsRegs_meterCommons (us : Nat) {n : Nat} (h : 1 ≤ n ∧ n < 128) (s : State) :
    KeepsRegs timeRegs s (meterCommons us n s) :=
  keepsRegs_wr _ _ (by decide) (by simp only [regIdxOk_iff, regDef]; omega)

/-- The passing of time changes the residency counters and no other register. -/
theorem keepsRegs_advance (s : State) (n : Nat) : KeepsRegs timeRegs s (s.advance n) := by
  have hslices : ∀ u : State, KeepsRegs timeRegs u (forEach (List.range 129) u (meterSlice s.clock.gtb n)) := fun u =>
    keepsRegs_forEach _ u _ (fun _ ha => keepsRegs_meterSlice _ _ (List.mem_range.mp ha))
  have hcommons : ∀ us, ∀ u : State, KeepsRegs timeRegs u (forEach (List.range' 1 127) u (meterCommons us)) := fun us u =>
    keepsRegs_forEach _ u _ (fun a ha => keepsRegs_meterCommons us (by simpa using ha))
  have hend : ∀ (u : State) (c : Clock) (m : Tally), KeepsRegs timeRegs s u →
      KeepsRegs timeRegs s { u with clock := c, mon := m } := fun u _ _ hu => hu.trans (keepsRegs_of_regs_eq _ rfl)
  have hsched : ∀ x : Sched, KeepsRegs timeRegs s { s with sched := x } := fun _ => keepsRegs_of_regs_eq _ rfl
  unfold State.advance
  split
  · exact KeepsRegs.refl ..
  split
  · exact keepsRegs_of_regs_eq _ rfl
  · simp only
    refine hend _ _ _ ?_
    split
    · exact (hsched _).trans (hslices _)
    · exact ((hsched _).trans (hslices _)).trans (hcommons _ _)

end Sys2Proof.Scope

namespace Sys2Proof.Scope

open Sys2Proof Sys2Proof.Machine Sys2Proof.Laws

/-! ## The BAR0 access (R5–R7, R10, R13, R14, R438) -/

variable {a : Bar0Access} {s : State}

theorem exec_registerWrite (s : State) (hown : ownRowWrite a = false) :
    exec (.registerWrite a) s = onUnit s (bar0Ok a) (if a.bar = 0 then s.bar0 a else s.barAccess a) := by
  show execRegisterWrite a s = _
  simp [execRegisterWrite, hown]

theorem leaves_bar0 (ha : s.alive = true) (hok : bar0Ok a = true) (hbar : a.bar = 0) (hown : ownRowWrite a = false) :
    Leaves (.registerWrite a) s (s.bar0 a) := by
  have h := exec_registerWrite s hown
  rw [if_pos hbar] at h
  exact leaves_of h hok ha

theorem leaves_barAccess (ha : s.alive = true) (hok : bar0Ok a = true) (hbar : a.bar ≠ 0) :
    Leaves (.registerWrite a) s (s.barAccess a) := by
  have hown : ownRowWrite a = false := by simp [ownRowWrite, hbar]
  have h := exec_registerWrite s hown
  rw [if_neg hbar] at h
  exact leaves_of h hok ha

theorem ownRowWrite_read (hw : a.write = false) : ownRowWrite a = false := by simp [ownRowWrite, hw]

theorem ownRowWrite_unassigned (h : regAt a.offset = none) : ownRowWrite a = false := by simp [ownRowWrite, h]

theorem ownRowWrite_assigned {r : Reg} {i : Nat} (h : regAt a.offset = some (r, i)) (hn : needsOwnRow r a.value = false) :
    ownRowWrite a = false := by simp [ownRowWrite, h, hn]

/-! ### Which accesses are taken -/

theorem reaches_host (ha : s.alive = true) (hstep : 3 ≤ s.step) : s.reaches .host = true := by
  simp [State.reaches, ha, hstep]

theorem reaches_host_of_ready (h : s.isReady = true) : s.reaches .host = true :=
  reaches_host (isReady_alive h) (by simp [isReady_step h])

theorem alive_of_taken {path : Path} {off : Nat} (h : s.taken path off = true) : s.alive = true := by
  simp only [State.taken, Bool.and_eq_true] at h
  exact h.1

/-- An access that is taken reaches the registers. -/
theorem reaches_of_taken {path : Path} {off : Nat} (h : s.taken path off = true) : s.reaches path = true := by
  simp only [State.taken, Bool.and_eq_true] at h
  obtain ⟨ha, hp⟩ := h
  cases path with
  | host =>
    simp only [Bool.and_eq_true, decide_eq_true_eq] at hp
    exact reaches_host ha hp.1
  | steward => simpa [State.reaches, ha] using hp
  | fm => cases hp

/-- Before READY a host write outside the early blocks is discarded with 0x1505 (R438). -/
theorem gated_early (t : State) {off : Nat} (ha : s.alive = true) (h3 : 3 ≤ s.step) (h9 : s.step ≤ 9)
    (he : earlyBlock off = false) : s.gated .host off t = s.err 0x1505 0 (word off) := by
  have hne : s.step ≠ 10 := by omega
  simp [State.gated, State.taken, State.discardEarly, ha, h3, hne, he]

/-! ### The branches of an access -/

theorem bar0_unreached (h : s.reaches a.path = false) : s.bar0 a = s := by simp [State.bar0, h]

theorem bar0_malformed (h : s.reaches a.path = true) (hbad : a.bytes ≠ 8 ∨ a.offset % 8 ≠ 0) (hw : a.write = true) :
    s.bar0 a = s.bar0Error a := by
  rw [State.bar0, h, if_neg (by simp), if_pos hbad]
  simp [hw]

theorem bar0_write (h : s.reaches a.path = true) (hb : a.bytes = 8) (hal : a.offset % 8 = 0) (hw : a.write = true) :
    s.bar0 a = s.writeReg a.path a.offset a.value := by simp [State.bar0, h, hb, hal, hw]

theorem bar0_read (h : s.reaches a.path = true) (hb : a.bytes = 8) (hal : a.offset % 8 = 0) (hw : a.write = false) :
    s.bar0 a = s.readAccess a := by simp [State.bar0, h, hb, hal, hw]

/-- A read of any register but STG_CS_REFUSE sends its data and does nothing else (R74). -/
theorem readAccess_eq (s : State) (h : ∀ i, regAt a.offset ≠ some (.STG_CS_REFUSE, i)) :
    s.readAccess a = s.readRegData a.path a.tag (s.readReg a.path a.offset) := by
  -- `h` excludes the first branch of the match, which `simp` finds among the hypotheses
  simp only [State.readAccess]

theorem writeReg_unassigned (path : Path) {off : Nat} (v : Word) (h : regAt off = none) :
    s.writeReg path off v = s.gated path off s := by simp [State.writeReg, hasSt, h]

/-- A write to a register without ST fields that starts no command is R438's gate over a write by the access types. -/
theorem writeReg_plain {path : Path} {off : Nat} {v : Word} {r : Reg} {i : Nat} (hst : hasSt off = false)
    (h : regAt off = some (r, i)) (hc : commandWrite path r i v s = none) :
    s.writeReg path off v = s.gated path off (plainWrite path r i v s) := by simp [State.writeReg, hst, h, hc]

/-- The registers whose write has a follow-up. -/
def followUpRegs : List Reg :=
  [.GLB_PD_REQ, .STG_ENTRY_W0, .IRQ_CAUSE, .TEN_MBX_WIN, .OBJ_TABLE_BASE, .STW_IMG_CTL, .SCH_CTL, .HIF_CTL, .XLT_FR_BASE,
    .OBJ_NR_BASE]

theorem plainWrite_eq (path : Path) {r : Reg} (i : Nat) (v : Word) (s : State) (h : r ∉ followUpRegs) :
    plainWrite path r i v s = s.accessWrite r i v := by
  unfold plainWrite
  -- each named branch is a register of `followUpRegs`; the last is the write by the access types
  split <;> simp [followUpRegs] at h ⊢

/-! ### Reads -/

theorem readReg_unassigned (s : State) (path : Path) {off : Nat} (h : regAt off = none) : s.readReg path off = 0 := by
  simp [State.readReg, h]

/-- A bit that lies in no field but write-only ones is not shown (R6, R10). -/
theorem getLsbD_readMask {r : Reg} {k : Nat} (i : Nat)
    (h : ∀ f ∈ (regDef r).fields, f.acc ≠ .wo → ¬ (f.lo ≤ k ∧ k ≤ f.hi)) : (readMask r i).getLsbD k = false := by
  by_cases hk : k < 64
  · have hall : ((regDef r).fields.foldl (fun m f => if f.acc = .wo then m else m ||| maskBits f.hi f.lo)
        (0 : Word)).getLsbD k = false := by
      have hmask := getLsbD_fieldMask (fun f => ¬ f.acc = .wo) (regDef r).fields 0 hk
      simp only [ite_not] at hmask
      rw [hmask]
      simp only [BitVec.ofNat_eq_ofNat, BitVec.getLsbD_zero, Bool.false_or, List.any_eq_false]
      intro f hf hb
      simp only [holdsBit, Bool.and_eq_true, decide_eq_true_eq] at hb
      exact h f hf hb.1 hb.2
    unfold readMask
    simp only
    split <;> simp only [BitVec.getLsbD_and, hall, Bool.false_and]
  · exact BitVec.getLsbD_of_ge _ _ (Nat.le_of_not_lt hk)

theorem getLsbD_readReg {path : Path} {off : Nat} {r : Reg} {i k : Nat} (hr : regAt off = some (r, i))
    (h : ∀ f ∈ (regDef r).fields, f.acc ≠ .wo → ¬ (f.lo ≤ k ∧ k ≤ f.hi)) : (s.readReg path off).getLsbD k = false := by
  simp only [State.readReg, hr, BitVec.getLsbD_and, getLsbD_readMask i h, Bool.and_false]

/-! ### Unassigned offsets (R7) -/

/-- Settles O59: the search of the register map finds nothing there, so a read shows 0 and a write has nothing to change. -/
theorem unassignedOffsetsReadZeroAndIgnoreWrites : Obligations.UnassignedOffsetsReadZeroAndIgnoreWrites := by
  intro a s hbar hok hb hal ht hno
  have hr : regAt a.offset = none := regAt_eq_none hno
  have hleaves := leaves_bar0 (alive_of_taken ht) hok hbar (ownRowWrite_unassigned hr)
  refine ⟨fun hw => ?_, fun hw => ?_⟩
  · rw [bar0_read (reaches_of_taken ht) hb hal hw, readAccess_eq s (by simp [hr]), readReg_unassigned s _ hr] at hleaves
    exact hleaves
  · rwa [bar0_write (reaches_of_taken ht) hb hal hw, writeReg_unassigned _ _ hr, gated_of_taken _ ht] at hleaves

/-! ### LK fields (R14) -/

/-- The registers with an LK field. -/
def lkRegs : List Reg := [.ADM_THETA, .TEN_MIG_ALLOW, .LNK_PEER_ALLOW, .MON_CTL]

theorem mem_lkRegs {r : Reg} {i k : Nat} (h : bitAccess r i k = some .lk) : r ∈ lkRegs := by
  have hall : ∀ r ∈ allRegs, (∃ f ∈ (regDef r).fields, f.acc = .lk) → r ∈ lkRegs := by decide +kernel
  refine hall r (mem_allRegs r) ?_
  unfold bitAccess at h
  split at h
  · cases h
  · obtain ⟨f, hf, hacc⟩ := Option.map_eq_some_iff.mp h
    exact ⟨f, List.mem_of_find?_eq_some hf, hacc⟩

/-- A register with an LK field holds no ST field, starts no command and has no follow-up. -/
theorem lkRegs_plain {r : Reg} (h : r ∈ lkRegs) :
    (∀ i, accMask .st r i = 0) ∧ (∀ path i v s, commandWrite path r i v s = none) ∧ (∀ v, needsOwnRow r v = false) ∧
      r ∉ followUpRegs ∧ r ∉ .HIF_BAR0_ERR :: .HIF_LAST_ERR :: eventRegs := by
  have hst : ∀ r ∈ lkRegs, ∀ f ∈ (regDef r).fields, f.acc ≠ .st := by decide +kernel
  refine ⟨fun i => ?_, ?_⟩
  · refine BitVec.eq_of_getLsbD_eq fun k hk => ?_
    simp only [getLsbD_accMask _ _ _ hk, BitVec.ofNat_eq_ofNat, BitVec.getLsbD_zero, decide_eq_false_iff_not]
    intro hb
    unfold bitAccess at hb
    split at hb
    · cases hb
    · obtain ⟨f, hf, hacc⟩ := Option.map_eq_some_iff.mp hb
      exact hst r h f (List.mem_of_find?_eq_some hf) hacc
  · simp only [lkRegs, List.mem_cons, List.not_mem_nil, or_false] at h
    rcases h with rfl | rfl | rfl | rfl <;>
      exact ⟨fun _ _ _ _ => rfl, fun _ => rfl, by decide, by decide⟩

theorem keepsRegs_hifErr (s : State) {code : Nat} (q pasid slice : Nat) (h : code / 256 < 188) :
    KeepsRegs (.HIF_LAST_ERR :: eventRegs) s (s.hifErr code q pasid slice) :=
  (keepsRegs_wr s _ (by decide) rfl).trans ((keepsRegs_err _ slice (word q) h).mono (by decide))

theorem keepsRegs_bar0Error (s : State) (a : Bar0Access) :
    KeepsRegs (.HIF_BAR0_ERR :: .HIF_LAST_ERR :: eventRegs) s (s.bar0Error a) :=
  (keepsRegs_wr s _ (by decide) rfl).trans ((keepsRegs_hifErr (code := 0x0101) _ 0 0 0 (by decide)).mono (by decide))

theorem keepsRegs_discardEarly (s : State) (path : Path) (off : Nat) : KeepsRegs eventRegs s (s.discardEarly path off) :=
  keepsRegs_ite (keepsRegs_err s 0 (word off) (by decide)) (KeepsRegs.refl ..)

/-- With the gate closed, an access to an LK field's register keeps the field's bits. -/
theorem bar0_keeps_lkBit {r : Reg} {i k : Nat} (hg : s.gateClosed = true) (hw : a.write = true) (hi : regIdxOk r i = true)
    (ho : a.offset = regAddr r i) (hk : k < 64) (hlk : bitAccess r i k = some .lk) :
    ((s.bar0 a).rd r i).getLsbD k = (s.rd r i).getLsbD k := by
  obtain ⟨hst, hcmd, -, hfollow, hother⟩ := lkRegs_plain (mem_lkRegs hlk)
  have hr : regAt a.offset = some (r, i) := ho ▸ regAt_regAddr hi
  by_cases hreach : s.reaches a.path = true
  · by_cases hwell : a.bytes = 8 ∧ a.offset % 8 = 0
    · have hnst : hasSt a.offset = false := by simp [hasSt, hr, hst i]
      rw [bar0_write hreach hwell.1 hwell.2 hw, writeReg_plain hnst hr (hcmd ..), plainWrite_eq _ _ _ _ hfollow, State.gated]
      split
      · simp [State.accessWrite, getLsbD_accessWord _ _ _ _ _ hk, hlk, hg]
      · rw [(keepsRegs_discardEarly s _ _).rd hi (fun hm => hother (by simp [hm]))]
    · have hbad : a.bytes ≠ 8 ∨ a.offset % 8 ≠ 0 := by
        by_contra hc
        exact hwell (by simpa using hc)
      rw [bar0_malformed hreach hbad hw, (keepsRegs_bar0Error s a).rd hi hother]
  · rw [bar0_unreached (by simpa using hreach)]

/-- Settles O60: every branch of the access keeps the bits; where the write is taken, by the access types. -/
theorem closedGateKeepsLockedFields : Obligations.ClosedGateKeepsLockedFields := by
  intro a s r i k hg hbar hok hw hi ho hk hlk
  have hr : regAt a.offset = some (r, i) := ho ▸ regAt_regAddr hi
  have hexec := exec_registerWrite s (ownRowWrite_assigned hr ((lkRegs_plain (mem_lkRegs hlk)).2.2.1 a.value))
  rw [if_pos hbar] at hexec
  by_cases ha : s.alive = true
  · refine answers_of_leaves (leaves_of hexec hok ha) fun t ht => ?_
    rw [ht.rd, bar0_keeps_lkBit hg hw hi ho hk hlk]
  · refine answers_of_leaves (hexec.trans (onUnit_dead hok (by simpa using ha))) fun t ht => ?_
    rw [ht.rd]

end Sys2Proof.Scope

namespace Sys2Proof.Scope

open Sys2Proof Sys2Proof.Machine Sys2Proof.Laws

/-! ## Reads and writes by windows (R5–R7, R10, R13, R42, R279, R299, R438) -/

variable {a : Bar0Access} {s : State}

/-- A host read sends the readable bits of the register. -/
theorem leaves_hostRead (ha : s.alive = true) (h3 : 3 ≤ s.step) (hp : a.path = .host) (hbar : a.bar = 0) (hok : bar0Ok a = true)
    (hw : a.write = false) (hb : a.bytes = 8) (hal : a.offset % 8 = 0) (hr : ∀ i, regAt a.offset ≠ some (.STG_CS_REFUSE, i)) :
    Leaves (.registerWrite a) s (s.emit (.hostData a.tag (s.readReg .host a.offset))) := by
  have hleaves := leaves_bar0 ha hok hbar (ownRowWrite_read hw)
  rw [bar0_read (by rw [hp]; exact reaches_host ha h3) hb hal hw, readAccess_eq s hr, State.readRegData, hp, if_pos rfl] at hleaves
  exact hleaves

/-- A host write at an assigned offset without ST fields and without a command of its own is R438's gate over it. -/
theorem leaves_hostWrite {r : Reg} {i : Nat} (ha : s.alive = true) (h3 : 3 ≤ s.step) (hp : a.path = .host) (hbar : a.bar = 0)
    (hok : bar0Ok a = true) (hw : a.write = true) (hb : a.bytes = 8) (hal : a.offset % 8 = 0) (hst : hasSt a.offset = false)
    (hr : regAt a.offset = some (r, i)) (hc : commandWrite .host r i a.value s = none) (hn : needsOwnRow r a.value = false) :
    Leaves (.registerWrite a) s (s.gated .host a.offset (plainWrite .host r i a.value s)) := by
  have hleaves := leaves_bar0 ha hok hbar (ownRowWrite_assigned hr hn)
  rw [bar0_write (by rw [hp]; exact reaches_host ha h3) hb hal hw, hp, writeReg_plain hst hr hc] at hleaves
  exact hleaves

/-- At READY such a write changes the register by its access types, where the register has no follow-up. -/
theorem leaves_hostWrite_ready {r : Reg} {i : Nat} (h : s.isReady = true) (hp : a.path = .host) (hbar : a.bar = 0)
    (hok : bar0Ok a = true) (hw : a.write = true) (hb : a.bytes = 8) (hal : a.offset % 8 = 0) (hst : hasSt a.offset = false)
    (hr : regAt a.offset = some (r, i)) (hc : commandWrite .host r i a.value s = none) (hn : needsOwnRow r a.value = false)
    (hf : r ∉ followUpRegs) :
    Leaves (.registerWrite a) s (s.wr r i (accessWord s.gateClosed r i (s.rd r i) a.value)) := by
  have hleaves := leaves_hostWrite (isReady_alive h) (by simp [isReady_step h]) hp hbar hok hw hb hal hst hr hc hn
  rw [gated_ready_host h, plainWrite_eq _ _ _ _ hf] at hleaves
  exact hleaves

/-- At READY a host write at an unassigned offset changes nothing (R7). -/
theorem leaves_hostWrite_unassigned (h : s.isReady = true) (hp : a.path = .host) (hbar : a.bar = 0) (hok : bar0Ok a = true)
    (hw : a.write = true) (hb : a.bytes = 8) (hal : a.offset % 8 = 0) (hr : regAt a.offset = none) :
    Leaves (.registerWrite a) s s := by
  have hleaves := leaves_bar0 (isReady_alive h) hok hbar (ownRowWrite_unassigned hr)
  rw [bar0_write (by rw [hp]; exact reaches_host_of_ready h) hb hal hw, hp, writeReg_unassigned _ _ hr, gated_ready_host h]
    at hleaves
  exact hleaves

/-- A host write of another size or alignment is recorded and writes nothing (R5, R299). -/
theorem leaves_hostWrite_malformed (ha : s.alive = true) (h3 : 3 ≤ s.step) (hp : a.path = .host) (hbar : a.bar = 0)
    (hok : bar0Ok a = true) (hw : a.write = true) (hown : ownRowWrite a = false) (hbad : a.bytes ≠ 8 ∨ a.offset % 8 ≠ 0) :
    Leaves (.registerWrite a) s ((s.wr .HIF_BAR0_ERR 0 (putFields 0 [(.HIF_BAR0_ERR_WRITE, 1),
      (.HIF_BAR0_ERR_BYTES, a.bytes), (.HIF_BAR0_ERR_OFFSET, a.offset)])).hifErr 0x0101 0 0) := by
  have hleaves := leaves_bar0 ha hok hbar hown
  rw [bar0_malformed (by rw [hp]; exact reaches_host ha h3) hbad hw, State.bar0Error, hw] at hleaves
  exact hleaves

/-- A write to a register with ST fields enters the host's selected set, or is discarded where none is selected (R13). -/
theorem leaves_stFieldWrite {off : Nat} (v : Word) (h : s.isReady = true) (hst : hasSt off = true) :
    Leaves (.stFieldWrite .host off v) s (s.stageSelected .host ⟨setBits 63 60 1 (word off), v⟩) := by
  have hexec : exec (.stFieldWrite .host off v) s = onUnit s (pathOk .host && hasSt off)
      (s.gated .host off (s.stageSelected .host ⟨setBits 63 60 1 (word off), v⟩)) := rfl
  rw [gated_ready_host h] at hexec
  exact leaves_of hexec (by simp [pathOk, hst]) (isReady_alive h)

/-- At READY an access through another BAR reaches its window. -/
theorem barAccess_ready (h : s.isReady = true) : s.barAccess a = if a.bar = 2 then s.bar2 a else s.bar4 a := by
  simp [State.barAccess, reaches_host_of_ready h, h]

theorem barData_read (s : State) (v : Word) (hw : a.write = false) : s.barData a v = s.emit (.hostData a.tag v) := by
  simp [State.barData, State.readRegData, hw]

/-- A well-formed read of a doorbell page (R279). -/
theorem bar2_read (s : State) (hb : a.bytes = 8) (hal : a.offset % 8 = 0) (hw : a.write = false) :
    s.bar2 a = if s.doorbellOk (a.offset / 4096) a.pasid = false
      then (s.emit (.hostData a.tag 0)).err 0x0603 (s.qSlice (a.offset / 4096)) (word (a.offset / 4096))
      else s.emit (.hostData a.tag (if a.offset % 4096 = 0x10 then s.doorbellWord (a.offset / 4096) else 0)) := by
  have hwell : ¬ (a.bytes ≠ 8 ∨ a.offset % 4096 % 8 ≠ 0) := by omega
  simp only [State.bar2, barData_read _ _ hw]
  rw [if_neg hwell]
  simp [hw]

/-- A well-formed read of the mailbox of an enabled slice (R300). -/
theorem bar4_read (s : State) (hb : a.bytes = 8) (hal : a.offset % 8 = 0) (hw : a.write = false)
    (hsl : a.offset / 16384 + 1 ≤ 128) (he : cfgEnabled s.regs (a.offset / 16384 + 1) = true) :
    s.bar4 a = if s.mailboxMapped (a.offset / 16384 + 1) a.pasid = false
      then (s.emit (.hostData a.tag 0)).tenErr 0x0603 (a.offset / 16384 + 1)
      else s.emit (.hostData a.tag (s.mbx (a.offset / 16384 + 1) (a.offset % 16384 / 8))) := by
  have hwell : ¬ (a.bytes ≠ 8 ∨ a.offset % 16384 % 8 ≠ 0 ∨ cfgEnabled s.regs (a.offset / 16384 + 1) = false) := by
    rw [he]
    simp only [reduceCtorEq, or_false]
    omega
  simp only [State.bar4, barData_read _ _ hw]
  rw [if_neg (by omega), if_neg hwell]
  simp [hw]

/-- Settles O17, window by window. -/
theorem registerAccessReadsAndWrites : Obligations.RegisterAccessReadsAndWrites := by
  refine ⟨?_, ?_, ?_, ?_, ?_, ?_, ?_, ?_, ?_, ?_, ?_⟩
  · intro a s ha h3 hp hbar hok hw hb hal hr
    exact leaves_hostRead ha h3 hp hbar hok hw hb hal hr
  · intro s path off h
    exact readReg_unassigned s path h
  · intro s path off r i k hr h
    exact getLsbD_readReg hr h
  · intro a s r i h hp hbar hok hw hb hal hst hr hc hn hf
    exact leaves_hostWrite_ready h hp hbar hok hw hb hal hst hr hc hn hf
  · intro a s h hp hbar hok hw hb hal hr _
    exact leaves_hostWrite_unassigned h hp hbar hok hw hb hal hr
  · intro a s ha h3 hp hbar hok hw hown hbad
    exact leaves_hostWrite_malformed ha h3 hp hbar hok hw hown hbad
  · intro a s r i ha h3 h9 hp hbar hok hw hb hal hst hr hc hn he
    have hleaves := leaves_hostWrite ha h3 hp hbar hok hw hb hal hst hr hc hn
    rwa [gated_early _ ha h3 h9 he] at hleaves
  · intro off v s i h hst hsel
    have hleaves := leaves_stFieldWrite v h hst
    simpa only [State.stageSelected, if_true, hsel] using hleaves
  · intro off v s h hst hsel
    have hleaves := leaves_stFieldWrite v h hst
    simp only [State.stageSelected, if_true, hsel, State.ticketErr, reduceCtorEq, if_false] at hleaves
    exact hleaves
  · intro a s h hbar hok hb hal hw
    have hleaves := leaves_barAccess (isReady_alive h) hok (by omega)
    rw [barAccess_ready h, if_pos hbar, bar2_read s hb hal hw] at hleaves
    exact ⟨fun hd => by simpa [hd] using hleaves, fun hd => by simpa [hd] using hleaves⟩
  · intro a s sl h hbar hok hb hal hw hsl h128 he
    subst hsl
    have hleaves := leaves_barAccess (isReady_alive h) hok (by omega)
    rw [barAccess_ready h, if_neg (by omega), bar4_read s hb hal hw h128 he] at hleaves
    exact ⟨fun hm => by simpa [hm] using hleaves, fun hm => by simpa [hm] using hleaves⟩

end Sys2Proof.Scope

namespace Sys2Proof.Scope

open Sys2Proof Sys2Proof.Machine Sys2Proof.Laws

/-! ## The passing of time leaves the rest (R33, R68) -/

variable {s t u : State} {x : StartUp}

/-- From `s` to `t` only the register file changes. -/
def OnlyRegs (s t : State) : Prop := t = { s with regs := t.regs }

theorem OnlyRegs.refl (s : State) : OnlyRegs s s := rfl

theorem OnlyRegs.trans (h : OnlyRegs s t) (k : OnlyRegs t u) : OnlyRegs s u := by
  unfold OnlyRegs at *
  rw [k, h]

theorem onlyRegs_wr (s : State) (r : Reg) (i : Nat) (v : Word) : OnlyRegs s (s.wr r i v) := rfl

theorem onlyRegs_meterSlice (t n sl : Nat) (s : State) : OnlyRegs s (meterSlice t n sl s) := by
  unfold meterSlice
  simp only
  split
  · split
    · exact onlyRegs_wr ..
    · exact (((onlyRegs_wr ..).trans (onlyRegs_wr ..)).trans (onlyRegs_wr ..)).trans (onlyRegs_wr ..)
  · exact OnlyRegs.refl s

/-- The counters of R68 that a step of the GTB advances, after which only the register file differs. -/
theorem onlyRegs_meters (t n us : Nat) (s : State) :
    OnlyRegs s (if us = 0 then forEach (List.range 129) s (meterSlice t n)
      else forEach (List.range' 1 127) (forEach (List.range 129) s (meterSlice t n)) (meterCommons us)) := by
  have hslices := forEach_rel OnlyRegs OnlyRegs.refl (fun _ _ _ => OnlyRegs.trans) (meterSlice t n)
    (fun a s => onlyRegs_meterSlice t n a s) (List.range 129) s
  split
  · exact hslices
  · exact hslices.trans (forEach_rel OnlyRegs OnlyRegs.refl (fun _ _ _ => OnlyRegs.trans) (meterCommons us)
      (fun _ s => onlyRegs_wr s _ _ _) (List.range' 1 127) _)

theorem advance_clock (s : State) (n : Nat) (h : s.clock.running = true) :
    (s.advance n).clock = { s.clock with gtb := s.clock.gtb + n } := by
  unfold State.advance
  split
  · rename_i hn
    rcases hn with rfl | hr
    · rfl
    · rw [h] at hr
      cases hr
  split
  · rfl
  · simp only
    rw [onlyRegs_meters]

/-- Without residents there is no credit to advance. -/
theorem advance_sched (s : State) (n : Nat) (h : s.sched.residents = []) : (s.advance n).sched = s.sched := by
  have hs : ({ s.sched with residents := [] } : Sched) = s.sched := by rw [← h]
  unfold State.advance
  split
  · rfl
  split
  · rfl
  · simp only
    rw [onlyRegs_meters]
    simp only [h, List.map_nil, hs]

/-! ## The start-up sequence (R431–R441) -/

/-- The registers that the sequence can change from STEP 2 to its stop or to STEP 5. -/
def startUpRegs : List Reg := .GLB_PD_STATUS :: .KEY_STATUS :: .GLB_BOOT :: eventRegs

/-- From `s` to `t` the start-up sequence has gone on: registers of `startUpRegs`, the Well but for the measurements of
the images, KEY_ZEROIZE_REQ and the Crier's queues can have changed. -/
structure StartsUp (s t : State) : Prop where
  only : t = { s with regs := t.regs, well := t.well, mon := t.mon, crier := t.crier }
  regs : KeepsRegs startUpRegs s t
  meas : t.well.measOpgar = s.well.measOpgar ∧ t.well.measPolicy = s.well.measPolicy

theorem StartsUp.trans (h : StartsUp s t) (k : StartsUp t u) : StartsUp s u :=
  ⟨by rw [k.only, h.only], h.regs.trans k.regs, k.meas.1.trans h.meas.1, k.meas.2.trans h.meas.2⟩

theorem startsUp_wr (s : State) {r : Reg} {j : Nat} (v : Word) (hr : r ∈ startUpRegs) (hj : regIdxOk r j = true) :
    StartsUp s (s.wr r j v) := ⟨rfl, keepsRegs_wr s v hr hj, rfl, rfl⟩

theorem startsUp_setFld (s : State) {f : Fld} {j : Nat} (v : Nat) (hr : f.reg ∈ startUpRegs) (hj : regIdxOk f.reg j = true) :
    StartsUp s (s.setFld f j v) := startsUp_wr s _ hr hj

theorem startsUp_mon (s : State) (m : Tally) : StartsUp s { s with mon := m } := ⟨rfl, keepsRegs_of_regs_eq _ rfl, rfl, rfl⟩

theorem startsUp_alarm (s : State) {code : Nat} (h : code / 256 < 188) : StartsUp s (s.alarm code) where
  only := by rw [State.alarm, onlyEvents_raise s .alarm code 0 (code / 256) 0]
  regs := (keepsRegs_alarm s 0 0 h).mono (by decide)
  meas := by simp only [alarm_well, and_self]

theorem keepsRegs_setOn (s : State) (ds : List Nat) : KeepsRegs (.GLB_PD_STATUS :: eventRegs) s (s.setOn ds) :=
  (keepsRegs_wr s _ (by decide) rfl).trans ((keepsRegs_setCause _ 1 (by decide)).mono (by decide))

theorem startsUp_setOn (s : State) (ds : List Nat) : StartsUp s (s.setOn ds) :=
  ⟨rfl, (keepsRegs_setOn s ds).mono (by decide), rfl, rfl⟩

theorem startsUp_toStep (s : State) (n : Nat) : StartsUp s (s.toStep n) :=
  (startsUp_setFld s n (by decide) rfl).trans (startsUp_setFld _ _ (by decide) rfl)

/-- Whatever depends on nothing that the sequence, the lines or the queue change is in `t` as it was in `s`. -/
theorem StartsUp.keeps (hu : StartsUp s u) (ht : LeftBy u t) {β : Type} (f : State → β)
    (hf : ∀ (m : List (Nat × Word)) (w : Well) (n : Tally) (c : Crier) (p : Pins) (q : List Instr),
      f { s with regs := m, well := w, mon := n, crier := c, pins := p, pending := q } = f s) : f t = f s := by
  rw [ht, hu.only]
  exact hf ..

/-- The sequence goes on from `s` and changes STEP to `n` last, so that ELAPSED_US is that of `s` (R433). -/
def EndsAt (n : Nat) (s t : State) : Prop := ∃ v, StartsUp s v ∧ t = v.toStep n

theorem EndsAt.startsUp {n : Nat} (h : EndsAt n s t) : StartsUp s t := by
  obtain ⟨v, hv, rfl⟩ := h
  exact hv.trans (startsUp_toStep v n)

/-! ### GLB_BOOT (R433, R435) -/

theorem step_toStep (s : State) {n : Nat} (h : n < 16) : (s.toStep n).step = n := by
  rw [State.step, State.toStep, fld_setFld_other _ .GLB_BOOT_ELAPSED_US .GLB_BOOT_STEP _ _ rfl (.inl (by decide)),
    fld_setFld_same _ _ _ _ (by decide)]
  exact Nat.mod_eq_of_lt h

theorem elapsed_toStep (s : State) (n : Nat) :
    (s.toStep n).fld .GLB_BOOT_ELAPSED_US = saturate 24 (s.clock.gtb / 1000) := by
  rw [State.toStep, fld_setFld_same _ _ _ _ (by decide)]
  exact Nat.mod_eq_of_lt (Nat.lt_of_le_of_lt (Nat.min_le_right ..) (by decide))

theorem code_toStep (s : State) (n : Nat) : (s.toStep n).fld .GLB_BOOT_CODE = s.fld .GLB_BOOT_CODE := by
  rw [State.toStep, fld_setFld_other _ .GLB_BOOT_ELAPSED_US .GLB_BOOT_CODE _ _ rfl (.inr (by decide)),
    fld_setFld_other _ .GLB_BOOT_STEP .GLB_BOOT_CODE _ _ rfl (.inr (by decide))]

theorem code_failBoot (s : State) {code : Nat} (h : code < 65536) : (s.failBoot code).fld .GLB_BOOT_CODE = code := by
  rw [State.failBoot, code_toStep, fld_setFld_same _ _ _ _ (by decide)]
  exact Nat.mod_eq_of_lt h

theorem keyStatus_toStep (s : State) (n : Nat) {f : Fld} (h : f.reg = .KEY_STATUS) : (s.toStep n).fld f = s.fld f := by
  have hne : ∀ g : Fld, g.reg = .GLB_BOOT → regAddr f.reg 0 ≠ regAddr g.reg 0 := fun g hg => by
    rw [h, hg]
    decide
  rw [State.toStep, fld_setFld_ne _ _ _ _ (hne _ rfl), fld_setFld_ne _ _ _ _ (hne _ rfl)]

theorem EndsAt.step {n : Nat} (h : EndsAt n s t) (hn : n < 16) : t.step = n := by
  obtain ⟨v, -, rfl⟩ := h
  exact step_toStep v hn

theorem EndsAt.elapsed {n : Nat} (h : EndsAt n s t) : t.fld .GLB_BOOT_ELAPSED_US = saturate 24 (s.clock.gtb / 1000) := by
  obtain ⟨v, hv, rfl⟩ := h
  rw [elapsed_toStep, congrArg State.clock hv.only]

theorem endsAt_failBoot (h : StartsUp s t) (code : Nat) : EndsAt 15 s (t.failBoot code) :=
  ⟨_, h.trans (startsUp_setFld t code (by decide) rfl), rfl⟩

/-! ### The sequence from STEP 2, where nothing fails but the root secret -/

/-- A start in a functional life-cycle state, with a random source that passes, no dead domain and no GO that waits. -/
structure CleanStart (x : StartUp) (s : State) : Prop where
  functional : s.functional = true
  entropy : x.entropyOk = true
  domains : x.dead = none
  noGo : s.boot.goKept = false

/-- What STEP 4 leaves in the Well: M_ROM, one draw for BOOT_NONCE, and the identity of SEED. -/
def romDone (s : State) : State :=
  { s with well := { s.well with
      measRom := fit 48 Config.measRom, requests := 1, entropyOk := true, bootNonce := Config.random s.well.draws,
      draws := s.well.draws + 1,
      deviceId := match s.well.seed with
        | some k => sha384 (identityKeys k)
        | none => zeroDigest } }

theorem romDone_fld (s : State) (f : Fld) (i : Nat) : (romDone s).fld f i = s.fld f i := rfl

theorem startsUp_romDone (s : State) : StartsUp s (romDone s) := ⟨rfl, keepsRegs_of_regs_eq _ rfl, rfl, rfl⟩

theorem bootRom_eq (h : s.boot.goKept = false) : s.bootRom true = (romDone s).toStep 5 := by
  simp only [State.bootRom, State.draw, State.waitImage, h, if_true, Bool.false_eq_true, if_false]
  rfl

theorem bootOn_eq (h : CleanStart x s) : s.bootOn x = (s.setOn fixedDomains).bootPuf x := by
  simp [State.bootOn, State.bootDomains, h.functional, h.domains]

/-- STEP 3 of an enrolled part shows the number of attempts (R340). -/
def pufCounted (x : StartUp) (s : State) : State :=
  s.setFld .KEY_STATUS_PUF_TRIES 0 (pufTries s.ledger.otp 0 x.puf).1

/-- The Well holds the SEED that an attempt recovered (R340). -/
def seeded (k : Key) (s : State) : State :=
  ({ s with well := { s.well with seed := some k } } : State).setFld .KEY_STATUS_SEED_OK 0 1

theorem bootPuf_unenrolled (x : StartUp) (h : s.ledger.unenrolled = true) :
    s.bootPuf x = (s.setFld .KEY_STATUS_UNENROLLED 0 1).bootRom x.entropyOk := by
  rw [State.bootPuf, if_pos h]

theorem bootPuf_recovered (h : s.ledger.unenrolled = false) {k : Key} (hk : (pufTries s.ledger.otp 0 x.puf).2 = some k) :
    s.bootPuf x = (seeded k (pufCounted x s)).bootRom x.entropyOk := by
  rw [State.bootPuf, h, if_neg (by simp)]
  simp only [hk]
  rfl

theorem bootPuf_unrecovered (h : s.ledger.unenrolled = false) (hk : (pufTries s.ledger.otp 0 x.puf).2 = none) :
    s.bootPuf x = ((pufCounted x s).alarm 0x0E01).failBoot 0x0E01 := by
  rw [State.bootPuf, h, if_neg (by simp)]
  simp only [hk]
  rfl

theorem startsUp_pufCounted (x : StartUp) (s : State) : StartsUp s (pufCounted x s) := startsUp_setFld s _ (by decide) rfl

theorem startsUp_seeded (k : Key) (s : State) : StartsUp s (seeded k s) :=
  (⟨rfl, keepsRegs_of_regs_eq _ rfl, rfl, rfl⟩ : StartsUp s { s with well := { s.well with seed := some k } }).trans
    (startsUp_setFld _ 1 (by decide) rfl)

/-- An unenrolled part has no SEED and goes on to STEP 5 (R342). -/
theorem bootOn_unenrolled (h : CleanStart x s) (hu : s.ledger.unenrolled = true) :
    EndsAt 5 s (s.bootOn x) ∧ (s.bootOn x).well.seed = s.well.seed ∧ (s.bootOn x).fld .KEY_STATUS_UNENROLLED = 1 := by
  have he : s.bootOn x = (romDone ((s.setOn fixedDomains).setFld .KEY_STATUS_UNENROLLED 0 1)).toStep 5 := by
    rw [bootOn_eq h, bootPuf_unenrolled x (s := s.setOn fixedDomains) hu, h.entropy]
    exact bootRom_eq h.noGo
  refine ⟨⟨_, ?_, he⟩, by rw [he]; rfl, ?_⟩
  · exact ((startsUp_setOn ..).trans (startsUp_setFld _ 1 (by decide) rfl)).trans (startsUp_romDone _)
  · rw [he, keyStatus_toStep _ _ rfl, romDone_fld]
    exact fld_setFld_same _ _ _ _ (by decide)

/-- Where an attempt recovers SEED, the Well holds it and its identity, and the sequence goes on to STEP 5 (R340, R344). -/
theorem bootOn_recovered (h : CleanStart x s) (hu : s.ledger.unenrolled = false) {k : Key}
    (hk : (pufTries s.ledger.otp 0 x.puf).2 = some k) :
    EndsAt 5 s (s.bootOn x) ∧ (s.bootOn x).well.seed = some k ∧ (s.bootOn x).fld .KEY_STATUS_SEED_OK = 1 ∧
      (s.bootOn x).well.deviceId = sha384 (identityKeys k) := by
  have he : s.bootOn x = (romDone (seeded k (pufCounted x (s.setOn fixedDomains)))).toStep 5 := by
    rw [bootOn_eq h, bootPuf_recovered (s := s.setOn fixedDomains) hu hk, h.entropy]
    exact bootRom_eq h.noGo
  refine ⟨⟨_, ?_, he⟩, by rw [he]; rfl, ?_, by rw [he]; rfl⟩
  · exact (((startsUp_setOn ..).trans (startsUp_pufCounted x _)).trans (startsUp_seeded k _)).trans (startsUp_romDone _)
  · rw [he, keyStatus_toStep _ _ rfl, romDone_fld]
    exact fld_setFld_same _ _ _ _ (by decide)

/-- Where no attempt does, the sequence stops at STEP 15 with 0x0E01 (R340, R435). -/
theorem bootOn_unrecovered (h : CleanStart x s) (hu : s.ledger.unenrolled = false)
    (hk : (pufTries s.ledger.otp 0 x.puf).2 = none) :
    EndsAt 15 s (s.bootOn x) ∧ (s.bootOn x).well.seed = s.well.seed ∧ (s.bootOn x).fld .GLB_BOOT_CODE = 0x0E01 := by
  have he : s.bootOn x = ((pufCounted x (s.setOn fixedDomains)).alarm 0x0E01).failBoot 0x0E01 := by
    rw [bootOn_eq h, bootPuf_unrecovered (s := s.setOn fixedDomains) hu hk]
  refine ⟨he ▸ endsAt_failBoot ?_ _, ?_, he ▸ code_failBoot _ (by decide)⟩
  · exact ((startsUp_setOn ..).trans (startsUp_pufCounted x _)).trans (startsUp_alarm _ (by decide))
  · have hwell : (((pufCounted x (s.setOn fixedDomains)).alarm 0x0E01).failBoot 0x0E01).well = s.well := alarm_well ..
    rw [he, hwell]

/-- However the attempts end, the sequence changes only what `StartsUp` allows. -/
theorem startsUp_bootOn (h : CleanStart x s) : StartsUp s (s.bootOn x) := by
  cases hu : s.ledger.unenrolled with
  | true => exact (bootOn_unenrolled h hu).1.startsUp
  | false =>
    cases hk : (pufTries s.ledger.otp 0 x.puf).2 with
    | some k => exact (bootOn_recovered h hu hk).1.startsUp
    | none => exact (bootOn_unrecovered h hu hk).1.startsUp

/-- LC_HALT: STEP 14, and CODE 0x0F01 for INVALID (R381, R435). -/
theorem bootOn_lcHalt (x : StartUp) (h : s.functional = false) :
    EndsAt 14 s (s.bootOn x) ∧
      (s.bootOn x).fld .GLB_BOOT_CODE = if s.ledger.lc = 0 then 0x0F01 else s.fld .GLB_BOOT_CODE := by
  have hb : s.bootOn x = s.lcHalt := by simp [State.bootOn, h]
  have hon := startsUp_setOn s fixedDomains
  by_cases hlc : s.ledger.lc = 0
  · have he : s.lcHalt = ((({ s.setOn fixedDomains with mon := { s.mon with zeroize := true } } : State).alarm 0x0F01).setFld
        .GLB_BOOT_CODE 0 0x0F01).toStep 14 := if_pos hlc
    rw [hb, he, if_pos hlc, code_toStep, fld_setFld_same _ _ _ _ (by decide)]
    exact ⟨⟨_, ((hon.trans (startsUp_mon ..)).trans (startsUp_alarm _ (by decide))).trans
      (startsUp_setFld _ _ (by decide) rfl), rfl⟩, rfl⟩
  · have he : s.lcHalt = (s.setOn fixedDomains).toStep 14 := if_neg hlc
    rw [hb, he, if_neg hlc, code_toStep]
    refine ⟨⟨_, hon, rfl⟩, ?_⟩
    exact (keepsRegs_setOn s fixedDomains).fld (f := .GLB_BOOT_CODE) rfl (by decide)

end Sys2Proof.Scope

namespace Sys2Proof.Scope

open Sys2Proof Sys2Proof.Machine Sys2Proof.Laws

/-! ### RST_POR_N (R431, R433, R435) -/

variable {s : State} {x : StartUp}

/-- The block released from RST_POR_N, with the time the silicon takes gone by (R433). -/
def released (x : StartUp) (s : State) : State :=
  ({ s.porClear with boot := { s.porClear.boot with porHeld := false },
                     clock := { s.porClear.clock with running := true } } : State).advance x.elapsedNs

/-- The block after a scan that settles on `lc` (R372). -/
def scanned (x : StartUp) (s : State) (lc : Nat) : State :=
  { released x s with ledger := { (released x s).ledger with lc := lc } }

theorem leaves_porRelease {lc : Nat} (hpor : s.boot.porHeld = true) (hok : startUpOk x = true)
    (hscan : scanOtp s.ledger.otp = .settled lc) : Leaves (.porRelease x) s ((scanned x s lc).bootOn x) := by
  have hotp : scanOtp (released x s).ledger.otp = .settled lc := by
    rw [released, advance_ledger]
    exact hscan
  have hexec : exec (.porRelease x) s = onBlock s (startUpOk x) (if s.boot.porHeld then (released x s).bootScan x else s) := rfl
  rw [if_pos hpor, State.bootScan, hotp] at hexec
  exact leaves_onBlock hexec hok

theorem released_clock (x : StartUp) (s : State) : (released x s).clock = ⟨x.elapsedNs, true, [], []⟩ := by
  rw [released, advance_clock _ _ rfl]
  simp only [State.porClear, Clock.init, Nat.zero_add]

theorem released_boot (x : StartUp) (s : State) : (released x s).boot = ⟨false, false, false, false, false⟩ := by
  rw [released, advance_boot]
  rfl

theorem released_otp (x : StartUp) (s : State) : (released x s).ledger.otp = s.ledger.otp := by
  rw [released, advance_ledger]
  rfl

theorem released_seed (x : StartUp) (s : State) : (released x s).well.seed = none := by
  rw [released, advance_well]
  rfl

/-- No time that passes sets a code. -/
theorem released_code (x : StartUp) (s : State) : (released x s).fld .GLB_BOOT_CODE = 0 := by
  have hreset : fldGet [] .GLB_BOOT_CODE 0 = 0 := by decide
  exact ((keepsRegs_advance _ x.elapsedNs).fld (f := .GLB_BOOT_CODE) (i := 0) rfl (by decide)).trans hreset

theorem scanned_unenrolled (x : StartUp) (s : State) (lc : Nat) :
    (scanned x s lc).ledger.unenrolled = true ↔ lc = 4 ∧ s.ledger.otp.helper = [] := by
  simp [scanned, Ledger.unenrolled, released_otp]

/-- What a release leaves wherever the sequence ends, before what depends on its end. -/
theorem released_frame {lc n : Nat} {t : State} {Q : Prop} (he : EndsAt n (scanned x s lc) ((scanned x s lc).bootOn x))
    (ht : LeftBy ((scanned x s lc).bootOn x) t) (hq : Q) :
    t.clock = ⟨x.elapsedNs, true, [], []⟩ ∧ t.boot.porHeld = false ∧ t.boot.supplyOff = false ∧ t.ledger.lc = lc ∧
      t.fld .GLB_BOOT_ELAPSED_US = saturate 24 (x.elapsedNs / 1000) ∧ Q := by
  have hclock : (scanned x s lc).clock = ⟨x.elapsedNs, true, [], []⟩ := released_clock x s
  have hboot : t.boot = ⟨false, false, false, false, false⟩ :=
    (he.startsUp.keeps ht State.boot fun _ _ _ _ _ _ => rfl).trans (released_boot x s)
  refine ⟨(he.startsUp.keeps ht State.clock fun _ _ _ _ _ _ => rfl).trans hclock, by rw [hboot], by rw [hboot],
    he.startsUp.keeps ht (fun u => u.ledger.lc) fun _ _ _ _ _ _ => rfl, ?_, hq⟩
  rw [ht.fld, he.elapsed, hclock]

/-- Settles O13: the reset's state, and the sequence by the life-cycle state that the scan gives. -/
theorem startUpReachesWaitImageOrStops : Obligations.StartUpReachesWaitImageOrStops := by
  refine ⟨fun s => rfl, ?_⟩
  intro x s lc hpor hok hent hdead hscan
  refine answers_of_leaves (leaves_porRelease hpor hok hscan) fun t ht => ?_
  have hwell := congrArg State.well ht
  have hnone := released_seed x s
  by_cases hlc : 3 ≤ lc ∧ lc ≤ 6
  · have hclean : CleanStart x (scanned x s lc) :=
      ⟨by simp [State.functional, scanned, hlc], hent, hdead, by simp only [scanned, released_boot]⟩
    have hotp : (scanned x s lc).ledger.otp = s.ledger.otp := released_otp x s
    rw [if_pos hlc]
    by_cases hu : lc = 4 ∧ s.ledger.otp.helper = []
    · obtain ⟨he, hseed, hflag⟩ := bootOn_unenrolled hclean ((scanned_unenrolled x s lc).mpr hu)
      rw [if_pos hu]
      exact released_frame he ht ⟨(ht.fld ..).trans (he.step (by decide)), by rw [hwell, hseed]; exact hnone,
        (ht.fld ..).trans hflag⟩
    · have hu' : (scanned x s lc).ledger.unenrolled = false := by
        rwa [← Bool.not_eq_true, scanned_unenrolled]
      rw [if_neg hu]
      cases hk : (pufTries s.ledger.otp 0 x.puf).2 with
      | some k =>
        obtain ⟨he, hseed, hflag, hid⟩ := bootOn_recovered hclean hu' (hotp ▸ hk)
        exact released_frame he ht ⟨(ht.fld ..).trans (he.step (by decide)), by rw [hwell, hseed], (ht.fld ..).trans hflag,
          by rw [hwell, hid]⟩
      | none =>
        obtain ⟨he, hseed, hstop⟩ := bootOn_unrecovered hclean hu' (hotp ▸ hk)
        exact released_frame he ht ⟨(ht.fld ..).trans (he.step (by decide)), by rw [hwell, hseed]; exact hnone,
          (ht.fld ..).trans hstop⟩
  · obtain ⟨he, hstop⟩ := bootOn_lcHalt x (s := scanned x s lc) (decide_eq_false hlc)
    have hcode : (scanned x s lc).fld .GLB_BOOT_CODE = 0 := released_code x s
    rw [if_neg hlc]
    rw [hcode] at hstop
    exact released_frame he ht ⟨(ht.fld ..).trans (he.step (by decide)), (ht.fld ..).trans hstop⟩

/-! ### RST_SYS_N (R16, R435, R440, R441) -/

/-- The block at STEP 2 after RST_SYS_N: the SYS domain cleared, and the time the silicon takes gone by. -/
def restarted (x : StartUp) (s : State) : State := s.sysClear.advance x.elapsedNs

/-- A stop with a code that only POR leaves stays (R435). -/
theorem leaves_sysReset_stuck (ha : s.alive = true) (hok : startUpOk x = true)
    (h : s.step = 15 ∧ s.fld .GLB_BOOT_CODE ≠ 0x1506) :
    Leaves (.sysReset x) s (((restarted x s).setOn fixedDomains).failBoot (s.fld .GLB_BOOT_CODE)) := by
  refine leaves_of ?_ hok ha
  show execSysReset x s = _
  simp [execSysReset, ha, h, restarted]

theorem leaves_sysReset (ha : s.alive = true) (hok : startUpOk x = true)
    (h : ¬ (s.step = 15 ∧ s.fld .GLB_BOOT_CODE ≠ 0x1506)) : Leaves (.sysReset x) s ((restarted x s).bootOn x) := by
  have hd : (decide (s.step = 15) && decide (s.fld .GLB_BOOT_CODE ≠ 0x1506)) = false := by
    rwa [← Bool.not_eq_true, Bool.and_eq_true, decide_eq_true_eq, decide_eq_true_eq]
  refine leaves_of ?_ hok ha
  show execSysReset x s = _
  simp only [execSysReset, ha, hd, if_true, Bool.false_eq_true, if_false, restarted]

theorem restarted_clock (x : StartUp) (h : s.clock.running = true) :
    (restarted x s).clock = ⟨s.clock.gtb + x.elapsedNs, true, [], []⟩ := by
  have hrun : s.sysClear.clock.running = true := h
  rw [restarted, advance_clock _ _ hrun, ← hrun]
  rfl

theorem restarted_ledger (x : StartUp) (s : State) :
    (restarted x s).ledger = { s.ledger with challenge := none, reopened := false } := by
  rw [restarted, advance_ledger]
  rfl

/-- A register of the POR domain keeps its word, but for the residency counters. -/
theorem restarted_rd (x : StartUp) (s : State) {r : Reg} {i : Nat} (hi : regIdxOk r i = true) (hd : (regDef r).domain = .por)
    (hr : r ∉ timeRegs) : (restarted x s).rd r i = s.rd r i := by
  rw [restarted, (keepsRegs_advance s.sysClear x.elapsedNs).rd hi hr]
  show regGet (resetRegs .sys s.regs) r i = _
  rw [regGet_resetRegs _ _ hi]
  simp [survives, hd, State.rd]

/-- What a restart keeps, clears and lets go on wherever the sequence ends, before what depends on its end. -/
theorem restarted_frame (hrun : s.clock.running = true) {u t : State} {Q : Prop} (hu : StartsUp (restarted x s) u)
    (ht : LeftBy u t) (hq : Q) :
    t.clock = ⟨s.clock.gtb + x.elapsedNs, true, [], []⟩ ∧ t.ledger = { s.ledger with challenge := none, reopened := false } ∧
      t.well.measOpgar = s.well.measOpgar ∧ t.well.measPolicy = s.well.measPolicy ∧
      t.clusters = [] ∧ t.mems = [] ∧ t.links = [] ∧ t.moot = Moot.init ∧ t.xlt = Xlt.init ∧ t.sched = Sched.init ∧
      t.coh = Coh.init ∧ t.hif = Hif.init ∧ t.obj = Obj.init ∧ t.drv = Drv.init ∧ t.ten = Ten.init ∧ t.kx = none ∧
      (∀ (r : Reg) (i : Nat), regIdxOk r i = true → (regDef r).domain = .por →
        r ∉ [.CMP_RES_TIME_NS, .CMP_RES_CORE_US, .CMP_RES_MEMCH_US, .CMP_RES_LINK_US, .CMP_COMMONS_RES_MEMCH_US,
          .TRC_ALARM_CODES, .TRC_ALARM_FIRST_GTB, .TRC_ALARM_LAST_GTB, .TRC_ALARM_DETAIL] → t.rd r i = s.rd r i) ∧ Q := by
  have hwell : (restarted x s).well = { s.well.kept with draws := s.well.draws } := advance_well ..
  refine ⟨(hu.keeps ht State.clock fun _ _ _ _ _ _ => rfl).trans (restarted_clock x hrun),
    (hu.keeps ht State.ledger fun _ _ _ _ _ _ => rfl).trans (restarted_ledger x s), ?_, ?_,
    (hu.keeps ht State.clusters fun _ _ _ _ _ _ => rfl).trans (advance_clusters ..),
    (hu.keeps ht State.mems fun _ _ _ _ _ _ => rfl).trans (advance_mems ..),
    (hu.keeps ht State.links fun _ _ _ _ _ _ => rfl).trans (advance_links ..),
    (hu.keeps ht State.moot fun _ _ _ _ _ _ => rfl).trans (advance_moot ..),
    (hu.keeps ht State.xlt fun _ _ _ _ _ _ => rfl).trans (advance_xlt ..),
    (hu.keeps ht State.sched fun _ _ _ _ _ _ => rfl).trans (advance_sched _ _ rfl),
    (hu.keeps ht State.coh fun _ _ _ _ _ _ => rfl).trans (advance_coh ..),
    (hu.keeps ht State.hif fun _ _ _ _ _ _ => rfl).trans (advance_hif ..),
    (hu.keeps ht State.obj fun _ _ _ _ _ _ => rfl).trans (advance_obj ..),
    (hu.keeps ht State.drv fun _ _ _ _ _ _ => rfl).trans (advance_drv ..),
    (hu.keeps ht State.ten fun _ _ _ _ _ _ => rfl).trans (advance_ten ..),
    (hu.keeps ht State.kx fun _ _ _ _ _ _ => rfl).trans (advance_kx ..), ?_, hq⟩
  · rw [congrArg State.well ht, hu.meas.1, hwell]
    rfl
  · rw [congrArg State.well ht, hu.meas.2, hwell]
    rfl
  · intro r i hi hd hr
    have hlatch : ∀ r ∈ startUpRegs, (regDef r).domain = .por →
        r ∈ [.TRC_ALARM_CODES, .TRC_ALARM_FIRST_GTB, .TRC_ALARM_LAST_GTB, .TRC_ALARM_DETAIL] := by decide
    rw [ht.rd, hu.regs.rd hi (fun hm => hr (List.mem_append_right timeRegs (hlatch r hm hd))),
      restarted_rd x s hi hd (fun hm => hr (List.mem_append_left _ hm))]

/-- Settles O14: the frame of the restart, and STEP by whether the stop stays and by the root secret. -/
theorem warmResetRestartsAtDomains : Obligations.WarmResetRestartsAtDomains := by
  intro x s ha hrun hfun hok hent hdead
  by_cases hstuck : s.step = 15 ∧ s.fld .GLB_BOOT_CODE ≠ 0x1506
  · refine answers_of_leaves (leaves_sysReset_stuck ha hok hstuck) fun t ht => ?_
    have he := endsAt_failBoot (startsUp_setOn (restarted x s) fixedDomains) (s.fld .GLB_BOOT_CODE)
    rw [if_pos hstuck]
    exact restarted_frame hrun he.startsUp ht ⟨(ht.fld ..).trans (he.step (by decide)),
      (ht.fld ..).trans (code_failBoot _ (Nat.mod_lt _ (by decide)))⟩
  · refine answers_of_leaves (leaves_sysReset ha hok hstuck) fun t ht => ?_
    have hledger := restarted_ledger x s
    have hotp : (restarted x s).ledger.otp = s.ledger.otp := by rw [hledger]
    have hun : (restarted x s).ledger.unenrolled = s.ledger.unenrolled := by
      rw [hledger]
      rfl
    have hfun' : (restarted x s).functional = true := by
      rw [State.functional, hledger]
      exact hfun
    have hgo : (restarted x s).boot.goKept = false := by
      rw [restarted, advance_boot]
      rfl
    have hclean : CleanStart x (restarted x s) := ⟨hfun', hent, hdead, hgo⟩
    rw [if_neg hstuck]
    refine restarted_frame hrun (startsUp_bootOn hclean) ht ?_
    cases hu : s.ledger.unenrolled with
    | true => exact (ht.fld ..).trans ((bootOn_unenrolled hclean (hun.trans hu)).1.step (by decide))
    | false =>
      rw [if_neg (by simp)]
      cases hk : (pufTries s.ledger.otp 0 x.puf).2 with
      | some k =>
        obtain ⟨he, hseed, -⟩ := bootOn_recovered hclean (hun.trans hu) (hotp ▸ hk)
        exact ⟨(ht.fld ..).trans (he.step (by decide)), by rw [congrArg State.well ht, hseed]⟩
      | none =>
        obtain ⟨he, -, hstop⟩ := bootOn_unrecovered hclean (hun.trans hu) (hotp ▸ hk)
        exact ⟨(ht.fld ..).trans (he.step (by decide)), (ht.fld ..).trans hstop⟩

end Sys2Proof.Scope

namespace Sys2Proof.Scope

open Sys2Proof Sys2Proof.Machine Sys2Proof.Laws

/-! ## The commit instant (R86, R95) -/

/-- A set whose one ADM_W word names element 128,513. ADM_W has the elements 0 to 255; an element of that number would stand at
CMP_EPOCH's offset. -/
def strayAdmW : CsSlot := { CsSlot.init with admW := [(128513, 0)] }

/-- The store of that word is the last one at CMP_EPOCH's offset, and takes the new epoch away. -/
theorem takeFields_strayAdmW : (State.reset.takeFields strayAdmW).fld .CMP_EPOCH_CURRENT = 0 := by decide +kernel

/-- From the empty register file a commit takes the epoch from 0. -/
theorem epoch_before_strayAdmW :
    fldGet (resetRegs .epoch (State.reset.cfg.apply strayAdmW.entries).regs) .CMP_EPOCH_CURRENT 0 = 0 := by decide +kernel

/-- Refutes O24: the statement takes the set's ADM_W words as they come and does not bound their elements to the 256 that exist.
With one that names an element at CMP_EPOCH's offset, a commit at epoch 0 leaves CMP_EPOCH_CURRENT at 0 instead of 1. -/
theorem not_commitTakesTheStagedConfiguration : ¬ Obligations.CommitTakesTheStagedConfiguration := by
  rintro ⟨-, -, -, hfields⟩
  obtain ⟨-, -, hcurrent, -⟩ := hfields State.reset strayAdmW (by decide)
  rw [takeFields_strayAdmW, epoch_before_strayAdmW] at hcurrent
  exact absurd hcurrent (by decide)

end Sys2Proof.Scope

namespace Sys2Proof.Scope

open Sys2Proof Sys2Proof.Machine Sys2Proof.Laws

/-! ## The step on an empty queue (R33, R68) -/

theorem step_empty {s : State} (h : s.pending = []) : step s = .next (idle s) := by
  unfold step
  rw [h]

theorem advance_stopped {s : State} (h : s.clock.running = false) (n : Nat) : s.advance n = s := by
  unfold State.advance
  rw [if_pos (.inr h)]

/-- The passing of time starts no preload. -/
theorem advance_preloads (s : State) (n : Nat) : (s.advance n).sched.preloads = s.sched.preloads := by
  unfold State.advance
  split
  · rfl
  split
  · rfl
  · simp only
    rw [onlyRegs_meters]

/-- While nothing is under way, time passes and nothing begins. -/
theorem quiet_advance {s : State} (h : s.Quiet) (n : Nat) : (s.advance n).Quiet := by
  unfold State.Quiet at *
  simpa only [advance_mems, advance_obj, advance_clusters, advance_xlt, advance_preloads, advance_drv, advance_spr] using h

/-- Once the lines are driven, what the passing of time changes and the lines differ. -/
theorem onlyTime_drivePins {s u : State} (h : OnlyTime s u) : u.drivePins =
    { s with regs := u.drivePins.regs, sched := u.drivePins.sched, clock := u.drivePins.clock, mon := u.drivePins.mon,
             pins := u.drivePins.pins } :=
  congrArg (fun v : State => { v with pins := u.drivePins.pins }) h

theorem withPending_self {u : State} {q : List Instr} (h : q = u.pending) : ({ u with pending := q } : State) = u := by
  subst h
  rfl

theorem advance_drivePins_pending (s : State) (n : Nat) : s.pending = (s.advance n).drivePins.pending := by
  rw [drivePins_pending, advance_pending]

theorem idle_dead {s : State} (h : s.alive = false) : idle s = (s.advance 10).drivePins := by
  rw [idle, h, if_neg Bool.false_ne_true]
  exact withPending_self (advance_drivePins_pending s 10)

/-- While nothing is under way, the cycle of an empty queue is the passing of time and the lines, powered or not. -/
theorem idle_quiet {s : State} (h : s.Quiet) : idle s = (s.advance 10).drivePins := by
  rw [idle, engines_quiet (quiet_advance h 10), ite_self]
  exact withPending_self (advance_drivePins_pending s 10)

theorem drivePins_eq (s : State) : s.drivePins = { s with pins := s.drivePins.pins } := rfl

/-- Settles O2: the step is `idle`, and on a quiet state its engines change nothing. -/
theorem emptyQueueStepIsOneClockCycle : Obligations.EmptyQueueStepIsOneClockCycle := by
  intro s hq
  have hstep := step_empty hq
  refine ⟨fun ha => ?_, fun ha => ?_, fun hr => advance_clock s 10 hr, fun hr => advance_stopped hr 10, fun hquiet => ?_⟩
  · rw [hstep, idle, if_pos ha, hq]
  · rw [hstep, idle_dead ha]
  · rw [hstep, idle_quiet hquiet]
    refine ⟨_, rfl, onlyTime_drivePins (onlyTime_advance s 10), fun hr => ?_, fun hr => ?_⟩
    · rw [drivePins_clock, advance_clock s 10 hr]
    · rw [advance_stopped hr]
      exact drivePins_eq s

end Sys2Proof.Scope

namespace Sys2Proof.Scope

open Sys2Proof Sys2Proof.Machine Sys2Proof.Laws

/-! ## Commands in range and taken -/

variable {s u v : State} {i : Instr} {ok : Bool}

/-- A command in range leaves its effect on a block that is powered and out of reset (R25, R431). -/
theorem leaves_effect (h : exec i s = onUnit s ok v) (hok : ok = true) (ha : s.alive = true) (hv : v = u) : Leaves i s u :=
  leaves_of (hv ▸ h) hok ha

/-- A register command in range leaves its effect at READY (R438). -/
theorem leaves_taken {path : Path} {off : Nat} (h : exec i s = onUnit s ok (s.gated path off v)) (hok : ok = true)
    (hr : s.isReady = true) (hp : pathOk path = true) (hv : v = u) : Leaves i s u :=
  leaves_effect h hok (isReady_alive hr) ((gated_of_ready hr hp off v).trans hv)

/-- Operands are in range where each is. -/
theorem and_ok {a b : Bool} (ha : a = true) (hb : b = true) : (a && b) = true := Bool.and_eq_true_iff.mpr ⟨ha, hb⟩

end Sys2Proof.Scope

namespace Sys2Proof.Scope

open Sys2Proof Sys2Proof.Machine Sys2Proof.Laws

/-! ## Requests to switch a power domain (R25, R26) -/

variable {s t u : State} {n : Nat}

theorem keepsRegs_setPdReq (s : State) (n : Nat) (b : Bool) : KeepsRegs [.GLB_PD_REQ] s (s.setPdReq n b) :=
  keepsRegs_wr s _ (by decide) rfl

theorem pdOn_setPdReq (s : State) (n m : Nat) (b : Bool) : (s.setPdReq n b).pdOn m = s.pdOn m :=
  congrArg (bitOf m) ((keepsRegs_setPdReq s n b).rd rfl (by decide))

theorem switches_setPdReq (s : State) (n : Nat) (b : Bool) : (s.setPdReq n b).switches = s.switches := by
  have hstep : (s.setPdReq n b).step = s.step := (keepsRegs_setPdReq s n b).fld (f := .GLB_BOOT_STEP) rfl (by decide)
  rw [State.switches, State.switches, hstep]

theorem switches_of_ready (h : s.isReady = true) : s.switches = true := by simp [State.switches, isReady_step h]

theorem requestOn_starts (h : s.isReady = true) (hoff : s.pdOn n = false) (h1 : n ∉ s.power.goingOn) (h2 : n ∉ s.power.goingOff) :
    s.requestOn n = (s.setPdReq n true).goOn n := by
  have hpower : (s.setPdReq n true).power = s.power := rfl
  simp [State.requestOn, switches_setPdReq, switches_of_ready h, pdOn_setPdReq, hoff, hpower, h1, h2]

/-- The domains whose switching off R26 always refuses. -/
theorem offRefused_fixed (h : n = 18 ∨ n = 19) : s.offRefused n = true := by
  rcases h with rfl | rfl <;> simp [State.offRefused]

theorem requestOff_starts (h : s.isReady = true) (hreq : s.pdReq n = true) (hon : s.pdOn n = true) (h1 : n ∉ s.power.goingOn)
    (h2 : n ∉ s.power.goingOff) (hok : s.offRefused n = false) : s.requestOff n = (s.setPdReq n false).goOff n := by
  have hfree : ¬ (n = 18 ∨ n = 19 ∨ (s.switches ∧ s.offRefused n)) := by
    rintro (hn | hn | ⟨-, hr⟩)
    · exact Bool.false_ne_true (hok.symm.trans (offRefused_fixed (.inl hn)))
    · exact Bool.false_ne_true (hok.symm.trans (offRefused_fixed (.inr hn)))
    · exact Bool.false_ne_true (hok.symm.trans hr)
  have hpower : (s.setPdReq n false).power = s.power := rfl
  rw [State.requestOff, if_neg (by simp [hreq]), if_neg hfree]
  simp [switches_setPdReq, switches_of_ready h, pdOn_setPdReq, hon, hpower, h1, h2]

theorem requestOff_refused (h : s.isReady = true) (hreq : s.pdReq n = true) (hr : s.offRefused n = true) :
    s.requestOff n = ((s.setPdReq n true).wr .GLB_PD_STATUS 0
      (s.rd .GLB_PD_STATUS 0 ||| word (1 <<< (n + 32)))).err 0x1507 0 (word n) := by
  simp [State.requestOff, hreq, switches_of_ready h, hr]

/-! ## Stations of a domain that comes on (R30) -/

/-- The registers of a station, each with an element per station of its kind. -/
def stationRegs : StationKind → List Reg
  | .cluster => [.HDG_ST_STATUS, .HDG_COUNT, .HDG_LAST_DENY, .HDG_LAST_DENY_INFO, .DRV_ST_COUNT]
  | .memory => [.MIL_ST_STATUS, .MIL_ST_COUNT, .MIL_ST_LAST_FAIL, .MIL_ST_SKIPPED, .CTR_ST_STATUS, .CTR_ST_COUNT]
  | .link => [.LNK_PORT_CFG, .LNK_PORT_STATUS, .LNK_LANE, .LNK_COUNT]

def allStationRegs : List Reg := stationRegs .cluster ++ stationRegs .memory ++ stationRegs .link

theorem stationRegs_subset (kind : StationKind) : stationRegs kind ⊆ allStationRegs := by
  cases kind <;> decide

theorem stationOk_iff (kind : StationKind) (k : Nat) : stationOk kind k = true ↔ k < stationCount kind := by
  cases kind <;> exact decide_eq_true_iff

/-- A station's registers have an element for each station of its kind (R8, R19). -/
theorem stationRegs_range (kind : StationKind) :
    ∀ r ∈ stationRegs kind, (regDef r).first = 0 ∧ (regDef r).last + 1 = stationCount kind ∧ (regDef r).words = 8 := by
  cases kind <;> decide

theorem regIdxOk_station {kind : StationKind} {k : Nat} (h : stationOk kind k = true) {r : Reg} (hr : r ∈ stationRegs kind) :
    regIdxOk r k = true := by
  obtain ⟨hfirst, hlast, hwords⟩ := stationRegs_range kind r hr
  have hk := (stationOk_iff kind k).mp h
  rw [regIdxOk_iff]
  omega

theorem keepsRegs_resetStation (s : State) {kind : StationKind} {k : Nat} (h : stationOk kind k = true) :
    KeepsRegs allStationRegs s (s.resetStation (stationRegs kind) k) :=
  keepsRegs_forEach _ s _ fun _ hr v => keepsRegs_wr v _ (stationRegs_subset kind hr) (regIdxOk_station h hr)

theorem onlyRegs_resetStation (s : State) (rs : List Reg) (k : Nat) : OnlyRegs s (s.resetStation rs k) :=
  forEach_rel OnlyRegs OnlyRegs.refl (fun _ _ _ => OnlyRegs.trans) _ (fun _ v => onlyRegs_wr v _ _ _) rs s

theorem epoch_eq (h : KeepsRegs allStationRegs s t) : t.epoch = s.epoch := h.fld (f := .CMP_EPOCH_CURRENT) rfl (by decide)

/-- From `s` to `t` stations came on: their registers and records, what the random source gave, and nothing else. -/
structure StationsInit (s t : State) : Prop where
  regs : KeepsRegs allStationRegs s t
  only : t = { s with regs := t.regs, clusters := t.clusters, mems := t.mems, links := t.links, well := t.well, fresh := t.fresh }
  key : ∀ p, t.treeKeyFor p = s.treeKeyFor p

theorem StationsInit.refl (s : State) : StationsInit s s := ⟨KeepsRegs.refl .., rfl, fun _ => rfl⟩

theorem StationsInit.trans (h : StationsInit s t) (k : StationsInit t u) : StationsInit s u :=
  ⟨h.regs.trans k.regs, by rw [k.only, h.only], fun p => (k.key p).trans (h.key p)⟩

theorem stationsInit_resetStation (s : State) {kind : StationKind} {k : Nat} (h : stationOk kind k = true) :
    StationsInit s (s.resetStation (stationRegs kind) k) :=
  ⟨keepsRegs_resetStation s h, by rw [onlyRegs_resetStation s], fun p => by rw [onlyRegs_resetStation s]; rfl⟩

theorem stationsInit_setCluster (s : State) (k : Nat) (c : Cluster) : StationsInit s (s.setCluster k c) :=
  ⟨keepsRegs_of_regs_eq _ rfl, rfl, fun _ => rfl⟩

theorem stationsInit_setMem (s : State) (p : Nat) (c : MemStation) : StationsInit s (s.setMem p c) :=
  ⟨keepsRegs_of_regs_eq _ rfl, rfl, fun _ => rfl⟩

theorem stationsInit_setLink (s : State) (p : Nat) (c : LinkStation) : StationsInit s (s.setLink p c) :=
  ⟨keepsRegs_of_regs_eq _ rfl, rfl, fun _ => rfl⟩

/-- A memory station that comes on: an upper node without minors under its key and the epoch in force (R142, R155). -/
def freshMem (s : State) (p root : Nat) : MemStation :=
  { MemStation.init with root := root, upper := List.replicate 64 0, treeKey := s.treeKeyFor p, epoch := s.epoch, prevEpoch := s.epoch }

def freshLink (s : State) : LinkStation := { LinkStation.init with epoch := s.epoch, prevEpoch := s.epoch }

/-- Station `x` has come on in `t`. -/
def FreshStation (s t : State) (x : StationKind × Nat) : Prop :=
  match x.1 with
  | .cluster => t.cluster x.2 = Cluster.init
  | .memory => t.memSt x.2 = freshMem s x.2 (t.memSt x.2).root
  | .link => t.link x.2 = freshLink s

/-- Station `x` is in `t` as it was in `s`. -/
def SameStation (s t : State) (x : StationKind × Nat) : Prop :=
  match x.1 with
  | .cluster => t.cluster x.2 = s.cluster x.2
  | .memory => t.memSt x.2 = s.memSt x.2
  | .link => t.link x.2 = s.link x.2

theorem SameStation.trans {x : StationKind × Nat} (h : SameStation s t x) (k : SameStation t u x) : SameStation s u x := by
  obtain ⟨kind, j⟩ := x
  cases kind <;> exact Eq.trans k h

theorem FreshStation.same {x : StationKind × Nat} (h : FreshStation s t x) (k : SameStation t u x) : FreshStation s u x := by
  obtain ⟨kind, j⟩ := x
  cases kind <;> simp only [FreshStation, SameStation] at h k ⊢ <;> rw [k, ← h]

theorem sameStation_of_eq (hc : t.clusters = s.clusters) (hm : t.mems = s.mems) (hl : t.links = s.links) (x : StationKind × Nat) :
    SameStation s t x := by
  obtain ⟨kind, j⟩ := x
  cases kind <;> simp only [SameStation, State.cluster, State.memSt, State.link, hc, hm, hl]

/-- What a station shows when it has come on depends on the epoch and the tree keys alone. -/
theorem FreshStation.of_eq {x : StationKind × Nat} (h : FreshStation u t x) (he : u.epoch = s.epoch)
    (hk : ∀ p, u.treeKeyFor p = s.treeKeyFor p) : FreshStation s t x := by
  obtain ⟨kind, j⟩ := x
  cases kind <;> simpa only [FreshStation, freshMem, freshLink, he, hk] using h

/-- The root of a memory station is a draw, or a free value of a source that has stopped. -/
theorem initMemory_eq (s : State) (p : Nat) : ∃ v root, StationsInit s v ∧ v.clusters = s.clusters ∧ v.mems = s.mems ∧
    v.links = s.links ∧ s.initMemory p = (v.resetStation (stationRegs .memory) p).setMem p
      { MemStation.init with
        root := root
        upper := List.replicate 64 0
        treeKey := s.treeKeyFor p
        epoch := (v.resetStation (stationRegs .memory) p).epoch
        prevEpoch := (v.resetStation (stationRegs .memory) p).epoch } := by
  by_cases h : s.well.entropyOk = true
  · exact ⟨s.draw.2, _, ⟨keepsRegs_of_regs_eq _ rfl, rfl, fun _ => rfl⟩, rfl, rfl, rfl, by rw [State.initMemory, if_pos h]; rfl⟩
  · exact ⟨s.takeFresh.2, _, ⟨keepsRegs_of_regs_eq _ rfl, rfl, fun _ => rfl⟩, rfl, rfl, rfl, by rw [State.initMemory, if_neg h]; rfl⟩

theorem stationsInit_initStation (s : State) {kind : StationKind} {k : Nat} (h : stationOk kind k = true) :
    StationsInit s (s.initStation kind k) := by
  cases kind with
  | cluster => exact (stationsInit_resetStation s h).trans (stationsInit_setCluster ..)
  | memory =>
    obtain ⟨v, root, hv, -, -, -, he⟩ := initMemory_eq s k
    show StationsInit s (s.initMemory k)
    rw [he]
    exact (hv.trans (stationsInit_resetStation v h)).trans (stationsInit_setMem ..)
  | link => exact (stationsInit_resetStation s h).trans (stationsInit_setLink ..)

theorem freshStation_initStation (s : State) {x : StationKind × Nat} (h : stationOk x.1 x.2 = true) :
    FreshStation s (s.initStation x.1 x.2) x := by
  obtain ⟨kind, k⟩ := x
  cases kind with
  | cluster => exact cluster_setCluster ..
  | memory =>
    obtain ⟨v, root, hv, -, -, -, he⟩ := initMemory_eq s k
    show (s.initMemory k).memSt k = _
    simp only [State.initStation, he, memSt_setMem, freshMem, epoch_eq (hv.trans (stationsInit_resetStation v h)).regs]
  | link => exact link_setLink ..

theorem sameStation_setCluster (s : State) {k : Nat} (c : Cluster) {x : StationKind × Nat} (h : x ≠ (.cluster, k)) :
    SameStation s (s.setCluster k c) x := by
  obtain ⟨kind, j⟩ := x
  cases kind with
  | cluster => exact cluster_setCluster_ne s c (fun hj => h (congrArg _ hj))
  | _ => rfl

theorem sameStation_setMem (s : State) {k : Nat} (c : MemStation) {x : StationKind × Nat} (h : x ≠ (.memory, k)) :
    SameStation s (s.setMem k c) x := by
  obtain ⟨kind, j⟩ := x
  cases kind with
  | memory => exact memSt_setMem_ne s c (fun hj => h (congrArg _ hj))
  | _ => rfl

theorem sameStation_setLink (s : State) {k : Nat} (c : LinkStation) {x : StationKind × Nat} (h : x ≠ (.link, k)) :
    SameStation s (s.setLink k c) x := by
  obtain ⟨kind, j⟩ := x
  cases kind with
  | link => exact link_setLink_ne s c (fun hj => h (congrArg _ hj))
  | _ => rfl

theorem sameStation_resetStation (s : State) (rs : List Reg) (k : Nat) (x : StationKind × Nat) :
    SameStation s (s.resetStation rs k) x := by
  have h := onlyRegs_resetStation s rs k
  exact sameStation_of_eq (congrArg State.clusters h) (congrArg State.mems h) (congrArg State.links h) x

theorem sameStation_initStation (s : State) {x y : StationKind × Nat} (h : y ≠ x) : SameStation s (s.initStation x.1 x.2) y := by
  obtain ⟨kind, k⟩ := x
  cases kind with
  | cluster => exact (sameStation_resetStation ..).trans (sameStation_setCluster _ _ h)
  | memory =>
    obtain ⟨v, root, -, hc, hm, hl, he⟩ := initMemory_eq s k
    show SameStation s (s.initMemory k) y
    rw [he]
    exact ((sameStation_of_eq hc hm hl y).trans (sameStation_resetStation ..)).trans (sameStation_setMem _ _ h)
  | link => exact (sameStation_resetStation ..).trans (sameStation_setLink _ _ h)

/-- After the loop over stations, those of the list have come on and the others are as they were. -/
theorem forEach_initStation {l : List (StationKind × Nat)} (hl : ∀ x ∈ l, stationOk x.1 x.2 = true) (s : State) :
    StationsInit s (forEach l s (fun x s => s.initStation x.1 x.2)) ∧
    ∀ y, if y ∈ l then FreshStation s (forEach l s (fun x s => s.initStation x.1 x.2)) y
      else SameStation s (forEach l s (fun x s => s.initStation x.1 x.2)) y := by
  induction l generalizing s with
  | nil => exact ⟨StationsInit.refl s, fun y => by simpa using sameStation_of_eq rfl rfl rfl y⟩
  | cons x l ih =>
    obtain ⟨hx, hl⟩ := List.forall_mem_cons.mp hl
    obtain ⟨hinit, hst⟩ := ih hl (s.initStation x.1 x.2)
    have h1 := stationsInit_initStation s hx
    refine ⟨h1.trans hinit, fun y => ?_⟩
    have hy := hst y
    rw [forEach_cons]
    by_cases hyl : y ∈ l
    · rw [if_pos hyl] at hy
      rw [if_pos (List.mem_cons_of_mem x hyl)]
      exact hy.of_eq (epoch_eq h1.regs) h1.key
    · rw [if_neg hyl] at hy
      by_cases hyx : y = x
      · subst hyx
        rw [if_pos (List.mem_cons_self ..)]
        exact (freshStation_initStation s hx).same hy
      · rw [if_neg (by simp [hyx, hyl])]
        exact (sameStation_initStation s hyx).trans hy

theorem mem_stationsOf (n : Nat) (x : StationKind × Nat) :
    x ∈ stationsOf n ↔ stationOk x.1 x.2 = true ∧ domainOf x.1 x.2 = n := by
  obtain ⟨kind, k⟩ := x
  cases kind <;> simp [stationsOf, stationOk, clusterOk, memoryOk, linkOk]

/-! ## A domain is on, a domain is off (R30) -/

theorem getLsbD_wordBit (n : Nat) {i : Nat} (hi : i < 64) : (word (1 <<< n)).getLsbD i = decide (n = i) := by
  rw [word, BitVec.getLsbD_ofNat, decide_eq_true hi, Bool.true_and, Nat.one_shiftLeft, Nat.testBit_two_pow]

theorem bitOf_orBit (w : Word) (n : Nat) {i : Nat} (hi : i < 64) : bitOf i (w ||| word (1 <<< n)) = (bitOf i w || decide (n = i)) := by
  show (w ||| word (1 <<< n)).getLsbD i = _
  rw [BitVec.getLsbD_or, getLsbD_wordBit n hi]
  rfl

theorem bitOf_andNotBit (w : Word) (n : Nat) {i : Nat} (hi : i < 64) :
    bitOf i (w &&& ~~~ word (1 <<< n)) = (bitOf i w && !decide (n = i)) := by
  show (w &&& ~~~ word (1 <<< n)).getLsbD i = _
  rw [BitVec.getLsbD_and, BitVec.getLsbD_not, getLsbD_wordBit n hi, decide_eq_true hi, Bool.true_and]
  rfl

theorem bitOf_setBits_zero (w : Word) (i : Nat) : bitOf i (setBits i i 0 w) = false := by
  show (setBits i i 0 w).getLsbD i = _
  rw [getLsbD_setBits]
  simp

theorem keepsRegs_setBusy (s : State) (n : Nat) (b : Bool) : KeepsRegs [.GLB_PD_STATUS] s (s.setBusy n b) :=
  keepsRegs_wr s _ (by decide) rfl

theorem busy_setBusy (s : State) (n : Nat) : bitOf (n + 16) ((s.setBusy n false).rd .GLB_PD_STATUS 0) = false := by
  rw [State.setBusy, rd_wr_same]
  exact bitOf_setBits_zero _ _

/-- The planner's store and its station as a requester, where PD22 comes on. -/
def plannerOn (n : Nat) (s : State) : State :=
  if n = 22 then (s.planStoreBack).setCluster 68 { Cluster.init with epoch := s.epoch, prevEpoch := s.epoch } else s

/-- Domain `n` shows as on. -/
def showsOn (n : Nat) (s : State) : State := s.wr .GLB_PD_STATUS 0 (s.rd .GLB_PD_STATUS 0 ||| word (1 <<< n))

/-- The Crier's queues, where PD23 comes on. -/
def crierBack (n : Nat) (s : State) : State := if n = 23 then s.crierOn else s

theorem domainOn_eq (s : State) (n : Nat) : s.domainOn n =
    (crierBack n (showsOn n (plannerOn n (forEach (stationsOf n) s (fun x s => s.initStation x.1 x.2))))).setCause 0x15 1 := rfl

theorem plannerOn_frame (n : Nat) (s : State) : (plannerOn n s).regs = s.regs ∧ (plannerOn n s).power = s.power ∧
    ∀ x, stationOk x.1 x.2 = true → SameStation s (plannerOn n s) x := by
  unfold plannerOn
  split
  · refine ⟨rfl, rfl, fun x hx => sameStation_setCluster s.planStoreBack _ ?_⟩
    rintro rfl
    exact absurd hx (by decide)
  · exact ⟨rfl, rfl, fun x _ => sameStation_of_eq rfl rfl rfl x⟩

/-- The Crier's return and the cause bit: TRC_OFF_DROPS, IRQ_CAUSE and the queues. -/
theorem crierBack_setCause_frame (n : Nat) (s : State) :
    KeepsRegs [.TRC_OFF_DROPS, .IRQ_CAUSE] s ((crierBack n s).setCause 0x15 1) ∧
      OnlyEvents s ((crierBack n s).setCause 0x15 1) := by
  have hcause : ∀ u : State, KeepsRegs [.TRC_OFF_DROPS, .IRQ_CAUSE] u (u.setCause 0x15 1) := fun u =>
    keepsRegs_wr u _ (by decide) (by decide)
  have hcrier : KeepsRegs [.TRC_OFF_DROPS, .IRQ_CAUSE] s s.crierOn :=
    (keepsRegs_crier _ s _).trans (keepsRegs_wr _ _ (by decide) rfl)
  unfold crierBack
  split
  · exact ⟨hcrier.trans (hcause _), rfl⟩
  · exact ⟨hcause s, rfl⟩

/-- What `domainOn` leaves of `s` in `t`. -/
structure DomainOn (n : Nat) (s t : State) : Prop where
  status : t.rd .GLB_PD_STATUS 0 = s.rd .GLB_PD_STATUS 0 ||| word (1 <<< n)
  request : t.rd .GLB_PD_REQ 0 = s.rd .GLB_PD_REQ 0
  cause : bitOf 1 (t.rd .IRQ_CAUSE 0x15) = true
  power : t.power = s.power
  stations : ∀ x, stationOk x.1 x.2 = true → if domainOf x.1 x.2 = n then FreshStation s t x else SameStation s t x

theorem domainOn_leaves (s : State) (n : Nat) : DomainOn n s (s.domainOn n) := by
  obtain ⟨hinit, hst⟩ := forEach_initStation (l := stationsOf n) (fun x hx => ((mem_stationsOf n x).mp hx).1) s
  rw [domainOn_eq]
  generalize forEach (stationsOf n) s (fun x s => s.initStation x.1 x.2) = a at hinit hst ⊢
  obtain ⟨hregs, hpower, hsame⟩ := plannerOn_frame n a
  generalize plannerOn n a = b at hregs hpower hsame ⊢
  obtain ⟨hkeeps, honly⟩ := crierBack_setCause_frame n (showsOn n b)
  have hrd : ∀ {r : Reg} {i : Nat}, regIdxOk r i = true → r ∉ allStationRegs → b.rd r i = s.rd r i := fun hi hr => by
    rw [State.rd, hregs]
    exact hinit.regs.rd hi hr
  constructor
  case status =>
    rw [hkeeps.rd rfl (by decide), showsOn, rd_wr_same, hrd rfl (by decide)]
  case request =>
    rw [hkeeps.rd rfl (by decide), showsOn, rd_wr_other b _ (by decide) rfl rfl, hrd rfl (by decide)]
  case cause =>
    rw [State.setCause, rd_wr_same, bitOf_orBit _ _ (by decide), decide_eq_true rfl, Bool.or_true]
  case power =>
    have hon : a.power = s.power := by rw [hinit.only]
    rw [honly, showsOn, wr_power, hpower, hon]
  case stations =>
    intro x hx
    have hbt : SameStation a ((crierBack n (showsOn n b)).setCause 0x15 1) x := (hsame x hx).trans
      (sameStation_of_eq (congrArg State.clusters honly) (congrArg State.mems honly) (congrArg State.links honly) x)
    have hx' := hst x
    simp only [mem_stationsOf, hx, true_and] at hx'
    split at hx'
    · rw [if_pos (by assumption)]
      exact hx'.same hbt
    · rw [if_neg (by assumption)]
      exact hx'.trans hbt

/-! ### Off -/

/-- Station `x` holds nothing in `t`. -/
def EmptyStation (t : State) (x : StationKind × Nat) : Prop :=
  match x.1 with
  | .cluster => t.cluster x.2 = Cluster.init
  | .memory => t.memSt x.2 = MemStation.init
  | .link => t.link x.2 = LinkStation.init

/-- The stations of domain `n`, their copies of the GTB and the instant at which PD23 went off. -/
def stationsOff (n : Nat) (s : State) : State :=
  { s with
    clusters := s.clusters.filter (fun e => !(stationsOf n).contains (.cluster, e.1)),
    mems := s.mems.filter (fun e => !(stationsOf n).contains (.memory, e.1)),
    links := s.links.filter (fun e => !(stationsOf n).contains (.link, e.1)),
    clock := { s.clock with locked := s.clock.locked.filter (fun x => !(stationsOf n).any (fun y => sourceOf y.1 y.2 == x)),
                            skews := s.clock.skews.filter (fun x => !(stationsOf n).any (fun y => sourceOf y.1 y.2 == x.1)) },
    power := if n = 23 then { s.power with pd23OffAt := s.clock.gtb } else s.power }

/-- The planner's station as a requester is no more. -/
def dropPlanner (s : State) : State := { s with clusters := s.clusters.filter (fun e => e.1 ≠ 68) }

/-- The planner's commands, store and station, where PD22 goes off. -/
def plannerOff (n : Nat) (s : State) : State :=
  if n = 22 then dropPlanner (forEach s.drv.planQ s (fun q s => s.failDrover q 0x0A09 0 0xFFFF 0xFFFF)).planStoreLost else s

theorem domainOff_eq (s : State) (n : Nat) : s.domainOff n =
    (plannerOff n (stationsOff n s)).wr .GLB_PD_STATUS 0
      ((plannerOff n (stationsOff n s)).rd .GLB_PD_STATUS 0 &&& ~~~ word (1 <<< n)) := rfl

theorem stationsOff_station (n : Nat) (s : State) {x : StationKind × Nat} (hx : stationOk x.1 x.2 = true) :
    if domainOf x.1 x.2 = n then EmptyStation (stationsOff n s) x else SameStation s (stationsOff n s) x := by
  have hmem : (stationsOf n).contains x = decide (domainOf x.1 x.2 = n) := by
    rw [Bool.eq_iff_iff, List.contains_iff_mem, mem_stationsOf, decide_eq_true_iff, and_iff_right hx]
  obtain ⟨kind, k⟩ := x
  have hget : ∀ {α : Type} (d : α) (m : List (Nat × α)), mapGet d (m.filter (fun e => !(stationsOf n).contains (kind, e.1))) k =
      if (!decide (domainOf kind k = n)) = true then mapGet d m k else d := fun d m =>
    mapGet_filter d m _ k (fun _ => by rw [hmem])
  by_cases hn : domainOf kind k = n
  · cases kind <;> simp only [if_pos hn, EmptyStation, State.cluster, State.memSt, State.link, stationsOff, hget] <;> simp [hn]
  · cases kind <;> simp only [if_neg hn, SameStation, State.cluster, State.memSt, State.link, stationsOff, hget] <;> simp [hn]

theorem sameStation_dropPlanner (s : State) {x : StationKind × Nat} (hx : stationOk x.1 x.2 = true) :
    SameStation s (dropPlanner s) x := by
  obtain ⟨kind, k⟩ := x
  cases kind with
  | cluster =>
    have hk : k ≠ 68 := fun h => absurd (h ▸ hx) (by decide)
    exact (mapGet_filter _ _ _ k (fun _ => decide_eq_true hk)).trans (if_pos rfl)
  | _ => rfl

theorem plannerOff_frame {n : Nat} {s : State} (h : n = 22 → s.drv.planQ = []) :
    (plannerOff n s).regs = s.regs ∧ (plannerOff n s).power = s.power ∧
    ∀ x, stationOk x.1 x.2 = true → SameStation s (plannerOff n s) x := by
  unfold plannerOff
  split
  · rename_i hn
    rw [h hn, forEach_nil]
    exact ⟨rfl, rfl, fun x hx => sameStation_dropPlanner s.planStoreLost hx⟩
  · exact ⟨rfl, rfl, fun x _ => sameStation_of_eq rfl rfl rfl x⟩

/-- What `domainOff` leaves of `s` in `t`. -/
structure DomainOff (n : Nat) (s t : State) : Prop where
  status : t.rd .GLB_PD_STATUS 0 = s.rd .GLB_PD_STATUS 0 &&& ~~~ word (1 <<< n)
  request : t.rd .GLB_PD_REQ 0 = s.rd .GLB_PD_REQ 0
  goingOff : t.power.goingOff = s.power.goingOff
  stations : ∀ x, stationOk x.1 x.2 = true → if domainOf x.1 x.2 = n then EmptyStation t x else SameStation s t x

theorem EmptyStation.same {x : StationKind × Nat} (h : EmptyStation t x) (k : SameStation t u x) : EmptyStation u x := by
  obtain ⟨kind, j⟩ := x
  cases kind <;> exact Eq.trans k h

theorem domainOff_leaves (h : n = 22 → s.drv.planQ = []) : DomainOff n s (s.domainOff n) := by
  rw [domainOff_eq]
  obtain ⟨hregs, hpower, hsame⟩ := plannerOff_frame (s := stationsOff n s) h
  generalize plannerOff n (stationsOff n s) = b at hregs hpower hsame ⊢
  have hrd : ∀ (r : Reg) (i : Nat), b.rd r i = s.rd r i := fun r i => by
    rw [State.rd, hregs]
    rfl
  constructor
  case status => rw [rd_wr_same, hrd]
  case request => rw [rd_wr_other b _ (by decide) rfl rfl, hrd]
  case goingOff =>
    rw [wr_power, hpower, stationsOff]
    exact apply_ite Power.goingOff .. |>.trans (ite_self _)
  case stations =>
    intro x hx
    have hx' := stationsOff_station n s hx
    have hbt := (hsame x hx).trans (sameStation_of_eq (t := b.wr .GLB_PD_STATUS 0 (b.rd .GLB_PD_STATUS 0 &&& ~~~ word (1 <<< n)))
      rfl rfl rfl x)
    split at hx'
    · rw [if_pos (by assumption)]
      exact hx'.same hbt
    · rw [if_neg (by assumption)]
      exact hx'.trans hbt

/-! ### The ends of the switching -/

/-- Domain `n`'s switching on ends: it no longer counts as coming on, its BUSY bit is clear, and it is on. -/
def endOn (n : Nat) (s : State) : State :=
  (({ s with power := { s.power with goingOn := s.power.goingOn.filter (· ≠ n) } } : State).setBusy n false).domainOn n

def endOff (n : Nat) (s : State) : State :=
  (({ s with power := { s.power with goingOff := s.power.goingOff.filter (· ≠ n) } } : State).setBusy n false).domainOff n

theorem endOn_leaves (n : Nat) (s : State) : DomainOn n
    (({ s with power := { s.power with goingOn := s.power.goingOn.filter (· ≠ n) } } : State).setBusy n false) (endOn n s) :=
  domainOn_leaves _ n

theorem pdReq_endOn (n : Nat) (s : State) : (endOn n s).pdReq n = s.pdReq n :=
  congrArg (bitOf n) ((endOn_leaves n s).request.trans ((keepsRegs_setBusy _ n false).rd rfl (by decide)))

theorem endOff_leaves (h : n = 22 → s.drv.planQ = []) : DomainOff n
    (({ s with power := { s.power with goingOff := s.power.goingOff.filter (· ≠ n) } } : State).setBusy n false) (endOff n s) :=
  domainOff_leaves h

theorem pdReq_endOff (h : n = 22 → s.drv.planQ = []) : (endOff n s).pdReq n = s.pdReq n :=
  congrArg (bitOf n) ((endOff_leaves h).request.trans ((keepsRegs_setBusy _ n false).rd rfl (by decide)))

theorem leaves_pdOn (ha : s.alive = true) (hn : n < 24) (hm : n ∈ s.power.goingOn) (hreq : s.pdReq n = true)
    (hw : s.onWaits n = false) : Leaves (.pdOn n) s (endOn n s) := by
  have hexec : exec (.pdOn n) s = onUnit s (domainOk n) (if s.alive ∧ s.power.goingOn.contains n ∧ s.onWaits n = false then
      (if (endOn n s).pdReq n then endOn n s else ((endOn n s).setPdReq n true).requestOff n) else s) := rfl
  rw [if_pos ⟨ha, List.contains_iff_mem.mpr hm, hw⟩, if_pos ((pdReq_endOn n s).trans hreq)] at hexec
  exact leaves_of hexec (decide_eq_true hn) ha

theorem leaves_pdOffComplete (ha : s.alive = true) (hn : n < 24) (hm : n ∈ s.power.goingOff) (hreq : s.pdReq n = false)
    (hq : n = 22 → s.drv.planQ = []) : Leaves (.pdOffComplete n) s (endOff n s) := by
  have hexec : exec (.pdOffComplete n) s = onUnit s (domainOk n) (if s.alive ∧ s.power.goingOff.contains n then
      (if (endOff n s).pdReq n then (endOff n s).goOn n else endOff n s) else s) := rfl
  rw [if_pos ⟨ha, List.contains_iff_mem.mpr hm⟩, if_neg (by rw [pdReq_endOff hq, hreq]; exact Bool.false_ne_true)] at hexec
  exact leaves_of hexec (decide_eq_true hn) ha

theorem LeftBy.sameStation (h : LeftBy u t) (x : StationKind × Nat) : SameStation u t x :=
  sameStation_of_eq (congrArg State.clusters h) (congrArg State.mems h) (congrArg State.links h) x

/-- A station shows in `t` what its domain's switching on left. -/
theorem endOn_station (ht : LeftBy (endOn n s) t) {x : StationKind × Nat} (hx : stationOk x.1 x.2 = true) :
    if domainOf x.1 x.2 = n then FreshStation s t x else SameStation s t x := by
  have h := (endOn_leaves n s).stations x hx
  split at h
  · rw [if_pos (by assumption)]
    exact (h.of_eq ((keepsRegs_setBusy _ n false).fld (f := .CMP_EPOCH_CURRENT) rfl (by decide)) (fun _ => rfl)).same (ht.sameStation x)
  · rw [if_neg (by assumption)]
    exact SameStation.trans (sameStation_of_eq rfl rfl rfl x) (h.trans (ht.sameStation x))

theorem endOff_station (hq : n = 22 → s.drv.planQ = []) (ht : LeftBy (endOff n s) t) {x : StationKind × Nat}
    (hx : stationOk x.1 x.2 = true) : if domainOf x.1 x.2 = n then EmptyStation t x else SameStation s t x := by
  have h := (endOff_leaves hq).stations x hx
  split at h
  · rw [if_pos (by assumption)]
    exact h.same (ht.sameStation x)
  · rw [if_neg (by assumption)]
    exact SameStation.trans (sameStation_of_eq rfl rfl rfl x) (h.trans (ht.sameStation x))

theorem eq_ite {α : Type} {p : Prop} [Decidable p] {a b c : α} (h : if p then a = b else a = c) : a = if p then b else c := by
  split at h <;> simp_all

/-- What a domain that has come on shows, and its stations (R30). -/
theorem endOn_answers (ht : LeftBy (endOn n s) t) (hn : n < 24) :
    t.pdOn n = true ∧ bitOf (n + 16) (t.rd .GLB_PD_STATUS 0) = false ∧ n ∉ t.power.goingOn ∧ t.power.goingOff = s.power.goingOff ∧
      (∀ k, k < 68 → t.cluster k = if domainOf .cluster k = n then Cluster.init else s.cluster k) ∧
      (∀ p, p < 16 → t.link p = if domainOf .link p = n then
        { LinkStation.init with epoch := s.epoch, prevEpoch := s.epoch } else s.link p) ∧
      (∀ p, p < 72 → if domainOf .memory p = n then
          t.memSt p = { MemStation.init with
            root := (t.memSt p).root
            upper := List.replicate 64 0
            treeKey := s.treeKeyFor p
            epoch := s.epoch
            prevEpoch := s.epoch }
        else t.memSt p = s.memSt p) ∧
      bitOf 1 (t.rd .IRQ_CAUSE 0x15) = true := by
  have h := endOn_leaves n s
  have hpower := (congrArg State.power ht).trans h.power
  refine ⟨?_, ?_, ?_, ?_, fun k hk => ?_, fun p hp => ?_, fun p hp => ?_, ?_⟩
  · rw [State.pdOn, ht.rd, h.status, bitOf_orBit _ _ (by omega), decide_eq_true rfl, Bool.or_true]
  · rw [ht.rd, h.status, bitOf_orBit _ _ (by omega), busy_setBusy, decide_eq_false (by omega), Bool.or_false]
  · rw [hpower]
    simp [State.setBusy]
  · rw [hpower]
    rfl
  · exact eq_ite (endOn_station ht (x := (.cluster, k)) (decide_eq_true hk))
  · exact eq_ite (endOn_station ht (x := (.link, p)) (decide_eq_true hp))
  · exact endOn_station ht (x := (.memory, p)) (decide_eq_true hp)
  · rw [ht.rd, h.cause]

/-- What a domain that has gone off shows, and its stations (R30). -/
theorem endOff_answers (hq : n = 22 → s.drv.planQ = []) (ht : LeftBy (endOff n s) t) (hn : n < 24) :
    t.pdOn n = false ∧ bitOf (n + 16) (t.rd .GLB_PD_STATUS 0) = false ∧ n ∉ t.power.goingOff ∧
      (∀ k, k < 68 → t.cluster k = if domainOf .cluster k = n then Cluster.init else s.cluster k) ∧
      (∀ p, p < 72 → t.memSt p = if domainOf .memory p = n then MemStation.init else s.memSt p) ∧
      (∀ p, p < 16 → t.link p = if domainOf .link p = n then LinkStation.init else s.link p) := by
  have h := endOff_leaves hq
  have hgoing : t.power.goingOff = _ := (congrArg (fun v => v.power.goingOff) ht).trans h.goingOff
  refine ⟨?_, ?_, ?_, fun k hk => ?_, fun p hp => ?_, fun p hp => ?_⟩
  · rw [State.pdOn, ht.rd, h.status, bitOf_andNotBit _ _ (by omega), decide_eq_true rfl, Bool.not_true, Bool.and_false]
  · rw [ht.rd, h.status, bitOf_andNotBit _ _ (by omega), busy_setBusy, Bool.false_and]
  · rw [hgoing]
    simp [State.setBusy]
  · exact eq_ite (endOff_station hq ht (x := (.cluster, k)) (decide_eq_true hk))
  · exact eq_ite (endOff_station hq ht (x := (.memory, p)) (decide_eq_true hp))
  · exact eq_ite (endOff_station hq ht (x := (.link, p)) (decide_eq_true hp))

/-- Settles O16: a request by the branch of R25 or R26 that it takes, the end of the switching by what it leaves of each station. -/
theorem powerDomainsSwitchOnRequest : Obligations.PowerDomainsSwitchOnRequest := by
  refine ⟨fun n s hr hn hoff h1 h2 => ?_, fun n s hr hn hreq hon h1 h2 hok => ?_, fun n s hr hn hreq href => ?_,
    fun n s ha hn hm hreq hw => ?_, fun n s ha hn hm hreq hq => ?_, fun s => leaves_onBlock rfl rfl⟩
  · exact leaves_taken rfl hn hr rfl (requestOn_starts hr hoff h1 h2)
  · exact leaves_taken rfl hn hr rfl (requestOff_starts hr hreq hon h1 h2 hok)
  · exact leaves_taken rfl hn hr rfl (requestOff_refused hr hreq href)
  · exact answers_of_leaves (leaves_pdOn ha hn hm hreq hw) fun t ht => endOn_answers ht hn
  · exact answers_of_leaves (leaves_pdOffComplete ha hn hm hreq hq) fun t ht => endOff_answers hq ht hn

end Sys2Proof.Scope

namespace Sys2Proof.Scope

open Sys2Proof Sys2Proof.Machine Sys2Proof.Laws

/-! ## Operand ranges that several commands of the fabric share -/

theorem snoop_operands_ok {port core sid : Nat} (hp : port < 68) (hc : core < 9) (hs : sid < 256) :
    (clusterOk port && decide (core < 9) && decide (sid < 256)) = true :=
  and_ok (and_ok (decide_eq_true hp) (decide_eq_true hc)) (decide_eq_true hs)

theorem line_operands_ok {port core line : Nat} (hp : port < 68) (hc : core < 9) (hl : line < 2 ^ 49) :
    (clusterOk port && decide (core < 9) && decide (line < 2 ^ 49)) = true :=
  and_ok (and_ok (decide_eq_true hp) (decide_eq_true hc)) (decide_eq_true hl)

/-! ## Change sets and the composition -/

section
variable {s : State} (ha : s.alive = true)
include ha

theorem leaves_checkBegin {i : Nat} (h : s.nextCheck = some i) :
    Leaves .checkBegin s (s.modSlot i (fun x => { x with begun := true, floor := s.fld .MON_CLOCK_FLOOR_MHZ })) :=
  leaves_effect rfl rfl ha (by rw [h])

theorem leaves_checkEnd {i : Nat} (h : s.moot.slots.findIdx? (fun x => x.begun) = some i) : Leaves .checkEnd s (s.endCheck i) :=
  leaves_effect rfl rfl ha (by rw [h])

theorem leaves_commitInstant {i : Nat} (h : s.firstPassed (fun _ => true) = some i) (hc : (s.slot i).incomplete = false) :
    Leaves .commitInstant s (s.commitSet i) :=
  leaves_effect rfl rfl ha (by simp only [h, hc, Bool.false_eq_true, if_false])

theorem leaves_stubRelease {kind : StationKind} {k : Nat} (hk : stationOk kind k = true) (hs : s.hasStub kind k = true)
    (h : s.drainCount kind k = 0) : Leaves (.stubRelease kind k) s (s.dropStub kind k) :=
  leaves_effect rfl hk ha (if_pos ⟨hs, h⟩)

theorem leaves_drainTimeout {kind : StationKind} {k : Nat} (hk : stationOk kind k = true) (hs : s.hasStub kind k = true)
    (h : 0 < s.drainCount kind k) : Leaves (.drainTimeout kind k) s
      (((s.advanceTo ((s.rd .STG_LAST_T 0).toNat + 50000)).drainOut kind k).dropStub kind k).pumpEngines :=
  leaves_effect rfl hk ha (if_pos ⟨hs, h⟩)

theorem leaves_sliceTeardownDone {sl : Nat} {hs : List Nat} (hsl : tenantOk sl = true)
    (h : s.comp.tearing.find? (fun t => t.1 == sl) = some (sl, hs))
    (hover : (s.liveContexts.filter (fun c => s.ctxSlice c == sl)).all s.teardownOver = true) :
    Leaves (.sliceTeardownDone sl) s
      (let u := forEach (s.liveContexts.filter (fun c => s.ctxSlice c == sl)) s (fun c v => v.contextGone c)
      let w : State := { u with comp := { u.comp with tearing := u.comp.tearing.filter (fun x => x.1 ≠ sl) } }
      (forEach hs w (fun h v => v.notice 5 1 0 sl h)).releaseHeld) :=
  leaves_effect rfl hsl ha (by
    simp only [h]
    exact if_neg (by simp [hover]))

theorem leaves_flushComplete (h : s.comp.flushing ≠ []) (hf : s.flushUnderWay = false) : Leaves .flushComplete s
    { s with comp := { s.comp with scrubbing := s.comp.scrubbing ++ s.comp.flushing, flushing := [] } } :=
  leaves_effect rfl rfl ha (if_pos ⟨h, hf⟩)

theorem leaves_coreSramZeroDone {core : Nat} (hc : core < 612) (h : core ∈ s.comp.zeroing) : Leaves (.coreSramZeroDone core) s
    ({ s with comp := { s.comp with zeroing := s.comp.zeroing.filter (· ≠ core) } } : State).releaseHeld :=
  leaves_effect rfl (decide_eq_true hc) ha (if_pos (List.contains_iff_mem.mpr h))

/-! ## Requests, verdicts and RSPs -/

/-- A request that its port accepts is begun, and the engines go on (R55). -/
theorem leaves_portRequest {i : Instr} {ok : Bool} {r : Req} {bs : List (Line × ByteMask)} {op cmp : Word} (hr : s.accepts r = true)
    (h : exec i s = onUnit s ok (s.portRequest r bs op cmp)) (hok : ok = true) :
    Leaves i s (s.request r bs op cmp).pumpEngines :=
  leaves_effect h hok ha (if_neg (by simp [hr]))

theorem leaves_verifyVerdict {k txn code : Nat} {v : Verdict} {tok : Token} (hv : verdictOk k txn v code = true)
    (h : ((s.cluster k).tokens.filter (fun t => t.txn == txn)).find? (fun t => (s.cluster k).verdicts.contains (t.seq, v, code)) = some tok) :
    Leaves (.verifyVerdict k txn v code) s ((s.setCluster k { s.cluster k with
      verdicts := eraseFirst (· == (tok.seq, v, code)) (s.cluster k).verdicts }).onVerdict k tok v code).pumpEngines :=
  leaves_effect rfl hv ha (by simp only [h])

theorem leaves_releasedWriteRsp {k id code : Nat} {w : Released} (hk : k < 68) (hc : code < 65536)
    (h : (s.cluster k).released.find? (fun r => r.id == id) = some w) (hm : (id, code) ∈ (s.cluster k).rsps) :
    Leaves (.releasedWriteRsp k id code) s ((s.setCluster k { s.cluster k with
      rsps := eraseFirst (· == (id, code)) (s.cluster k).rsps }).onRelease k w code).pumpEngines :=
  leaves_effect rfl (and_ok (decide_eq_true hk) (decide_eq_true hc)) ha (by
    simp only [h]
    exact if_pos (List.contains_iff_mem.mpr hm))

theorem leaves_clusterAtomicBufferIdle {k line : Nat} {x : AtomicLine} (hk : k < 68)
    (h : (s.cluster k).atomics.find? (fun a => a.line == line) = some x) :
    Leaves (.clusterAtomicBufferIdle k line) s ((s.advance 1000).writeBackAtomic k x) :=
  leaves_effect rfl (decide_eq_true hk) ha (by simp only [h])

/-! ## Snoops, writebacks and evictions -/

section
variable {port core sid : Nat} {x : Snoop} (hp : port < 68) (hc : core < 9) (hs : sid < 256) (h : s.snoopOf port core sid = some x)
include hp hc hs h

theorem leaves_ackI : Leaves (.ackI port core sid) s (s.endSnoop x none none).pumpEngines :=
  leaves_effect rfl (snoop_operands_ok hp hc hs) ha (by simp only [h])

theorem leaves_ackS : Leaves (.ackS port core sid) s (s.endSnoop x (some .s) none).pumpEngines :=
  leaves_effect rfl (snoop_operands_ok hp hc hs) ha (by simp only [h])

theorem leaves_dataDirty (d : Line) :
    Leaves (.dataDirty port core sid d) s (s.endSnoop x (if x.opc = 0 then some .s else none) (some d)).pumpEngines :=
  leaves_effect rfl (snoop_operands_ok hp hc hs) ha (by simp only [h])

theorem leaves_wbPending (hn : s.coh.heldWb.find? (fun h => h.1 == port && h.2.1 == core && h.2.2.1 == x.line) = none) :
    Leaves (.wbPending port core sid) s { s with coh := { s.coh with
      snoops := s.coh.snoops.map (fun y => if y.sid = sid then { y with wbPending := true } else y) } } :=
  leaves_effect rfl (snoop_operands_ok hp hc hs) ha (by simp only [h, hn])

end

theorem leaves_writeback {port core line : Nat} (d : Line) {e : FilterEntry} (hp : port < 68) (hc : core < 9) (hl : line < 2 ^ 49)
    (h : s.filterEntry line (s.logicalCore (9 * port + core)) = some e) (hm : e.st = .m) :
    Leaves (.writeback port core line d) s (s.takeWriteback port core e d).pumpEngines :=
  leaves_effect rfl (line_operands_ok hp hc hl) ha (by
    simp only [h]
    exact if_neg (not_not.mpr hm))

theorem leaves_evict {port core line : Nat} {e : FilterEntry} (hp : port < 68) (hc : core < 9) (hl : line < 2 ^ 49)
    (h : s.filterEntry line (s.logicalCore (9 * port + core)) = some e) (hm : e.st ≠ .m) :
    Leaves (.evict port core line) s (s.setFilter line (s.logicalCore (9 * port + core)) none 0 0) :=
  leaves_effect rfl (line_operands_ok hp hc hl) ha (by
    simp only [h]
    exact if_neg hm)

theorem leaves_snoopTimeout {sid : Nat} {x : Snoop} (hs : sid < 256)
    (h : s.coh.snoops.find? (fun y => y.sid == sid && !y.wbPending) = some x) : Leaves (.snoopTimeout sid) s (s.snoopFails x) :=
  leaves_effect rfl (decide_eq_true hs) ha (by simp only [h])

end

end Sys2Proof.Scope

namespace Sys2Proof.Scope

open Sys2Proof Sys2Proof.Machine Sys2Proof.Laws

/-! ## Translation -/

section
variable {s : State} (ha : s.alive = true)
include ha

theorem leaves_walkComplete {k txn : Nat} {d : Deferred} (hk : k < 69) (ht : txn < 8192) (h : s.pumpXlt.deferredOf k txn = some d) :
    Leaves (.walkComplete k txn) s (s.pumpXlt.completeWalk k d).pumpEngines :=
  leaves_effect rfl (and_ok (decide_eq_true hk) (decide_eq_true ht)) ha (by simp only [h])

theorem leaves_walkReadTimeout {k txn : Nat} {d : Deferred} {w : TableWalk} (hk : k < 69) (ht : txn < 8192)
    (h : s.deferredOf k txn = some d) (hw : s.walkFor k d = some w) (he : w.ended = none) (hdev : w.device = false) :
    Leaves (.walkReadTimeout k txn) s (((s.advance 100000).walkFailed w.id).completeWalk k d).pumpEngines :=
  leaves_effect rfl (and_ok (decide_eq_true hk) (decide_eq_true ht)) ha (by
    simp only [State.walkTimeout, h, hw]
    exact if_pos ⟨by rw [he]; rfl, hdev⟩)

theorem leaves_migrationCasResult {core : Nat} (r : CasResult) {m : Migration} (hc : core < 612)
    (h : s.xlt.migrations.find? (fun m => m.core == core && decide (m.stage = .swap) && !m.device) = some m) :
    Leaves (.migrationCasResult core r) s (({ s with hif := { s.hif with
      reads := s.hif.reads.filter (fun e => decide (e.2.1 ≠ DmaUse.migrationCas m.id)) } } : State).finishMigration m.id r).pumpEngines :=
  leaves_effect rfl (decide_eq_true hc) ha (by simp only [h])

theorem leaves_extentRetranslate {core : Nat} (pos : Nat) {t : Tile} (hc : core < 612) (h : s.tileOf core = some t) :
    Leaves (.extentRetranslate core pos) s (s.dmaTranslate t.queue pos).pumpEngines :=
  leaves_effect rfl (decide_eq_true hc) ha (by simp only [State.retranslate, h])

theorem leaves_hostDmaCompletion {tag : Nat} {st : DmaStatus} {data : List Word} (ht : tag < 1024)
    (h : st = .success → data.length = s.dmaWords tag) :
    Leaves (.hostDmaCompletion tag st data) s (s.completion tag st data).pumpEngines :=
  leaves_effect rfl (decide_eq_true ht) ha (if_pos ⟨ha, h⟩)

theorem leaves_ringDmaTimeout {q : Nat} (hq : queueOk q = true) (h : (s.queueRun q).fetchTag.isSome = true) :
    Leaves (.ringDmaTimeout q) s ((({ s with hif := { s.hif with
      reads := s.hif.reads.filter (fun e => decide (e.2.1 ≠ .ringFetch q)) } } : State).advance 100000).ringFailed q) :=
  leaves_effect rfl hq ha (if_pos ⟨ha, .inl h⟩)

theorem leaves_cacheFlushDone (h : s.fld .XLT_CTL_CACHE_FLUSH = 1) : Leaves .cacheFlushDone s
    (({ s with xlt := { s.xlt with cache := [] } } : State).setFld .XLT_CTL_CACHE_FLUSH 0 0) :=
  leaves_effect rfl rfl ha (if_pos h)

theorem leaves_faultBatchTimer (h : 0 < s.xlt.batch) :
    Leaves .faultBatchTimer s ((s.advanceTo (s.xlt.batchAt + 10000)).setCause 0x07 0) :=
  leaves_effect rfl rfl ha (if_pos h)

end

/-- The manager's answer to an outstanding fault takes the fault off the list (R133). -/
theorem resolve_found {s : State} {ctx seq : Nat} {f : OutFault} (act : OutFault → State → State)
    (h : s.xlt.faults.find? (fun x => x.ctx == ctx && x.seq == seq) = some f) : s.resolve ctx seq act =
      act f { s with xlt := { s.xlt with faults := eraseFirst (fun x => x == f) s.xlt.faults } } := by
  simp only [State.resolve, h]

/-! ## Memory stations -/

section
variable {s : State} (ha : s.alive = true)
include ha

section
variable {p : Nat} (hp : p < 72)
include hp

theorem leaves_memoryOpAccept {op slot : Nat} {o : MemOp} (hon : s.stationOn .memory p = true)
    (h : (s.memSt p).waiting.find? (fun x => x.id == op) = some o) (hslot : (s.memSt p).freeSlot = some slot)
    (hfirst : ∀ x ∈ (s.memSt p).waiting, x.line = o.line → op ≤ x.id) (hid : o.id = op)
    (hepoch : o.epoch = (s.memSt p).epoch ∨ o.epoch = (s.memSt p).prevEpoch) :
    Leaves (.memoryOpAccept p op) s
      (let o' : MemOp := { o with id := (s.memSt p).nextId, marked := s.mon.marked.contains (domainOf .memory p) }
      let u := s.setMem p { s.memSt p with
        waiting := (s.memSt p).waiting.filter (fun x => x.id ≠ op)
        slots := mapPut (s.memSt p).slots slot o'
        nextId := (s.memSt p).nextId + 1 }
      if u.keyServes o' then u.runStation p else u.refuseOp p slot 0x0804 o') := by
  have hfree : ¬ (s.stationOn .memory p = false ∨
      (s.memSt p).waiting.any (fun x => x.line == o.line && decide (x.id < o.id)) = true) := by
    simp only [hon, List.any_eq_true, Bool.and_eq_true, beq_iff_eq, decide_eq_true_eq, not_or, not_exists]
    refine ⟨by simp, fun x ⟨hx, hline, hlt⟩ => ?_⟩
    have := hfirst x hx hline
    omega
  have hserved : ¬ (o.epoch ≠ (s.memSt p).epoch ∧ o.epoch ≠ (s.memSt p).prevEpoch) := fun hn => hepoch.elim hn.1 hn.2
  refine leaves_effect rfl (decide_eq_true hp) ha ?_
  simp only [h, hslot]
  rw [if_neg hfree, if_neg hserved]

theorem leaves_dramReadReturn {tag n : Nat} {d : Line} {bad : Bool} {u : State} (h : s.readBack p tag = (some n, u)) :
    Leaves (.dramReadReturn p tag d bad) s (u.readData p n d bad) :=
  leaves_effect rfl (decide_eq_true hp) ha (by simp only [h])

theorem leaves_macVerdict {slot : Nat} {o : MemOp} (hs : slot < 256) (h : (s.memSt p).op slot = some o) (hdue : o.due = true)
    (hc : o.cmds = []) : Leaves (.macVerdict p slot) s ((s.verdict p slot o).runStation p) :=
  leaves_effect rfl (and_ok (decide_eq_true hp) (decide_eq_true hs)) ha (by
    simp only [h]
    exact if_pos ⟨hdue, by rw [hc]; rfl⟩)

theorem leaves_atomicBufferIdle {line : Nat} {b : LineBuf} (h : (s.memSt p).buf.find? (fun x => x.line == line) = some b) :
    Leaves (.atomicBufferIdle p line) s (((s.advance 1000).flushBuf p b).runStation p) :=
  leaves_effect rfl (decide_eq_true hp) ha (by simp only [h])

end

theorem leaves_scrubDone {g : Nat} {x : Scrub} (hg : g < 262144)
    (h : s.comp.scrubbing.find? (fun y => decide (y.first ≤ g) && decide (g ≤ y.last)) = some x) :
    Leaves (.scrubDone g) s
      (let u := forEach (List.range 256) s (fun i v =>
        match x.block g i with
        | some (p, leaf) => (v.scrubLeaves p leaf leaf).chargeSectors 8192 0x3FF 256
        | none => v)
      (({ u with comp := { u.comp with scrubbing := u.comp.scrubbing.flatMap (fun (y : Scrub) =>
        if y.first ≤ g ∧ g ≤ y.last then
          (if y.first < g then [{ y with last := g - 1 }] else []) ++ (if g < y.last then [{ y with first := g + 1 }] else [])
        else [y]) } } : State).emit (.scrub g)).releaseHeld) :=
  leaves_effect rfl (decide_eq_true hg) ha (h ▸ rfl)

theorem leaves_poundClearDone (h : s.fld .CTR_POUND_STATUS_BUSY = 1) : Leaves .poundClearDone s
    (let u := (s.clearPound (s.fld .CTR_POUND_CLEAR_PORT) (s.fld .CTR_POUND_CLEAR_LEVEL) (s.fld .CTR_POUND_CLEAR_LINE)).emit
      (.scrubLines (s.fld .CTR_POUND_CLEAR_PORT) (s.fld .CTR_POUND_CLEAR_LEVEL) (s.fld .CTR_POUND_CLEAR_LINE))
    (((u.setFld .CTR_POUND_STATUS_DONE 0 (u.fld .CTR_POUND_STATUS_DONE + 1)).setFld .CTR_POUND_STATUS_BUSY 0 0).setFld
      .CTR_POUND_STATUS_REASON 0 0).setCause 0x09 0) :=
  leaves_effect rfl rfl ha (if_pos h)

section
variable {jtag : Bool} {pa : Nat} (hpa : pa < 2 ^ 56) (hj : s.rawAllowed jtag = true) (hb : s.rawBlocked pa = false)
  (ho : (s.ownerOf pa).tag = 0 ∨ (s.ownerOf pa).tag = 0xFF)
include hpa hj hb ho

theorem leaves_rawRead : Leaves (.rawRead jtag pa) s (s.rawOp jtag pa .rawRead 0 0) := by
  refine leaves_effect rfl (decide_eq_true hpa) ha ?_
  rw [if_neg (by simp [hj]), if_neg (by simp [hb])]
  exact if_pos (ho.imp_right .inl)

theorem leaves_rawWrite (d : Line) (be : ByteMask) : Leaves (.rawWrite jtag pa d be) s (s.rawOp jtag pa .write d be) := by
  refine leaves_effect rfl (decide_eq_true hpa) ha ?_
  rw [if_neg (by simp [hj]), if_neg (by simp [hb])]
  exact if_pos ho

end

theorem leaves_retirementDone (hb : s.fld .MIL_RETIRE_STATUS_BUSY = 1) (h : s.keyInUse s.well.retiring = false) :
    Leaves .retirementDone s
      (let u := ((({ s with well := { s.well with mill := mapErase s.well.mill s.well.retiring } } : State).setKeyState
        s.well.retiring 0).setFld .MIL_RETIRE_STATUS_BUSY 0 0).setFld .MIL_RETIRE_STATUS_REASON 0 0
      (u.setFld .MIL_RETIRE_STATUS_DONE 0 (u.fld .MIL_RETIRE_STATUS_DONE + 1)).setCause 0x08 0) :=
  leaves_effect rfl rfl ha (if_pos ⟨hb, h⟩)

end

section
variable {s : State} {path : Path} (hr : s.isReady = true) (hp : pathOk path = true)
include hr hp

theorem leaves_poundClear {port level line : Nat} (h1 : port ≤ 71) (h2 : level < 6) (h3 : line < 2 ^ 26)
    (hb : s.fld .CTR_POUND_STATUS_BUSY = 0) (ho : ∀ o ∈ s.poundOwners port level line, o.tag = 0 ∨ o.tag = 0xFF) :
    Leaves (.poundClear path port level line) s
      ((s.wr .CTR_POUND_CLEAR 0 (setBits 63 57 port (setBits 56 54 level (setBits 26 0 line 0)))).setFld .CTR_POUND_STATUS_BUSY 0 1) := by
  have hidle : ¬ (s.fld .CTR_POUND_STATUS_BUSY = 1 ∨ 6 ≤ level) := by omega
  have hline : line < 2 ^ 27 := Nat.lt_trans h3 (by decide)
  have hok : ¬ (71 < port ∨ 2 ^ 26 ≤ line ∨ (s.poundOwners port level line).any (fun o => decide (o.tag ≠ 0 ∧ o.tag ≠ 0xFF)) = true) := by
    rintro (h | h | h)
    · omega
    · omega
    · obtain ⟨o, hm, hn⟩ := List.any_eq_true.mp h
      exact (ho o hm).elim (of_decide_eq_true hn).1 (of_decide_eq_true hn).2
  refine leaves_taken rfl (and_ok (and_ok (and_ok hp (decide_eq_true (by omega))) (decide_eq_true (by omega))) (decide_eq_true hline)) hr hp ?_
  rw [if_neg hidle]
  exact if_neg hok

theorem leaves_keyidRetire {k : Nat} (h0 : 0 < k) (hk : k < 1024) (h : s.retireRefused k = false) : Leaves (.keyidRetire path k) s
    (let u := (((s.setKeyState k 2).setFld .MIL_RETIRE_STATUS_KEYID 0 k).setFld .MIL_RETIRE_STATUS_BUSY 0 1).setFld
      .MIL_RETIRE_STATUS_REASON 0 0
    ({ u with well := { u.well with retiring := k } } : State).dropKey k) := by
  refine leaves_taken rfl (and_ok hp (decide_eq_true hk)) hr hp ?_
  rw [if_neg (by omega), if_neg (by simp [h])]

end

end Sys2Proof.Scope

namespace Sys2Proof.Scope

open Sys2Proof Sys2Proof.Machine Sys2Proof.Laws

/-! ## Tiles, residents and the Drover -/

section
variable {s : State} (ha : s.alive = true)
include ha

section
variable {core : Nat} {t : Tile} (hc : core < 612) (h : s.runningTile core = some t)
include hc h

theorem leaves_tileEnd {ns : Nat} (hns : ns ≤ 4 * declNs t.decl) (hcopy : s.copying t.queue = false) :
    Leaves (.tileEnd core ns) s ((s.advanceTo (t.startAt + ns)).endTile core).pumpEngines := by
  refine leaves_effect rfl (decide_eq_true hc) ha ?_
  simp only [h]
  rw [if_neg (by omega), if_neg (by simp [hcopy])]

theorem leaves_tileWatchdog :
    Leaves (.tileWatchdog core) s ((s.advanceTo (t.startAt + 4 * declNs t.decl)).killTile core).pumpEngines :=
  leaves_effect rfl (decide_eq_true hc) ha (by simp only [h])

theorem leaves_tileKilledAtDecl (hctx : s.ctxState t.ctx = 4) :
    Leaves (.tileKilledAtDecl core) s ((s.advanceTo (t.startAt + declNs t.decl)).killTile core).pumpEngines :=
  leaves_effect rfl (decide_eq_true hc) ha (by
    simp only [h]
    exact if_pos hctx)

end

section
variable {slot : Nat} {r : Resident} (hs : slot < 48) (h : s.sched.residents.find? (fun e => e.1 == slot) = some (slot, r))
include hs h

theorem leaves_preloadDone (hst : r.state = .preloading) (ho : s.preloadOver r = true) :
    Leaves (.preloadDone slot) s (s.endPreload r) :=
  leaves_effect rfl (decide_eq_true hs) ha (by
    simp only [h]
    exact if_pos ⟨hst, ho⟩)

theorem leaves_shareZeroDone (hz : r.zeroing = true) : Leaves (.shareZeroDone slot) s (s.leaveDone r.ctx) :=
  leaves_effect rfl (decide_eq_true hs) ha (by
    simp only [h]
    exact if_pos hz)

end

theorem leaves_planDone {q : Nat} {routing : List (List Word)} (hq : queueOk q = true) (hr : s.isReady = true) (hm : q ∈ s.drv.planQ)
    (hop : cmdOpcode (s.runningWords q) = 4) (hshape : tableShape (s.runningWords q) routing = true) :
    Leaves (.planDone q routing) s (s.planDone q routing).pumpEngines :=
  leaves_effect rfl hq ha (if_pos ⟨hr, List.contains_iff_mem.mpr hm, hop, hshape⟩)

section
variable {ctx jtag : Nat} {j : Journal} (hc : contextOk ctx = true) (hj : jtag < 65536) (h : s.journal ctx jtag = some j)
include hc hj h

theorem leaves_droverTransferRsp {index : Nat} {row : List Byte} {code : Nat} (hcode : rspCodeOk code = true) :
    Leaves (.droverTransferRsp ctx jtag index row code) s (s.transferRsp j index row code) :=
  leaves_effect rfl (and_ok (and_ok hc (decide_eq_true hj)) hcode) ha (by simp only [h])

theorem leaves_journalExpired (hst : j.state = .dispatched) (hf : j.frozenAt = none) : Leaves (.journalExpired ctx jtag) s
    (((s.advanceTo (j.created + j.ttlNs)).freeJournal ctx jtag).drvErr 0x0A0A j.slice jtag ctx 0 0xFFFF 0xFFFF).pumpDrover :=
  leaves_effect rfl (and_ok hc (decide_eq_true hj)) ha (by
    simp only [h]
    exact if_pos ⟨hst, hf⟩)

theorem leaves_journalLost : Leaves (.journalLost ctx jtag) s
    (match j.queue with
    | some q => (s.failDrover q 0x0A05 0 0xFFFF 0xFFFF).pumpDrover
    | none =>
      let u := (s.freeJournal ctx jtag).drvErr 0x0A05 j.slice jtag ctx 0 0xFFFF 0xFFFF
      ({ u with drv := { u.drv with lost := u.drv.lost ++ [(ctx, jtag)] } } : State).pumpDrover) :=
  leaves_effect rfl (and_ok hc (decide_eq_true hj)) ha (h ▸ rfl)

end

end

/-! ## Objects -/

/-- An object command with one condition: its effect, or 0x020B (R272). -/
theorem objAccept_ite {s t : State} {path : Path} {kind index : Nat} {c : Prop} [Decidable c] (he : s.fld .OBJ_CTL_ENABLE = 1)
    (hb : s.objBusy path = false) (hk : kind ≤ 4 → index < kindCount kind) :
    s.objAccept path kind index (if c then .inr t else .inl 0x020B) = if c then t.objDone path 0 else s.objDone path 0x020B := by
  by_cases hc : c
  · rw [if_pos hc, if_pos hc, objAccept_taken he hb hk]
  · rw [if_neg hc, if_neg hc, objAccept_taken he hb hk]

section
variable {s : State} {path : Path} (hr : s.isReady = true) (hp : pathOk path = true)
include hr hp

theorem leaves_objEnable {g : Nat} (he : s.fld .OBJ_CTL_ENABLE = 0)
    (hpa : getBits 55 21 (s.rd .OBJ_TABLE_BASE 0) * 2097152 = s.fld .CMP_CHIPNUM_CHIPNUM * 2 ^ 50 + g * 2097152)
    (hg : g + 20 < 262144) (hown : s.managerOwns g (g + 20) = true) :
    Leaves (.objEnable path true) s (s.setFld .OBJ_CTL_ENABLE 0 1) := by
  refine leaves_taken rfl hp hr hp ?_
  have hindex : (s.fld .CMP_CHIPNUM_CHIPNUM * 2 ^ 50 + g * 2097152) % 2 ^ 39 / 2097152 = g := by omega
  have hchip : (s.fld .CMP_CHIPNUM_CHIPNUM * 2 ^ 50 + g * 2097152) / 2 ^ 50 = s.fld .CMP_CHIPNUM_CHIPNUM := by omega
  have hlocal : (s.fld .CMP_CHIPNUM_CHIPNUM * 2 ^ 50 + g * 2097152) % 2 ^ 50 / 2 ^ 39 = 0 := by omega
  simp only [hpa, hindex, hchip, hlocal, hown, hg, he]
  rw [if_neg (by decide), if_neg (by decide)]
  exact if_pos (by simp)

end

section
variable {s : State} (ha : s.alive = true)
include ha

theorem leaves_contextTeardownDone {c : Nat} (hc : contextOk c = true) (hst : s.ctxState c = 4) (ho : s.teardownOver c = true) :
    Leaves (.contextTeardownDone c) s (s.contextGone c) :=
  leaves_effect rfl hc ha (if_pos ⟨hst, ho⟩)

theorem leaves_memoryObjectFreed {o : Nat} {r : Releasing} (ho : o < 262144)
    (h : s.obj.releasing.find? (fun x => x.index == o) = some r) (hpin : s.mPin o = 0)
    (ht : r.tails.all (fun t => s.tailPassed t.1 t.2) = true) : Leaves (.memoryObjectFreed o) s (s.freeReleased o) :=
  leaves_effect rfl (decide_eq_true ho) ha (by
    simp only [h]
    exact if_pos ⟨hpin, ht⟩)

end

end Sys2Proof.Scope

namespace Sys2Proof.Scope

open Sys2Proof Sys2Proof.Machine Sys2Proof.Laws

/-! ## Doorbells and ring commands -/

/-- A doorbell write that R279 to R282 accept. -/
theorem doorbell_accepted {s : State} {q : Nat} {pasid : Option Nat} (t : State) (hr : s.isReady = true)
    (hd : s.doorbellOk q pasid = true) (h2 : 2 ≤ s.qState q) (h5 : s.qState q ≠ 5) : s.doorbell q pasid 8 t = t := by
  rw [State.doorbell, if_neg (by simp [hr]), if_neg (by decide), if_neg (by simp [hd]), if_neg (by omega)]

section
variable {s : State} {q : Nat} (ha : s.alive = true) (hq : queueOk q = true)
include ha hq

theorem leaves_queueSlotGrant (hr : s.isReady = true) (h : rotate s.hif.rotor s.waitingQueues = some q)
    (hfree : s.slotQueues.length < 96 ∨ s.lruIdle.isSome = true) : Leaves (.queueSlotGrant q) s
      ((({ s with hif := { s.hif with rotor := q } } : State).needSlot q).pumpQueue q) :=
  leaves_effect rfl hq ha (if_pos ⟨hr, h, hfree⟩)

theorem leaves_fenceWaitWake {f : Nat} (h : (s.queueRun q).running.bind (·.waitFence) = some f) (hf : s.fState f ≠ 0) :
    Leaves (.fenceWaitWake q) s (s.finishWait q f) :=
  leaves_effect rfl hq ha (by
    simp only [h]
    exact if_pos hf)

/-- A fetched command with an OPCODE that R283 does not assign is refused (R284). -/
theorem leaves_commandInvalid {w : CmdWords} (hw : w.length = 8) (hop : 9 < cmdOpcode w) (hf : s.fetchOk q w = true)
    (hpasid : cfgPasidOk s.regs (s.ctxPasid (s.qCtx q)) (s.qSlice q) = true) (hc : s.cmdRefusal q w (s.queueRun q).pinBad ≠ 0) :
    Leaves (.commandInvalid q w) s ((s.takeCmd q w).refuseCmd q (s.cmdRefusal q w (s.queueRun q).pinBad)) := by
  refine leaves_effect rfl (and_ok (and_ok hq (beq_iff_eq.mpr hw)) (decide_eq_true hop)) ha ?_
  have hraw : (if cmdOpcode w ≤ 9 then s.convertAll (s.qCtx q) w else .inr w) = .inr w := if_neg (by omega)
  rw [State.startCmd, if_neg (by simp [hf]), if_neg (by simp [hpasid])]
  simp only [hraw]
  exact if_pos hc

end

/-- A fetched command that nothing refuses runs on its converted words (R283, R284). -/
theorem leaves_startCmd {s u : State} {q op : Nat} {w ws : CmdWords} {i : Instr} {run : List Word → State → State}
    (ha : s.alive = true) (hs : s.Starts q w ws) (hc : s.cmdRefusal q ws (s.queueRun q).pinBad = 0) (hop : op ≤ 9)
    (hok : cmdOk op q w = true) (h : exec i s = onUnit s (cmdOk op q w) (s.startCmd q w run)) (hv : run ws (s.takeCmd q ws) = u) :
    Leaves i s u := by
  have hcode : cmdOpcode w = op := beq_iff_eq.mp (Bool.and_eq_true_iff.mp hok).2
  exact leaves_effect h hok ha ((startCmd_runs run hs (hcode ▸ hop) hc).trans hv)

/-- A tile command whose declaration is in order goes on (R220). -/
theorem tileCmd_accepted {s : State} {q : Nat} {w1 : Word} (go : State → State) (h : s.tileCode (s.qCtx q) w1 = 0) :
    s.tileCmd q w1 go = go s := if_neg (not_not.mpr h)

/-- The oldest posted write is taken, and what it was for goes on (R426). -/
theorem leaves_postedWriteTaken {s : State} {x : Posted} {rest : List Posted} (ha : s.alive = true) (h : s.hif.posts = x :: rest) :
    Leaves (.postedWriteTaken x.id) s
      (let u : State := { s with hif := { s.hif with posts := rest } }
      match x.use with
      | .faultRecord => u.faultTaken
      | .notice => u.noticeTaken
      | .crier i => u.crierWritten i
      | .completion q irq => u.completionTaken q irq
      | .image => u.saveWait
      | .dma q => u.pieceTaken q) := by
  refine leaves_effect rfl rfl ha ?_
  simp only [h]
  exact if_neg (by simp [ha])

/-! ## Mailboxes -/

theorem mailboxAccess_accepted {s : State} {sl : Nat} {pasid : Option Nat} (t : State) (hr : s.isReady = true)
    (hm : s.mailboxMapped sl pasid = true) (he : cfgEnabled s.regs sl = true) : s.mailboxAccess sl pasid 8 t = t := by
  rw [State.mailboxAccess, if_neg (by simp [hr]), if_neg (by simp [hm]), if_neg (by simp [he])]

/-- A word of a tenant's ring is none of the mailbox's indices (R303). -/
theorem mbx_tenantWord {s : State} {sl w j : Nat} (v : Word) (hw : tenantRing w = true) (hj : j < 1024) :
    (s.tenantWord sl w v).mbx sl j = s.mbx sl j := by
  rw [State.tenantWord, if_pos hw]
  simp only [tenantRing, Bool.and_eq_true, decide_eq_true_eq] at hw
  exact mapGet_mapSet_ne _ _ _ _ (by omega)

theorem mbx_forEach_tenantWord {slots : List (Nat × Word)} (h : ∀ x ∈ slots, tenantRing x.1 = true) (s : State) (sl : Nat) {j : Nat}
    (hj : j < 1024) : (forEach slots s (fun x u => u.tenantWord sl x.1 x.2)).mbx sl j = s.mbx sl j := by
  induction slots generalizing s with
  | nil => rfl
  | cons x slots ih =>
    obtain ⟨hx, hrest⟩ := List.forall_mem_cons.mp h
    exact (ih hrest _).trans (mbx_tenantWord x.2 hx hj)

theorem leaves_t2mTail {s : State} {sl v : Nat} {pasid : Option Nat} {slots : List (Nat × Word)} (hr : s.isReady = true)
    (hsl : tenantOk sl = true) (hv : v < 65536) (hpasid : pasidOk pasid = true) (hm : s.mailboxMapped sl pasid = true)
    (he : cfgEnabled s.regs sl = true) (hslots : slots.all (fun x => decide (x.1 < 2048)) = true)
    (hfits : tailFits (s.t2mTail sl) (s.t2mHead sl) v = true) (hring : ∀ x ∈ slots, tenantRing x.1 = true) :
    Leaves (.t2mTail sl v pasid 8 slots) s ((forEach slots s (fun x u => u.tenantWord sl x.1 x.2)).setMbx sl 0 (word v)) := by
  refine leaves_effect rfl (and_ok (and_ok (and_ok (and_ok hsl (decide_eq_true hv)) hpasid) rfl) hslots) (isReady_alive hr) ?_
  rw [mailboxAccess_accepted _ hr hm he]
  refine if_pos ?_
  rwa [State.t2mTail, State.t2mHead, mbx_forEach_tenantWord hring s sl (by decide), mbx_forEach_tenantWord hring s sl (by decide)]

theorem leaves_m2tHead {s : State} {sl v : Nat} {pasid : Option Nat} (hr : s.isReady = true)
    (hsl : tenantOk sl = true) (hv : v < 65536) (hpasid : pasidOk pasid = true) (hm : s.mailboxMapped sl pasid = true)
    (he : cfgEnabled s.regs sl = true) (hfits : headFits (s.m2tTail sl) (s.m2tHead sl) v = true) :
    Leaves (.m2tHead sl v pasid 8) s ((s.setMbx sl 3 (word v)).pumpM2t sl) :=
  leaves_effect rfl (and_ok (and_ok (and_ok hsl (decide_eq_true hv)) hpasid) rfl) (isReady_alive hr)
    ((mailboxAccess_accepted _ hr hm he).trans (if_pos hfits))

section
variable {s : State} {path : Path} {sl v : Nat} (hr : s.isReady = true) (hp : pathOk path = true) (hsl : tenantOk sl = true)
  (hv : v < 65536) (he : cfgEnabled s.regs sl = true)
include hr hp hsl hv he

theorem leaves_t2mHead (h : s.t2mHeadOk sl v = true) : Leaves (.t2mHead path sl v) s (s.setMbx sl 1 (word v)) :=
  leaves_taken rfl (and_ok (and_ok hp hsl) (decide_eq_true hv)) hr hp ((if_pos he).trans (if_pos h))

theorem leaves_m2tTail (h : tailFits (s.m2tTail sl) (s.m2tHead sl) v = true) (hne : v ≠ s.m2tTail sl) :
    Leaves (.m2tTail path sl v) s ((s.setMbx sl 2 (word v)).setPending .TEN_M2T_PENDING sl) :=
  leaves_taken rfl (and_ok (and_ok hp hsl) (decide_eq_true hv)) hr hp ((if_pos he).trans ((if_pos h).trans (if_neg hne)))

end

section
variable {s : State} {sl : Nat} (ha : s.alive = true) (hsl : tenantOk sl = true)
include ha hsl

section
variable {ws : List Word} (h : s.t2mMessage sl = some ws)
include h

theorem leaves_query (ht : msgType ws = 1) :
    Leaves (.query sl) s ((s.t2mPast sl).tenReply sl 0x81 0 ws (word (getBits 31 0 (s.mbx sl 32)))) :=
  leaves_effect rfl hsl ha (by
    simp only [h]
    exact if_pos ht)

theorem leaves_t2mTypeInvalid (ht : typeInvalid (msgType ws) = true) :
    Leaves (.t2mTypeInvalid sl) s ((s.t2mPast sl).tenReply sl 0x81 0x1403 ws 0) :=
  leaves_effect rfl hsl ha (by
    simp only [h]
    exact if_pos ht)

theorem leaves_tenAttest {code : Nat} {pages : List (Nat × Nat)} (ht : msgType ws = 2)
    (hc : code = 0 ∨ code = 0x1404 ∨ code / 256 = 7) (hl : pages.length = 2) (hpages : ∀ x ∈ pages, x.1 % 4096 = 0 ∧ x.2 < 1024) :
    Leaves (.tenAttest sl code pages) s
      (((s.t2mPast sl).attestReply sl code pages ws).2.tenReply sl 0x82 ((s.t2mPast sl).attestReply sl code pages ws).1 ws 0) := by
  have hcode : (decide (code = 0 ∨ code = 0x1404) || code / 256 == 0x07) = true := by simpa [or_assoc] using hc
  have hall : pages.all (fun x => x.1 % 4096 == 0 && decide (x.2 < 1024)) = true := by simpa using hpages
  refine leaves_effect rfl (and_ok (and_ok (and_ok hsl hcode) (beq_iff_eq.mpr hl)) hall) ha ?_
  simp only [h]
  exact if_pos ht

end

theorem leaves_managerMessage (h : managerType (s.t2mType sl) = true) :
    Leaves (.managerMessage sl) s (s.setPending .TEN_T2M_PENDING sl) := leaves_effect rfl hsl ha (if_pos h)

theorem leaves_sliceFrozen (h : s.sliceState sl = 2) (hrest : s.sliceAtRest sl = true) :
    Leaves (.sliceFrozen sl) s ((s.freezeSlice sl).freezeNotice sl 1) := leaves_effect rfl hsl ha (if_pos ⟨h, hrest⟩)

end

/-! ## Moves of slices -/

/-- A TEN_CMD that is taken and not refused (R311). -/
theorem leaves_tenCmd {s t : State} {path : Path} {op sl : Nat} {i : Instr} {ok : Bool} {r : Sum Nat State} (hr : s.isReady = true)
    (hp : pathOk path = true) (h : exec i s = onUnit s ok (s.tenCmd path op sl r)) (hok : ok = true) (hb : s.tenBusy op sl = false)
    (ht : r = .inr t) : Leaves i s (t.setFld .TEN_STATUS_SLICE 0 sl) := by
  subst ht
  exact leaves_taken h hok hr hp (if_neg (by simp [hb]))

section
variable {s : State} {sl : Nat} (ha : s.alive = true)
include ha

theorem leaves_saveDone (hrun : s.ten.run = some ⟨3, sl⟩) (h : s.imageWritten = true) :
    Leaves (.saveDone 0) s (((s.setSliceState sl 5).endSave).tenOver 0) := by
  refine leaves_effect rfl rfl ha ?_
  simp only [hrun]
  rw [if_neg (by decide), if_neg (by decide), if_pos h]

theorem leaves_restoreKeysReady {keys : List (Nat × Key)} {t : State} (hrun : s.ten.run = some ⟨5, sl⟩)
    (hk : ∀ k ∈ keys, k.1 < 1024) (h : keys.foldl (restoreKey sl) (.inr s) = .inr t) :
    Leaves (.restoreKeysReady keys) s ((t.setSliceState sl 7).dropOffer.tenOver 0) := by
  refine leaves_effect rfl (List.all_eq_true.mpr fun k hm => decide_eq_true (hk k hm)) ha ?_
  simp only [hrun, h]
  exact if_neg (by decide)

theorem leaves_restoreDone {records : Nat} {im : RestoreImage} {t : State} (hrun : s.ten.run = some ⟨6, sl⟩) (hrec : records < 2 ^ 32)
    (him : imageOk im = true) (h : (s.setFld .TEN_STATUS_PROGRESS 0 records).restoreAll sl im = .inr t) :
    Leaves (.restoreDone records 0 im) s ((((t.setSliceState sl 3).freezeNotice sl 3).endRestore sl).tenOver 0) := by
  refine leaves_effect rfl (and_ok (and_ok (decide_eq_true hrec) rfl) him) ha ?_
  simp only [hrun, h]
  rw [if_neg (by decide), if_neg (by decide)]

end

end Sys2Proof.Scope

namespace Sys2Proof.Scope

open Sys2Proof Sys2Proof.Machine Sys2Proof.Laws

/-! ## Links -/

section
variable {s : State} {p : Nat} (ha : s.alive = true) (hp : p < 16)
include ha hp

section
variable (ho : s.linkOpen p = true)
include ho

section
variable {f : Flit} (hf : flitOk f = true) (hfsn : f.fsn = (s.link p).fsnRx + (s.link p).partialRx.length)
  (hi : f.index = (s.link p).partialRx.length)
include hf hfsn hi

/-- The next flit of a group in order: the last one ends the group, another waits with it (R324, R325). -/
theorem leaves_klfFlit (h : f.last = true ∨ (s.link p).partialRx.length < 7) : Leaves (.klfFlit p f) s
    (if f.last then s.groupDone p ((s.link p).partialRx ++ [f])
      else s.setLink p { s.link p with partialRx := (s.link p).partialRx ++ [f] }) := by
  have horder : ¬ (s.linkOpen p = false ∨ f.fsn ≠ (s.link p).fsnRx + (s.link p).partialRx.length) := by simp [ho, hfsn]
  have hgroup : ¬ (f.index ≠ (s.link p).partialRx.length ∨ (f.last = false ∧ ((s.link p).partialRx ++ [f]).length = 8)) := by
    rw [List.length_append, List.length_singleton]
    rintro (hn | ⟨hlast, hlen⟩)
    · exact hn hi
    · rw [hlast] at h
      simp only [Bool.false_eq_true, false_or] at h
      omega
  exact leaves_effect rfl (and_ok (decide_eq_true hp) hf) ha ((if_neg horder).trans (if_neg hgroup))

theorem leaves_klfFlit_last (h : f.last = true) : Leaves (.klfFlit p f) s (s.groupDone p ((s.link p).partialRx ++ [f])) := by
  have hl := leaves_klfFlit ha hp ho hf hfsn hi (.inl h)
  rwa [if_pos h] at hl

theorem leaves_klfFlit_next (h : f.last = false) (hlen : (s.link p).partialRx.length < 7) :
    Leaves (.klfFlit p f) s (s.setLink p { s.link p with partialRx := (s.link p).partialRx ++ [f] }) := by
  have hl := leaves_klfFlit ha hp ho hf hfsn hi (.inr hlen)
  rwa [if_neg (by simp [h])] at hl

end

theorem leaves_linkReplayRequest {fsn : Nat} (hw : (s.link p).window = false) : Leaves (.linkReplayRequest p fsn) s (s.resend p fsn) := by
  refine leaves_effect rfl (decide_eq_true hp) ha ?_
  rw [if_neg (by simp [ho]), if_neg (by simp [hw])]

theorem leaves_rekeyDue (h : s.fld .LNK_COUNT_GROUPS p ≤ 2 ^ 39) :
    Leaves (.rekeyDue p) s ((s.groupsReach p (2 ^ 39)).setCause 0x0D 0) :=
  leaves_effect rfl (decide_eq_true hp) ha (if_pos ⟨ho, h⟩)

theorem leaves_sealLimit (h : (s.link p).sealHold = false) : Leaves (.sealLimit p) s
    (let u := (s.groupsReach p (2 ^ 40)).modLink p (fun l => { l with sealHold := true })
    (u.setFld .LNK_PORT_STATUS_STATE p 3).raise .error 0x0D07 (u.portSlice p) (172 + p)) :=
  leaves_effect rfl (decide_eq_true hp) ha (if_pos ⟨ho, h⟩)

end

section
variable {x : Kx} (hk : s.kx = some x) (hx : x.port = p)
include hk hx

theorem leaves_kxTimeout : Leaves (.kxTimeout p) s ((s.advanceTo (x.startAt + 10000000)).kxFail x) := by
  refine leaves_effect rfl (decide_eq_true hp) ha ?_
  simp only [State.kxOn, hk, Option.filter_some, hx, beq_self_eq_true, if_true]

section
variable (hon : s.stationOn .link p = true)
include hon

omit ha hp in
theorem kxTakes_exchange : s.kxTakes p = some x := by
  simp only [State.kxTakes, hon, State.kxOn, hk, Option.filter_some, hx, beq_self_eq_true, if_true]

theorem leaves_kxHello (st : PeerStatement) (pub : List Byte) (hh : x.peerHello = none) (hst : s.fld .LNK_PORT_STATUS_STATE p ≠ 0) :
    Leaves (.kxHello p st pub) s (s.onHello x st pub) := by
  refine leaves_effect rfl (decide_eq_true hp) ha ?_
  simp only [kxTakes_exchange hk hx hon]
  exact if_pos ⟨by rw [hh]; rfl, hst⟩

theorem leaves_kxFinish {cipher h keys : List Byte} (hh : x.peerHello = some h) (hc : x.peerCipher = none)
    (hkeys : s.kxKeys x h (fit 1568 cipher) = some keys) : Leaves (.kxFinish p cipher) s
      (({ s with kx := some { x with peerCipher := some (fit 1568 cipher) } } : State).ctl p 2 0
        (s.kxMac x keys h (fit 1568 cipher))) := by
  refine leaves_effect rfl (decide_eq_true hp) ha ?_
  simp only [kxTakes_exchange hk hx hon, hh, hc, hkeys]

theorem leaves_kxConfirm {mac c h keys : List Byte} (hh : x.peerHello = some h) (hc : x.peerCipher = some c)
    (hkeys : s.kxKeys x h c = some keys) (hmac : fit 48 mac = s.kxMac x keys h c) (hslots : s.kxSlotsOk x.slotTx x.slotRx = true) :
    Leaves (.kxConfirm p mac) s ((s.kxStore x keys).kxOver 0) := by
  refine leaves_effect rfl (decide_eq_true hp) ha ?_
  simp only [kxTakes_exchange hk hx hon, hh, hc, hkeys]
  exact if_pos ⟨hmac, hslots⟩

end

end

theorem leaves_linkRetireDone {phase : Bool} (h : (s.link p).retire = some phase) (hm : s.mayRetire p phase = true) :
    Leaves (.linkRetireDone p) s
      (((s.modLink p (fun l => { l with retire := none, keys := (phaseEntries phase).foldl mapErase l.keys })).count
        .LNK_PORT_STATUS_RETIRE_DONE p).setCause 0x0D 3) := by
  refine leaves_effect rfl (decide_eq_true hp) ha ?_
  simp only [h]
  exact if_pos hm

theorem leaves_retrainAck (h : (s.link p).window = true) : Leaves (.retrainAck p) s
    (let u := s.setLink p { s.link p with window := false, replayFrom := none }
    let v := if u.fld .LNK_PORT_STATUS_STATE p = 3 ∧ (s.link p).sealHold = false then u.setFld .LNK_PORT_STATUS_STATE p 2 else u
    (match (s.link p).replayFrom with
    | some fsn => v.resend p fsn
    | none => v).pumpLink p) :=
  leaves_effect rfl (decide_eq_true hp) ha (if_neg (by simp [h]))

section
variable (hon : s.stationOn .link p = true)
include hon

theorem leaves_laneCe {n : Nat} (hn : n < 9) : Leaves (.laneCe p n) s
    (let ms := s.clock.gtb / 1000000
    let old := mapGet 0 (s.link p).laneCe n
    let k := if old / 2 ^ 32 = ms then old % 2 ^ 32 + 1 else 1
    let u := s.modLink p (fun l => { l with laneCe := mapSet 0 l.laneCe n (ms * 2 ^ 32 + k) })
    if u.fld .LNK_LANE_THRESHOLD p < k then u.laneFail p n else u) :=
  leaves_effect rfl (and_ok (decide_eq_true hp) (decide_eq_true hn)) ha (if_neg (by simp [hon]))

theorem leaves_laneLost {n : Nat} (hn : n < 9) (h : s.laneBad p n = false) : Leaves (.laneLost p n) s
    (if ((s.laneFail p n).link p).up = true ∧ ((s.laneFail p n).link p).window = false
      then (s.laneFail p n).openWindow p else s.laneFail p n) :=
  leaves_effect rfl (and_ok (decide_eq_true hp) (decide_eq_true hn)) ha (if_neg (by simp [hon, h]))

theorem leaves_laneMap {n : Nat} (hn : n < 8) (h : s.laneFree p = true) :
    Leaves (.laneMap p n) s (s.modLink p (fun l => { l with pendingMap := some n })) :=
  leaves_effect rfl (and_ok (decide_eq_true hp) (decide_eq_true (Nat.lt_succ_of_lt hn))) ha (if_pos ⟨hon, hn, h⟩)

theorem leaves_retrainingWindow (hup : (s.link p).up = true) (hw : (s.link p).window = false)
    (h : 0 < s.fld .LNK_LANE_WINDOW_US p) :
    Leaves (.retrainingWindow p) s ((s.toMultiple (s.fld .LNK_LANE_WINDOW_US p * 1000)).openWindow p) :=
  leaves_effect rfl (decide_eq_true hp) ha (if_pos ⟨hon, hup, hw, h⟩)

end

end

section
variable {s : State} {path : Path} {p : Nat} (hr : s.isReady = true) (hpath : pathOk path = true) (hp : p < 16)
include hr hpath hp

theorem leaves_kxStart {tx rx : Nat} (up : Bool) (htx : slotOk tx = true) (hrx : slotOk rx = true) (h : s.kx = none) :
    Leaves (.kxStart path p tx rx up) s (s.kxBegin p tx rx up) :=
  leaves_taken rfl (and_ok (and_ok (and_ok hpath (decide_eq_true hp)) htx) hrx) hr hpath (if_neg (by simp [h]))

theorem leaves_linkRetire (phase : Bool) (hon : s.stationOn .link p = true) :
    Leaves (.linkRetire path p phase) s (s.modLink p (fun l => { l with retire := some phase })) :=
  leaves_taken rfl (and_ok hpath (decide_eq_true hp)) hr hpath (if_pos hon)

end

/-! ## Keys and the life cycle -/

/-- A KEY_CMD command that is taken with its SEED and not refused runs on to its end (R349). -/
theorem leaves_keyCmd {s t : State} {path : Path} {op target : Nat} {i : Instr} {ok : Bool} {r : KeyResult} {out : List Byte}
    (hr : s.isReady = true) (hp : pathOk path = true) (hw : s.well.run = none) (hf : s.functional = true)
    (hs : s.well.seed.isSome = true) (h : exec i s = onUnit s ok (s.keyCmd path op target r)) (hok : ok = true)
    (ht : r = .inr (t, out)) :
    Leaves i s ((if out.isEmpty then t else t.putKeyBuf out).keyRuns op target 0 out.length) :=
  leaves_effect h hok (isReady_alive hr) (keyCmd_runs hr hp hw hf hs ht)

/-- An ACCEPT that is not refused keeps its target (R356). -/
theorem leaves_accept {s t : State} {path : Path} {target : Nat} {out : List Byte} (hr : s.isReady = true) (hp : pathOk path = true)
    (hw : s.well.run = none) (hf : s.functional = true) (hs : s.well.seed.isSome = true) (htarget : slotOk target = true)
    (ht : s.accept target = .inr (t, out)) : Leaves (.accept path target) s
      ((if out.isEmpty then t else t.putKeyBuf out).keyRuns 7 target 0 out.length) := by
  refine leaves_effect rfl (and_ok hp htarget) (isReady_alive hr) ?_
  rw [if_neg (by simp [ht])]
  exact keyCmd_runs hr hp hw hf hs ht

section
variable {s : State} (ha : s.alive = true)
include ha

theorem leaves_keyCmdDone {r : KeyRun} (h : s.well.run = some r) (h0 : r.result = 0) : Leaves .keyCmdDone s
    (let u := ((({ s with well := { s.well with run := none } } : State).setFld .KEY_STATUS_BUSY 0 0).setFld
      .KEY_STATUS_RESULT 0 0).setFld .KEY_STATUS_OUT_LEN 0 r.outLen
    (if r.zeroBuf then u.zeroKeyBuf else u).setCause 0x0E 0) := by
  refine leaves_effect rfl rfl ha ?_
  simp only [h, h0]
  rw [if_neg (by decide)]

theorem leaves_entropyFail (h : s.well.entropyOk = true) :
    Leaves .entropyFail s (({ s with well := { s.well with entropyOk := false } } : State).alarm 0x0E0A) :=
  leaves_effect rfl rfl ha (if_pos ⟨ha, h⟩)

theorem leaves_reseed (h : s.well.entropyOk = true) : Leaves .reseed s { s with well := { s.well with requests := 0 } } :=
  leaves_effect rfl rfl ha (if_pos ⟨ha, h⟩)

theorem leaves_lcTransition_jtag {lc : Nat} (h : lc < 256) : Leaves (.lcTransition true .host lc) s (s.requestTransition lc) :=
  leaves_effect rfl (decide_eq_true h) ha (if_pos ha)

theorem leaves_lcTransitionReset {x : StartUp} {r : Transition} (hx : startUpOk x = true) (h : s.ledger.run = some r) :
    Leaves (.lcTransitionReset x) s
      (let u : State := { s with ledger := { s.ledger with otp := s.ledger.otp.finish r.gen, resumed := false } }
      (((u.lcClear.setFld .LCS_XSTATUS_BUSY 0 0).setFld .LCS_XSTATUS_STEP 0 0).advance x.elapsedNs).bootScan x) :=
  leaves_effect rfl hx ha (by simp only [h])

theorem leaves_programFail {r : Transition} (h : s.ledger.run = some r) : Leaves .programFail s
    ((((({ s with ledger := { s.ledger with run := none, stuck := true } } : State).setFld .LCS_XSTATUS_BUSY 0 0).setFld
      .LCS_XSTATUS_STEP 0 0).setFld .LCS_XSTATUS_RESULT 0 0x0F06).alarm 0x0F06) :=
  leaves_effect rfl rfl ha (by simp only [h])

theorem leaves_challenge_jtag {level : Nat} (h : level < 16) : Leaves (.challenge true .host level) s (s.challengeCmd level) :=
  leaves_effect rfl (decide_eq_true h) ha (if_pos ha)

theorem leaves_respond_jtag : Leaves (.respond true .host) s s.respondCmd := leaves_effect rfl rfl ha (if_pos ha)

theorem leaves_jtagInstruction {code : Nat} (h : code ≤ 6) : Leaves (.jtagInstruction code) s
    { s with ledger := { s.ledger with jtag := if s.jtagAllowed code then code else 0 } } :=
  leaves_effect rfl (decide_eq_true h) ha (if_pos ha)

end

end Sys2Proof.Scope

namespace Sys2Proof.Scope

open Sys2Proof Sys2Proof.Machine Sys2Proof.Laws

/-! ## Monitors, spares and the Crier -/

section
variable {s : State} (ha : s.alive = true)
include ha

theorem leaves_pmUpd {floor cap : Nat} (hf : floor < 65536) (hc : cap < 65536) : Leaves (.pmUpd floor cap) s
    (let u : State := if floor < s.fld .MON_CLOCK_FLOOR_MHZ then { s with mon := { s.mon with audit := true } } else s
    (u.setFld .MON_CLOCK_FLOOR_MHZ 0 floor).setFld .MON_CLOCK_CAP_W 0 cap) :=
  leaves_effect rfl (and_ok (decide_eq_true hf) (decide_eq_true hc)) ha (if_pos ha)

theorem leaves_audit (h : s.mon.audit = true) : Leaves .audit s s.runAudit := leaves_effect rfl rfl ha (if_pos ⟨ha, h⟩)

theorem leaves_clockMeasurement {mhz : Nat} (h : mhz < 65536) : Leaves (.clockMeasurement mhz) s
    (let u := (s.toMultiple 1000).setFld .MON_CLOCK_FCLK_MHZ 0 mhz
    if mhz < u.fld .MON_CLOCK_FLOOR_MHZ then u.alarm 0x1106 0 (word mhz) else u) :=
  leaves_effect rfl (decide_eq_true h) ha (if_pos ha)

theorem leaves_slackHint : Leaves .slackHint s
    (forEach (s.toMultiple 100000).enabledTenants (s.toMultiple 100000) (fun sl u => u.slackOf sl)) :=
  leaves_effect rfl rfl ha (if_pos ha)

theorem leaves_sliceEnergyReport : Leaves .sliceEnergyReport s
    (forEach (0 :: (s.toMultiple 1000000).enabledTenants) (s.toMultiple 1000000) (fun sl u =>
      u.emit (.pmEnergy sl (mapGet 0 u.mon.sliceUj sl)))) :=
  leaves_effect rfl rfl ha (if_pos ha)

theorem leaves_tempSample {m : MonitorSample} (h : sampleOk m = true) : Leaves (.tempSample m) s
    (forEach (List.range 16) (forEach (List.range 32) (forEach (List.range 48) (s.toMultiple 10000)
      (fun i u => u.takeTemp i (m.temps.getD i 0))) (fun i u => u.takeVolt i (m.volts.getD i 0)))
      (fun i u => u.setFld .MON_PROC_COUNT i (m.counts.getD i 0))) :=
  leaves_effect rfl h ha (if_pos ha)

theorem leaves_tempTrip {n : Nat} (h : n < 48) : Leaves (.tempTrip n) s ((s.alarm 0x1102 0 (word n)).inBand 0x1102) :=
  leaves_effect rfl (decide_eq_true h) ha (if_pos ha)

theorem leaves_tamper {n mv : Nat} {cold : Bool} (hn : n < 48) (hmv : mv < 65536)
    (h : cold = true ∨ mv < s.fld .MON_CTL_TAMPER_MV) : Leaves (.tamper n mv cold) s
      (let u := (s.alarm 0x1104 0 (word n)).inBand 0x1104
      if u.fld .MON_CTL_ZEROIZE_EN = 1 then ({ u with mon := { u.mon with zeroize := true } } : State).zeroKeys else u) :=
  leaves_effect rfl (and_ok (decide_eq_true hn) (decide_eq_true hmv)) ha (if_pos ⟨ha, h⟩)

theorem leaves_droop {d n : Nat} (hd : d < 24) (hn : n < 32) : Leaves (.droop (some d) n) s
    (let u : State := { s with mon := { s.mon with marked := (s.mon.marked ++ [d]).eraseDups } }
    let v := forEach ((List.range 72).filter (fun p => [d].contains (domainOf .memory p) && !(u.memSt p).slots.isEmpty)) u
      (fun p w => w.modMem p (fun m => { m with slots := m.slots.map (fun e => (e.1, { e.2 with marked := true })) }))
    (v.bump .MON_VOLT_DROOPS n).raise .log 0x1103 0 0x11 (word n)) :=
  leaves_effect rfl (and_ok (decide_eq_true hd) (decide_eq_true hn)) ha (if_pos ha)

theorem leaves_patrol {corrected : Nat} {mills worn : List (Nat × Nat)} {us : List PatrolTarget} (hu : us.all patrolOk = true)
    (hm : mills.all (fun e => memoryOk e.1) = true) (hw : worn.all (fun e => sramOk e.1) = true) :
    Leaves (.patrol corrected mills worn us) s (forEach us (((s.symbolsCorrected corrected mills).rowsWorn worn).bump
      .SPR_RS_UNCORRECTABLE 0 us.length) (fun x u => u.patrolLost x)).pumpDrover :=
  leaves_effect rfl (and_ok (and_ok hu hm) hw) ha (if_pos ha)

theorem leaves_coreUe {p c : Nat} (hp : p < 68) (hc : c < 9) : Leaves (.coreUe p c) s (s.coreFail (9 * p + c)) :=
  leaves_effect rfl (and_ok (decide_eq_true hp) (decide_eq_true hc)) ha (if_pos ha)

theorem leaves_coreHeartbeatTimeout {p c : Nat} (hp : p < 68) (hc : c < 9) :
    Leaves (.coreHeartbeatTimeout p c) s ((s.advance 1000).coreFail (9 * p + c)) :=
  leaves_effect rfl (and_ok (decide_eq_true hp) (decide_eq_true hc)) ha (if_pos ha)

theorem leaves_checkLogicDisagree {k : Nat} (hk : k < 68) : Leaves (.checkLogicDisagree k) s (s.clusterFail k) :=
  leaves_effect rfl (decide_eq_true hk) ha (if_pos ha)

theorem leaves_moverSelfCheckFail {k : Nat} (hk : k < 68) : Leaves (.moverSelfCheckFail k) s (s.moverFail k).pumpDrover :=
  leaves_effect rfl (decide_eq_true hk) ha (if_pos ha)

theorem leaves_memoryCe {p : Nat} (hp : p < 72) : Leaves (.memoryCe p) s (s.ceReport p) :=
  leaves_effect rfl (decide_eq_true hp) ha (if_pos ha)

theorem leaves_aesPipelineFail {kind : StationKind} {k n : Nat} (hkind : kind ≠ .cluster) (hk : stationOk kind k = true)
    (hn : n < (if kind = .memory then 6 else 28)) : Leaves (.aesPipelineFail kind k n) s (s.pipeFail kind k n) :=
  leaves_effect rfl (and_ok (and_ok (decide_eq_true hkind) hk) (decide_eq_true hn)) ha (if_pos ha)

theorem leaves_stewardHeartbeatTimeout {c : Nat} (hc : c < 5) : Leaves (.stewardHeartbeatTimeout c) s (s.stewardFail c) :=
  leaves_effect rfl (decide_eq_true hc) ha (if_pos ha)

theorem leaves_coreSubstitutionDone {c : Nat} {bad : List Nat} {x : CoreSub} (hc : c < 612)
    (hbad : bad.all (fun u => decide (u < 96)) = true) (h : s.spr.coreSubs.find? (fun y => y.core == c) = some x)
    (he : s.cacheEmpty c = true) (hne : s.physical c ≠ x.subst) : Leaves (.coreSubstitutionDone c bad) s (s.coreSubDone x bad) := by
  refine leaves_effect rfl (and_ok (decide_eq_true hc) hbad) ha ?_
  simp only [h]
  exact if_pos (and_ok he (bne_iff_ne.mpr hne))

theorem leaves_clusterSubstitutionDone {k x : Nat} (hk : k < 68) (h : s.spr.clusterSubs.find? (fun y => y.1 == k) = some (k, x))
    (hall : (s.coresBehind k).all (fun c => s.atBoundary c && s.cacheEmpty c) = true) :
    Leaves (.clusterSubstitutionDone k) s (s.clusterSubDone k x) := by
  refine leaves_effect rfl (decide_eq_true hk) ha ?_
  simp only [h]
  exact if_pos hall

theorem leaves_rebuildLeaf {macLost poisonLost : List Nat} (hall : (macLost ++ poisonLost).all (fun l => decide (l < 2 ^ 26)) = true)
    (hleaf : (macLost ++ poisonLost).all (fun l => l / 64 == s.fld .SPR_REBUILD_LEAF) = true) (hb : s.fld .SPR_REBUILD_BUSY = 1)
    (hlt : s.fld .SPR_REBUILD_LEAF + 1 < 1048576)
    (hfree : (s.memSt (s.fld .SPR_REBUILD_FROM)).slots.any (fun e => e.2.line / 64 == s.fld .SPR_REBUILD_LEAF) = false) :
    Leaves (.rebuildLeaf macLost poisonLost) s (s.rebuildStep (s.fld .SPR_REBUILD_LCHAN) (s.fld .SPR_REBUILD_FROM)
      (s.fld .SPR_REBUILD_TO) (s.fld .SPR_REBUILD_LEAF) macLost poisonLost) :=
  leaves_effect rfl hall ha
    ((if_pos ⟨hb, Nat.lt_of_succ_lt hlt, hleaf, by rw [hfree]; rfl⟩).trans (if_neg (Nat.ne_of_lt hlt)))

theorem leaves_crierRecordWrite {i : Nat} (hi : i < 3) (h : s.pdOn 23 = true) : Leaves (.crierRecordWrite i) s (s.writeRecord i) :=
  leaves_effect rfl (decide_eq_true hi) ha (if_pos ⟨ha, h⟩)

theorem leaves_ringIrqTimer {i : Nat} (hi : i < 3) (h : 0 < mapGet 0 s.crier.written i) :
    Leaves (.ringIrqTimer i) s ((s.advanceTo (s.ringTimerAt i)).setCause 0x13 (1 + i)) :=
  leaves_effect rfl (decide_eq_true hi) ha (if_pos h)

theorem leaves_errorHoldExpired {r : Rec} (h : s.crier.errorQ.find? (fun x => !x.held) = some r) : Leaves .errorHoldExpired s
    (let u := s.advanceTo (r.first + 1000 * s.holdUs)
    { u with crier := { u.crier with
      errorQ := modifyFirst (fun x => !x.held) (fun x => { x with held := true }) u.crier.errorQ } }) :=
  leaves_effect rfl rfl ha (by simp only [h])

end

end Sys2Proof.Scope

namespace Sys2Proof.Scope

open Sys2Proof Sys2Proof.Machine Sys2Proof.Laws

/-! ## Every command -/

/-- A command completes exactly when it is well-formed, stops with a fault otherwise, and is never refused (logs 9, 10). -/
theorem exec_completes_iff_wf (i : Instr) (s : State) :
    ((∃ t, exec i s = .next t) ↔ i.wf = true) ∧
    (i.wf = false → exec i s = .fault .noSuchUnit ∨ exec i s = .fault .ownRow) ∧ (∀ r, exec i s ≠ .refused r) := by
  rcases exec_shape i s with ⟨t, h⟩ | ⟨hw, h⟩
  · cases hw : i.wf <;> simp [h, hw, onBlock]
  · simp [h, hw]

/-- Settles O3: every meaning is an effect under the check of its operands, and each clause names the branch of its command's effect
that the clause's conditions select. -/
theorem commandCompletesExactlyWhenWellFormed : Obligations.CommandCompletesExactlyWhenWellFormed := by
  refine ⟨exec_completes_iff_wf, fun s ha => ?composition, fun s ha => ?requests, fun s ha => ?snoops, fun s ha => ?translation,
    fun s path hr hp => ?translationRegisters, fun s p ha hp => ?memory, fun s ha => ?memoryRest, fun s path hr hp => ?memoryRegisters,
    fun s core t ha hc h => ⟨fun _ => leaves_tileEnd ha hc h, leaves_tileWatchdog ha hc h, leaves_tileKilledAtDecl ha hc h⟩,
    fun s slot r ha hs h => ⟨leaves_preloadDone ha hs h, leaves_shareZeroDone ha hs h⟩, fun s ha => ?drover,
    fun s path hr hp => ?objects, fun s ha => ⟨fun _ => leaves_contextTeardownDone ha, fun _ _ => leaves_memoryObjectFreed ha⟩,
    fun s q v pasid hr hq hv hpasid hd h2 h5 => ?doorbells, fun s q ha hq => ?rings, fun s x rest => leaves_postedWriteTaken,
    fun s sl v pasid slots hr hsl hv hpasid hm he => ⟨leaves_t2mTail hr hsl hv hpasid hm he, leaves_m2tHead hr hsl hv hpasid hm he⟩,
    fun s path sl v hr hp hsl hv he => ⟨leaves_t2mHead hr hp hsl hv he, leaves_m2tTail hr hp hsl hv he⟩,
    fun s sl ws ha hsl h => ⟨leaves_query ha hsl h, leaves_t2mTypeInvalid ha hsl h, fun _ _ => leaves_tenAttest ha hsl h⟩,
    fun s sl ha hsl => ⟨leaves_managerMessage ha hsl, leaves_sliceFrozen ha hsl⟩, fun s t path sl hr hp hsl => ?moves,
    fun s sl ha => ⟨leaves_saveDone ha, fun _ _ => leaves_restoreKeysReady ha, fun _ _ _ => leaves_restoreDone ha⟩,
    fun s p ha hp ho => ?flits, fun s p ha hp => ?links, fun s path p hr hpath hp => ?linkRegisters,
    fun s t path out hr hp hw hf hs => ?keys, fun s ha => ?lifeCycle, fun s ha => ?monitors, fun s ha => ?spares, fun s ha => ?crier⟩
  case composition =>
    exact ⟨fun _ => leaves_checkBegin ha, fun _ => leaves_checkEnd ha, fun _ => leaves_commitInstant ha,
      fun _ _ hk hs => ⟨leaves_stubRelease ha hk hs, leaves_drainTimeout ha hk hs⟩, fun _ _ => leaves_sliceTeardownDone ha,
      leaves_flushComplete ha, fun _ => leaves_coreSramZeroDone ha⟩
  case requests =>
    exact ⟨fun r bs op cmp hr => ⟨leaves_portRequest ha hr rfl, leaves_portRequest ha hr rfl, leaves_portRequest ha hr rfl,
        leaves_portRequest ha hr rfl, leaves_portRequest ha hr rfl, fun hok => leaves_effect rfl hok ha rfl,
        fun hok => leaves_effect rfl hok ha rfl⟩,
      fun _ hc => leaves_effect rfl (decide_eq_true hc) ha rfl, fun _ _ _ _ _ => leaves_verifyVerdict ha,
      fun _ _ _ _ => leaves_releasedWriteRsp ha, fun _ _ _ => leaves_clusterAtomicBufferIdle ha⟩
  case snoops =>
    exact ⟨fun _ _ _ d _ hp hc hs h => ⟨leaves_ackI ha hp hc hs h, leaves_ackS ha hp hc hs h, leaves_dataDirty ha hp hc hs h d,
        leaves_wbPending ha hp hc hs h⟩,
      fun _ _ _ d _ hp hc hl h => ⟨leaves_writeback ha d hp hc hl h, leaves_evict ha hp hc hl h⟩,
      fun _ _ => leaves_snoopTimeout ha⟩
  case translation =>
    exact ⟨fun _ _ _ => leaves_walkComplete ha, fun _ _ _ _ => leaves_walkReadTimeout ha,
      fun _ r _ => leaves_migrationCasResult ha r, fun _ pos _ => leaves_extentRetranslate ha pos,
      fun _ _ _ => leaves_hostDmaCompletion ha, fun _ => leaves_ringDmaTimeout ha,
      fun _ _ hn => leaves_effect rfl (decide_eq_true hn) ha rfl, leaves_cacheFlushDone ha, leaves_faultBatchTimer ha⟩
  case translationRegisters =>
    exact ⟨fun _ _ hc hn => ⟨leaves_taken rfl (and_ok (and_ok hp hc) (decide_eq_true hn)) hr hp rfl,
        leaves_taken rfl (and_ok hp hc) hr hp rfl⟩,
      fun _ _ h1 h2 => leaves_taken rfl (and_ok (and_ok hp (decide_eq_true h1)) (decide_eq_true h2)) hr hp rfl,
      fun _ hsl => leaves_taken rfl (and_ok hp (decide_eq_true hsl)) hr hp rfl, leaves_taken rfl hp hr hp rfl,
      fun _ hi => leaves_taken rfl (and_ok hp (decide_eq_true hi)) hr hp rfl,
      fun _ _ _ hc hseq h => ⟨leaves_taken rfl (and_ok (and_ok hp hc) hseq) hr hp (resolve_found _ h),
        leaves_taken rfl (and_ok (and_ok hp hc) hseq) hr hp (resolve_found _ h)⟩⟩
  case memory =>
    exact ⟨fun _ _ _ => leaves_memoryOpAccept ha hp, fun _ _ _ _ _ => leaves_dramReadReturn ha hp,
      fun _ _ => leaves_macVerdict ha hp, fun _ _ => leaves_atomicBufferIdle ha hp⟩
  case memoryRest =>
    exact ⟨fun _ _ => leaves_scrubDone ha, leaves_poundClearDone ha,
      fun _ _ d be hpa hj hb ho => ⟨leaves_rawRead ha hpa hj hb ho, leaves_rawWrite ha hpa hj hb ho d be⟩, leaves_retirementDone ha⟩
  case memoryRegisters =>
    exact ⟨fun _ _ _ => leaves_poundClear hr hp, fun _ => leaves_keyidRetire hr hp, leaves_taken rfl hp hr hp rfl,
      leaves_taken rfl hp hr hp rfl, leaves_taken rfl hp hr hp rfl, leaves_taken rfl hp hr hp rfl, leaves_taken rfl hp hr hp rfl,
      leaves_taken rfl hp hr hp rfl⟩
  case drover =>
    exact ⟨fun _ _ _ hs hc => ⟨fun hok => leaves_startCmd ha hs hc (by decide) hok rfl rfl,
        fun hok => leaves_startCmd ha hs hc (by decide) hok rfl rfl⟩,
      fun _ _ => leaves_planDone ha,
      fun _ _ _ hc hj h => ⟨fun _ _ _ => leaves_droverTransferRsp ha hc hj h, leaves_journalExpired ha hc hj h,
        leaves_journalLost ha hc hj h⟩⟩
  case objects =>
    refine ⟨fun kind index slice code op fences h16 hi hsl hcode hf hop he hb hk => ?_,
      fun _ _ hi => leaves_taken rfl (and_ok hp (decide_eq_true hi)) hr hp rfl, leaves_taken rfl hp hr hp rfl,
      fun _ => leaves_objEnable hr hp, fun _ hi => leaves_taken rfl (and_ok hp (decide_eq_true hi)) hr hp rfl⟩
    have hok := and_ok (and_ok hp (decide_eq_true h16)) hi
    exact ⟨leaves_taken rfl hok hr hp (objAccept_taken he hb hk), leaves_taken rfl hok hr hp (objAccept_taken he hb hk),
      leaves_taken rfl hok hr hp (objAccept_taken he hb hk),
      leaves_taken rfl (and_ok (and_ok hok (decide_eq_true hsl)) hf) hr hp (objAccept_taken he hb hk),
      leaves_taken rfl (and_ok hok (decide_eq_true hcode)) hr hp (objAccept_ite he hb hk),
      leaves_taken rfl hok hr hp (objAccept_ite he hb hk),
      leaves_taken rfl (and_ok hp (decide_eq_true hop)) hr hp (objAccept_taken he hb (by decide))⟩
  case doorbells =>
    have hok := and_ok (and_ok hq (decide_eq_true hv)) hpasid
    exact ⟨leaves_effect rfl hok (isReady_alive hr) (doorbell_accepted _ hr hd h2 h5),
      leaves_effect rfl hok (isReady_alive hr) (doorbell_accepted _ hr hd h2 h5)⟩
  case rings =>
    refine ⟨leaves_queueSlotGrant ha hq, fun w ws hs hc => ?_, fun _ => leaves_fenceWaitWake ha hq,
      fun _ => leaves_commandInvalid ha hq⟩
    exact ⟨fun hok => leaves_startCmd ha hs hc (by decide) hok rfl rfl,
      fun htile => ⟨fun hok => leaves_startCmd ha hs hc (by decide) hok rfl (tileCmd_accepted _ htile),
        fun hok => leaves_startCmd ha hs hc (by decide) hok rfl (tileCmd_accepted _ htile),
        fun hok => leaves_startCmd ha hs hc (by decide) hok rfl (tileCmd_accepted _ htile)⟩,
      fun hok => leaves_startCmd ha hs hc (by decide) hok rfl rfl, fun hok => leaves_startCmd ha hs hc (by decide) hok rfl rfl,
      fun hok => leaves_startCmd ha hs hc (by decide) hok rfl rfl, fun hok => leaves_startCmd ha hs hc (by decide) hok rfl rfl⟩
  case moves =>
    have hok : (pathOk path && tenSliceOk sl) = true := and_ok hp (decide_eq_true hsl)
    refine ⟨leaves_tenCmd hr hp rfl hok, leaves_tenCmd hr hp rfl hok, fun _ _ => leaves_tenCmd hr hp rfl hok,
      leaves_tenCmd hr hp rfl hp, fun _ _ _ _ _ granules _ _ hb hg hsh => leaves_tenCmd hr hp rfl ?_ hb,
      fun hb hc => leaves_tenCmd hr hp rfl hok hb (if_neg (not_not.mpr hc)), fun _ hb hf => leaves_tenCmd hr hp rfl (and_ok hok hf) hb,
      leaves_tenCmd hr hp rfl hok, fun _ h => leaves_taken rfl (and_ok hp (decide_eq_true h)) hr hp rfl⟩
    exact and_ok (and_ok hok (List.all_eq_true.mpr fun g hm => decide_eq_true (hg g hm))) hsh
  case flits =>
    exact ⟨fun _ hf hfsn hi => ⟨leaves_klfFlit_last ha hp ho hf hfsn hi, leaves_klfFlit_next ha hp ho hf hfsn hi⟩,
      fun _ => leaves_linkReplayRequest ha hp ho, leaves_rekeyDue ha hp ho, leaves_sealLimit ha hp ho⟩
  case links =>
    exact ⟨fun _ => leaves_effect rfl (decide_eq_true hp) ha rfl,
      fun _ hk hx => ⟨leaves_kxTimeout ha hp hk hx, fun hon => ⟨fun st pub => leaves_kxHello ha hp hk hx hon st pub,
        fun _ _ _ => leaves_kxFinish ha hp hk hx hon, fun _ _ _ _ => leaves_kxConfirm ha hp hk hx hon⟩⟩,
      fun _ => leaves_linkRetireDone ha hp, leaves_retrainAck ha hp,
      fun hon => ⟨fun _ => leaves_laneCe ha hp hon, fun _ => leaves_laneLost ha hp hon, fun _ => leaves_laneMap ha hp hon,
        leaves_retrainingWindow ha hp hon⟩⟩
  case linkRegisters =>
    exact ⟨fun _ _ up => leaves_kxStart hr hpath hp up, fun phase => leaves_linkRetire hr hpath hp phase⟩
  case keys =>
    refine ⟨fun attr parent target hattr hparent htarget => ?_,
      fun _ hsl => leaves_keyCmd hr hp hw hf hs rfl (and_ok hp (decide_eq_true hsl)), leaves_keyCmd hr hp hw hf hs rfl hp,
      fun rs h8 h64 => leaves_keyCmd hr hp hw hf hs rfl
        (and_ok (and_ok hp (beq_iff_eq.mpr h8)) (List.all_eq_true.mpr fun r hm => beq_iff_eq.mpr (h64 r hm)))⟩
    have hok := and_ok hp (decide_eq_true hattr)
    exact ⟨leaves_keyCmd hr hp hw hf hs rfl (and_ok hok htarget),
      leaves_keyCmd hr hp hw hf hs rfl (and_ok (and_ok hok hparent) htarget),
      leaves_keyCmd hr hp hw hf hs rfl (and_ok (and_ok hok hparent) htarget), leaves_keyCmd hr hp hw hf hs rfl (and_ok hp hparent),
      leaves_keyCmd hr hp hw hf hs rfl (and_ok hp htarget),
      fun _ hsl => leaves_keyCmd hr hp hw hf hs rfl (and_ok (and_ok hp (decide_eq_true hsl)) htarget),
      leaves_accept hr hp hw hf hs htarget, leaves_keyCmd hr hp hw hf hs rfl (and_ok hp htarget)⟩
  case lifeCycle =>
    exact ⟨fun _ => leaves_keyCmdDone ha, fun h => ⟨leaves_entropyFail ha h, leaves_reseed ha h⟩, fun _ => leaves_lcTransition_jtag ha,
      fun _ _ => leaves_lcTransitionReset ha, fun _ => leaves_programFail ha, fun _ => leaves_challenge_jtag ha, leaves_respond_jtag ha,
      fun _ hr hp => leaves_taken rfl hp hr hp rfl, fun _ => leaves_jtagInstruction ha⟩
  case monitors =>
    exact ⟨fun _ _ => leaves_pmUpd ha, leaves_audit ha, fun _ => leaves_clockMeasurement ha, leaves_slackHint ha,
      leaves_sliceEnergyReport ha, fun _ => leaves_tempSample ha, fun _ => leaves_tempTrip ha, fun _ _ _ => leaves_tamper ha,
      fun _ _ _ _ => leaves_patrol ha⟩
  case spares =>
    exact ⟨fun _ _ hp hc => ⟨leaves_coreUe ha hp hc, leaves_coreHeartbeatTimeout ha hp hc⟩,
      fun _ hk => ⟨leaves_checkLogicDisagree ha hk, leaves_moverSelfCheckFail ha hk⟩, fun _ => leaves_memoryCe ha,
      fun _ _ _ => leaves_aesPipelineFail ha, fun _ => leaves_stewardHeartbeatTimeout ha, fun _ _ _ => leaves_coreSubstitutionDone ha,
      fun _ _ => leaves_clusterSubstitutionDone ha, fun _ _ => leaves_rebuildLeaf ha⟩
  case crier =>
    exact ⟨fun _ hi => ⟨leaves_crierRecordWrite ha hi, leaves_ringIrqTimer ha hi⟩, fun _ => leaves_errorHoldExpired ha,
      fun _ hr hp => ⟨leaves_taken rfl hp hr hp rfl, fun _ hl => leaves_taken rfl (and_ok hp (decide_eq_true hl)) hr hp rfl,
        fun _ _ hi hv => leaves_taken rfl (and_ok (and_ok hp (decide_eq_true hi)) (decide_eq_true hv)) hr hp rfl⟩,
      fun _ _ => leaves_droop ha⟩

end Sys2Proof.Scope

namespace Sys2Proof.Scope

open Sys2Proof Sys2Proof.Machine Sys2Proof.Laws

/-! ## Slots and tickets (R69–R74) -/

variable {s : State} {i ticket seq : Nat}

theorem getElem?_modifyAt {α : Type} (l : List α) (i j : Nat) (f : α → α) :
    (modifyAt l i f)[j]? = if j = i then l[j]?.map f else l[j]? := by
  induction l generalizing i j with
  | nil => simp [modifyAt]
  | cons a l ih =>
    cases i <;> cases j <;> simp [modifyAt, ih]

theorem slot_modSlot_ne (s : State) (f : CsSlot → CsSlot) {j : Nat} (h : j ≠ i) : (s.modSlot i f).slot j = s.slot j := by
  simp [State.slot, State.modSlot, List.getD_eq_getElem?_getD, getElem?_modifyAt, h]

theorem slot_modSlot_same (f : CsSlot → CsSlot) (h : i < s.moot.slots.length) : (s.modSlot i f).slot i = f (s.slot i) := by
  simp [State.slot, State.modSlot, List.getD_eq_getElem?_getD, getElem?_modifyAt, h]

theorem openSlot_eq_some {path : Path} (h : s.openSlot path = some i) :
    i < 4 ∧ ((s.slot i).state = .free ∨ (s.slot i).state = .refused) ∧ (path ≠ .steward → i ≠ 0) := by
  unfold State.openSlot at h
  split at h
  · have hp := List.find?_some h
    have hm := List.mem_of_find?_eq_some h
    rw [Bool.or_eq_true, decide_eq_true_eq, decide_eq_true_eq] at hp
    refine ⟨?_, hp, fun hpath => ?_⟩
    · split at hm <;> simp at hm <;> omega
    · rw [if_neg hpath] at hm
      simp at hm
      omega
  · cases h

/-- The slot of a set with a ticket holds that ticket. -/
theorem slotOf_eq_some (h : s.slotOf ticket = some i) : i < 4 ∧ (s.slot i).ticket = ticket := by
  have hp := List.find?_some h
  simp only [Bool.and_eq_true, beq_iff_eq] at hp
  exact ⟨List.mem_range.mp (List.mem_of_find?_eq_some h), hp.1.1⟩

/-- The five numbers that the counter gives next, among which R70's OPEN chooses. -/
def nextTickets (t : Nat) : List Nat :=
  [t, ticketAfter t, ticketAfter (ticketAfter t), ticketAfter (ticketAfter (ticketAfter t)),
    ticketAfter (ticketAfter (ticketAfter (ticketAfter t)))]

theorem ticketAfter_of_ne {t : Nat} (h : t ≠ 0xFFFFFFFF) : ticketAfter t = t + 1 := if_neg h

theorem nextTickets_nodup (t : Nat) : (nextTickets t).Nodup := by
  by_cases h : t ≠ 0xFFFFFFFC ∧ t ≠ 0xFFFFFFFD ∧ t ≠ 0xFFFFFFFE ∧ t ≠ 0xFFFFFFFF
  · obtain ⟨hc, hd, he, hf⟩ := h
    rw [nextTickets, ticketAfter_of_ne hf, ticketAfter_of_ne (by omega), ticketAfter_of_ne (by omega),
      ticketAfter_of_ne (by omega)]
    simp
    omega
  · obtain rfl | rfl | rfl | rfl : t = 0xFFFFFFFC ∨ t = 0xFFFFFFFD ∨ t = 0xFFFFFFFE ∨ t = 0xFFFFFFFF := by omega
    all_goals decide

/-- Four slots hold at most four of the five numbers. -/
theorem exists_nextTicket_unused (s : State) (t : Nat) : ∃ n ∈ nextTickets t, s.slotOf n = none := by
  by_contra hall
  push Not at hall
  have hsub : (nextTickets t) ⊆ (List.range 4).map (fun i => (s.slot i).ticket) := by
    intro n hn
    obtain ⟨i, hi⟩ := Option.ne_none_iff_exists'.mp (hall n hn)
    obtain ⟨h4, ht⟩ := slotOf_eq_some hi
    exact List.mem_map.mpr ⟨i, List.mem_range.mpr h4, ht⟩
  have hlen := ((nextTickets_nodup t).subperm hsub).length_le
  simp [nextTickets] at hlen

theorem slotOf_freshTicket (s : State) : s.slotOf s.freshTicket = none := by
  obtain ⟨n, hn, hfree⟩ := exists_nextTicket_unused s s.moot.nextTicket
  have hsome : ((nextTickets s.moot.nextTicket).find? (fun n => (s.slotOf n).isNone)).isSome = true :=
    List.find?_isSome.mpr ⟨n, hn, by rw [hfree]; rfl⟩
  obtain ⟨m, hm⟩ := Option.isSome_iff_exists.mp hsome
  have hfresh : s.freshTicket = m := congrArg (Option.getD · s.moot.nextTicket) hm
  have hnone := List.find?_some hm
  rw [hfresh]
  exact Option.isNone_iff_eq_none.mp hnone

/-! ## OPEN -/

/-- A change-set command of the fabric manager is taken from STEP 3 on. -/
theorem csGated_fm (ha : s.alive = true) (h3 : 3 ≤ s.step) (off : Nat) (t : State) : s.csGated .fm off t = t := by
  simp [State.csGated, ha, h3]

/-- At READY a change-set command is taken on every path. -/
theorem csGated_ready (h : s.isReady = true) (path : Path) (off : Nat) (t : State) : s.csGated path off t = t := by
  cases path with
  | fm => exact csGated_fm (isReady_alive h) (by simp [isReady_step h]) off t
  | host => exact gated_of_ready h rfl off t
  | steward => exact gated_of_ready h rfl off t

theorem leaves_csOpen {path : Path} (hseq : seq < 65536) (ha : s.alive = true)
    (hg : ∀ t, s.csGated path 0x180000 t = t) : Leaves (.csOpen path seq) s (s.openSet path seq) :=
  leaves_effect rfl (decide_eq_true hseq) ha (hg _)

/-- The OPEN set that slot `i` takes (R69). -/
def openedSet (s : State) (path : Path) : CsSlot := { CsSlot.init with state := .opened, ticket := s.freshTicket, writer := path }

/-- Slot `i` holds a fresh OPEN set, and the Moot remembers its ticket's successor and its path. -/
def withOpened (s : State) (path : Path) (i : Nat) : State :=
  ({ s with moot := { s.moot with nextTicket := ticketAfter s.freshTicket, rotor := path } } : State).modSlot i
    (fun _ => openedSet s path)

theorem slots_withOpened (path : Path) (h : i < s.moot.slots.length) :
    (withOpened s path i).slot i = openedSet s path ∧ ∀ j, j ≠ i → (withOpened s path i).slot j = s.slot j :=
  ⟨slot_modSlot_same _ h, fun _ hj => slot_modSlot_ne _ _ hj⟩

theorem openSet_some_host (h : s.openSlot .host = some i) : s.openSet .host seq =
    { withOpened s .host i with moot := { (withOpened s .host i).moot with
        openedHost := (s.freshTicket, i), selHost := some i } } := by
  unfold State.openSet
  rw [h]
  rfl

theorem openSet_some_steward (h : s.openSlot .steward = some i) : s.openSet .steward seq =
    { withOpened s .steward i with moot := { (withOpened s .steward i).moot with
        openedSteward := (s.freshTicket, i), selSteward := some i } } := by
  unfold State.openSet
  rw [h]
  rfl

theorem openSet_some_fm (h : s.openSlot .fm = some i) : s.openSet .fm seq =
    ({ withOpened s .fm i with moot := { (withOpened s .fm i).moot with
        fmSeq := mapPut s.moot.fmSeq s.freshTicket seq } } : State).emit (.fmTicket seq s.freshTicket) := by
  unfold State.openSet
  rw [h]
  rfl

theorem openSet_none_host (h : s.openSlot .host = none) :
    s.openSet .host seq = { s with moot := { s.moot with openedHost := (0, 0) } } := by
  unfold State.openSet
  rw [h]
  rfl

theorem openSet_none_fm (h : s.openSlot .fm = none) : s.openSet .fm seq = s.emit (.fmTicket seq 0) := by
  unfold State.openSet
  rw [h]
  rfl

/-- Settles O19: the slot that OPEN takes is one it may take, and each path's answer is read off what `openSet` leaves. -/
theorem openGivesTicketAndSlot : Obligations.OpenGivesTicketAndSlot := by
  have hlen : ∀ {path : Path} {i : Nat} {s : State}, s.openSlot path = some i → s.moot.slots.length = 4 →
      i < s.moot.slots.length := fun ho hl => hl ▸ (openSlot_eq_some ho).1
  have hready : ∀ {s : State} (path : Path) {seq : Nat}, seq < 65536 → s.isReady = true →
      Leaves (.csOpen path seq) s (s.openSet path seq) := fun path _ hseq hr =>
    leaves_csOpen hseq (isReady_alive hr) (csGated_ready hr path _)
  refine ⟨fun seq i s hseq hr ho hl => ?host, fun seq i s hseq hr ho hl => ?steward, fun seq i s hseq hr ho hl => ?fm,
    fun seq s hseq hr ho => ?none, fun seq s hseq ha h3 ho => ?fmNone, fun s path i ho => openSlot_eq_some ho, slotOf_freshTicket⟩
  case host =>
    obtain ⟨hslot, hothers⟩ := slots_withOpened (s := s) .host (hlen ho hl)
    have hleaves := hready .host hseq hr
    rw [openSet_some_host ho] at hleaves
    exact Leaves.answers hleaves ⟨hslot, hothers, rfl⟩
  case steward =>
    obtain ⟨hslot, hothers⟩ := slots_withOpened (s := s) .steward (hlen ho hl)
    have hleaves := hready .steward hseq hr
    rw [openSet_some_steward ho] at hleaves
    exact Leaves.answers hleaves ⟨hslot, hothers, rfl, rfl⟩
  case fm =>
    obtain ⟨hslot, hothers⟩ := slots_withOpened (s := s) .fm (hlen ho hl)
    have hleaves := hready .fm hseq hr
    rw [openSet_some_fm ho] at hleaves
    exact Leaves.answers hleaves ⟨hslot, hothers, rfl⟩
  case none => exact openSet_none_host ho ▸ hready .host hseq hr
  case fmNone => exact openSet_none_fm ho ▸ leaves_csOpen (path := .fm) hseq ha (csGated_fm ha h3 _)

/-! ## SELECT, STAGE and CHECK -/

theorem ownSet_opened {path : Path} (h : s.ownSet path ticket = some i) (ho : (s.slot i).state = .opened) :
    (s.ownSet path ticket).filter (fun i => decide ((s.slot i).state = .opened)) = some i := by
  simp [h, ho]

/-- Settles O20, command by command. -/
theorem stagingFillsTheSelectedSet : Obligations.StagingFillsTheSelectedSet := by
  refine ⟨fun ticket i s hr ht h ho => ?_, fun ticket s hr ht h => ?_, fun ticket seq i w0 w1 s hr ht hseq hsel => ?_,
    fun ticket seq i w0 w1 s ha h3 ht hseq h ho => ?_, fun ticket seq i s hr ht hseq h ho => ?_,
    fun ticket seq s hr ht hseq h => ?_, fun type seq s ha h3 hseq h5 h256 => ?_⟩
  · exact leaves_taken rfl ht hr rfl (by rw [ownSet_opened h ho]; rfl)
  · exact leaves_taken rfl ht hr rfl (by rw [h]; rfl)
  · exact leaves_effect rfl (and_ok ht (decide_eq_true hseq)) (isReady_alive hr) (by
      rw [csGated_ready hr .host]
      simp only [State.setEntryW0, State.stageSelected, hsel, reduceCtorEq, if_true, if_false]
      rfl)
  · exact leaves_effect rfl (and_ok ht (decide_eq_true hseq)) ha (by
      rw [csGated_fm ha h3, if_pos rfl, ownSet_opened h ho])
  · exact leaves_effect rfl (and_ok ht (decide_eq_true hseq)) (isReady_alive hr) (by
      rw [csGated_ready hr .host, ownSet_opened h ho]
      rfl)
  · exact leaves_effect rfl (and_ok ht (decide_eq_true hseq)) (isReady_alive hr) (by
      rw [csGated_ready hr .host, h]
      rfl)
  · exact leaves_effect rfl (and_ok (and_ok (decide_eq_true hseq) (decide_eq_true h256)) (decide_eq_true (.inr h5))) ha
      (csGated_fm ha h3 _ _)

end Sys2Proof.Scope

namespace Sys2Proof.Scope

open Sys2Proof Sys2Proof.Machine Sys2Proof.Laws

/-! ## The copies of the global time base (R87–R89) -/

variable {s : State}

/-- While the GTB runs, it reaches an instant that lies ahead. -/
theorem gtb_advanceTo {n : Nat} (hr : s.clock.running = true) (hn : s.clock.gtb ≤ n) :
    (s.advanceTo n).clock = { s.clock with gtb := n } := by
  rw [State.advanceTo, advance_clock _ _ hr, Nat.add_sub_cancel' hn]

/-- The greatest of a list of skews and a start. -/
theorem foldl_max_le (l : List (Nat × Nat)) (m n : Nat) (hm : m ≤ n) (h : ∀ x ∈ l, x.2 ≤ n) :
    l.foldl (fun m x => max m x.2) m ≤ n := by
  induction l generalizing m with
  | nil => exact hm
  | cons x l ih =>
    obtain ⟨hx, hl⟩ := List.forall_mem_cons.mp h
    exact ih (max m x.2) (max_le hm hx) hl

theorem foldl_max_append_greatest {l : List (Nat × Nat)} {x : Nat × Nat} (h : ∀ y ∈ l, y.2 ≤ x.2) :
    (l ++ [x]).foldl (fun m x => max m x.2) 0 = x.2 := by
  rw [List.foldl_append]
  exact max_eq_right (foldl_max_le l 0 x.2 (Nat.zero_le _) h)

section
variable {src skew : Nat}

theorem clock_lockCopy_near (h : skew ≤ 2000) : (s.lockCopy src skew).clock = { s.clock with
    locked := if s.clock.locked.contains src then s.clock.locked else s.clock.locked ++ [src]
    skews := s.clock.skews.filter (fun x => x.1 ≠ src) ++ [(src, skew)] } := by
  simp [State.lockCopy, h]

theorem clock_lockCopy_far (h : 2000 < skew) : (s.lockCopy src skew).clock = { s.clock with
    locked := s.clock.locked.filter (· ≠ src), skews := s.clock.skews.filter (fun x => x.1 ≠ src) } := by
  simp [State.lockCopy, Nat.not_le.mpr h]

theorem mem_locked_near (h : skew ≤ 2000) (x : Nat) :
    x ∈ (s.lockCopy src skew).clock.locked ↔ x ∈ s.clock.locked ∨ x = src := by
  rw [clock_lockCopy_near h]
  show x ∈ (if s.clock.locked.contains src then s.clock.locked else s.clock.locked ++ [src]) ↔ _
  split
  · rename_i hm
    refine ⟨.inl, ?_⟩
    rintro (hx | rfl)
    · exact hx
    · exact List.contains_iff_mem.mp hm
  · simp

theorem mem_skews_near (h : skew ≤ 2000) (x : Nat × Nat) :
    x ∈ (s.lockCopy src skew).clock.skews ↔ (x ∈ s.clock.skews ∧ x.1 ≠ src) ∨ x = (src, skew) := by
  rw [clock_lockCopy_near h]
  simp

theorem mem_locked_far (h : 2000 < skew) (x : Nat) : x ∈ (s.lockCopy src skew).clock.locked ↔ x ∈ s.clock.locked ∧ x ≠ src := by
  rw [clock_lockCopy_far h]
  simp

theorem mem_skews_far (h : 2000 < skew) (x : Nat × Nat) :
    x ∈ (s.lockCopy src skew).clock.skews ↔ x ∈ s.clock.skews ∧ x.1 ≠ src := by
  rw [clock_lockCopy_far h]
  simp

/-- MAX_SKEW_PS shows a skew that no other station's exceeds. -/
theorem maxSkew_lockCopy (h : skew ≤ 2000) (hmax : ∀ x ∈ s.clock.skews, x.1 = src ∨ x.2 ≤ skew) :
    (s.lockCopy src skew).fld .STG_GTB_STATUS_MAX_SKEW_PS = skew := by
  have hskews : (s.lockCopy src skew).clock.skews.foldl (fun m x => max m x.2) 0 = skew := by
    rw [clock_lockCopy_near h]
    refine foldl_max_append_greatest fun y hy => ?_
    obtain ⟨hy, hne⟩ := List.mem_filter.mp hy
    exact (hmax y hy).resolve_left (by simpa using hne)
  have hfld : (s.lockCopy src skew).fld .STG_GTB_STATUS_MAX_SKEW_PS =
      (s.lockCopy src skew).clock.skews.foldl (fun m x => max m x.2) 0 % 2 ^ 16 := fld_setFld_same _ _ _ _ (by decide)
  rw [hfld, hskews]
  exact Nat.mod_eq_of_lt (by omega)

end

theorem leaves_gtbCopyLocked {kind : StationKind} {k skew : Nat} (ha : s.alive = true) (hk : stationOk kind k = true)
    (hskew : skew < 65536) (hon : s.stationOn kind k = true) : Leaves (.gtbCopyLocked kind k skew) s
      ((s.advanceTo ((s.clock.gtb + 999) / 1000 * 1000)).lockCopy (sourceOf kind k) skew) :=
  leaves_effect rfl (and_ok hk (decide_eq_true hskew)) ha (if_pos ⟨ha, .inl hon⟩)

/-! ## Metering (R67, R68) -/

/-- A METER_REPORT row of a slice, as it reads the counters. -/
def meterOf (s : State) (seq sl : Nat) : Output :=
  .fmMeter seq sl (s.rd .CMP_RES_TIME_NS sl) (s.rd .CMP_RES_CORE_US sl) (s.rd .CMP_RES_MEMCH_US sl) (s.rd .CMP_RES_LINK_US sl)

/-- A loop that sends one message per element, none of which depends on what was sent, appends them in order. -/
theorem forEach_emit {α : Type} (l : List α) (s : State) (f : α → State → State) (g : α → Output)
    (h : ∀ a (out : List Output), f a { s with out := out } = { s with out := out ++ [g a] }) :
    forEach l s f = { s with out := s.out ++ l.map g } := by
  have hall : ∀ out : List Output, forEach l { s with out := out } f = { s with out := out ++ l.map g } := by
    induction l with
    | nil => intro out; simp
    | cons a l ih => intro out; rw [forEach_cons, h, ih, List.map_cons, List.append_assoc, List.singleton_append]
  exact hall s.out

theorem meterAll_eq (s : State) (seq : Nat) : s.meterAll seq =
    { s with out := s.out ++ (0 :: (List.range' 1 128).filter (cfgEnabled s.regs)).map (meterOf s seq) } :=
  forEach_emit _ s _ (meterOf s seq) fun _ _ => rfl

theorem leaves_meterPoll {tag seq : Nat} (ha : s.alive = true) (h3 : 3 ≤ s.step) (hseq : seq < 65536) (ht : tag < 256) :
    Leaves (.meterPoll tag seq) s (if tag ≤ 0x80 then s.meterRow seq tag
      else if tag = 0xFF then s.meterAll seq else s.messageRefused seq) :=
  leaves_effect rfl (and_ok (decide_eq_true hseq) (decide_eq_true ht)) ha (csGated_fm ha h3 _ _)

/-- A METER_REPORT comes at the next multiple of the interval, under a free SEQ. -/
theorem leaves_meterReport {n : Nat} (ha : s.alive = true) (hm : 0 < s.meterNs) (hn : n = (s.clock.gtb / s.meterNs + 1) * s.meterNs) :
    Leaves .meterReport s
    (({ s.advanceTo n with fresh := s.fresh + 1 } : State).meterAll ((Config.freeWord s.fresh).toNat % 65536)) := by
  subst hn
  have hfresh : ∀ n, (s.advanceTo n).fresh = s.fresh := fun n => advance_fresh ..
  refine leaves_effect rfl rfl ha ((if_pos ⟨ha, hm⟩).trans ?_)
  generalize (s.clock.gtb / s.meterNs + 1) * s.meterNs = n
  rw [← hfresh n]
  rfl

theorem le_nextMultiple (t : Nat) {n : Nat} (h : 0 < n) : t ≤ (t / n + 1) * n := by
  rw [Nat.add_mul, Nat.one_mul]
  have := Nat.div_add_mod' t n
  have := Nat.mod_lt t h
  omega

/-- Settles O25: the time base by what `lockCopy` leaves, the reports by `meterAll_eq`. -/
theorem globalTimeBaseAndMetering : Obligations.GlobalTimeBaseAndMetering := by
  refine ⟨fun s ha h => ?_, fun s ha => ?_, fun kind k skew s ha hr hk hskew hon => ?_, fun tag seq s ha h3 hseq ht => ?_,
    fun seq s ha h3 hseq => ?_, fun s ha hm hr => ?_⟩
  · exact leaves_effect rfl rfl ha (if_pos ⟨ha, h⟩)
  · exact leaves_effect rfl rfl ha (if_pos ha)
  · refine answers_of_leaves (leaves_gtbCopyLocked ha hk hskew hon) fun t ht => ?_
    have hclock := gtb_advanceTo (n := (s.clock.gtb + 999) / 1000 * 1000) hr (by omega)
    generalize s.advanceTo ((s.clock.gtb + 999) / 1000 * 1000) = u at hclock ht
    have hcopy : t.clock = (u.lockCopy (sourceOf kind k) skew).clock := (congrArg State.clock ht :)
    rw [hcopy, ht.fld]
    refine ⟨?_, fun hnear => ⟨fun x => ?_, fun x => ?_, fun hmax => maxSkew_lockCopy hnear ?_⟩, fun hfar => ⟨fun x => ?_, fun x => ?_⟩⟩
    · by_cases hnear : skew ≤ 2000
      · rw [clock_lockCopy_near hnear, hclock]
      · rw [clock_lockCopy_far (by omega), hclock]
    · rw [mem_locked_near hnear, hclock]
    · rw [mem_skews_near hnear, hclock]
    · rwa [hclock]
    · rw [mem_locked_far hfar, hclock]
    · rw [mem_skews_far hfar, hclock]
  · have hleaves := leaves_meterPoll (tag := tag) ha h3 hseq (by omega)
    rwa [if_pos ht] at hleaves
  · have hleaves := leaves_meterPoll (tag := 0xFF) ha h3 hseq (by decide)
    rwa [if_neg (by decide), if_pos rfl, meterAll_eq] at hleaves
  · obtain ⟨n, hn⟩ : ∃ n, n = (s.clock.gtb / s.meterNs + 1) * s.meterNs := ⟨_, rfl⟩
    have hclock := gtb_advanceTo hr (hn ▸ le_nextMultiple s.clock.gtb hm)
    have hout : (s.advanceTo n).out = s.out := advance_out ..
    refine answers_of_leaves (leaves_meterReport ha hm hn) fun t ht => ?_
    rw [meterAll_eq] at ht
    rw [← hn, ← hout]
    refine ⟨?_, ?_⟩
    · exact (congrArg (fun v => v.clock.gtb) ht).trans (congrArg Clock.gtb hclock)
    · simp only [ht.rd, (congrArg State.regs ht :)]
      exact (congrArg State.out ht :)

end Sys2Proof.Scope

namespace Sys2Proof.Scope

open Sys2Proof Sys2Proof.Machine Sys2Proof.Laws

/-! ## Verdicts and stubs (R60, R63, R244) -/

variable {s : State} {k : Nat} {t : Token} {v : Verdict} {code : Nat}

theorem onVerdict_of_known (h : t.epoch = (s.cluster k).epoch ∨ t.epoch = (s.cluster k).prevEpoch) :
    s.onVerdict k t v code = s.takeVerdict k t v code :=
  if_neg (by rintro ⟨h1, h2⟩; exact h.elim h1 h2)

theorem onVerdict_of_stale (h : t.epoch ≠ (s.cluster k).epoch) (hp : t.epoch ≠ (s.cluster k).prevEpoch) :
    s.onVerdict k t v code =
      (s.raise .alarm 0x0602 (s.coreTag t.core) (stationSource k) (word t.txn)).failToken k t 0x0602 :=
  if_pos ⟨h, hp⟩

/-- A station without a stub, or with requests of the previous epoch left, keeps what it has. -/
theorem leaves_stubRelease_draining {kind : StationKind} (ha : s.alive = true) (hk : stationOk kind k = true)
    (h : 0 < s.drainCount kind k) : Leaves (.stubRelease kind k) s s :=
  leaves_effect rfl hk ha (if_neg (by omega))

theorem leaves_sliceTeardownDone_running {sl : Nat} {hs : List Nat} (ha : s.alive = true) (hsl : tenantOk sl = true)
    (h : s.comp.tearing.find? (fun t => t.1 == sl) = some (sl, hs))
    (hover : (s.liveContexts.filter (fun c => s.ctxSlice c == sl)).all s.teardownOver = false) :
    Leaves (.sliceTeardownDone sl) s s :=
  leaves_effect rfl hsl ha (by
    simp only [h]
    exact if_pos (by simp [hover]))

/-- Settles O31: each command's effect is one branch of its definition, which the lemmas `leaves_…` pick out. -/
theorem checkpointsVerdictsAndDrainEnd : Obligations.CheckpointsVerdictsAndDrainEnd := by
  refine ⟨fun core s ha hc => ?_, fun port txn code v tok s ha hv h => leaves_verifyVerdict ha hv h,
    fun s k t v code => ⟨onVerdict_of_known, onVerdict_of_stale⟩,
    fun port id code w s ha hp hc h hm => leaves_releasedWriteRsp ha hp hc h hm,
    fun k line x s ha hk h => leaves_clusterAtomicBufferIdle ha hk h,
    fun kind k s ha hk hs => ⟨leaves_stubRelease ha hk hs,
      fun h => ⟨leaves_stubRelease_draining ha hk h, leaves_drainTimeout ha hk hs h⟩⟩,
    fun s k => ⟨cluster_setCluster .., memSt_setMem .., link_setLink ..⟩,
    fun s ha hf hu => leaves_flushComplete ha hf hu,
    fun core s ha hc h => leaves_coreSramZeroDone ha hc h,
    fun sl hs s ha hsl h => ⟨leaves_sliceTeardownDone_running ha hsl h, leaves_sliceTeardownDone ha hsl h⟩⟩
  exact leaves_effect rfl (decide_eq_true hc) ha rfl

end Sys2Proof.Scope

namespace Sys2Proof.Scope

open Sys2Proof Sys2Proof.Machine Sys2Proof.Laws

/-! ## The Hedge's answers (R53, R54) -/

variable {s : State} {k : Nat} {a : PortAccess} {e : TlbEntry}

/-- A local granule is the slice's own, or of a commons of which it reads as a member (R50). -/
def LocalTo (s : State) (k : Nat) (a : PortAccess) (e : TlbEntry) : Prop :=
  (e.owner = a.slice ∧ a.slice ≠ 0xFF ∧ a.slice ≠ 0xFE) ∨
    (e.owner = 0xFE ∧ a.req.accessKind = .read ∧ cfgMember (s.cfgFor k a.epoch) e.cid a.slice = true)

/-- What stands behind a grant of memory: a local one, without a link, and a remote one, by a port of the slice. -/
def GrantedFor (s : State) (k : Nat) (a : PortAccess) (e : TlbEntry) (pa : Nat) (link : Option Nat) : Prop :=
  match link with
  | none => e.ownerValid = true ∧ pa / 2 ^ 50 = s.fld .CMP_CHIPNUM_CHIPNUM ∧ LocalTo s k a e
  | some p => p ∈ linkCandidates (s.cfgFor k a.epoch) a.slice (pa / 2 ^ 50) ∧
      bitOf (pa / 2 ^ 50) (regGet (s.cfgFor k a.epoch) .CMP_CHIPS a.slice) = true

theorem hedge_of_formatBad (h : a.req.formatBad = true) : s.hedge k a = .deny 0x0509 0 := if_pos h

theorem hedge_of_unbound (hf : a.req.formatBad = false) (h : a.slice = 0xFF) : s.hedge k a = .deny 0x0501 0 := by
  rw [State.hedge, if_neg (by simp [hf]), if_pos h]

/-- What each answer says of its request: a grant names no memory or memory that a translation covers; SRAM has the
requester's tag. -/
def AnswersSoundly (s : State) (k : Nat) (a : PortAccess) : Hdg → Prop
  | .grant g link => (a.req.opc = 5 ∨ a.req.opc = 6) ∧ link = none ∨
      a.req.akind ≠ 2 ∧ ∃ e pa, s.lookup k a = some (e, pa) ∧ g.pa = pa ∧ g.keyid = e.keyid ∧ permits e a.req.accessKind = true ∧
        GrantedFor s k a e pa link
  | .sram t _ => cfgCoreTag (s.cfgFor k a.epoch) t = a.slice ∧ t ≤ 611 ∧ a.slice ≠ 0xFF
  | .deny _ _ => True
  | .defer _ => True

theorem targetCore_le (hf : a.req.formatBad ≠ true) (hopc : a.req.opc ≠ 6) (hk : a.req.akind = 2) : a.req.targetCore ≤ 611 := by
  simp [Req.formatBad, hk, hopc] at hf
  omega

theorem hedge_answersSoundly (s : State) (k : Nat) (a : PortAccess) : AnswersSoundly s k a (s.hedge k a) := by
  rw [State.hedge]
  by_cases hf : a.req.formatBad = true
  · rw [if_pos hf]; trivial
  by_cases hslice : a.slice = 0xFF
  · rw [if_neg hf, if_pos hslice]; trivial
  by_cases hopc : a.req.opc = 5 ∨ a.req.opc = 6
  · rw [if_neg hf, if_neg hslice, if_pos hopc]
    exact .inl ⟨hopc, rfl⟩
  rw [if_neg hf, if_neg hslice, if_neg hopc]
  by_cases hk : a.req.akind = 2
  · rw [if_pos hk]
    split
    · exact ⟨‹_›, targetCore_le hf (fun h => hopc (.inr h)) hk, hslice⟩
    · trivial
  rw [if_neg hk]
  rcases hlookup : s.lookup k a with _ | ⟨e, pa⟩
  · trivial
  dsimp only
  split
  · trivial
  next hpermits =>
  have hgrant : ∀ (cid link : Option Nat), GrantedFor s k a e pa link →
      AnswersSoundly s k a (.grant ⟨pa, e.keyid, cid⟩ link) :=
    fun _ _ h => .inr ⟨hk, e, pa, hlookup, rfl, rfl, by simpa using hpermits, h⟩
  split
  · -- another chip's memory
    split
    · next hchips =>
      split
      · exact hgrant _ _ ⟨List.mem_of_getElem? ‹_›, (Bool.and_eq_true_iff.mp hchips).1⟩
      · trivial
    · trivial
  · -- this chip's memory
    next hhere =>
    split
    · trivial
    split
    · trivial
    next hvalid =>
    have hlocal : LocalTo s k a e → GrantedFor s k a e pa none := fun h => ⟨by simpa using hvalid, not_not.mp hhere, h⟩
    split
    · trivial
    split
    · next hcommons =>
      split
      · trivial
      next hread =>
      split
      · exact hgrant _ _ (hlocal (.inr ⟨hcommons, not_not.mp hread, ‹_›⟩))
      · trivial
    · next hcommons =>
      split
      · next howner => exact hgrant _ _ (hlocal (.inl ⟨howner, hslice, howner ▸ hcommons⟩))
      · trivial

theorem linkCandidates_owned {m : List (Nat × Word)} {sl chip p : Nat} (h : p ∈ linkCandidates m sl chip) :
    p < 16 ∧ cfgLinkOwner m p = sl := by
  simp only [linkCandidates, cfgLinks, List.mem_filter, List.mem_range, beq_iff_eq] at h
  exact h.1

/-- Settles O26: what the Hedge's answers say of their requests. -/
theorem hedgeKeepsSlicesApart : Obligations.HedgeKeepsSlicesApart := by
  refine ⟨fun s k a g h h5 h6 => ?_, fun s k a g p h => ?_, fun s k a t off h => ?_,
    fun s k epoch => rfl, fun s k a hf hs => hedge_of_unbound hf hs, fun s k a hf => hedge_of_formatBad hf⟩
  all_goals
    have hsound := hedge_answersSoundly s k a
    rw [h] at hsound
  · obtain ⟨hopc, -⟩ | ⟨-, e, pa, hlookup, hpa, hkey, hpermits, hvalid, hhere, hlocal⟩ := hsound
    · exact absurd hopc (by simp [h5, h6])
    · exact ⟨e, pa, hlookup, hpa, hkey, hpermits, hvalid, hhere, hlocal⟩
  · obtain ⟨-, hnone⟩ | ⟨-, e, pa, -, rfl, -, -, hp, hchips⟩ := hsound
    · cases hnone
    · obtain ⟨hlt, howned⟩ := linkCandidates_owned hp
      exact ⟨hlt, howned, hchips⟩
  · exact hsound

end Sys2Proof.Scope

namespace Sys2Proof.Scope

open Sys2Proof Sys2Proof.Machine Sys2Proof.Laws

/-! ## A line read (R45, R256) -/

variable {s : State} {k p : Nat} {a : PortAccess} {g : Grant}

/-- The filter sends a read that it need not snoop for on to memory, with the reader recorded (R256). -/
theorem askFilter_read_alone {o : MemOp} {cid : Option Nat} {cached : Bool} (hbusy : s.lineBusy o.paLine = false)
    (hqueue : ∀ x ∈ s.coh.queue, x.line ≠ o.paLine) (hholders : ∀ e ∈ s.holders o.slice cid o.paLine, e.core = o.core) :
    s.askFilter (.read p o cid false cached) =
      (if cached then s.setFilter o.paLine o.core (some .e) o.slice o.keyid else s).present p o := by
  have hline : (FilterReq.read p o cid false cached).line = o.paLine := rfl
  have hany : s.coh.queue.any (fun x => x.line == o.paLine) = false := by simpa using hqueue
  have hnone : (s.holders o.slice cid o.paLine).filter (fun e => e.core ≠ o.core) = [] := by simpa using hholders
  rw [State.askFilter, hline, hbusy, hany, if_neg (by decide)]
  simp only [State.runFilter, hnone]
  rfl

theorem placeAt_addFlight (keyid left pa pa' : Nat) (link : Option Nat) (epoch : Nat) :
    (s.addFlight k a keyid left link pa').placeAt k epoch pa = s.placeAt k epoch pa := by
  simp only [State.placeAt, State.addFlight, State.modCluster, cluster_setCluster]
  rfl

theorem flights_addFlight (keyid left pa : Nat) (link : Option Nat) (hopc : a.req.opc = 1 ∨ a.req.opc = 2) :
    ((s.addFlight k a keyid left link pa).cluster k).flights = (s.cluster k).flights ++
      [⟨a, keyid, left, false, link, [], (List.range left).map (fun i => heldOver (s.cluster k) a.core (pa / 128 + i)), false, none⟩] := by
  simp [State.addFlight, State.modCluster, hopc]

/-- A read of one line that no atomic buffer holds asks the filter for it. -/
theorem issueRead_line {l : Nat} (hbeats : a.req.beatsM1 = 0) (hopc : a.req.opc = 1)
    (hplace : s.placeAt k a.epoch (g.pa / 128 * 128) = some (p, l)) (hatomics : ∀ x ∈ (s.cluster k).atomics, x.line ≠ g.pa / 128) :
    s.issueRead k a g none = (s.addFlight k a g.keyid 1 none g.pa).askFilter
      (.read p (MemOp.fresh a.epoch (.core k a.seq 0) a.core a.slice a.ctx g.keyid l (g.pa / 128) .read 0 0) g.cid false a.cached) := by
  have hfind : ((s.addFlight k a g.keyid 1 none g.pa).cluster k).atomics.find? (fun x => x.line == g.pa / 128) = none := by
    simpa [State.addFlight, State.modCluster] using hatomics
  simp only [State.issueRead, hbeats, Nat.zero_add, List.range_one, forEach_cons, forEach_nil, Nat.add_zero, hfind,
    placeAt_addFlight, hplace, hopc]
  rfl

theorem memSt_present_same (s : State) (p : Nat) (o : MemOp) : (s.present p o).memSt p =
    { s.memSt p with waiting := (s.memSt p).waiting ++ [{ o with id := (s.memSt p).nextId }], nextId := (s.memSt p).nextId + 1 } :=
  memSt_setMem ..

theorem memSt_present_ne (s : State) (o : MemOp) {q : Nat} (h : q ≠ p) : (s.present p o).memSt q = s.memSt q :=
  memSt_setMem_ne _ _ h

theorem mem_setFilter (s : State) (paLine core tag keyid : Nat) (st : LineState) :
    ⟨paLine, core, st, tag, keyid⟩ ∈ (s.setFilter paLine core (some st) tag keyid).coh.filter :=
  List.mem_append_right _ (List.mem_singleton_self _)

/-- Settles O28: no other core holds the line, so the filter sends the read straight to its memory station. -/
theorem readOfUncachedLineReachesItsMemoryStation : Obligations.ReadOfUncachedLineReachesItsMemoryStation := by
  intro s k a g p l hbeats hopc hplace hatomics hbusy hqueue hfilter
  have hholders : ∀ e ∈ (s.addFlight k a g.keyid 1 none g.pa).holders a.slice g.cid (g.pa / 128), e.core = a.core := by
    intro e he
    simp only [State.holders, List.mem_filter, Bool.and_eq_true, Bool.or_eq_true, beq_iff_eq, decide_eq_true_eq] at he
    obtain ⟨hmem, ⟨hline, hnotRr⟩, hslice⟩ := he
    obtain hcore | hrr | ⟨hother, hcid⟩ := hfilter e hmem hline
    · exact hcore
    · exact absurd hrr hnotRr
    · have hmember := hslice.resolve_left hother
      cases hc : g.cid with
      | none => simp [hc] at hmember
      | some n =>
        rw [hc] at hmember
        exact absurd ((hcid n hc).symm.trans hmember) (by decide)
  rw [issueRead_line hbeats hopc hplace hatomics, askFilter_read_alone hbusy hqueue hholders]
  generalize ho : MemOp.fresh a.epoch (.core k a.seq 0) a.core a.slice a.ctx g.keyid l (g.pa / 128) .read 0 0 = o
  refine ⟨?_, fun q hq => ?_, ?_, fun j hj => ?_, fun hc => ?_, ?_, ?_⟩
  · rw [memSt_present_same]
    cases a.cached <;> rfl
  · rw [memSt_present_ne _ _ hq]
    cases a.cached <;> rfl
  · have hflights := flights_addFlight (s := s) (k := k) g.keyid 1 g.pa none (.inl hopc)
    cases a.cached <;> exact hflights
  · have hother : (s.addFlight k a g.keyid 1 none g.pa).cluster j = s.cluster j := cluster_setCluster_ne _ _ hj
    cases a.cached <;> exact hother
  · rw [if_pos hc]
    subst ho
    exact mem_setFilter ..
  · cases a.cached <;> rfl
  · cases a.cached <;> rfl

end Sys2Proof.Scope

namespace Sys2Proof.Scope

open Sys2Proof Sys2Proof.Machine Sys2Proof.Laws

/-! ## A granted request that may issue at once (R55, R162, R239–R248) -/

variable {s : State} {k : Nat} {a : PortAccess} {g : Grant}

/-- A memory grant is not of another core's SRAM. -/
theorem akind_of_hedge_grant {link : Option Nat} (h : s.hedge k a = .grant g link) (h5 : a.req.opc ≠ 5) (h6 : a.req.opc ≠ 6) :
    a.req.akind ≠ 2 := by
  have hsound := hedge_answersSoundly s k a
  rw [h] at hsound
  obtain ⟨hopc, -⟩ | ⟨hakind, -⟩ := hsound
  · exact absurd hopc (by simp [h5, h6])
  · exact hakind

/-- An access without an order, or of scope at most CORE, takes no checkpoint, drops no RR line, is not logged, and has no scope
out of range. -/
structure Plain (a : PortAccess) : Prop where
  checkpoints : a.checkpoints = false
  dropsRr : a.dropsRr = false
  logged : a.logged = false
  scope : (a.scoped && decide (4 < a.req.scope)) = false

theorem plain_of_narrow (h : a.req.scope ≤ 1) : Plain a := by
  have h2 : ¬ 2 ≤ a.req.scope := by omega
  have h4 : a.req.scope ≠ 4 := by omega
  have hrange : ¬ 4 < a.req.scope := by omega
  exact ⟨by simp [PortAccess.checkpoints, h2], by simp [PortAccess.dropsRr, h4], by simp [PortAccess.logged, h2],
    by simp [hrange]⟩

theorem plain_of_unordered (h : a.req.ord = 0) (hopc : a.req.opc ≤ 3) : Plain a := by
  have hacq : a.acquires = false := by rw [PortAccess.acquires, h]; decide
  have hrel : a.releases = false := by rw [PortAccess.releases, h]; decide
  have h4 : a.req.opc ≠ 4 := by omega
  have h5 : a.req.opc ≠ 5 := by omega
  exact ⟨by simp [PortAccess.checkpoints, hrel, h4], by simp [PortAccess.dropsRr, hacq], by simp [PortAccess.logged, hacq, h4],
    by simp [PortAccess.scoped, h, h4, h5]⟩

/-- A plain access that the Hedge grants on this chip, with a scope in range and of a proper form, issues at once. -/
theorem onAnswer_granted (hplain : Plain a) (hport : a.internal = false) (hgrant : s.hedge k a = .grant g none)
    (hform : ¬ (a.req.opc = 4 ∧ atomicBad a.req g.pa = true))
    (hmay : (s.cluster k).mayIssue ⟨a, g, none, none⟩ = true) :
    s.onAnswer k a true = (s.emit (.hdgAns k a.req.txn 1)).issue k a g none := by
  generalize hu : s.emit (.hdgAns k a.req.txn 1) = u
  have hstart : s.onAnswer k a true = u.start k a g none := by
    simp [State.onAnswer, hgrant, hport, hu]
  have hlog : u.throughLog k a false g.pa (fun a s => s.begin k a g none) = u.begin k a g none := by
    rw [State.throughLog]
    split
    · rfl
    · exact if_pos (.inl rfl)
  have hmay' : (u.cluster k).mayIssue ⟨a, g, none, none⟩ = true := hu ▸ hmay
  rw [hstart, State.start, hplain.scope, if_neg (by decide), if_neg hform, hplain.logged, hlog]
  simp [State.begin, hplain.checkpoints, hplain.dropsRr, hmay']

theorem alive_of_accepts {r : Req} (h : s.accepts r = true) : s.alive = true := by
  simp only [State.accepts, Bool.and_eq_true] at h
  obtain ⟨⟨⟨⟨⟨⟨hready, -⟩, -⟩, -⟩, -⟩, -⟩, -⟩ := h
  exact isReady_alive hready

theorem onAnswer_deferred {recheck : Bool} (hport : a.internal = false) (h : s.hedge k a = .defer recheck) :
    s.onAnswer k a true = ((s.emit (.hdgAns k a.req.txn 3)).bump .HDG_COUNT_DEFER k).modCluster k
      (fun c => { c with retry := c.retry ++ [⟨a, recheck, s.ctxGen a.ctx⟩] }) := by
  simp [State.onAnswer, h, hport]

theorem onAnswer_denied {code pa : Nat} (hport : a.internal = false) (h : s.hedge k a = .deny code pa) :
    s.onAnswer k a true = (s.emit (.hdgAns k a.req.txn 2)).denyAccess k a code pa := by
  simp [State.onAnswer, h, hport]

theorem hedge_of_fence (hf : a.req.formatBad = false) (hslice : a.slice ≠ 0xFF) (hopc : a.req.opc = 5) :
    s.hedge k a = .grant ⟨0, 0, none⟩ none := by
  rw [State.hedge, if_neg (by simp [hf]), if_neg hslice, if_pos (.inl hopc)]

/-- The answer to a request that a port accepts (R55). -/
theorem leaves_request {i : Instr} {ok : Bool} {r : Req} {bs : List (Line × ByteMask)} {op cmp : Word}
    (hr : s.accepts r = true) (h : exec i s = onUnit s ok (s.portRequest r bs op cmp)) (hok : ok = true) :
    Leaves i s ((s.numbered r.port).onAnswer r.port (s.stamp r bs op cmp) true).pumpEngines := by
  have hleaves := leaves_portRequest (alive_of_accepts hr) hr h hok
  rwa [State.request, if_neg (by simp [hr])] at hleaves

theorem leaves_request_refused {i : Instr} {ok : Bool} {r : Req} {bs : List (Line × ByteMask)} {op cmp : Word}
    (hr : s.accepts r = false) (h : exec i s = onUnit s ok (s.portRequest r bs op cmp)) (hok : ok = true) : Leaves i s s := by
  have hsame : s.portRequest r bs op cmp = s := if_pos hr
  rw [hsame] at h
  cases ha : s.alive with
  | true => exact leaves_effect h hok ha rfl
  | false => exact h.trans (onUnit_dead hok ha)

theorem internal_stamp {r : Req} {n : Nat} (h : reqOk n r = true) (bs : List (Line × ByteMask)) (op cmp : Word) :
    (s.stamp r bs op cmp).internal = false := by
  simp only [reqOk, Bool.and_eq_true, txnOk, decide_eq_true_eq] at h
  obtain ⟨⟨-, htxn⟩, -⟩ := h
  exact decide_eq_false (Nat.not_le.mpr htxn)

/-- A granted request that is plain and may go issues, and the engines go on. -/
theorem leaves_granted {i : Instr} {ok : Bool} {r : Req} {bs : List (Line × ByteMask)} {op cmp : Word} {n : Nat}
    (hr : s.accepts r = true) (h : exec i s = onUnit s ok (s.portRequest r bs op cmp)) (hok : ok = true) (hreq : reqOk n r = true)
    (hplain : Plain (s.stamp r bs op cmp)) (hg : (s.numbered r.port).hedge r.port (s.stamp r bs op cmp) = .grant g none)
    (hform : ¬ (r.opc = 4 ∧ atomicBad r g.pa = true))
    (hmay : ((s.numbered r.port).cluster r.port).mayIssue ⟨s.stamp r bs op cmp, g, none, none⟩ = true) :
    Leaves i s (((s.numbered r.port).emit (.hdgAns r.port r.txn 1)).issue r.port (s.stamp r bs op cmp) g none).pumpEngines := by
  have hleaves := leaves_request hr h hok
  rwa [onAnswer_granted hplain (internal_stamp hreq ..) hg hform hmay] at hleaves

/-! ### What issues -/

theorem issue_read (hopc : a.req.opc = 1 ∨ a.req.opc = 2) (hk : a.req.akind ≠ 2) : s.issue k a g none = s.issueRead k a g none := by
  rw [State.issue, if_neg (by omega), if_neg (by omega), if_neg hk, if_neg (by omega)]

theorem issue_atomic (hopc : a.req.opc = 4) (hk : a.req.akind ≠ 2) : s.issue k a g none = s.issueAtomic k a g none := by
  rw [State.issue, if_neg (by omega), if_neg (by omega), if_neg hk, if_pos hopc]

theorem issue_fence (hopc : a.req.opc = 5) : s.issue k a g none = s.answer k a.req.txn a.core 0 0 := if_pos hopc

/-- A plain write is held at its station and answered (R162, R239). -/
theorem issue_write (hopc : a.req.opc = 3) (hord : a.req.ord = 0) (hmover : a.req.mover = false) (hport : a.internal = false)
    (hk : a.req.akind ≠ 2) : s.issue k a g none = (s.holdWrite k a g .memory).answer k a.req.txn a.core 0 0 := by
  have hrel : a.releases = false := by rw [PortAccess.releases, hord]; decide
  have hdest : writeDest a none = .memory := if_neg hk
  rw [State.issue, if_neg (by omega), if_pos hopc, State.issueWrite, hmover, hport, hrel, hdest]
  rfl

theorem issueAtomic_local_narrow (h : a.req.scope ≤ 1) : s.issueAtomic k a g none = s.issueView k a g none false := by
  rw [State.issueAtomic]
  exact if_pos h

theorem issueAtomic_cluster (h : a.req.scope = 2) : s.issueAtomic k a g none = s.issueBuffer k a g := by
  simp [State.issueAtomic, h]

theorem issueAtomic_wide (h : 2 < a.req.scope) : s.issueAtomic k a g none = s.issueMemAtomic k a g := by
  rw [State.issueAtomic, if_neg (by simp), if_neg (by omega)]
  exact if_neg (by omega)

/-! ### A held write leaves the engines idle -/

theorem mapGet_mem {α : Type} {P : α → Prop} {d : α} {m : List (Nat × α)} (hd : P d) (h : ∀ e ∈ m, P e.2) (k : Nat) :
    P (mapGet d m k) := by
  induction m with
  | nil => exact hd
  | cons e m ih =>
    obtain ⟨he, hm⟩ := List.forall_mem_cons.mp h
    rw [mapGet]
    split
    · exact he
    · exact ih hm

theorem mem_mapSet {α : Type} [DecidableEq α] {d v : α} {m : List (Nat × α)} {k : Nat} {e : Nat × α} (h : e ∈ mapSet d m k v) :
    e = (k, v) ∨ e ∈ m := by
  rw [mapSet] at h
  split at h
  · exact .inr (mem_mapErase h)
  · exact mem_mapPut h

/-- Engines with nothing to do stay so when a station's retry queue is as it was. -/
theorem enginesIdle_modCluster {f : Cluster → Cluster} (h : s.EnginesIdle) (hf : (f (s.cluster k)).retry = (s.cluster k).retry) :
    (s.modCluster k f).EnginesIdle := by
  obtain ⟨hretry, hrest⟩ := h
  refine ⟨fun e he => ?_, hrest⟩
  obtain rfl | he := mem_mapSet he
  · rw [hf]
    exact mapGet_mem (P := fun c : Cluster => c.retry = []) rfl hretry k
  · exact hretry e he

theorem enginesIdle_numbered (h : s.EnginesIdle) : (s.numbered k).EnginesIdle := enginesIdle_modCluster h rfl

theorem enginesIdle_holdWrite (dest : WriteDest) (h : s.EnginesIdle) : (s.holdWrite k a g dest).EnginesIdle :=
  enginesIdle_modCluster h rfl

theorem held_numbered : ((s.numbered k).cluster k).held = (s.cluster k).held := by
  simp [State.numbered, State.modCluster]

theorem held_holdWrite (dest : WriteDest) : ((s.holdWrite k a g dest).cluster k).held = (s.cluster k).held ++
    ((List.range a.beats.length).zip a.beats).map (fun x =>
      ⟨(s.cluster k).nextId + x.1, a.req.txn, a.core, a.slice, a.ctx, g.keyid, (g.pa / 128 + x.1) * 128, dest, x.2.1, x.2.2,
        a.req.alloc && decide (dest = .memory), g.cid⟩) := by
  simp [State.holdWrite, State.modCluster]

/-- Settles O27: the Hedge's answer picks the branch of `onAnswer`, the operation that of `issue`. -/
theorem requestsFollowTheHedgesAnswer : Obligations.RequestsFollowTheHedgesAnswer := by
  refine ⟨fun r s g hok hopc hord hr hg hmay => ?_, fun r s g hok hopc hord hr hg hmay => ?_,
    fun r bs s g hok hopc hord hmover hk hr hidle hg hmay => ?_, fun r op cmp s g hok hopc hscope hform hr hg hmay => ?_,
    fun k a g s => ⟨issueAtomic_local_narrow, issueAtomic_cluster, issueAtomic_wide⟩,
    fun r s hok hopc hscope hform hr hslice hmay => ?_, fun r s recheck hok hr hg => ?_, fun r s code pa hok hr hg => ?_,
    fun r s hok hr => leaves_request_refused hr rfl hok⟩
  · have hleaves := leaves_granted (i := .read r) hr rfl hok hok (plain_of_unordered hord (by show r.opc ≤ 3; omega)) hg (by omega) hmay
    rwa [issue_read (a := s.stamp r [] 0 0) (.inl hopc) (akind_of_hedge_grant hg (by show r.opc ≠ 5; omega) (by show r.opc ≠ 6; omega))]
      at hleaves
  · have hleaves := leaves_granted (i := .readUnique r) hr rfl hok hok (plain_of_unordered hord (by show r.opc ≤ 3; omega)) hg (by omega) hmay
    rwa [issue_read (a := s.stamp r [] 0 0) (.inr hopc) (akind_of_hedge_grant hg (by show r.opc ≠ 5; omega) (by show r.opc ≠ 6; omega))]
      at hleaves
  · obtain ⟨hreq, -⟩ := Bool.and_eq_true_iff.mp hok
    have hleaves := leaves_granted (i := .write r bs) hr rfl hok hreq (plain_of_unordered hord (by show r.opc ≤ 3; omega)) hg (by omega) hmay
    have hrest : ((((s.numbered r.port).emit (.hdgAns r.port r.txn 1)).holdWrite r.port (s.stamp r bs 0 0) g .memory).answer r.port
        r.txn (s.stamp r bs 0 0).core 0 0).EnginesIdle :=
      enginesIdle_holdWrite (s := (s.numbered r.port).emit _) .memory (enginesIdle_numbered hidle)
    rw [issue_write (a := s.stamp r bs 0 0) hopc hord hmover (internal_stamp hreq ..) hk] at hleaves
    replace hleaves := (pumpEngines_idle hrest) ▸ hleaves
    refine answers_of_leaves hleaves fun t ht => ?_
    have hout : t.out = _ := congrArg State.out ht
    have hheld : (t.cluster r.port).held = _ := (congrArg (fun v => (v.cluster r.port).held) ht).trans (held_holdWrite .memory)
    have hbefore : (((s.numbered r.port).emit (.hdgAns r.port r.txn 1)).cluster r.port).held = (s.cluster r.port).held :=
      held_numbered
    rw [hout, hheld, hbefore]
    refine ⟨(congrArg State.mems ht :), (congrArg State.coh ht :), (congrArg State.regs ht :), List.append_assoc .., ?_, ?_⟩
    · simp [State.stamp]
    · rw [List.map_append, List.map_map]
      rfl
  · have hleaves := leaves_granted (i := .atomic r op cmp) hr rfl hok hok (plain_of_narrow hscope) hg (by simp [hform]) hmay
    rwa [issue_atomic (a := s.stamp r [] op cmp) hopc (akind_of_hedge_grant hg (by show r.opc ≠ 5; omega) (by show r.opc ≠ 6; omega))]
      at hleaves
  · have hg := hedge_of_fence (s := s.numbered r.port) (k := r.port) (a := s.stamp r [] 0 0) hform hslice hopc
    have hleaves := leaves_granted (i := .fence r) hr rfl hok hok (plain_of_narrow hscope) hg (by omega) hmay
    rwa [issue_fence (a := s.stamp r [] 0 0) hopc] at hleaves
  · have hleaves := leaves_request (i := .read r) hr rfl hok
    rwa [onAnswer_deferred (internal_stamp hok ..) hg] at hleaves
  · have hleaves := leaves_request (i := .read r) hr rfl hok
    rwa [onAnswer_denied (internal_stamp hok ..) hg] at hleaves

end Sys2Proof.Scope

namespace Sys2Proof.Scope

open Sys2Proof Sys2Proof.Machine Sys2Proof.Laws

/-! ## Clearing counters (R56, R171, R173, R195, R222, R253) -/

variable {s : State}

theorem keepsRegs_clearArray (s : State) {r : Reg} {first count : Nat} (h : ∀ j ∈ List.range' first count, regIdxOk r j = true) :
    KeepsRegs [r] s (s.clearArray r first count) :=
  keepsRegs_forEach _ s _ fun j hj s => keepsRegs_wr s 0 (List.mem_singleton_self r) (h j hj)

theorem rd_forEach_wr_zero {r : Reg} {i : Nat} (hi : regIdxOk r i = true) {js : List Nat} (hjs : ∀ j ∈ js, regIdxOk r j = true) (s : State) :
    (forEach js s (fun j s => s.wr r j 0)).rd r i = if i ∈ js then 0 else s.rd r i := by
  induction js generalizing s with
  | nil => rfl
  | cons j js ih =>
    obtain ⟨hj, hrest⟩ := List.forall_mem_cons.mp hjs
    rw [forEach_cons, ih hrest]
    by_cases hmem : i ∈ js
    · rw [if_pos hmem, if_pos (List.mem_cons_of_mem j hmem)]
    rw [if_neg hmem]
    by_cases hij : i = j
    · rw [if_pos (hij ▸ List.mem_cons_self ..), hij, rd_wr_same]
    · rw [if_neg (by simp [hij, hmem]), rd_wr_ne s 0 (fun h => hij (regAddr_inj hi hj h))]

/-- `s` with every element of the registers `rs` at 0, and no other register changed. -/
structure Clears (rs : List Reg) (s u : State) : Prop where
  onlyRegs : OnlyRegs s u
  rd : ∀ (r : Reg) (i : Nat), regIdxOk r i = true → u.rd r i = if r ∈ rs then 0 else s.rd r i

/-- Clearing the whole of an array, from its first element to its last. -/
theorem clears_clearArray (s : State) {r : Reg} {first count : Nat} (hfirst : (regDef r).first = first)
    (hlast : (regDef r).last + 1 = first + count) (hwords : (regDef r).words = 8) : Clears [r] s (s.clearArray r first count) where
  onlyRegs := forEach_rel OnlyRegs OnlyRegs.refl (fun _ _ _ => OnlyRegs.trans) _ (fun _ v => onlyRegs_wr v _ _ _) _ s
  rd r' i hi := by
    have hrange : ∀ i, i ∈ List.range' first count ↔ regIdxOk r i = true := by
      intro i
      rw [List.mem_range'_1, regIdxOk_iff, hfirst, hwords]
      omega
    by_cases hr : r' = r
    · subst hr
      rw [State.clearArray, rd_forEach_wr_zero hi (fun j hj => (hrange j).mp hj), if_pos ((hrange i).mpr hi), if_pos (by simp)]
    · rw [if_neg (by simpa using hr)]
      exact (keepsRegs_forEach _ s _ fun j hj s => keepsRegs_wr s 0 (List.mem_singleton_self r) ((hrange j).mp hj)).rd hi (by simpa using hr)

theorem Clears.trans {rs rs' : List Reg} {s u v : State} (h : Clears rs s u) (k : Clears rs' u v) : Clears (rs ++ rs') s v where
  onlyRegs := h.onlyRegs.trans k.onlyRegs
  rd r i hi := by
    rw [k.rd r i hi, h.rd r i hi]
    by_cases hr : r ∈ rs <;> by_cases hr' : r ∈ rs' <;> simp [hr, hr']

/-- A command that clears registers changes nothing else but the lines. -/
theorem answers_of_clears {c : Instr} {rs : List Reg} {s u : State} (h : Leaves c s u) (hc : Clears rs s u) :
    Answers c s (fun t => t = { s with regs := t.regs, pins := t.pins } ∧
      ∀ (r : Reg) (i : Nat), regIdxOk r i = true → t.rd r i = if r ∈ rs then 0 else s.rd r i) := by
  obtain ⟨honly, hrd⟩ := hc
  obtain ⟨regs, rfl⟩ : ∃ regs, u = { s with regs := regs } := ⟨_, honly⟩
  refine Leaves.answers h ?_
  obtain ⟨p, hp⟩ : ∃ p, ({ s with regs := regs } : State).drivePins = { s with regs := regs, pins := p } := ⟨_, rfl⟩
  rw [hp]
  exact ⟨rfl, hrd⟩

/-! ## KeyID states (R182) -/

theorem keyStateOf_setKeyState_same (s : State) {k v : Nat} (hv : v < 4) : keyStateOf (s.setKeyState k v).regs k = v := by
  have hrd : regGet (s.setKeyState k v).regs .MIL_KEYSTATE (k / 32) = _ := rd_wr_same s .MIL_KEYSTATE (k / 32) _
  rw [keyStateOf, hrd, getBits_setBits_same _ _ _ _ (by omega)]
  have hw : 2 * (k % 32) + 1 + 1 - 2 * (k % 32) = 2 := by omega
  rw [hw]
  exact Nat.mod_eq_of_lt hv

theorem keyStateOf_setKeyState_ne (s : State) {j k : Nat} (v : Nat) (h : j ≠ k) :
    keyStateOf (s.setKeyState k v).regs j = keyStateOf s.regs j := by
  by_cases hword : j / 32 = k / 32
  · have hrd : regGet (s.setKeyState k v).regs .MIL_KEYSTATE (k / 32) = _ := rd_wr_same s .MIL_KEYSTATE (k / 32) _
    rw [keyStateOf, hword, hrd, getBits_setBits_other _ _ _ _ _ _ (by omega), keyStateOf, hword]
    rfl
  · have hrd : regGet (s.setKeyState k v).regs .MIL_KEYSTATE (j / 32) = regGet s.regs .MIL_KEYSTATE (j / 32) :=
      rd_wr_ne s _ (by simp only [regAddr, regDef]; omega)
    rw [keyStateOf, hrd]
    rfl

theorem regIdxOk_keyState {j : Nat} (hj : j < 1024) : regIdxOk .MIL_KEYSTATE (j / 32) = true := by
  simp only [regIdxOk_iff, regDef]
  omega

theorem KeepsRegs.keyState {l : List Reg} {s t : State} (h : KeepsRegs l s t) (hl : Reg.MIL_KEYSTATE ∉ l) {j : Nat} (hj : j < 1024) :
    keyStateOf t.regs j = keyStateOf s.regs j := by
  have hrd : regGet t.regs .MIL_KEYSTATE (j / 32) = regGet s.regs .MIL_KEYSTATE (j / 32) :=
    h.rd (regIdxOk_keyState hj) hl
  rw [keyStateOf, hrd, keyStateOf]

/-! ## Dropping a KeyID's translations (R183) -/

theorem clusters_sendSnoop (s : State) (x : Snoop) : (s.sendSnoop x).clusters = s.clusters := by
  rw [State.sendSnoop]
  split <;> rfl

theorem clusters_forEach {α : Type} {f : α → State → State} (h : ∀ a v, (f a v).clusters = v.clusters) (l : List α) (s : State) :
    (forEach l s f).clusters = s.clusters := by
  induction l generalizing s with
  | nil => rfl
  | cons a l ih => exact (ih (f a s)).trans (h a s)

theorem clusters_snoopAll_flush (s : State) (line : Nat) (targets : List (Nat × Nat)) :
    (s.snoopAll line targets .flush).clusters = s.clusters := by
  rw [State.snoopAll]
  split
  · rfl
  · exact clusters_forEach (fun _ v => clusters_sendSnoop v _) _ _

theorem clusters_askFilter_flush (s : State) (line : Nat) (core : Option Nat) :
    (s.askFilter (.flush line core)).clusters = s.clusters := by
  rw [State.askFilter]
  split
  · rfl
  · exact clusters_snoopAll_flush ..

theorem clusters_flushLines (s : State) (p : FilterEntry → Bool) (q : Nat → Bool) (core : Option Nat) :
    (s.flushLines p q core).clusters = s.clusters :=
  clusters_forEach (fun _ v => clusters_askFilter_flush v _ _) _ s

theorem clusters_invProgress (s : State) : s.invProgress.clusters = s.clusters := by
  rw [State.invProgress]
  split <;> rfl

/-- Filtering every station's TLB filters the one TLB of each. -/
theorem tlb_filter (s : State) (p : TlbEntry → Bool) (c : Nat) :
    (({ s with clusters := s.clusters.map (fun e => (e.1, { e.2 with tlb := e.2.tlb.filter p })) } : State).cluster c).tlb =
      (s.cluster c).tlb.filter p := by
  show (mapGet Cluster.init (s.clusters.map fun e => (e.1, { e.2 with tlb := e.2.tlb.filter p })) c).tlb =
    (mapGet Cluster.init s.clusters c).tlb.filter p
  induction s.clusters with
  | nil => rfl
  | cons e m ih =>
    rw [List.map_cons, mapGet, mapGet]
    split
    · rfl
    · exact ih

theorem cluster_of_clusters {s u : State} (h : u.clusters = s.clusters) (c : Nat) : u.cluster c = s.cluster c :=
  congrArg (fun m => mapGet Cluster.init m c) h

/-- An invalidation that names no HVA drops translations, and abandons no migration. -/
theorem tlb_dropCovered {i : Inval} (h : i.scope ≠ 2) (s : State) (c : Nat) :
    ((s.dropCovered i).cluster c).tlb = (s.cluster c).tlb.filter (fun t => !covers s i t.ctx t.va t.size) := by
  rw [← tlb_filter, State.dropCovered]
  have hscope : (i.scope == 2) = false := by simpa using h
  simp only [hscope, Bool.false_and, List.filter_false]
  rfl

theorem mem_tlb_awaitAcks {seq scope ctx pasid slice start pagesM1 c : Nat} {p : Flight → Bool} {e : TlbEntry} (hs : scope ≠ 2)
    (h : e ∈ ((s.awaitAcks seq scope ctx pasid slice start pagesM1 p).cluster c).tlb) : e ∈ (s.cluster c).tlb := by
  rw [State.awaitAcks, cluster_of_clusters (clusters_invProgress _), tlb_dropCovered hs] at h
  exact List.mem_of_mem_filter h

/-- No translation under the KeyID is left. -/
theorem tlb_dropKey (s : State) {k c : Nat} {e : TlbEntry} (h : e ∈ ((s.dropKey k).cluster c).tlb) : e.leafKey ≠ k ∧ e.keyid ≠ k := by
  rw [State.dropKey, cluster_of_clusters (clusters_flushLines ..)] at h
  replace h := mem_tlb_awaitAcks (by decide) h
  replace h := (tlb_filter s (fun t => !t.carries k) c) ▸ h
  simpa [TlbEntry.carries] using List.of_mem_filter h

/-- Leaves of a command on which the block's power decides nothing. -/
theorem leaves_nothing {i : Instr} {ok : Bool} (h : exec i s = onUnit s ok s) (hok : ok = true) : Leaves i s s := by
  cases ha : s.alive with
  | true => exact leaves_effect h hok ha rfl
  | false => exact h.trans (onUnit_dead hok ha)

theorem LeftBy.regs {u t : State} (h : LeftBy u t) : t.regs = u.regs := (congrArg State.regs h :)

theorem bitOf_setCause (s : State) (n : Nat) {b : Nat} (hb : b < 64) : bitOf b ((s.setCause n b).rd .IRQ_CAUSE n) = true := by
  rw [State.setCause, rd_wr_same, bitOf_orBit _ _ hb]
  simp

/-- What a refused retirement leaves (R184). -/
def retireRefusal (s : State) (k : Nat) : State :=
  (((s.setFld .MIL_RETIRE_STATUS_KEYID 0 k).setFld .MIL_RETIRE_STATUS_REASON 0 0x0807).err 0x0807 0 (word k)).setCause 0x08 0

theorem leaves_keyidRetire_refused {path : Path} {k : Nat} (hr : s.isReady = true) (hp : pathOk path = true) (h0 : 0 < k)
    (hk : k < 1024) (h : s.retireRefused k = true) : Leaves (.keyidRetire path k) s (retireRefusal s k) :=
  leaves_taken rfl (and_ok hp (decide_eq_true hk)) hr hp ((if_neg (by omega)).trans (if_pos h))

theorem keepsRegs_retireRefusal (s : State) (k : Nat) : KeepsRegs eventRegs
    ((s.setFld .MIL_RETIRE_STATUS_KEYID 0 k).setFld .MIL_RETIRE_STATUS_REASON 0 0x0807) (retireRefusal s k) :=
  (keepsRegs_err _ 0 (word k) (by decide)).trans (keepsRegs_setCause _ 0 (by decide))

theorem onlyEvents_retireRefusal (s : State) (k : Nat) : OnlyEvents s (retireRefusal s k) :=
  OnlyEvents.trans (OnlyEvents.trans (onlyEvents_setFld ..) (onlyEvents_setFld ..))
    (OnlyEvents.trans (onlyEvents_raise ..) (onlyEvents_setCause ..))

/-- The Mill without its key of a KeyID, and the KeyID EMPTY (R183). -/
def keyEmptied (s : State) (k : Nat) : State :=
  ({ s with well := { s.well with mill := mapErase s.well.mill k } } : State).setKeyState k 0

/-- What the end of a retirement shows in MIL_RETIRE_STATUS, BUSY and REASON clear (R183). -/
def retireCleared (v : State) : State := (v.setFld .MIL_RETIRE_STATUS_BUSY 0 0).setFld .MIL_RETIRE_STATUS_REASON 0 0

/-- A count in DONE, and the cause. -/
def retireCounted (v : State) : State :=
  (v.setFld .MIL_RETIRE_STATUS_DONE 0 (v.fld .MIL_RETIRE_STATUS_DONE + 1)).setCause 0x08 0

theorem keepsRegs_setKeyState (s : State) {k : Nat} (v : Nat) (hk : k < 1024) : KeepsRegs [.MIL_KEYSTATE] s (s.setKeyState k v) :=
  keepsRegs_wr s _ (List.mem_singleton_self _) (regIdxOk_keyState hk)

theorem keepsRegs_keyEmptied (s : State) {k : Nat} (hk : k < 1024) : KeepsRegs [.MIL_KEYSTATE] s (keyEmptied s k) := by
  have hwell : KeepsRegs [.MIL_KEYSTATE] s { s with well := { s.well with mill := mapErase s.well.mill k } } :=
    keepsRegs_of_regs_eq _ rfl
  exact hwell.trans (keepsRegs_setKeyState _ 0 hk)

theorem keepsRegs_retireEnd (v : State) : KeepsRegs [.MIL_RETIRE_STATUS, .IRQ_CAUSE] v (retireCounted (retireCleared v)) :=
  ((keepsRegs_setFld v _ (by decide) rfl).trans (keepsRegs_setFld _ _ (by decide) rfl)).trans
    ((keepsRegs_setFld _ _ (by decide) rfl).trans (keepsRegs_wr _ _ (by decide) (regIdxOk_irqCause (by decide))))

theorem fld_retireCounted {f : Fld} (v : State) (hf : f.reg = .MIL_RETIRE_STATUS) (h : 31 < f.lo) : (retireCounted v).fld f 0 = v.fld f 0 := by
  rw [retireCounted, (keepsRegs_setCause _ 0 (by decide)).fld (by rw [hf]; rfl) (by rw [hf]; decide),
    fld_setFld_other _ .MIL_RETIRE_STATUS_DONE f _ _ hf (.inr h)]

/-- Settles O40: refusals and ends register by register, the drop of a KeyID's translations by `tlb_dropKey`, each CNT_CLEAR by
`clears_clearArray`. -/
theorem keyIdsRetireAndCountersClear : Obligations.KeyIdsRetireAndCountersClear := by
  refine ⟨fun path s hr hp => ?_, fun path k s hr hp h0 hk h => ?_, fun path k s hr hp h0 hk h => leaves_keyidRetire hr hp h0 hk h,
    fun s k c e he => tlb_dropKey s he, fun s hb hu => ?_, fun s ha hb hk hu => ?_, fun path s c rs hr hp hc => ?_⟩
  · exact leaves_taken rfl (and_ok hp rfl) hr hp (if_pos rfl)
  · refine answers_of_leaves (leaves_keyidRetire_refused hr hp h0 hk h) fun t ht => ?_
    have hstatus : KeepsRegs [.MIL_RETIRE_STATUS] s
        ((s.setFld .MIL_RETIRE_STATUS_KEYID 0 k).setFld .MIL_RETIRE_STATUS_REASON 0 0x0807) :=
      (keepsRegs_setFld s k (by decide) rfl).trans (keepsRegs_setFld _ _ (by decide) rfl)
    have hevents := keepsRegs_retireRefusal s k
    refine ⟨?_, ?_, ?_, ?_, fun j hj => ?_, ?_, ?_⟩
    · rw [ht.fld, hevents.fld rfl (by decide), fld_setFld_same _ _ _ _ (by decide)]
      rfl
    · rw [ht.rd]
      exact bitOf_setCause _ _ (by decide)
    · rw [ht.fld, hevents.fld rfl (by decide),
        fld_setFld_other _ .MIL_RETIRE_STATUS_REASON .MIL_RETIRE_STATUS_BUSY _ _ rfl (by decide),
        fld_setFld_other _ .MIL_RETIRE_STATUS_KEYID .MIL_RETIRE_STATUS_BUSY _ _ rfl (by decide)]
    · rw [ht.fld, hevents.fld rfl (by decide),
        fld_setFld_other _ .MIL_RETIRE_STATUS_REASON .MIL_RETIRE_STATUS_KEYID _ _ rfl (by decide),
        fld_setFld_same _ _ _ _ (by decide)]
      exact Nat.mod_eq_of_lt hk
    · rw [ht.regs, hevents.keyState (by decide) hj,
        hstatus.keyState (by decide) hj]
    · exact (congrArg State.well ht :).trans (congrArg State.well (onlyEvents_retireRefusal s k) :)
    · exact (congrArg State.clusters ht :).trans (congrArg State.clusters (onlyEvents_retireRefusal s k) :)
  · exact leaves_nothing (i := .retirementDone) (ok := true) (congrArg (onUnit s true) (if_neg (by simp [hu]))) rfl
  · refine answers_of_leaves (leaves_retirementDone ha hb hu) fun t ht => ?_
    change LeftBy (retireCounted (retireCleared (keyEmptied s s.well.retiring))) t at ht
    have hmill : t.well.mill = mapErase s.well.mill s.well.retiring := (congrArg (fun v => v.well.mill) ht :)
    have hempty := keepsRegs_keyEmptied s hk
    have hend := keepsRegs_retireEnd (keyEmptied s s.well.retiring)
    refine ⟨?_, ?_, fun j hj hne => ⟨?_, ?_⟩, ?_, ?_, ?_, ?_⟩
    · rw [State.millKey, hmill, mapGet_mapErase_same]
    · rw [ht.regs, hend.keyState (by decide) hk]
      exact keyStateOf_setKeyState_same _ (by decide)
    · rw [ht.regs, hend.keyState (by decide) hj]
      exact keyStateOf_setKeyState_ne _ 0 hne
    · rw [State.millKey, hmill, mapGet_mapErase_ne _ _ hne, State.millKey]
    · rw [ht.fld, fld_retireCounted _ rfl (by decide), retireCleared,
        fld_setFld_other _ .MIL_RETIRE_STATUS_REASON .MIL_RETIRE_STATUS_BUSY _ _ rfl (by decide),
        fld_setFld_same _ _ _ _ (by decide)]
      rfl
    · rw [ht.fld, fld_retireCounted _ rfl (by decide), retireCleared, fld_setFld_same _ _ _ _ (by decide)]
      rfl
    · rw [ht.fld, retireCounted, (keepsRegs_setCause _ 0 (by decide)).fld rfl (by decide), fld_setFld_same _ _ _ _ (by decide),
        retireCleared, fld_setFld_other _ .MIL_RETIRE_STATUS_REASON .MIL_RETIRE_STATUS_DONE _ _ rfl (by decide),
        fld_setFld_other _ .MIL_RETIRE_STATUS_BUSY .MIL_RETIRE_STATUS_DONE _ _ rfl (by decide), hempty.fld rfl (by decide)]
      rfl
    · rw [ht.rd]
      exact bitOf_setCause _ _ (by decide)
  · simp only [List.mem_cons, Prod.mk.injEq, List.not_mem_nil, or_false] at hc
    obtain ⟨rfl, rfl⟩ | ⟨rfl, rfl⟩ | ⟨rfl, rfl⟩ | ⟨rfl, rfl⟩ | ⟨rfl, rfl⟩ | ⟨rfl, rfl⟩ := hc
    · exact answers_of_clears (leaves_taken rfl hp hr hp rfl) (clears_clearArray s rfl rfl rfl)
    · exact answers_of_clears (leaves_taken rfl hp hr hp rfl)
        ((clears_clearArray s rfl rfl rfl).trans (clears_clearArray _ rfl rfl rfl))
    · exact answers_of_clears (leaves_taken rfl hp hr hp rfl) (clears_clearArray s rfl rfl rfl)
    · exact answers_of_clears (leaves_taken rfl hp hr hp rfl)
        ((((clears_clearArray s rfl rfl rfl).trans (clears_clearArray _ rfl rfl rfl)).trans
          (clears_clearArray _ rfl rfl rfl)).trans (clears_clearArray _ rfl rfl rfl))
    · exact answers_of_clears (leaves_taken rfl hp hr hp rfl)
        ((clears_clearArray s rfl rfl rfl).trans (clears_clearArray _ rfl rfl rfl))
    · exact answers_of_clears (leaves_taken rfl hp hr hp rfl) (clears_clearArray s rfl rfl rfl)

end Sys2Proof.Scope

namespace Sys2Proof.Scope

open Sys2Proof Sys2Proof.Machine Sys2Proof.Laws

/-! ## What the rings' operations change

The operations of queues and rings write registers, records, the rings' state, the Crier and messages, and nothing else; posting
a notice writes less than that. -/

variable {s t u : State}

/-- `t` is `s` but for registers, records, the host interface, the Crier and the messages sent. -/
def HostFrame (s t : State) : Prop :=
  t = { s with regs := t.regs, obj := t.obj, hif := t.hif, crier := t.crier, out := t.out }

theorem HostFrame.refl (s : State) : HostFrame s s := rfl

theorem HostFrame.trans (h : HostFrame s t) (k : HostFrame t u) : HostFrame s u := by
  unfold HostFrame at *
  rw [k, h]

theorem hostFrame_of_onlyEvents (h : OnlyEvents s t) : HostFrame s t := by
  unfold HostFrame OnlyEvents at *
  rw [h]

/-- `t` is `s` but for the notices that wait, the posted writes and the messages sent. -/
def OnlyNotices (s t : State) : Prop :=
  t = { s with
    obj := { s.obj with notices := t.obj.notices }
    hif := { s.hif with posts := t.hif.posts, nextPost := t.hif.nextPost }
    out := t.out }

theorem OnlyNotices.refl (s : State) : OnlyNotices s s := rfl

theorem OnlyNotices.trans (h : OnlyNotices s t) (k : OnlyNotices t u) : OnlyNotices s u := by
  unfold OnlyNotices at *
  rw [k, h]

theorem hostFrame_of_onlyNotices (h : OnlyNotices s t) : HostFrame s t := by
  unfold HostFrame OnlyNotices at *
  rw [h]

theorem iterate_rel (R : State → State → Prop) (refl : ∀ s, R s s) (trans : ∀ a b c, R a b → R b c → R a c) {f : State → State}
    (h : ∀ s, R s (f s)) (n : Nat) (s : State) : R s (iterate f n s) := by
  induction n generalizing s with
  | zero => exact refl s
  | succ n ih => exact trans _ _ _ (h s) (ih (f s))

theorem onlyNotices_noticeStep (s : State) : OnlyNotices s s.noticeStep := by
  unfold State.noticeStep
  split
  · exact OnlyNotices.refl s
  · dsimp only
    split
    · exact OnlyNotices.refl s
    · split
      · exact OnlyNotices.refl s
      · rfl

theorem onlyNotices_pumpNotices (s : State) : OnlyNotices s s.pumpNotices :=
  iterate_rel OnlyNotices OnlyNotices.refl (fun _ _ _ => OnlyNotices.trans) onlyNotices_noticeStep _ s

theorem onlyNotices_notice (s : State) (kind event code slice index : Nat) : OnlyNotices s (s.notice kind event code slice index) :=
  OnlyNotices.trans (t := { s with obj := { s.obj with notices := _ } }) rfl (onlyNotices_pumpNotices _)

/-! ## Words of a queue (R269) -/

theorem touch_queues (o : Obj) (line : Nat) : (o.touch line).queues = o.queues := by
  rw [Obj.touch]
  split <;> rfl

theorem qWord_of_queues (h : t.obj.queues = s.obj.queues) (q w : Nat) : t.qWord q w = s.qWord q w := by
  rw [State.qWord, h, State.qWord]

theorem qWord_setQWord_same (s : State) (q w : Nat) (v : Word) : (s.setQWord q w v).qWord q w = v := by
  rw [State.qWord, State.setQWord, touch_queues, mapGet_mapSet_same]

theorem qWord_setQWord_ne (s : State) {q q' w w' : Nat} (v : Word) (h : q' * 8 + w' ≠ q * 8 + w) :
    (s.setQWord q w v).qWord q' w' = s.qWord q' w' := by
  rw [State.qWord, State.setQWord, touch_queues, mapGet_mapSet_ne _ _ _ _ h, State.qWord]

theorem getBits_putQ_same (s : State) (q w lo v : Nat) {hi : Nat} (h : hi < 64) :
    getBits hi lo ((s.putQ q w hi lo v).qWord q w) = v % 2 ^ (hi + 1 - lo) := by
  rw [State.putQ, qWord_setQWord_same, getBits_setBits_same _ _ _ _ h]

theorem getBits_putQ_other (s : State) (q w v : Nat) {hi lo hi' lo' : Nat} (h : hi < lo' ∨ hi' < lo) :
    getBits hi lo ((s.putQ q w hi' lo' v).qWord q w) = getBits hi lo (s.qWord q w) := by
  rw [State.putQ, qWord_setQWord_same, getBits_setBits_other _ _ _ _ _ _ h]

theorem qWord_putQ_ne (s : State) {q q' w w' : Nat} (hi lo v : Nat) (h : q' * 8 + w' ≠ q * 8 + w) :
    (s.putQ q w hi lo v).qWord q' w' = s.qWord q' w' := qWord_setQWord_ne s _ h

theorem hostFrame_putQ (s : State) (q w hi lo v : Nat) : HostFrame s (s.putQ q w hi lo v) := rfl

/-! ## Faulting a queue (R299) -/

theorem qWord_notice (s : State) (kind event code slice index q w : Nat) :
    (s.notice kind event code slice index).qWord q w = s.qWord q w :=
  qWord_of_queues (congrArg (fun v => v.obj.queues) (onlyNotices_notice s kind event code slice index) :) q w

theorem qWord_err (s : State) (code slice : Nat) (detail : Word) (q w : Nat) : (s.err code slice detail).qWord q w = s.qWord q w :=
  qWord_of_queues (congrArg (fun v => v.obj.queues) (onlyEvents_raise s .error code slice (code / 256) detail) :) q w

theorem qWord_faultQueue_ne (s : State) {q q' w' : Nat} (code : Nat) (h0 : q' * 8 + w' ≠ q * 8) (h4 : q' * 8 + w' ≠ q * 8 + 4) :
    (s.faultQueue q code).qWord q' w' = s.qWord q' w' := by
  rw [State.faultQueue, qWord_notice, qWord_putQ_ne _ _ _ _ h4, State.setQState, qWord_putQ_ne _ _ _ _ h0]

theorem qState_faultQueue (s : State) (q code : Nat) : (s.faultQueue q code).qState q = 4 := by
  rw [State.qState, State.faultQueue, qWord_notice, qWord_putQ_ne _ _ _ _ (by omega), State.setQState,
    getBits_putQ_same _ _ _ _ _ (by decide)]
  rfl

theorem faultCode_faultQueue (s : State) (q : Nat) {code : Nat} (h : code < 65536) :
    getBits 63 48 ((s.faultQueue q code).qWord q 4) = code := by
  rw [State.faultQueue, qWord_notice, getBits_putQ_same _ _ _ _ _ (by decide)]
  exact Nat.mod_eq_of_lt h

theorem hostFrame_faultQueue (s : State) (q code : Nat) : HostFrame s (s.faultQueue q code) :=
  HostFrame.trans ((hostFrame_putQ s q 0 63 61 4).trans (hostFrame_putQ _ q 4 63 48 code))
    (hostFrame_of_onlyNotices (onlyNotices_notice ..))

theorem hif_notice (s : State) (kind event code slice index : Nat) :
    (s.notice kind event code slice index).hif.queues = s.hif.queues ∧
      (s.notice kind event code slice index).hif.rotor = s.hif.rotor :=
  ⟨(congrArg (fun v => v.hif.queues) (onlyNotices_notice s kind event code slice index) :),
    (congrArg (fun v => v.hif.rotor) (onlyNotices_notice s kind event code slice index) :)⟩

/-- Faulting a queue changes neither what it holds of a slot nor the rotating pointer. -/
theorem hif_faultQueue (s : State) (q code : Nat) : (s.faultQueue q code).hif.queues = s.hif.queues ∧
    (s.faultQueue q code).hif.rotor = s.hif.rotor := hif_notice ((s.setQState q 4).putQ q 4 63 48 code) ..

theorem hostFrame_err (s : State) (code slice : Nat) (detail : Word) : HostFrame s (s.err code slice detail) :=
  hostFrame_of_onlyEvents (onlyEvents_raise ..)

theorem onlyEvents_hifErr (s : State) (code q pasid slice : Nat) : OnlyEvents s (s.hifErr code q pasid slice) :=
  OnlyEvents.trans (onlyEvents_wr s .HIF_LAST_ERR 0 _) (onlyEvents_raise _ .error code slice (code / 256) (word q))

/-! ## Fetching (R278, R282) -/

/-- A queue fetches nothing, or its next command, or faults for its PASID (R41). -/
theorem pumpQueue_eq (s : State) (q : Nat) : s.pumpQueue q = s ∨
    (∃ addr pasid, s.pumpQueue q =
      (s.hostRead (.ringFetch q) addr 16 pasid).modQueueRun q (fun r => { r with fetchTag := some s.hostTag })) ∨
    s.pumpQueue q = (s.err 0x0603 (s.qSlice q) (word q)).faultQueue q 0x0603 := by
  rw [State.pumpQueue]
  dsimp only
  split
  · split
    · exact .inr (.inl ⟨_, _, rfl⟩)
    · exact .inr (.inr rfl)
  · exact .inl rfl

theorem hostFrame_pumpQueue (s : State) (q : Nat) : HostFrame s (s.pumpQueue q) := by
  obtain h | ⟨addr, pasid, h⟩ | h := pumpQueue_eq s q
  · rw [h]
    exact HostFrame.refl s
  · rw [h]
    rfl
  · rw [h]
    exact (hostFrame_err ..).trans (hostFrame_faultQueue ..)

/-- Fetching leaves a queue's indices alone. -/
theorem qWord_pumpQueue (s : State) (q q' : Nat) : (s.pumpQueue q).qWord q' 3 = s.qWord q' 3 := by
  obtain h | ⟨addr, pasid, h⟩ | h := pumpQueue_eq s q
  · rw [h]
  · rw [h]
    rfl
  · rw [h, qWord_faultQueue_ne _ _ (by omega) (by omega), qWord_err]

theorem hostFrame_takeSlot (s : State) (q : Nat) : HostFrame s (s.takeSlot q) := by
  rw [State.takeSlot]
  split <;> rfl

theorem qWord_takeSlot (s : State) (q q' w : Nat) : (s.takeSlot q).qWord q' w = s.qWord q' w := by
  rw [State.takeSlot]
  split <;> rfl

/-- A queue takes a slot, a free one or that of an idle queue, or waits for one. -/
theorem needSlot_eq (s : State) (q : Nat) : s.needSlot q = s.takeSlot q ∨
    (∃ v, s.needSlot q = (s.modQueueRun v (fun r => { r with resident := false })).takeSlot q) ∨
    (s.needSlot q = s.modQueueRun q (fun r => { r with waiting := true }) ∧ ¬ s.slotQueues.length < 96 ∧ s.lruIdle = none) := by
  rw [State.needSlot]
  split
  · exact .inl rfl
  split
  · exact .inl rfl
  split
  · exact .inr (.inl ⟨_, rfl⟩)
  · exact .inr (.inr ⟨rfl, ‹_›, ‹_›⟩)

theorem hostFrame_needSlot (s : State) (q : Nat) : HostFrame s (s.needSlot q) := by
  obtain h | ⟨v, h⟩ | ⟨h, -⟩ := needSlot_eq s q <;> rw [h]
  · exact hostFrame_takeSlot s q
  · exact HostFrame.trans (t := s.modQueueRun v _) rfl (hostFrame_takeSlot _ q)
  · rfl

theorem qWord_needSlot (s : State) (q q' w : Nat) : (s.needSlot q).qWord q' w = s.qWord q' w := by
  obtain h | ⟨v, h⟩ | ⟨h, -⟩ := needSlot_eq s q <;> rw [h]
  · exact qWord_takeSlot ..
  · exact qWord_takeSlot ..
  · rfl

/-! ## Ring indices -/

theorem ringSize_bounds {lo hi : Nat} {w : Word} {n : Nat} (h : ringSize lo hi w = some n) : 0 < n ∧ n ≤ 2 ^ hi := by
  rw [ringSize] at h
  split at h
  · next hl =>
    cases h
    exact ⟨Nat.two_pow_pos _, Nat.pow_le_pow_right (by decide) hl.2⟩
  · cases h

theorem ringNext_lt (lo : Nat) (w : Word) (n : Nat) : ringNext (ringSize lo 16 w) n < 2 ^ 16 := by
  rw [ringNext]
  cases h : ringSize lo 16 w with
  | none => exact Nat.mod_lt _ (by decide)
  | some m =>
    obtain ⟨hpos, hle⟩ := ringSize_bounds h
    exact Nat.lt_of_lt_of_le (Nat.mod_lt _ hpos) hle

/-! ## Posted writes taken (R131, R276, R416) -/

theorem regs_noticeStep (s : State) : s.noticeStep.regs = s.regs := (congrArg State.regs (onlyNotices_noticeStep s) :)

theorem regs_faultStep (s : State) : s.faultStep.regs = s.regs := by
  unfold State.faultStep
  split
  · rfl
  · dsimp only
    split
    · rfl
    · split <;> rfl

theorem regs_pumpFaults (s : State) : s.pumpFaults.regs = s.regs :=
  iterate_rel (fun s t => t.regs = s.regs) (fun _ => rfl) (fun _ _ _ h k => Eq.trans k h) regs_faultStep _ s

theorem fld_of_regs (h : t.regs = s.regs) (f : Fld) (i : Nat) : t.fld f i = s.fld f i := by
  rw [State.fld, h, State.fld]

theorem rd_of_regs (h : t.regs = s.regs) (r : Reg) (i : Nat) : t.rd r i = s.rd r i := by
  rw [State.rd, h, State.rd]

theorem regs_pumpNotices (s : State) : s.pumpNotices.regs = s.regs := (congrArg State.regs (onlyNotices_pumpNotices s) :)

theorem keepsRegs_cause_if (s : State) (c : Prop) [Decidable c] {n : Nat} (b : Nat) (h : 1 ≤ n ∧ n ≤ 21) :
    KeepsRegs eventRegs s (if c then s.setCause n b else s) := keepsRegs_ite (keepsRegs_setCause s b h) (KeepsRegs.refl _ s)

theorem fld_faultTaken (s : State) : s.faultTaken.fld .XLT_FR_HEAD_INDEX =
    ringNext (ringSize 10 16 (s.rd .XLT_FR_BASE 0)) (s.fld .XLT_FR_HEAD_INDEX) := by
  rw [State.faultTaken, fld_of_regs (regs_pumpFaults _), (keepsRegs_cause_if _ _ 0 (by decide)).fld rfl (by decide)]
  exact (fld_setFld_same s .XLT_FR_HEAD_INDEX 0 _ (by decide)).trans (Nat.mod_eq_of_lt (ringNext_lt 10 _ _))

theorem fld_noticeTaken (s : State) : s.noticeTaken.fld .OBJ_NR_HEAD_INDEX =
    ringNext (ringSize 6 16 (s.rd .OBJ_NR_BASE 0)) (s.fld .OBJ_NR_HEAD_INDEX) := by
  rw [State.noticeTaken, fld_of_regs (regs_pumpNotices _), (keepsRegs_setCause _ 0 (by decide)).fld rfl (by decide)]
  exact (fld_setFld_same s .OBJ_NR_HEAD_INDEX 0 _ (by decide)).trans (Nat.mod_eq_of_lt (ringNext_lt 6 _ _))

theorem cause_noticeTaken (s : State) : bitOf 0 (s.noticeTaken.rd .IRQ_CAUSE 0x02) = true := by
  rw [State.noticeTaken, rd_of_regs (regs_pumpNotices _)]
  exact bitOf_setCause _ _ (by decide)

theorem fld_crierWritten (s : State) {i : Nat} (hi : i < 3) : (s.crierWritten i).fld .TRC_RING_HEAD_INDEX i =
    ringNext (ringSize 6 16 (s.rd .TRC_RING_BASE i)) (s.fld .TRC_RING_HEAD_INDEX i) := by
  rw [State.crierWritten]
  rw [(keepsRegs_cause_if _ _ (1 + i) (by decide)).fld (by simp only [regIdxOk_iff, regDef]; omega) (by decide)]
  exact (fld_setFld_same s .TRC_RING_HEAD_INDEX i _ (by decide)).trans (Nat.mod_eq_of_lt (ringNext_lt 6 _ _))

theorem cqTail_completionTaken (s : State) {q : Nat} (irq : Bool) (h : 2 ≤ s.qState q) :
    (s.completionTaken q irq).cqTail q = (s.cqTail q + 1) % 65536 := by
  have hput : getBits 31 16 ((s.putQ q 3 31 16 ((s.cqTail q + 1) % 65536)).qWord q 3) = (s.cqTail q + 1) % 65536 :=
    (getBits_putQ_same s q 3 16 _ (by decide)).trans (Nat.mod_mod _ _)
  rw [State.cqTail, State.completionTaken, if_neg (by omega)]
  dsimp only
  rw [qWord_pumpQueue]
  split <;> exact hput

/-! ## The rotating pointer's grant (R282) -/

theorem takeSlot_grants (s : State) (q : Nat) : ((s.takeSlot q).queueRun q).resident = true ∧
    ((s.takeSlot q).queueRun q).waiting = false ∧ (s.takeSlot q).hif.rotor = s.hif.rotor := by
  rw [State.takeSlot]
  split <;> exact ⟨congrArg QueueRun.resident (queueRun_setQueueRun ..), congrArg QueueRun.waiting (queueRun_setQueueRun ..), rfl⟩

theorem needSlot_grants (s : State) (q : Nat) (h : s.slotQueues.length < 96 ∨ s.lruIdle.isSome = true) :
    ((s.needSlot q).queueRun q).resident = true ∧ ((s.needSlot q).queueRun q).waiting = false ∧
      (s.needSlot q).hif.rotor = s.hif.rotor := by
  obtain hn | ⟨v, hn⟩ | ⟨-, hfull, hbusy⟩ := needSlot_eq s q
  · rw [hn]
    exact takeSlot_grants s q
  · rw [hn]
    exact takeSlot_grants _ q
  · exact absurd h (by simp [hbusy, hfull])

/-- Fetching leaves a queue's slot and the pointer alone. -/
theorem pumpQueue_slot (s : State) (q : Nat) : ((s.pumpQueue q).queueRun q).resident = (s.queueRun q).resident ∧
    ((s.pumpQueue q).queueRun q).waiting = (s.queueRun q).waiting ∧ (s.pumpQueue q).hif.rotor = s.hif.rotor := by
  obtain h | ⟨addr, pasid, h⟩ | h := pumpQueue_eq s q
  · simp [h]
  · rw [h]
    exact ⟨(congrArg QueueRun.resident (queueRun_setQueueRun ..)).trans rfl,
      (congrArg QueueRun.waiting (queueRun_setQueueRun ..)).trans rfl, rfl⟩
  · obtain ⟨hqueues, hrotor⟩ := hif_faultQueue (s.err 0x0603 (s.qSlice q) (word q)) q 0x0603
    have herr : (s.err 0x0603 (s.qSlice q) (word q)).hif = s.hif := (congrArg State.hif (onlyEvents_raise s ..) :)
    rw [h, State.queueRun, hqueues, hrotor, herr]
    exact ⟨rfl, rfl, rfl⟩

/-! ## Doorbells (R42, R279–R282, R299) -/

section
variable {q v bytes : Nat} {pasid : Option Nat}

theorem doorbell_badFormat (t : State) (hr : s.isReady = true) (hb : bytes ≠ 8) :
    s.doorbell q pasid bytes t = s.hifErr 0x0104 q (pasid.getD 0) (s.qSlice q) := by
  rw [State.doorbell, if_neg (by simp [hr]), if_pos hb]

theorem doorbell_unmapped (t : State) (hr : s.isReady = true) (hd : s.doorbellOk q pasid = false) :
    s.doorbell q pasid 8 t = s.err 0x0603 (s.qSlice q) (word q) := by
  rw [State.doorbell, if_neg (by simp [hr]), if_neg (by decide), if_pos hd]

theorem doorbell_badState (t : State) (hr : s.isReady = true) (hd : s.doorbellOk q pasid = true)
    (h : s.qState q = 0 ∨ s.qState q = 1 ∨ s.qState q = 5) :
    s.doorbell q pasid 8 t = s.hifErr 0x0105 q (pasid.getD 0) (s.qSlice q) := by
  rw [State.doorbell, if_neg (by simp [hr]), if_neg (by decide), if_neg (by simp [hd]), if_pos (by omega)]

theorem leaves_sqTail (hr : s.isReady = true) (hq : queueOk q = true) (hv : v < 65536) (hp : pasidOk pasid = true)
    (h : s.doorbell q pasid bytes (s.newTail q v pasid) = u) : Leaves (.sqTail q v pasid bytes) s u :=
  leaves_effect rfl (and_ok (and_ok hq (decide_eq_true hv)) hp) (isReady_alive hr) h

theorem leaves_cqHead (hr : s.isReady = true) (hq : queueOk q = true) (hv : v < 65536) (hp : pasidOk pasid = true)
    (h : s.doorbell q pasid bytes (s.newCqHead q v pasid) = u) : Leaves (.cqHead q v pasid bytes) s u :=
  leaves_effect rfl (and_ok (and_ok hq (decide_eq_true hv)) hp) (isReady_alive hr) h

/-- A SQ_TAIL that the ring has room for is recorded; a slot and a fetch leave it alone. -/
theorem newTail_recorded (hroom : idxSub v (s.sqTail q) ≤ 2 ^ s.sqLog2 q - s.sqCount q) (hv : v < 65536) :
    (s.newTail q v pasid).sqTail q = v ∧ (s.newTail q v pasid).sqHead q = s.sqHead q := by
  have hword : (s.newTail q v pasid).qWord q 3 = (s.putQ q 3 63 48 v).qWord q 3 := by
    rw [State.newTail, if_pos hroom]
    dsimp only
    split
    · rw [qWord_pumpQueue, qWord_needSlot]
    · rfl
  constructor
  · rw [State.sqTail, hword, getBits_putQ_same _ _ _ _ _ (by decide)]
    exact Nat.mod_eq_of_lt hv
  · rw [State.sqHead, hword, getBits_putQ_other _ _ _ _ (by decide), State.sqHead]

theorem qState_putQ_indices (s : State) (q hi lo v : Nat) : (s.putQ q 3 hi lo v).qState q = s.qState q := by
  rw [State.qState, qWord_putQ_ne _ _ _ _ (by omega), State.qState]

theorem newTail_of_notLive (hroom : idxSub v (s.sqTail q) ≤ 2 ^ s.sqLog2 q - s.sqCount q) (h : s.qState q ≠ 2) :
    s.newTail q v pasid = s.putQ q 3 63 48 v := by
  rw [State.newTail, if_pos hroom]
  exact if_neg (by rw [qState_putQ_indices]; exact fun hc => h hc.1)

theorem newTail_refused (hroom : 2 ^ s.sqLog2 q - s.sqCount q < idxSub v (s.sqTail q)) :
    s.newTail q v pasid = (s.hifErr 0x0102 q (pasid.getD 0) (s.qSlice q)).faultQueue q 0x0102 := if_neg (by omega)

theorem qWord_hifErr (s : State) (code q pasid slice q' w : Nat) : (s.hifErr code q pasid slice).qWord q' w = s.qWord q' w :=
  qWord_of_queues (congrArg (fun v => v.obj.queues) (onlyEvents_hifErr s code q pasid slice) :) q' w

theorem newCqHead_recorded (h : idxSub v (s.cqHead q) ≤ idxSub (s.cqTail q) (s.cqHead q)) (hv : v < 65536) :
    (s.newCqHead q v pasid).cqHead q = v := by
  rw [State.newCqHead, if_pos h, State.cqHead, qWord_pumpQueue, getBits_putQ_same _ _ _ _ _ (by decide)]
  exact Nat.mod_eq_of_lt hv

/-- HIF_LAST_ERR names the code, the queue and the PASID of an ERROR of HIF. -/
theorem lastErr_hifErr (s : State) {code pasid : Nat} (slice : Nat) (hcode : code / 256 = 0x01) (hq : q < 16384) (hp : pasid < 2 ^ 20) :
    getBits 63 48 ((s.hifErr code q pasid slice).rd .HIF_LAST_ERR 0) = code ∧
    getBits 45 32 ((s.hifErr code q pasid slice).rd .HIF_LAST_ERR 0) = q ∧
    getBits 19 0 ((s.hifErr code q pasid slice).rd .HIF_LAST_ERR 0) = pasid := by
  have hrd : (s.hifErr code q pasid slice).rd .HIF_LAST_ERR 0 = setBits 63 48 code (setBits 45 32 q (setBits 19 0 pasid 0)) :=
    ((keepsRegs_err _ slice (word q) (by omega)).rd rfl (by decide)).trans (rd_wr_same ..)
  rw [hrd, getBits_setBits_same _ _ _ _ (by decide), getBits_setBits_other _ _ _ _ _ _ (by decide),
    getBits_setBits_same _ _ _ _ (by decide), getBits_setBits_other _ _ _ _ _ _ (by decide),
    getBits_setBits_other _ _ _ _ _ _ (by decide), getBits_setBits_same _ _ _ _ (by decide)]
  exact ⟨Nat.mod_eq_of_lt (by omega), Nat.mod_eq_of_lt hq, Nat.mod_eq_of_lt hp⟩

/-! ### The frame of doorbells and grants -/

theorem hostFrame_ite {c : Prop} [Decidable c] {a b : State} (ha : HostFrame s a) (hb : HostFrame s b) :
    HostFrame s (if c then a else b) := by
  split
  · exact ha
  · exact hb

theorem hostFrame_newTail (s : State) (q v : Nat) (pasid : Option Nat) : HostFrame s (s.newTail q v pasid) :=
  hostFrame_ite
    (hostFrame_ite (HostFrame.trans (hostFrame_putQ s q 3 63 48 v) ((hostFrame_needSlot _ q).trans (hostFrame_pumpQueue _ q)))
      (hostFrame_putQ s q 3 63 48 v))
    ((hostFrame_of_onlyEvents (onlyEvents_hifErr ..)).trans (hostFrame_faultQueue ..))

theorem hostFrame_newCqHead (s : State) (q v : Nat) (pasid : Option Nat) : HostFrame s (s.newCqHead q v pasid) :=
  hostFrame_ite ((hostFrame_putQ s q 3 15 0 v).trans (hostFrame_pumpQueue _ q)) (hostFrame_of_onlyEvents (onlyEvents_hifErr ..))

theorem hostFrame_doorbell (s : State) (q : Nat) (pasid : Option Nat) (bytes : Nat) {t : State} (h : HostFrame s t) :
    HostFrame s (s.doorbell q pasid bytes t) :=
  hostFrame_ite (HostFrame.refl s) (hostFrame_ite (hostFrame_of_onlyEvents (onlyEvents_hifErr ..))
    (hostFrame_ite (hostFrame_err ..) (hostFrame_ite (hostFrame_of_onlyEvents (onlyEvents_hifErr ..)) h)))

theorem hostFrame_withPins (p : Pins) (h : HostFrame s u) :
    ({ ({ u with pins := p } : State) with pending := s.pending } : State) =
      { s with regs := u.regs, obj := u.obj, hif := u.hif, crier := u.crier, out := u.out, pins := p } := by
  unfold HostFrame at h
  rw [h]

/-- A command leaves its effect, or nothing while the block is off, but for the lines. -/
theorem left_of_onUnit {ok : Bool} (h : onUnit s ok u = .next t) :
    ok = true ∧ ∃ v p, (v = u ∨ v = s) ∧ t = { ({ v with pins := p } : State) with pending := s.pending } := by
  cases ok with
  | false => cases h
  | true =>
    have hlines : ∀ v : State, ∃ p, v.drivePins = { v with pins := p } := fun v => ⟨_, rfl⟩
    refine ⟨rfl, ?_⟩
    cases ha : s.alive with
    | false =>
      obtain ⟨p, hp⟩ := hlines s
      rw [onUnit_dead rfl ha, hp] at h
      cases h
      exact ⟨s, p, .inr rfl, rfl⟩
    | true =>
      obtain ⟨p, hp⟩ := hlines u
      rw [onUnit_of rfl ha, hp] at h
      cases h
      exact ⟨u, p, .inl rfl, rfl⟩

/-- A command keeps the frame of its effect, but for the lines. -/
theorem frame_of_onUnit {ok : Bool} (h : onUnit s ok u = .next t) (hf : HostFrame s u) : t = { s with
    regs := t.regs, obj := t.obj, hif := t.hif, crier := t.crier, out := t.out, pins := t.pins } := by
  obtain ⟨-, v, p, rfl | rfl, rfl⟩ := left_of_onUnit h
  · exact hostFrame_withPins p hf
  · exact hostFrame_withPins p (HostFrame.refl v)

end

/-- Settles O46: each doorbell's branch, then what `pumpQueue` and `needSlot` leave of a queue's words and slot. -/
theorem doorbellsSlotsAndPostedWrites : Obligations.DoorbellsSlotsAndPostedWrites := by
  refine ⟨fun q v bytes pasid s hr hq hv hp => ⟨fun hb => ?_, fun hd => ?_, fun hd h => ?_, fun hd h => ?_⟩,
    fun s q v pasid hv => ⟨fun hroom => ?_, fun hroom => ?_, fun h => newCqHead_recorded h hv, fun h => if_neg (by omega)⟩,
    fun s code q pasid sl hcode hq hpasid => ?_,
    fun q s hq hr hrot hfree => ?_, fun x rest s ha h => ⟨leaves_postedWriteTaken ha h, fun id hid => ?_⟩, fun s => ?_,
    fun q v bytes pasid s t c hc ht => ?_⟩
  · exact ⟨leaves_sqTail hr hq hv hp (doorbell_badFormat _ hr hb), leaves_cqHead hr hq hv hp (doorbell_badFormat _ hr hb)⟩
  · exact ⟨leaves_sqTail hr hq hv hp (doorbell_unmapped _ hr hd), leaves_cqHead hr hq hv hp (doorbell_unmapped _ hr hd)⟩
  · exact ⟨leaves_sqTail hr hq hv hp (doorbell_badState _ hr hd h), leaves_cqHead hr hq hv hp (doorbell_badState _ hr hd h)⟩
  · have htaken : ∀ t, s.doorbell q pasid 8 t = t := fun t => doorbell_accepted t hr hd (by omega) (by omega)
    exact ⟨leaves_sqTail hr hq hv hp (htaken _), leaves_cqHead hr hq hv hp (htaken _)⟩
  · obtain ⟨htail, hhead⟩ := newTail_recorded (pasid := pasid) hroom hv
    exact ⟨htail, hhead, newTail_of_notLive hroom⟩
  · rw [newTail_refused hroom]
    refine ⟨?_, qState_faultQueue .., faultCode_faultQueue _ _ (by decide)⟩
    rw [State.sqTail, qWord_faultQueue_ne _ _ (by omega) (by omega), qWord_hifErr, State.sqTail]
  · have honly := onlyEvents_hifErr s code q pasid sl
    exact ⟨(congrArg State.obj honly :), (congrArg State.hif honly :), lastErr_hifErr s sl hcode hq hpasid⟩
  · obtain ⟨hres, hwait, hrotor⟩ := needSlot_grants { s with hif := { s.hif with rotor := q } } q hfree
    obtain ⟨hres', hwait', hrotor'⟩ := pumpQueue_slot (({ s with hif := { s.hif with rotor := q } } : State).needSlot q) q
    refine answers_of_leaves (leaves_queueSlotGrant (isReady_alive hr) hq hr hrot hfree) fun t ht => ⟨?_, ?_, ?_⟩
    · exact (congrArg (fun v => (v.queueRun q).resident) ht :).trans (hres'.trans hres)
    · exact (congrArg (fun v => (v.queueRun q).waiting) ht :).trans (hwait'.trans hwait)
    · exact (congrArg (fun v => v.hif.rotor) ht :).trans (hrotor'.trans hrotor)
  · refine leaves_effect rfl rfl ha ?_
    simp only [h]
    exact if_pos (.inl hid.symm)
  · exact ⟨fld_faultTaken s, fld_noticeTaken s, cause_noticeTaken s, fun i hi => fld_crierWritten s hi,
      fun q irq _ h2 => cqTail_completionTaken s irq h2⟩
  · simp only [List.mem_cons, List.not_mem_nil, or_false] at hc
    obtain rfl | rfl | rfl := hc
    · exact frame_of_onUnit (ok := queueOk q && u16Ok v && pasidOk pasid) ht (hostFrame_doorbell s q pasid bytes (hostFrame_newTail s q v pasid))
    · exact frame_of_onUnit (ok := queueOk q && u16Ok v && pasidOk pasid) ht (hostFrame_doorbell s q pasid bytes (hostFrame_newCqHead s q v pasid))
    · refine frame_of_onUnit (ok := queueOk q) ht (hostFrame_ite ?_ (HostFrame.refl s))
      exact HostFrame.trans (t := { s with hif := { s.hif with rotor := q } }) rfl
        ((hostFrame_needSlot _ q).trans (hostFrame_pumpQueue _ q))

end Sys2Proof.Scope

namespace Sys2Proof.Scope

open Sys2Proof Sys2Proof.Machine Sys2Proof.Laws

/-! ## Words of a mailbox (R301) -/

variable {s t u : State} {sl : Nat}

theorem mbx_setMbx_ne (s : State) {x w w' : Nat} (v : Word) (h : x * 2048 + w ≠ sl * 2048 + w') :
    (s.setMbx sl w' v).mbx x w = s.mbx x w := mapGet_mapSet_ne _ _ _ _ h

theorem getBits_word (n : Nat) {hi lo : Nat} (h : hi < 64) : getBits hi lo (word n) = n / 2 ^ lo % 2 ^ (hi + 1 - lo) := by
  apply Nat.eq_of_testBit_eq
  intro j
  rw [testBit_getBits, Nat.testBit_mod_two_pow, Nat.testBit_div_two_pow, word, BitVec.getLsbD_ofNat]
  by_cases hj : j < hi + 1 - lo
  · have hlt : lo + j < 64 := by omega
    simp [hj, hlt, Nat.add_comm]
  · simp [hj]

theorem getBits_lt (hi lo : Nat) (w : Word) : getBits hi lo w < 2 ^ (hi + 1 - lo) := Nat.mod_lt _ (Nat.two_pow_pos _)

theorem getBits_index {n : Nat} (h : n < 65536) : getBits 15 0 (word n) = n := by
  rw [getBits_word n (by decide), Nat.pow_zero, Nat.div_one]
  exact Nat.mod_eq_of_lt h

theorem mbx_of_ten (h : t.ten.mailbox = s.ten.mailbox) (x w : Nat) : t.mbx x w = s.mbx x w := by
  rw [State.mbx, h, State.mbx]

/-- Words written in different places of a mailbox. -/
theorem mbx_forEach_setMbx (s : State) {base w : Nat} (ws : Nat → Word) (l : List Nat) :
    (forEach l s (fun w s => s.setMbx sl (base + w) (ws w))).mbx sl (base + w) = if w ∈ l then ws w else s.mbx sl (base + w) := by
  induction l generalizing s with
  | nil => rfl
  | cons a l ih =>
    rw [forEach_cons, ih]
    by_cases hmem : w ∈ l
    · rw [if_pos hmem, if_pos (List.mem_cons_of_mem a hmem)]
    rw [if_neg hmem]
    by_cases hwa : w = a
    · rw [if_pos (hwa ▸ List.mem_cons_self ..), hwa, mbx_setMbx]
    · rw [if_neg (by simp [hwa, hmem]), mbx_setMbx_ne _ _ (by omega)]

/-! ## TEN's messages (R305) -/

theorem t2mHead_t2mPast (s : State) (sl : Nat) : (s.t2mPast sl).t2mHead sl = (s.t2mHead sl + 1) % 65536 := by
  rw [State.t2mHead, State.t2mPast, mbx_setMbx, getBits_index (Nat.mod_lt _ (by decide))]

/-- What the tail and the ring of a message that TEN places hold. -/
theorem m2tTail_placeM2t (s : State) (sl : Nat) (ws : List Word) :
    (s.placeM2t sl ws).m2tTail sl = (s.m2tTail sl + 1) % 65536 := by
  have hmbx : (s.placeM2t sl ws).mbx sl 2 = word ((s.m2tTail sl + 1) % 65536) := mbx_setMbx ..
  rw [State.m2tTail, hmbx, getBits_index (Nat.mod_lt _ (by decide))]

theorem mbx_placeM2t (s : State) (sl : Nat) (ws : List Word) {w : Nat} (hw : w < 8) :
    (s.placeM2t sl ws).mbx sl (1536 + 8 * (s.m2tTail sl % 64) + w) = ws.getD w 0 := by
  have hring := mbx_forEach_setMbx (sl := sl) s (base := 1536 + 8 * (s.m2tTail sl % 64)) (w := w) (fun w => ws.getD w 0) (List.range 8)
  rw [if_pos (List.mem_range.mpr hw)] at hring
  refine Eq.trans ?_ hring
  exact mbx_setMbx_ne (sl := sl) _ _ (by omega)

theorem sendM2t_of_space {ws : List Word} (hspace : s.m2tSpace sl = true) (hw : s.ten.waiting.any (fun x => x.1 == sl) = false) :
    s.sendM2t sl ws = s.placeM2t sl ws := if_pos (by simp [hspace, hw])

theorem mem_modifyFirst {α : Type} {p : α → Bool} {f : α → α} {l : List α} {y : α} (hf : ∀ a, f a = y) (h : l.any p = true) :
    y ∈ modifyFirst p f l := by
  induction l with
  | nil => cases h
  | cons a l ih =>
    rw [modifyFirst]
    split
    · exact hf a ▸ List.mem_cons_self ..
    · rename_i ha
      rw [List.any_cons, Bool.or_eq_true] at h
      exact List.mem_cons_of_mem _ (ih (h.resolve_left ha))

/-- A message that finds no space waits, alone of its TYPE. -/
theorem sendM2t_of_full {ws : List Word} (h : s.m2tSpace sl = false) : (s.sendM2t sl ws).ten.mailbox = s.ten.mailbox ∧
    (sl, msgType ws, ws) ∈ (s.sendM2t sl ws).ten.waiting := by
  rw [State.sendM2t, h, Bool.false_and, if_neg (by decide)]
  refine ⟨rfl, ?_⟩
  dsimp only
  split
  · exact mem_modifyFirst (fun _ => rfl) ‹_›
  · exact List.mem_append_right _ (List.mem_singleton_self _)

theorem bitOf_setPending (s : State) (r : Reg) :
    bitOf ((sl - 1) % 64) ((s.setPending r sl).rd r ((sl - 1) / 64)) = true := by
  rw [State.setPending, rd_wr_same, bitOf_orBit _ _ (Nat.mod_lt _ (by decide))]
  simp

/-! ## Requests (R303, R304) -/

theorem typeInvalid_iff (ws : List Word) : typeInvalid (msgType ws) = true ↔
    msgType ws = 0 ∨ (3 ≤ msgType ws ∧ msgType ws < 0x40) ∨ 0x80 ≤ msgType ws := by
  have hbyte : msgType ws < 2 ^ (63 + 1 - 56) := getBits_lt 63 56 _
  simp only [typeInvalid, Bool.or_eq_true, Bool.and_eq_true, beq_iff_eq, decide_eq_true_eq]
  omega

theorem t2mHeadOk_iff (s : State) (sl v : Nat) : s.t2mHeadOk sl v = true ↔
    v = s.t2mHead sl ∨ (idxSub v (s.t2mHead sl) = 1 ∧ 0x40 ≤ s.t2mType sl ∧ s.t2mType sl ≤ 0x7F) := by
  simp [State.t2mHeadOk, managerType]

theorem t2mType_of_message {ws : List Word} (h : s.t2mMessage sl = some ws) : s.t2mType sl = msgType ws := by
  simp only [State.t2mType, h]

/-! ## ATTEST (R305) -/

theorem statement_unseeded (s : State) (kind sl : Nat) (nonce : List Byte) (h : s.well.seed = none) :
    s.statement kind sl nonce = .inl 0x0E01 := by
  simp only [State.statement, h]

/-! ## Doorbells of a mailbox (R42, R300, R302) -/

section
variable {bytes : Nat} {pasid : Option Nat}

theorem mailboxAccess_unmapped (t : State) (hr : s.isReady = true) (hm : s.mailboxMapped sl pasid = false) :
    s.mailboxAccess sl pasid bytes t = s.tenErr 0x0603 sl := by
  rw [State.mailboxAccess, if_neg (by simp [hr]), if_pos hm]

theorem mailboxAccess_refused (t : State) (hr : s.isReady = true) (hm : s.mailboxMapped sl pasid = true)
    (h : bytes ≠ 8 ∨ cfgEnabled s.regs sl = false) : s.mailboxAccess sl pasid bytes t = s.tenErr 0x1401 sl := by
  rw [State.mailboxAccess, if_neg (by simp [hr]), if_neg (by simp [hm]), if_pos h]

variable {v : Nat} {slots : List (Nat × Word)}

theorem leaves_t2mTail_of (hr : s.isReady = true) (hsl : tenantOk sl = true) (hv : v < 65536) (hp : pasidOk pasid = true)
    (hb : bytes ≤ 8) (hslots : slots.all (fun x => decide (x.1 < 2048)) = true)
    (h : ∀ t, s.mailboxAccess sl pasid bytes t = u) : Leaves (.t2mTail sl v pasid bytes slots) s u :=
  leaves_effect rfl (and_ok (and_ok (and_ok (and_ok hsl (decide_eq_true hv)) hp) (decide_eq_true hb)) hslots) (isReady_alive hr) (h _)

theorem leaves_m2tHead_of (hr : s.isReady = true) (hsl : tenantOk sl = true) (hv : v < 65536) (hp : pasidOk pasid = true)
    (hb : bytes ≤ 8) (h : ∀ t, s.mailboxAccess sl pasid bytes t = u) : Leaves (.m2tHead sl v pasid bytes) s u :=
  leaves_effect rfl (and_ok (and_ok (and_ok hsl (decide_eq_true hv)) hp) (decide_eq_true hb)) (isReady_alive hr) (h _)

theorem tenantWord_ring {w : Nat} (v : Word) (h : 1024 ≤ w ∧ w < 1536) : s.tenantWord sl w v = s.setMbx sl w v :=
  if_pos (by simp [tenantRing, h])

theorem tenantWord_outside {w : Nat} (v : Word) (h : w < 1024 ∨ 1536 ≤ w) : s.tenantWord sl w v = s.tenErr 0x1401 sl :=
  if_neg (by simp only [tenantRing, Bool.and_eq_true, decide_eq_true_eq]; omega)

theorem forEach_tenantWord_ring (h : ∀ x ∈ slots, 1024 ≤ x.1 ∧ x.1 < 1536) (s : State) :
    forEach slots s (fun x u => u.tenantWord sl x.1 x.2) = forEach slots s (fun x u => u.setMbx sl x.1 x.2) := by
  induction slots generalizing s with
  | nil => rfl
  | cons x slots ih =>
    obtain ⟨hx, hrest⟩ := List.forall_mem_cons.mp h
    rw [forEach_cons, forEach_cons, tenantWord_ring x.2 hx, ih hrest]

end

/-! ## What mailbox commands change -/

/-- `t` is `s` but for the mailbox of slice `sl`, the messages that wait, registers and the Crier. -/
structure MbxFrame (sl : Nat) (s t : State) : Prop where
  only : t = { s with ten := t.ten, regs := t.regs, crier := t.crier }
  mbx : ∀ x, x ≠ sl → ∀ w, w < 2048 → t.mbx x w = s.mbx x w

namespace MbxFrame

theorem refl (sl : Nat) (s : State) : MbxFrame sl s s := ⟨rfl, fun _ _ _ _ => rfl⟩

theorem trans (h : MbxFrame sl s t) (k : MbxFrame sl t u) : MbxFrame sl s u where
  only := by rw [k.only, h.only]
  mbx x hx w hw := (k.mbx x hx w hw).trans (h.mbx x hx w hw)

theorem ite {c : Prop} [Decidable c] {a b : State} (ha : MbxFrame sl s a) (hb : MbxFrame sl s b) :
    MbxFrame sl s (if c then a else b) := by
  split
  · exact ha
  · exact hb

theorem forEach {α : Type} {f : α → State → State} {l : List α} (h : ∀ a ∈ l, ∀ v, MbxFrame sl v (f a v)) (s : State) :
    MbxFrame sl s (Sys2Proof.Machine.forEach l s f) := by
  induction l generalizing s with
  | nil => exact refl sl s
  | cons a l ih =>
    obtain ⟨ha, hl⟩ := List.forall_mem_cons.mp h
    exact (ha s).trans (ih hl _)

theorem of_onlyEvents (h : OnlyEvents s t) : MbxFrame sl s t where
  only := by
    unfold OnlyEvents at h
    rw [h]
  mbx x _ w _ := mbx_of_ten (congrArg (fun v => v.ten.mailbox) h :) x w

theorem tenErr (sl code : Nat) (s : State) : MbxFrame sl s (s.tenErr code sl) :=
  of_onlyEvents (onlyEvents_raise s .error code sl (code / 256) (word sl))

theorem setMbx (s : State) (v : Word) {w : Nat} (hw : w < 2048) : MbxFrame sl s (s.setMbx sl w v) where
  only := rfl
  mbx x hx w' hw' := mbx_setMbx_ne _ _ (by omega)

theorem setPending (s : State) (r : Reg) (sl : Nat) : MbxFrame sl s (s.setPending r sl) := of_onlyEvents (onlyEvents_wr ..)

theorem waiting (s : State) (l : List (Nat × Nat × List Word)) : MbxFrame sl s { s with ten := { s.ten with waiting := l } } :=
  ⟨rfl, fun _ _ _ _ => rfl⟩

theorem placeM2t (s : State) (ws : List Word) : MbxFrame sl s (s.placeM2t sl ws) :=
  MbxFrame.trans (MbxFrame.forEach (fun w hw v => setMbx v _ (by have := List.mem_range.mp hw; omega)) s)
    ((setMbx _ _ (by decide)).trans (setPending ..))

theorem sendM2t (s : State) (ws : List Word) : MbxFrame sl s (s.sendM2t sl ws) := ite (placeM2t s ws) (waiting s _)

theorem m2tStep (sl : Nat) (s : State) : MbxFrame sl s (State.m2tStep sl s) := by
  rw [State.m2tStep]
  split
  · exact ite ((waiting s _).trans (placeM2t _ _)) (refl sl s)
  · exact refl sl s

theorem pumpM2t (s : State) : MbxFrame sl s (s.pumpM2t sl) :=
  iterate_rel (MbxFrame sl) (refl sl) (fun _ _ _ => trans) (m2tStep sl) _ s

theorem tenantWord (s : State) (w : Nat) (v : Word) : MbxFrame sl s (s.tenantWord sl w v) := by
  rw [State.tenantWord]
  split
  · next h =>
    simp only [tenantRing, Bool.and_eq_true, decide_eq_true_eq] at h
    exact setMbx s v (by omega)
  · exact tenErr sl _ s

theorem mailboxAccess {bytes : Nat} {pasid : Option Nat} (h : MbxFrame sl s t) : MbxFrame sl s (s.mailboxAccess sl pasid bytes t) :=
  ite (refl sl s) (ite (tenErr sl _ s) (ite (tenErr sl _ s) h))

theorem tenReply (s : State) (type code : Nat) (request : List Word) (w1 : Word) :
    MbxFrame sl s (s.tenReply sl type code request w1) := sendM2t s _

theorem t2mPast (s : State) : MbxFrame sl s (s.t2mPast sl) := setMbx s _ (by decide)

theorem discardEarly (s : State) (path : Path) (off : Nat) : MbxFrame sl s (s.discardEarly path off) :=
  ite (of_onlyEvents (onlyEvents_raise s .error 0x1505 0 (0x1505 / 256) (word off))) (refl sl s)

theorem managerIndex (s : State) (path : Path) (w : Nat) (h : MbxFrame sl s t) : MbxFrame sl s (s.managerIndex path sl w t) :=
  ite (ite h (tenErr sl _ s)) (discardEarly s path _)

/-- A command keeps the frame of its effect, but for the lines. -/
theorem of_onUnit {ok : Bool} (h : onUnit s ok u = .next t) (hf : MbxFrame sl s u) :
    t = { s with ten := t.ten, regs := t.regs, crier := t.crier, pins := t.pins } ∧
      ∀ x, x ≠ sl → ∀ w, w < 2048 → t.mbx x w = s.mbx x w := by
  obtain ⟨-, v, p, hv, rfl⟩ := left_of_onUnit h
  have hframe : MbxFrame sl s v := hv.elim (fun e => e ▸ hf) (fun e => e ▸ refl sl s)
  refine ⟨?_, hframe.mbx⟩
  rw [hframe.only]

end MbxFrame

/-- A T2M_TAIL that comes with words of its own ring is judged by the indices before them (R302). -/
theorem leaves_t2mTail_full {v : Nat} {pasid : Option Nat} {slots : List (Nat × Word)} (hr : s.isReady = true)
    (hsl : tenantOk sl = true) (hv : v < 65536) (hpasid : pasidOk pasid = true) (hm : s.mailboxMapped sl pasid = true)
    (he : cfgEnabled s.regs sl = true) (hslots : slots.all (fun x => decide (x.1 < 2048)) = true)
    (hfull : tailFits (s.t2mTail sl) (s.t2mHead sl) v = false) (hring : ∀ x ∈ slots, tenantRing x.1 = true) :
    Leaves (.t2mTail sl v pasid 8 slots) s ((forEach slots s (fun x u => u.tenantWord sl x.1 x.2)).tenErr 0x1402 sl) := by
  refine leaves_effect rfl (and_ok (and_ok (and_ok (and_ok hsl (decide_eq_true hv)) hpasid) rfl) hslots) (isReady_alive hr) ?_
  rw [mailboxAccess_accepted _ hr hm he]
  refine if_neg ?_
  rw [State.t2mTail, State.t2mHead, mbx_forEach_tenantWord hring s sl (by decide), mbx_forEach_tenantWord hring s sl (by decide)]
  exact Bool.not_eq_true _ ▸ hfull

/-- Settles O48: each access by its branch, each message by its TYPE, the frame by `MbxFrame`. -/
theorem mailboxesCarryMessagesBothWays : Obligations.MailboxesCarryMessagesBothWays := by
  refine ⟨fun sl v bytes pasid slots s hr hsl hv hp hb hslots => ⟨fun hm => ?_, fun hm => ⟨fun h => ?_, fun hb8 he => ?_⟩⟩,
    fun s sl w v h => tenantWord_outside v h, fun path sl v s hr hp hsl hv => ⟨fun he => ?_, fun he => ⟨?_, fun hne h => ?_, fun h => ?_⟩⟩,
    fun sl code pages ws s ha hsl h => ⟨fun ht => leaves_query ha hsl h ht, fun h1 h2 => ?_, fun ht => ?_,
      fun ht hc hl hpages => leaves_tenAttest ha hsl h ht hc hl hpages⟩,
    fun s sl code pages ws => ⟨fun h => if_pos h, fun h hseed => ?_, fun h => ?_⟩,
    fun s sl w ws hw => ⟨mbx_placeM2t s sl ws hw, m2tTail_placeM2t s sl ws, t2mHead_t2mPast s sl, sendM2t_of_space, sendM2t_of_full⟩,
    fun s sl _ => ⟨bitOf_setPending s _, bitOf_setPending s _⟩, fun path sl v bytes pasid slots s t c hc ht => ?_⟩
  · exact ⟨leaves_t2mTail_of hr hsl hv hp hb hslots fun t => mailboxAccess_unmapped t hr hm,
      leaves_m2tHead_of hr hsl hv hp hb fun t => mailboxAccess_unmapped t hr hm⟩
  · exact ⟨leaves_t2mTail_of hr hsl hv hp hb hslots fun t => mailboxAccess_refused t hr hm h,
      leaves_m2tHead_of hr hsl hv hp hb fun t => mailboxAccess_refused t hr hm h⟩
  · subst hb8
    refine ⟨fun hring h => ?_, fun hring h => ?_, fun h => ?_, fun h => ?_⟩
    · rw [← forEach_tenantWord_ring hring]
      exact leaves_t2mTail hr hsl hv hp hm he hslots (decide_eq_true h) fun x hx => by simp [tenantRing, hring x hx]
    · rw [← forEach_tenantWord_ring hring]
      exact leaves_t2mTail_full hr hsl hv hp hm he hslots (decide_eq_false (by omega)) fun x hx => by simp [tenantRing, hring x hx]
    · exact leaves_m2tHead hr hsl hv hp hm he (decide_eq_true h)
    · refine leaves_effect rfl (and_ok (and_ok (and_ok hsl (decide_eq_true hv)) hp) rfl) (isReady_alive hr) ?_
      rw [mailboxAccess_accepted _ hr hm he]
      exact if_neg (by simpa [headFits] using h)
  · exact ⟨leaves_taken rfl (and_ok (and_ok hp hsl) (decide_eq_true hv)) hr hp (if_neg (by simp [he])),
      leaves_taken rfl (and_ok (and_ok hp hsl) (decide_eq_true hv)) hr hp (if_neg (by simp [he]))⟩
  · refine leaves_taken rfl (and_ok (and_ok hp hsl) (decide_eq_true hv)) hr hp ((if_pos he).trans ?_)
    by_cases h : s.t2mHeadOk sl v = true
    · rw [if_pos h, if_pos ((t2mHeadOk_iff s sl v).mp h)]
    · rw [if_neg h, if_neg (fun hc => h ((t2mHeadOk_iff s sl v).mpr hc))]
  · exact leaves_m2tTail hr hp hsl hv he (decide_eq_true h) hne
  · exact leaves_taken rfl (and_ok (and_ok hp hsl) (decide_eq_true hv)) hr hp
      ((if_pos he).trans (if_neg (by simpa [tailFits] using h)))
  · exact leaves_managerMessage ha hsl (by rw [t2mType_of_message h]; exact and_ok (decide_eq_true h1) (decide_eq_true h2))
  · exact leaves_t2mTypeInvalid ha hsl h ((typeInvalid_iff ws).mpr ht)
  · rw [State.attestReply, if_neg (by simp [h]), statement_unseeded _ _ _ _ hseed]
    rfl
  · rw [State.attestReply, if_neg (by simp [h])]
    cases s.statement 2 sl (slice (wordsBytes (ws.drop 1)) 0 48) with
    | inl c => rfl
    | inr x => simp only [List.all_eq_true]
  · simp only [List.mem_cons, List.not_mem_nil, or_false] at hc
    obtain rfl | rfl | rfl | rfl | rfl | rfl | rfl := hc
    · refine MbxFrame.of_onUnit (ok := tenantOk sl && u16Ok v && pasidOk pasid && decide (bytes ≤ 8) && slots.all (fun x => decide (x.1 < 2048)))
        ht (MbxFrame.mailboxAccess ?_)
      exact MbxFrame.trans (MbxFrame.forEach (fun x _ u => MbxFrame.tenantWord u x.1 x.2) s)
        (MbxFrame.ite (MbxFrame.setMbx _ _ (by decide)) (MbxFrame.tenErr sl _ _))
    · exact MbxFrame.of_onUnit (ok := tenantOk sl && u16Ok v && pasidOk pasid && decide (bytes ≤ 8)) ht (MbxFrame.mailboxAccess
        (MbxFrame.ite ((MbxFrame.setMbx s _ (by decide)).trans (MbxFrame.pumpM2t _)) (MbxFrame.tenErr sl _ s)))
    · exact MbxFrame.of_onUnit (ok := pathOk path && tenantOk sl && u16Ok v) ht (MbxFrame.managerIndex s path 1
        (MbxFrame.ite (MbxFrame.setMbx s _ (by decide)) (MbxFrame.tenErr sl _ s)))
    · exact MbxFrame.of_onUnit (ok := pathOk path && tenantOk sl && u16Ok v) ht (MbxFrame.managerIndex s path 2
        (MbxFrame.ite (MbxFrame.ite (MbxFrame.refl sl s) ((MbxFrame.setMbx s _ (by decide)).trans (MbxFrame.setPending ..)))
          (MbxFrame.tenErr sl _ s)))
    · refine MbxFrame.of_onUnit (ok := tenantOk sl) ht ?_
      split
      · exact MbxFrame.ite ((MbxFrame.t2mPast s).trans (MbxFrame.tenReply ..)) (MbxFrame.refl sl s)
      · exact MbxFrame.refl sl s
    · exact MbxFrame.of_onUnit (ok := tenantOk sl) ht (MbxFrame.ite (MbxFrame.setPending ..) (MbxFrame.refl sl s))
    · refine MbxFrame.of_onUnit (ok := tenantOk sl) ht ?_
      split
      · exact MbxFrame.ite ((MbxFrame.t2mPast s).trans (MbxFrame.tenReply ..)) (MbxFrame.refl sl s)
      · exact MbxFrame.refl sl s

end Sys2Proof.Scope

namespace Sys2Proof.Scope

open Sys2Proof Sys2Proof.Machine Sys2Proof.Laws

/-! ## The residency counters while the supply is removed (R25, R68)

The GTB runs on in the domain that is always on; the counters of R68 do not. -/

/-- The GTB runs and the supply of PD1 to PD23 is removed; the registers hold their reset values, so slice 0 is enabled. -/
def suppliedNot : State :=
  { State.reset with
    clock := { State.reset.clock with running := true }
    boot := { State.reset.boot with supplyOff := true } }

theorem timeNs_suppliedNot : (suppliedNot.advance 1).rd .CMP_RES_TIME_NS 0 = 0 ∧ suppliedNot.rd .CMP_RES_TIME_NS 0 = 0 ∧
    cfgEnabled suppliedNot.regs 0 = true := by decide

/-- Refutes O55: without the supply the GTB advances by 1 ns, and the residency time of slice 0, which is enabled, stays 0. -/
theorem not_monitorsReportTheFloorAndEnergy : ¬ Obligations.MonitorsReportTheFloorAndEnergy := by
  rintro ⟨-, -, -, -, -, -, -, -, -, -, -, hadvance, -⟩
  obtain ⟨hafter, hbefore, henabled⟩ := timeNs_suppliedNot
  obtain ⟨htime, -⟩ := hadvance suppliedNot 1 0 rfl (by decide)
  rw [if_pos henabled, hafter, hbefore] at htime
  exact absurd htime (by decide)

end Sys2Proof.Scope

namespace Sys2Proof.Scope

open Sys2Proof Sys2Proof.Machine Sys2Proof.Laws

/-! ## Starting a ring command (R41, R119, R283, R297) -/

variable {s t u : State} {q : Nat} {w ws : CmdWords}

/-- Each ring command starts as `startCmd` says, with an effect of its own. -/
theorem exec_ringCommand {c : Instr} (h : ringCommand q w = some c) : cmdOpcode w ≤ 9 ∧ ∃ run : List Word → State → State,
    ∀ s, exec c s = onUnit s (cmdOk (cmdOpcode w) q w) (s.startCmd q w run) := by
  obtain ⟨hlt, hc⟩ := List.getElem?_eq_some_iff.mp h
  have hop : cmdOpcode w ≤ 9 := Nat.le_of_lt_succ hlt
  refine ⟨hop, ?_⟩
  generalize cmdOpcode w = op at hlt hc hop
  interval_cases op <;> exact hc ▸ ⟨_, fun s => rfl⟩

theorem cmdOk_opcode (hq : queueOk q = true) (hw : w.length = 8) : cmdOk (cmdOpcode w) q w = true :=
  and_ok (and_ok hq (beq_iff_eq.mpr hw)) (beq_self_eq_true _)

theorem alive_of_fetchOk (h : s.fetchOk q w = true) : s.alive = true := by
  simp only [State.fetchOk, Bool.and_eq_true] at h
  obtain ⟨⟨⟨⟨⟨hready, -⟩, -⟩, -⟩, -⟩, -⟩ := h
  exact isReady_alive hready

section
variable {run : List Word → State → State}

theorem startCmd_notFetched (h : s.fetchOk q w = false) : s.startCmd q w run = s := if_pos h

theorem startCmd_unmapped (hf : s.fetchOk q w = true) (h : cfgPasidOk s.regs (s.ctxPasid (s.qCtx q)) (s.qSlice q) = false) :
    s.startCmd q w run = (s.err 0x0603 (s.qSlice q) (word q)).faultQueue q 0x0603 := by
  rw [State.startCmd, if_neg (by simp [hf]), if_pos h]

theorem startCmd_unconverted {p : Word} (hf : s.fetchOk q w = true) (hm : cfgPasidOk s.regs (s.ctxPasid (s.qCtx q)) (s.qSlice q) = true)
    (hop : cmdOpcode w ≤ 9) (h : s.convertAll (s.qCtx q) w = .inl p) :
    s.startCmd q w run = ((s.takeCmd q w).submitFault q 0x070A p).2.refuseCmd q 0x070A := by
  simp [State.startCmd, hf, hm, hop, h]

theorem startCmd_refused (h : s.Starts q w ws) (hop : cmdOpcode w ≤ 9) (hr : s.cmdRefusal q ws (s.queueRun q).pinBad ≠ 0) :
    s.startCmd q w run = (s.takeCmd q ws).refuseCmd q (s.cmdRefusal q ws (s.queueRun q).pinBad) := by
  obtain ⟨hf, hm, hc⟩ := h
  simp [State.startCmd, hf, hm, hop, hc, hr]

end

/-! ## The command that is taken (R284) -/

theorem queueRun_takeCmd (s : State) (q : Nat) (ws : List Word) : (s.takeCmd q ws).queueRun q = { s.queueRun q with
    fetched := none, fetchTag := none, running := some ⟨s.sqHead q, ws, 0, 0, 0, (s.queueRun q).pins, none, false⟩, pins := [],
    pinBad := 0 } := queueRun_setQueueRun ..

theorem queueRun_takeCmd_ne (s : State) {p : Nat} (ws : List Word) (h : p ≠ q) : (s.takeCmd q ws).queueRun p = s.queueRun p :=
  queueRun_setQueueRun_ne _ _ h

theorem qWord_takeCmd_ne (s : State) (ws : List Word) {p i : Nat} (h : p * 8 + i ≠ q * 8 + 3) :
    (s.takeCmd q ws).qWord p i = s.qWord p i :=
  qWord_putQ_ne ({ s with hif := { s.hif with reads := s.hif.reads.filter (fun e => decide (e.2.1 ≠ .ringFetch q)) } } : State) _ _ _ h

theorem sqHead_takeCmd (s : State) (q : Nat) (ws : List Word) : (s.takeCmd q ws).sqHead q = (s.sqHead q + 1) % 65536 :=
  (getBits_putQ_same ({ s with hif := { s.hif with reads := s.hif.reads.filter (fun e => decide (e.2.1 ≠ .ringFetch q)) } } : State)
    q 3 32 _ (by decide)).trans (Nat.mod_mod _ _)

theorem qCtx_takeCmd (s : State) (q : Nat) (ws : List Word) : (s.takeCmd q ws).qCtx q = s.qCtx q := by
  rw [State.qCtx, qWord_takeCmd_ne _ _ (by omega), State.qCtx]

theorem touch_contexts (o : Obj) (line : Nat) : (o.touch line).contexts = o.contexts := by
  rw [Obj.touch]
  split <;> rfl

theorem ctxWord_takeCmd (s : State) (q : Nat) (ws : List Word) (c w : Nat) : (s.takeCmd q ws).ctxWord c w = s.ctxWord c w := by
  have hcontexts : (s.takeCmd q ws).obj.contexts = s.obj.contexts := touch_contexts ..
  rw [State.ctxWord, hcontexts, State.ctxWord]

/-- The scheduler judges a tile command by its context and contract, which taking it leaves alone (R218). -/
theorem tileCode_takeCmd (s : State) (q : Nat) (ws : List Word) (c : Nat) (w1 : Word) :
    (s.takeCmd q ws).tileCode c w1 = s.tileCode c w1 := by
  simp only [State.tileCode, State.tileLimit, State.scHasContract, State.scContract, State.scCount, State.ctxSlice, ctxWord_takeCmd]
  rfl

theorem tileCmd_refused {w1 : Word} (go : State → State) (h : s.tileCode (s.qCtx q) w1 ≠ 0) :
    s.tileCmd q w1 go = s.refuseCmd q (s.tileCode (s.qCtx q) w1) := if_pos h

theorem tileCmd_takeCmd {w1 : Word} (go : State → State) (h : s.tileCode (s.qCtx q) w1 = 0) :
    (s.takeCmd q ws).tileCmd q w1 go = go (s.takeCmd q ws) :=
  tileCmd_accepted go (by rw [qCtx_takeCmd, tileCode_takeCmd, h])

theorem tileCmd_takeCmd_refused {w1 : Word} (go : State → State) (h : s.tileCode (s.qCtx q) w1 ≠ 0) :
    (s.takeCmd q ws).tileCmd q w1 go = (s.takeCmd q ws).refuseCmd q (s.tileCode (s.qCtx q) w1) := by
  have hcode : (s.takeCmd q ws).tileCode ((s.takeCmd q ws).qCtx q) w1 = s.tileCode (s.qCtx q) w1 := by
    rw [qCtx_takeCmd, tileCode_takeCmd]
  rw [tileCmd_refused go (by rw [hcode]; exact h), hcode]

/-! ## Refusals (R283, R297) -/

section
variable {bad : Nat}

theorem cmdRefusal_invalid (h : cmdInvalid ws = true) : s.cmdRefusal q ws bad = 0x0201 := if_pos h

theorem cmdRefusal_fence (h : cmdInvalid ws = false) (hf : ∃ f ∈ cmdFences ws, s.fenceOfSlice q f = false) :
    s.cmdRefusal q ws bad = 0x0204 := by
  rw [State.cmdRefusal, if_neg (by simp [h]), if_pos (by simpa using hf)]

/-- A command that names only fences of its slice is judged by its pins, and in phases 0 to 2 by R297's table. -/
theorem cmdRefusal_ownFences (h : cmdInvalid ws = false) (hf : ∀ f ∈ cmdFences ws, s.fenceOfSlice q f = true) :
    s.cmdRefusal q ws bad =
      if bad = 1 then 0x0208
      else if s.strict = false then 0
      else if getBits 17 5 (cmdW0 ws) ≠ s.qCtx q ∨ getBits 31 18 (cmdW0 ws) ≠ q then 0x0202
      else if (cmdFences ws).any (fun f => !s.fenceOfProcess q f) then 0x0204
      else if bad = 2 then 0x0208
      else if (cmdDvas ws).any (fun d => !s.inObject q d) then 0x020A
      else 0 := by
  rw [State.cmdRefusal, if_neg (by simp [h]), if_neg (by simpa using hf)]

theorem strict_eq_false (h : s.fld .OBJ_PHASE_PHASE = 3) : s.strict = false := by simp [State.strict, h]

theorem strict_eq_true (h : s.fld .OBJ_PHASE_PHASE ≠ 3) : s.strict = true := by simp [State.strict, h]

end

/-! ## Addresses beyond 48 bits (R97) -/

theorem inRange_of_none (go : State → State) (h : beyondDva ws = none) : s.inRange q ws go = go s := by
  simp only [State.inRange, h]

theorem inRange_of_some {d : Word} (go : State → State) (h : beyondDva ws = some d) : s.inRange q ws go =
    { (s.submitFault q 0x070C d).2 with xlt := { (s.submitFault q 0x070C d).2.xlt with
      faults := (s.submitFault q 0x070C d).2.xlt.faults ++
        [⟨(s.submitFault q 0x070C d).2.qCtx q, (s.submitFault q 0x070C d).1, 0x070C, none, q⟩] } } := by
  simp only [State.inRange, h]

/-! ## Waiting for a fence (R287) -/

section
variable {f : Nat} {rc : RunCmd}

theorem finishWait_signalled (hrun : (s.queueRun q).running = some rc) (h : s.fState f = 1) :
    s.finishWait q f = s.completeCmd q 0 0 := by
  simp only [State.finishWait, hrun, h, if_true]

theorem fState_lt (s : State) (f : Nat) : s.fState f < 4 := getBits_lt 61 60 _

end

/-! ## Pins of an OBJ_REF (R289, R297) -/

section
variable {o : Nat} {x : Word}

theorem getBits_putM_same (s : State) (o w lo v : Nat) {hi : Nat} (h : hi < 64) :
    getBits hi lo ((s.putM o w hi lo v).mWord o w) = v % 2 ^ (hi + 1 - lo) := by
  have hmemobjs : ∀ (b : Obj) (line : Nat), (b.touch line).memobjs = b.memobjs := fun b line => by
    rw [Obj.touch]
    split <;> rfl
  rw [State.mWord, State.putM, State.setMWord, hmemobjs, mapGet_mapSet_same, getBits_setBits_same _ _ _ _ h]

/-- An object of another process is pinned all the same, and phases 0 to 2 remember it against the next command. -/
theorem pinEntry_pins (hen : bitOf 63 x = true) (hlive : s.mLife (getBits 17 0 x) = .live) (hst : s.mState (getBits 17 0 x) ≠ 0)
    (hsl : s.mSlice (getBits 17 0 x) = s.qSlice q) : ∃ bad, s.pinEntry q x =
      ((s.setQueueRun q { s.queueRun q with pinBad := bad }).putM (getBits 17 0 x) 3 31 0 (s.mPin (getBits 17 0 x) + 1)).modQueueRun q
        (fun r => { r with pins := r.pins ++ [getBits 17 0 x] }) ∨ s.pinEntry q x =
      (s.putM (getBits 17 0 x) 3 31 0 (s.mPin (getBits 17 0 x) + 1)).modQueueRun q
        (fun r => { r with pins := r.pins ++ [getBits 17 0 x] }) := by
  rw [State.pinEntry, if_neg (by simp [hen])]
  dsimp only
  rw [if_neg (by simp [hlive, hst, hsl])]
  split
  · exact ⟨_, .inl rfl⟩
  · exact ⟨0, .inr rfl⟩

theorem pinEntry_spoils (hen : bitOf 63 x = true) (h : s.mLife (getBits 17 0 x) ≠ .live ∨ s.mSlice (getBits 17 0 x) ≠ s.qSlice q) :
    s.pinEntry q x = s.modQueueRun q (fun r => { r with pinBad := 1 }) := by
  rw [State.pinEntry, if_neg (by simp [hen])]
  exact if_pos (h.imp_right .inr)

end

/-! ## Completion records (R41, R285) -/

section
variable {rc : RunCmd} {code : Nat}

theorem postCompletion_mapped (h : cfgPasidOk s.regs (s.ctxPasid (s.qCtx q)) (s.qSlice q) = true) :
    (s.postCompletion q rc code).hif.posts = s.hif.posts ++ [⟨s.hif.nextPost,
      .completion q (s.qIrqEn q && (cmdIrq rc.words || decide (code ≠ 0))), cplRecord s q rc code⟩] := by
  rw [State.postCompletion, if_neg (by simp [h])]
  rfl

theorem qState_err (s : State) (code slice : Nat) (detail : Word) (q : Nat) : (s.err code slice detail).qState q = s.qState q := by
  rw [State.qState, qWord_err, State.qState]

theorem postCompletion_unmapped (h : cfgPasidOk s.regs (s.ctxPasid (s.qCtx q)) (s.qSlice q) = false) (hlive : s.qState q = 2) :
    s.postCompletion q rc code = (s.err 0x0603 (s.qSlice q) (word q)).faultQueue q 0x0603 := by
  rw [State.postCompletion, if_pos h]
  exact if_pos ((qState_err ..).trans hlive)

/-- Each field of a completion record reads back what was put there. -/
theorem cplRecord_fields (s : State) (hq : q < 16384) (hc : code < 65536) (hi : rc.index < 65536) :
    getBits 47 0 ((cplRecord s q rc code).getD 2 0) = rc.energy / 1000000 % 2 ^ 32 ∧
    getBits 62 61 ((cplRecord s q rc code).getD 0 0) = (if code = 0 then 0 else 1) ∧
    getBits 47 32 ((cplRecord s q rc code).getD 0 0) = code ∧ getBits 29 16 ((cplRecord s q rc code).getD 0 0) = q ∧
    getBits 15 0 ((cplRecord s q rc code).getD 0 0) = rc.index ∧ (cplRecord s q rc code).getD 3 0 = word s.clock.gtb := by
  have hstatus : bit01 (decide (code ≠ 0)) = if code = 0 then 0 else 1 := by
    by_cases h0 : code = 0 <;> simp [bit01, h0]
  simp only [cplRecord, List.getD_cons_zero, List.getD_cons_succ, hstatus]
  refine ⟨?_, ?_, ?_, ?_, ?_, trivial⟩
  · rw [getBits_word _ (by decide), Nat.pow_zero, Nat.div_one]
    exact Nat.mod_eq_of_lt (by omega)
  · rw [getBits_setBits_other _ _ _ _ _ _ (by decide), getBits_setBits_same _ _ _ _ (by decide)]
    split <;> rfl
  · rw [getBits_setBits_other _ _ _ _ _ _ (by decide), getBits_setBits_other _ _ _ _ _ _ (by decide),
      getBits_setBits_same _ _ _ _ (by decide)]
    exact Nat.mod_eq_of_lt hc
  · rw [getBits_setBits_other _ _ _ _ _ _ (by decide), getBits_setBits_other _ _ _ _ _ _ (by decide),
      getBits_setBits_other _ _ _ _ _ _ (by decide), getBits_setBits_same _ _ _ _ (by decide)]
    exact Nat.mod_eq_of_lt hq
  · rw [getBits_setBits_other _ _ _ _ _ _ (by decide), getBits_setBits_other _ _ _ _ _ _ (by decide),
      getBits_setBits_other _ _ _ _ _ _ (by decide), getBits_setBits_other _ _ _ _ _ _ (by decide),
      getBits_setBits_same _ _ _ _ (by decide)]
    exact Nat.mod_eq_of_lt hi

end

/-! ## What commands without tiles change -/

/-- `t` is `s` but for registers, records, the host interface, translation, the Crier, messages and the values drawn. -/
def CmdFrame (s t : State) : Prop := t = { s with
  regs := t.regs, obj := t.obj, hif := t.hif, xlt := t.xlt, crier := t.crier, out := t.out, fresh := t.fresh }

namespace CmdFrame

variable {f code : Nat}

theorem refl (s : State) : CmdFrame s s := rfl

theorem trans (h : CmdFrame s t) (k : CmdFrame t u) : CmdFrame s u := by
  unfold CmdFrame at *
  rw [k, h]

theorem ite {c : Prop} [Decidable c] {a b : State} (ha : CmdFrame s a) (hb : CmdFrame s b) : CmdFrame s (if c then a else b) := by
  split
  · exact ha
  · exact hb

theorem forEach {α : Type} {g : α → State → State} (h : ∀ a v, CmdFrame v (g a v)) (l : List α) (s : State) :
    CmdFrame s (Sys2Proof.Machine.forEach l s g) := by
  induction l generalizing s with
  | nil => exact refl s
  | cons a l ih => exact (h a s).trans (ih _)

theorem of_hostFrame (h : HostFrame s t) : CmdFrame s t := by
  unfold HostFrame at h
  unfold CmdFrame
  rw [h]

theorem err (s : State) (code slice : Nat) (detail : Word) : CmdFrame s (s.err code slice detail) := of_hostFrame (hostFrame_err ..)

theorem objErr (s : State) (code slice q c : Nat) : CmdFrame s (s.objErr code slice q c) :=
  CmdFrame.trans (t := s.wr .OBJ_LAST_ERR 0 _) rfl (err ..)

theorem modQueueRun (s : State) (q : Nat) (g : QueueRun → QueueRun) : CmdFrame s (s.modQueueRun q g) := rfl

theorem setXlt (s : State) (x : Xlt) : CmdFrame s { s with xlt := x } := rfl

theorem unpin (s : State) (o : Nat) : CmdFrame s (s.unpin o) := rfl

theorem faultQueue (s : State) (q code : Nat) : CmdFrame s (s.faultQueue q code) := of_hostFrame (hostFrame_faultQueue ..)

theorem unmapped (s : State) (q : Nat) : CmdFrame s ((s.err 0x0603 (s.qSlice q) (word q)).faultQueue q 0x0603) :=
  (err ..).trans (faultQueue ..)

theorem stopQueue (s : State) (q code : Nat) : CmdFrame s (s.stopQueue q code) :=
  CmdFrame.trans (t := (s.setQState q 3).putQ q 4 63 48 code) rfl (of_hostFrame (hostFrame_of_onlyNotices (onlyNotices_notice ..)))

theorem queueGone (s : State) (q : Nat) (alone : Bool) : CmdFrame s (s.queueGone q alone) :=
  CmdFrame.trans (t := ({ s with hif := { s.hif with queues := mapErase s.hif.queues q } } : State).freeQueue q) rfl
    (ite (of_hostFrame (hostFrame_of_onlyNotices (onlyNotices_notice ..))) (refl _))

/-! ### Fences (R286, R287) -/

theorem touchFence (s : State) (f : Nat) : CmdFrame s (s.touchFence f) := by
  rw [State.touchFence]
  dsimp only
  split <;> rfl

theorem signalFence (s : State) (f code : Nat) : CmdFrame s (s.signalFence f code) :=
  ite ((touchFence s f).trans (ite rfl (objErr ..))) (refl s)

theorem endFence (s : State) (q : Nat) (ws : List Word) (code recCode : Nat) : CmdFrame s (s.endFence q ws code recCode) :=
  ite (ite (ite (signalFence ..) ((signalFence ..).trans rfl)) (refl s)) (ite (signalFence ..) (ite rfl (refl s)))

/-! ### Completions and refusals (R283–R286) -/

theorem postCompletion (s : State) (q : Nat) (rc : RunCmd) (code : Nat) : CmdFrame s (s.postCompletion q rc code) :=
  ite ((err ..).trans (ite (faultQueue ..) (refl _))) rfl

theorem completeCmd (s : State) (q recCode fenceCode : Nat) : CmdFrame s (s.completeCmd q recCode fenceCode) := by
  rw [State.completeCmd]
  split
  · exact refl s
  · next rc _ =>
    have hunpin : ∀ v : State, CmdFrame v (Sys2Proof.Machine.forEach rc.pins v (fun o s => s.unpin o)) :=
      forEach (fun o v => unpin v o) rc.pins
    have hends : CmdFrame s (Sys2Proof.Machine.forEach rc.pins
        (if cmdOpcode rc.words = 9 then s.endFence q rc.words fenceCode recCode
          else (s.endFence q rc.words fenceCode recCode).postCompletion q rc recCode) (fun o s => s.unpin o)) :=
      CmdFrame.trans (ite (endFence ..) ((endFence ..).trans (postCompletion ..))) (hunpin _)
    have hgoes : ∀ v : State, ∀ stopping : Bool, CmdFrame v
        (if v.qState q = 5 then (if v.ctxState (v.qCtx q) = 4 then v else v.queueGone q true)
          else if stopping ∧ v.qState q = 2 then v.stopQueue q 0 else v.pumpQueue q) := fun v stopping =>
      ite (ite (refl v) (queueGone ..)) (ite (stopQueue ..) (of_hostFrame (hostFrame_pumpQueue ..)))
    exact ((hends.trans (modQueueRun ..)).trans (setXlt ..)).trans (hgoes _ _)

theorem refuseCmd (s : State) (q code : Nat) : CmdFrame s (s.refuseCmd q code) := by
  rw [State.refuseCmd]
  split
  · exact refl s
  · exact (CmdFrame.trans (modQueueRun s q _) (ite (objErr ..) (ite (err ..) (refl _)))).trans (completeCmd ..)

/-! ### Faults of a submission (R129, R131) -/

theorem faultStep (s : State) : CmdFrame s s.faultStep := by
  unfold State.faultStep
  split
  · exact refl s
  · dsimp only
    split
    · exact refl s
    · split
      · exact refl s
      · rfl

theorem pumpFaults (s : State) : CmdFrame s s.pumpFaults :=
  iterate_rel CmdFrame refl (fun _ _ _ => trans) faultStep _ s

theorem postFault (s : State) (i : FaultInfo) : CmdFrame s (s.postFault i).2 := by
  rw [State.postFault]
  exact (((setXlt s _).trans (setXlt _ _)).trans (ite (err ..) (refl _))).trans (pumpFaults _)

theorem submitFault (s : State) (q code : Nat) (p : Word) : CmdFrame s (s.submitFault q code p).2 :=
  CmdFrame.trans (t := { s with fresh := s.fresh + 1 }) rfl (postFault ..)

/-! ### The commands -/

theorem takeCmd (s : State) (q : Nat) (ws : List Word) : CmdFrame s (s.takeCmd q ws) := rfl

theorem startCmd {run : List Word → State → State} (h : ∀ ws v, CmdFrame v (run ws v)) (s : State) (q : Nat) (w : CmdWords) :
    CmdFrame s (s.startCmd q w run) := by
  refine ite (refl s) (ite (unmapped s q) ?_)
  dsimp only
  split
  · exact ((takeCmd ..).trans (submitFault ..)).trans (refuseCmd ..)
  · exact CmdFrame.trans (takeCmd ..) (ite (refuseCmd ..) (h _ _))

theorem finishWait (s : State) (q f : Nat) : CmdFrame s (s.finishWait q f) := by
  rw [State.finishWait]
  split
  · exact refl s
  · exact ite (completeCmd ..) (CmdFrame.trans (ite (stopQueue ..) (refl s)) (completeCmd ..))

theorem waitFence (s : State) (q f : Nat) : CmdFrame s (s.waitFence q f) := ite (finishWait ..) rfl

theorem resetFence (s : State) (f : Nat) : CmdFrame s (s.resetFence f) :=
  CmdFrame.trans (ite (refl s) (forEach (fun q v => finishWait v q f) _ s)) rfl

theorem pinEntry (s : State) (q : Nat) (x : Word) : CmdFrame s (s.pinEntry q x) :=
  ite (refl s) (ite (modQueueRun ..)
    (CmdFrame.trans (ite (modQueueRun ..) (refl s)) (CmdFrame.trans (t := State.putM _ _ 3 31 0 _) rfl (modQueueRun ..))))

/-- A command keeps the frame of its effect, but for the lines. -/
theorem of_onUnit {ok : Bool} (h : onUnit s ok u = .next t) (hf : CmdFrame s u) : t = { s with
    regs := t.regs, obj := t.obj, hif := t.hif, xlt := t.xlt, crier := t.crier, out := t.out, fresh := t.fresh, pins := t.pins } := by
  obtain ⟨-, v, p, hv, rfl⟩ := left_of_onUnit h
  have hframe : CmdFrame s v := hv.elim (fun e => e ▸ hf) (fun e => e ▸ refl s)
  rw [hframe]

end CmdFrame

theorem cmdInvalid_unassigned (h : 9 < cmdOpcode w) : cmdInvalid w = true := by
  simp [cmdInvalid, h]

theorem leaves_unchanged {i : Instr} {ok : Bool} (h : exec i s = onUnit s ok u) (hu : u = s) (hok : ok = true) : Leaves i s s :=
  leaves_nothing (h.trans (congrArg (onUnit s ok) hu)) hok

/-- A fence that has no outcome yet wakes nobody (R287). -/
theorem leaves_fenceWaitWake_waits {f : Nat} (hq : queueOk q = true) (h : (s.queueRun q).running.bind (·.waitFence) = some f)
    (hf : s.fState f = 0) : Leaves (.fenceWaitWake q) s s := by
  refine leaves_unchanged (i := .fenceWaitWake q) rfl ?_ hq
  simp only [h]
  exact if_neg (not_not.mpr hf)

theorem touch_fences (o : Obj) (line : Nat) : (o.touch line).fences = o.fences := by
  rw [Obj.touch]
  split <;> rfl

/-- Stopping a queue leaves the fences alone (R286). -/
theorem fCode_stopQueue (s : State) (q code f : Nat) : (s.stopQueue q code).fCode f = s.fCode f := by
  have hfences : (s.stopQueue q code).obj.fences = s.obj.fences :=
    (congrArg (fun v => v.obj.fences) (onlyNotices_notice ..) :).trans ((touch_fences ..).trans (touch_fences ..))
  rw [State.fCode, State.fWord, hfences]
  rfl

theorem finishWait_failed {f : Nat} {rc : RunCmd} (hrun : (s.queueRun q).running = some rc) (h : 2 ≤ s.fState f) :
    s.finishWait q f = (if bitOf 16 (rc.words.getD 1 0) = true ∧ s.qState q = 2 then s.stopQueue q 0x0207 else s).completeCmd q 0x0207
      (s.fCode f) := by
  have hfailed : s.fState f ≠ 1 := by omega
  have hcode : (if bitOf 16 (rc.words.getD 1 0) = true ∧ s.qState q = 2 then s.stopQueue q 0x0207 else s).fCode f = s.fCode f := by
    split
    · exact fCode_stopQueue ..
    · rfl
  simp only [State.finishWait, hrun, hfailed, if_false, hcode]

theorem waitFence_waits {f : Nat} {rc : RunCmd} (hrun : (s.queueRun q).running = some rc) (h : s.fState f = 0) :
    ((s.waitFence q f).queueRun q).running = some { rc with waitFence := some f } := by
  rw [State.waitFence, if_neg (not_not.mpr h), State.modQueueRun, queueRun_setQueueRun, hrun]
  rfl

/-- Settles O47: `startCmd` by its branches, each command by its effect on the command that was taken, the frame by `CmdFrame`. -/
theorem ringCommandsRunOrAreRefused : Obligations.RingCommandsRunOrAreRefused := by
  refine ⟨fun q w c s hq hw hc => ?_, fun q w s hq hw hop hf hm => ?_, fun q w ws s hs hr => ?_,
    fun q f rc s ha hq hrun hwait => ?_, fun s q f rc hrun hf => waitFence_waits hrun hf,
    fun s q ws => ⟨sqHead_takeCmd s q ws, ⟨_, congrArg QueueRun.running (queueRun_takeCmd s q ws), rfl, rfl, rfl⟩,
      congrArg QueueRun.pins (queueRun_takeCmd s q ws),
      fun p hp => ⟨queueRun_takeCmd_ne s ws hp, fun i hi => qWord_takeCmd_ne s ws (by omega)⟩⟩,
    fun s q ws bad => ⟨cmdRefusal_invalid, fun hv => ⟨cmdRefusal_fence hv, fun hf => ?_⟩⟩,
    fun s q ws => ⟨fun h => ⟨inRange_of_none _ h, inRange_of_none _ h⟩, fun d h => ⟨inRange_of_some _ h, inRange_of_some _ h⟩⟩,
    fun s q x hen hlive hst hsl hpin => ?_, fun s q x hen h => ?_,
    fun s q code rc hq hcode hi => ⟨postCompletion_mapped, postCompletion_unmapped, cplRecord_fields s hq hcode hi⟩,
    fun q w s t c hc ht => ?_⟩
  · obtain ⟨hop, run, hexec⟩ := exec_ringCommand hc
    have hok := cmdOk_opcode hq hw
    have hleaves : ∀ {u}, s.fetchOk q w = true → s.startCmd q w run = u → Leaves c s u := fun hf h =>
      leaves_effect (hexec s) hok (alive_of_fetchOk hf) h
    exact ⟨fun hf => leaves_unchanged (hexec s) (startCmd_notFetched hf) hok,
      fun hf hm => hleaves hf (startCmd_unmapped hf hm), fun p hf hm hp => hleaves hf (startCmd_unconverted hf hm hop hp),
      fun ws hs hr => hleaves hs.1 (startCmd_refused hs hop hr)⟩
  · have hrefused : s.cmdRefusal q w (s.queueRun q).pinBad = 0x0201 := cmdRefusal_invalid (cmdInvalid_unassigned hop)
    have hleaves := leaves_commandInvalid (alive_of_fetchOk hf) hq hw hop hf hm (by rw [hrefused]; decide)
    rwa [hrefused] at hleaves
  · have ha := alive_of_fetchOk hs.1
    exact ⟨fun hok => leaves_startCmd ha hs hr (by decide) hok rfl rfl,
      fun h => ⟨fun hok => leaves_startCmd ha hs hr (by decide) hok rfl (tileCmd_takeCmd _ h),
        fun hok => leaves_startCmd ha hs hr (by decide) hok rfl (tileCmd_takeCmd _ h),
        fun hok => leaves_startCmd ha hs hr (by decide) hok rfl (tileCmd_takeCmd _ h)⟩,
      fun h => ⟨fun hok => leaves_startCmd ha hs hr (by decide) hok rfl (tileCmd_takeCmd_refused _ h),
        fun hok => leaves_startCmd ha hs hr (by decide) hok rfl (tileCmd_takeCmd_refused _ h),
        fun hok => leaves_startCmd ha hs hr (by decide) hok rfl (tileCmd_takeCmd_refused _ h)⟩,
      fun hok => leaves_startCmd ha hs hr (by decide) hok rfl rfl, fun hok => leaves_startCmd ha hs hr (by decide) hok rfl rfl,
      fun hok => leaves_startCmd ha hs hr (by decide) hok rfl rfl, fun hok => leaves_startCmd ha hs hr (by decide) hok rfl rfl⟩
  · have hwaits : (s.queueRun q).running.bind (·.waitFence) = some f := by rw [hrun, Option.bind_some, hwait]
    refine ⟨leaves_fenceWaitWake_waits hq hwaits, fun h => ?_, fun h => ?_⟩
    · exact finishWait_signalled hrun h ▸ leaves_fenceWaitWake ha hq hwaits (by omega)
    · exact finishWait_failed hrun h ▸ leaves_fenceWaitWake ha hq hwaits (by omega)
  · rw [cmdRefusal_ownFences hv hf]
    refine ⟨fun h => if_pos h, fun h hphase => ?_, fun h hphase hforged => ?_⟩
    · rw [if_neg h, if_pos (strict_eq_false hphase)]
    · rw [if_neg h, if_neg (by simp [strict_eq_true hphase]), if_pos hforged]
  · have hcount : ∀ v : State, getBits 31 0 ((v.putM (getBits 17 0 x) 3 31 0 (s.mPin (getBits 17 0 x) + 1)).mWord (getBits 17 0 x) 3) =
        s.mPin (getBits 17 0 x) + 1 := fun v => (getBits_putM_same v _ 3 0 _ (by decide)).trans (Nat.mod_eq_of_lt hpin)
    obtain ⟨bad, h | h⟩ := pinEntry_pins hen hlive hst hsl <;> rw [h]
    · refine ⟨hcount (s.setQueueRun q _), (congrArg QueueRun.pins (queueRun_setQueueRun ..)).trans ?_⟩
      exact congrArg (· ++ [getBits 17 0 x]) (congrArg QueueRun.pins (queueRun_setQueueRun s q { s.queueRun q with pinBad := bad }) :)
    · exact ⟨hcount s, congrArg QueueRun.pins (queueRun_setQueueRun ..)⟩
  · rw [pinEntry_spoils hen h]
    exact ⟨congrArg QueueRun.pinBad (queueRun_setQueueRun ..), rfl⟩
  · simp only [List.mem_cons, List.not_mem_nil, or_false] at hc
    obtain rfl | rfl | rfl | rfl | rfl | rfl | rfl := hc
    · exact CmdFrame.of_onUnit (ok := cmdOk 0 q w) ht (CmdFrame.startCmd (fun _ v => CmdFrame.completeCmd v q 0 0) s q w)
    · exact CmdFrame.of_onUnit (ok := cmdOk 6 q w) ht (CmdFrame.startCmd
        (fun _ v => (CmdFrame.signalFence v _ _).trans (CmdFrame.completeCmd _ q 0 0)) s q w)
    · exact CmdFrame.of_onUnit (ok := cmdOk 7 q w) ht (CmdFrame.startCmd (fun _ v => CmdFrame.waitFence v q _) s q w)
    · refine CmdFrame.of_onUnit (ok := queueOk q) ht ?_
      split
      · exact CmdFrame.ite (CmdFrame.finishWait ..) (CmdFrame.refl s)
      · exact CmdFrame.refl s
    · exact CmdFrame.of_onUnit (ok := cmdOk 8 q w) ht (CmdFrame.startCmd
        (fun _ v => (CmdFrame.resetFence v _).trans (CmdFrame.completeCmd _ q 0 0)) s q w)
    · exact CmdFrame.of_onUnit (ok := cmdOk 9 q w) ht (CmdFrame.startCmd
        (fun _ v => (CmdFrame.forEach (fun x u => CmdFrame.pinEntry u q x) _ v).trans (CmdFrame.completeCmd _ q 0 0)) s q w)
    · exact CmdFrame.of_onUnit (ok := queueOk q && w.length == 8 && decide (9 < cmdOpcode w)) ht
        (CmdFrame.startCmd (fun _ v => CmdFrame.completeCmd v q 0 0) s q w)

end Sys2Proof.Scope

namespace Sys2Proof.Scope

open Sys2Proof Sys2Proof.Machine Sys2Proof.Laws

/-! ## What telling the outcome of a set changes (R82, R307, R354) -/

variable {s t u : State} {i : Nat}

/-- `t` is `s` but for registers, records, messages of TEN and of the fabric manager, and the Well: what telling a set's outcome
changes. -/
def OnlyTold (s t : State) : Prop :=
  t = { s with regs := t.regs, crier := t.crier, ten := t.ten, out := t.out, well := t.well }

theorem OnlyTold.refl (s : State) : OnlyTold s s := rfl

theorem OnlyTold.trans (h : OnlyTold s t) (k : OnlyTold t u) : OnlyTold s u := by
  unfold OnlyTold at *
  rw [k, h]

theorem OnlyTold.moot (h : OnlyTold s t) : t.moot = s.moot := (congrArg State.moot h :)

theorem slot_of_moot (h : t.moot = s.moot) (j : Nat) : t.slot j = s.slot j :=
  congrArg (fun m => m.slots.getD j CsSlot.init) h

/-- The interrupt lines and the queue are no part of a set. -/
theorem slot_drivePins (u : State) (q : List Instr) (j : Nat) : ({ u.drivePins with pending := q } : State).slot j = u.slot j :=
  slot_of_moot (congrArg State.moot (leftBy_drivePins u q) :) j

theorem OnlyTold.slot (h : OnlyTold s t) (j : Nat) : t.slot j = s.slot j := slot_of_moot h.moot j

/-- A slot may be changed before the telling as well as after it. -/
theorem OnlyTold.modSlot (h : OnlyTold s t) (i : Nat) (f : CsSlot → CsSlot) : OnlyTold (s.modSlot i f) (t.modSlot i f) := by
  unfold OnlyTold at *
  rw [h]
  rfl

theorem onlyTold_of_onlyEvents (h : OnlyEvents s t) : OnlyTold s t := by
  unfold OnlyTold OnlyEvents at *
  rw [h]

theorem onlyTold_fmResult (s : State) (x : CsSlot) (status code t : Nat) : OnlyTold s (s.fmResult x status code t) := by
  unfold State.fmResult
  split <;> rfl

theorem onlyTold_sendM2t (s : State) (sl : Nat) (ws : List Word) : OnlyTold s (s.sendM2t sl ws) := by
  unfold OnlyTold
  rw [(MbxFrame.sendM2t s ws).only]

theorem onlyTold_resizeNotices (l : List Nat) (s : State) (phase ticket t : Nat) :
    OnlyTold s (forEach l s (fun sl s => s.resizeNotice sl phase ticket t)) :=
  forEach_rel OnlyTold OnlyTold.refl (fun _ _ _ => OnlyTold.trans) _ (fun sl v => onlyTold_sendM2t v sl _) l s

/-- The notice of a set's outcome to the host, and to the fabric manager for its own sets. -/
theorem onlyTold_outcome (s : State) (x : CsSlot) (status code t : Nat) :
    OnlyTold s ((s.setCause 0x03 0).fmResult x status code t) :=
  (onlyTold_of_onlyEvents (onlyEvents_setCause ..)).trans (onlyTold_fmResult ..)

/-! ## Slots changed by index and all at once -/

theorem slot_modSlot_eq_getD (s : State) (i : Nat) (f : CsSlot → CsSlot) :
    (s.modSlot i f).slot i = (s.moot.slots[i]?.map f).getD CsSlot.init := by
  simp [State.slot, State.modSlot, List.getD_eq_getElem?_getD, getElem?_modifyAt]

/-- A slot that is reset is free, also where there is none of that number. -/
theorem slot_modSlot_init (s : State) (i : Nat) : (s.modSlot i (fun _ => CsSlot.init)).slot i = CsSlot.init := by
  rw [slot_modSlot_eq_getD]
  cases s.moot.slots[i]? <;> rfl

/-- Only WAITING sets are checked again (R78). -/
theorem slot_recheckWaiting (ticket : Nat) (h : (s.slot i).state ≠ .waiting) : (s.recheckWaiting ticket).slot i = s.slot i := by
  simp only [State.slot, State.recheckWaiting, State.modSlots, List.getD_eq_getElem?_getD, List.getElem?_map] at h ⊢
  cases hx : s.moot.slots[i]? with
  | none => rfl
  | some x =>
    rw [hx] at h
    exact if_neg fun hw => h hw.1

theorem pumpRecords_none (h : s.spr.records = []) : s.pumpRecords = s := by
  rw [State.pumpRecords, h]

/-! ## Refusing a set (R74, R79, R82) -/

theorem onlyTold_refusal (s : State) (x : CsSlot) (code detail : Nat) :
    OnlyTold s ((((s.setCause 0x03 0).fmResult x 1 code 0).raise .log code 0 (code / 256) (word detail)).dropShadows x.ticket) :=
  (onlyTold_outcome ..).trans ((onlyTold_of_onlyEvents (onlyEvents_raise ..)).trans rfl)

/-- A refusal leaves the slot refused and tells it; the sets that waited for a held or a passed set are checked again. -/
theorem refuseSet_eq (s : State) (i code detail : Nat) (passed : Bool) :
    ∃ v, OnlyTold (s.modSlot i (CsSlot.refused code detail)) v ∧ s.refuseSet i code detail passed =
      if (s.slot i).state = .pendingScrub ∨ (s.slot i).state = .passed then v.recheckWaiting (s.slot i).ticket else v := by
  have hnotices : OnlyTold s (if passed then forEach (resizedSlices (s.chk (s.slot i)).base (s.chk (s.slot i)).cand) s
      (fun sl u => u.resizeNotice sl 3 (s.slot i).ticket (s.slot i).t) else s) := by
    split
    · exact onlyTold_resizeNotices ..
    · exact OnlyTold.refl s
  exact ⟨_, (hnotices.modSlot i _).trans (onlyTold_refusal _ (s.slot i) code detail), rfl⟩

theorem slot_refuseSet (code detail : Nat) (passed : Bool) (h : i < s.moot.slots.length) :
    (s.refuseSet i code detail passed).slot i = (s.slot i).refused code detail := by
  obtain ⟨v, hv, heq⟩ := refuseSet_eq s i code detail passed
  have hslot : v.slot i = (s.slot i).refused code detail := (hv.slot i).trans (slot_modSlot_same _ h)
  rw [heq]
  split
  · rw [slot_recheckWaiting _ (by rw [hslot]; exact SlotState.noConfusion), hslot]
  · exact hslot

/-- Nobody waits for a set under check. -/
theorem onlyTold_refuseSet_checking (code detail : Nat) (passed : Bool) (h : (s.slot i).state = .checking) :
    OnlyTold (s.modSlot i (CsSlot.refused code detail)) (s.refuseSet i code detail passed) := by
  obtain ⟨v, hv, heq⟩ := refuseSet_eq s i code detail passed
  rw [heq, h, if_neg (by decide)]
  exact hv

/-! ## Assigning T (R83–R85, R354) -/

/-- Of the sets, only the Well's failure in slot `i` differs between `s` and `t`. -/
structure OnlyWellFail (i : Nat) (s t : State) : Prop where
  own : ∃ b, t.slot i = { s.slot i with wellFail := b }
  other : ∀ j, j ≠ i → t.slot j = s.slot j

namespace OnlyWellFail

theorem of_slots (h : ∀ j, t.slot j = s.slot j) : OnlyWellFail i s t := ⟨⟨_, h i⟩, fun j _ => h j⟩

theorem trans (h : OnlyWellFail i s t) (k : OnlyWellFail i t u) : OnlyWellFail i s u where
  own := by
    obtain ⟨_, hb⟩ := h.own
    obtain ⟨c, hc⟩ := k.own
    exact ⟨c, by rw [hc, hb]⟩
  other j hj := (k.other j hj).trans (h.other j hj)

/-- The Well fails a set, where there is one. -/
theorem fail (s : State) (i : Nat) : OnlyWellFail i s (s.modSlot i (fun x => { x with wellFail := true })) where
  own := by
    rw [slot_modSlot_eq_getD, State.slot, List.getD_eq_getElem?_getD]
    cases s.moot.slots[i]? with
    | none => exact ⟨false, rfl⟩
    | some x => exact ⟨true, rfl⟩
  other _ hj := slot_modSlot_ne _ _ hj

theorem deliverKey (ticket : Nat) (e : Entry) (s : State) : OnlyWellFail i s (s.deliverKey i ticket e) := by
  unfold State.deliverKey
  split
  · dsimp only
    split
    · exact of_slots fun _ => rfl
    · exact fail s i
  · exact of_slots fun _ => rfl

end OnlyWellFail

/-- The set `x` as it passes with T `t`, the staged state on its way to the stations `src`. -/
def passedAs (t : Nat) (src domains : List Nat) (x : CsSlot) : CsSlot :=
  { x with state := .passed, t := t, asked := src, unacked := src, departing := [], wellFail := false, domains := domains }

/-- A set that passes takes its T and its sources; the delivery of its keys may still fail. -/
theorem onlyWellFail_assignT (s : State) (i : Nat) :
    OnlyWellFail i (s.modSlot i (passedAs (assignedT s (s.slot i)) s.ackSources s.power.goingOn)) (s.assignT i) := by
  have hlastT : ∀ (v : State) (p : Option Nat), OnlyWellFail i v { v with moot := { v.moot with lastT := p } } := fun _ _ =>
    .of_slots fun _ => rfl
  have hkeys : ∀ v, OnlyWellFail i v (forEach (s.slot i).entries v (fun e v => v.deliverKey i (s.slot i).ticket e)) :=
    forEach_rel (OnlyWellFail i) (fun _ => .of_slots fun _ => rfl) (fun _ _ _ => .trans) _ (fun e => .deliverKey _ e) _
  have htold : ∀ {v w : State}, OnlyTold v w → OnlyWellFail i v w := fun h => .of_slots h.slot
  unfold State.assignT
  exact ((hlastT _ _).trans (hkeys _)).trans (htold ((onlyTold_resizeNotices ..).trans (onlyTold_outcome ..)))

theorem slot_assignT (h : i < s.moot.slots.length) : ∃ b, (s.assignT i).slot i =
    { passedAs (assignedT s (s.slot i)) s.ackSources s.power.goingOn (s.slot i) with wellFail := b } := by
  obtain ⟨b, hb⟩ := (onlyWellFail_assignT s i).own
  exact ⟨b, by rw [hb, slot_modSlot_same _ h]⟩

theorem slot_assignT_ne {j : Nat} (h : j ≠ i) : (s.assignT i).slot j = s.slot j :=
  ((onlyWellFail_assignT s i).other j h).trans (slot_modSlot_ne s _ h)

/-- Sets released from PENDING_SCRUB pass; a refused one is none of them. -/
theorem slot_releaseHeld (h : (s.slot i).state = .refused) : s.releaseHeld.slot i = s.slot i := by
  refine forEach_rel (fun v w : State => (v.slot i).state = .refused → w.slot i = v.slot i) (fun _ _ => rfl)
    (fun _ _ _ h k hr => (k (by rw [h hr]; exact hr)).trans (h hr)) _ (fun j v hr => ?_) (List.range 4) s h
  split
  · next hheld =>
    refine slot_assignT_ne fun he => ?_
    rw [he, hheld.1] at hr
    cases hr
  · rfl

end Sys2Proof.Scope

namespace Sys2Proof.Scope

open Sys2Proof Sys2Proof.Machine Sys2Proof.Laws

/-! ## ABANDON and the read of STG_CS_REFUSE (R74) -/

variable {s : State} {i ticket seq : Nat}

/-- Slot `i` is free and no path selects it. -/
def freed (s : State) (i : Nat) : State :=
  (({ s with moot := { s.moot with fmSeq := mapErase s.moot.fmSeq (s.slot i).ticket } } : State).modSlot i
    (fun _ => CsSlot.init)).unselect i

theorem freeSlot_eq (h : s.spr.records = []) : s.freeSlot i = freed s i := pumpRecords_none (s := freed s i) h

theorem slots_freed (s : State) (i : Nat) :
    (freed s i).slot i = CsSlot.init ∧ (∀ j, j ≠ i → (freed s i).slot j = s.slot j) ∧
      (freed s i).moot.selHost ≠ some i ∧ (freed s i).moot.selSteward ≠ some i := by
  have hdeselected : ∀ o : Option Nat, (if o = some i then none else o) ≠ some i := by
    intro o
    split
    · nofun
    · assumption
  exact ⟨slot_modSlot_init _ i, fun j hj => slot_modSlot_ne _ _ hj, hdeselected _, hdeselected _⟩

/-- A set that no check holds and that has not passed is given up at once. -/
theorem abandonSet_frees (h : (s.slot i).state = .opened ∨ (s.slot i).state = .waiting ∨
    ((s.slot i).state = .checking ∧ (s.slot i).begun = false)) : s.abandonSet i = s.freeSlot i := by
  unfold State.abandonSet
  obtain h | h | ⟨h, hb⟩ := h
  · simp only [h]
  · simp only [h]
  · simp only [h, hb, Bool.false_eq_true, if_false]

theorem leaves_csAbandon_host (hr : s.isReady = true) (ht : u32Ok ticket = true) (hseq : seq < 65536)
    (h : s.ownSet .host ticket = some i) : Leaves (.csAbandon .host ticket seq) s (s.abandonSet i) :=
  leaves_effect rfl (and_ok ht (decide_eq_true hseq)) (isReady_alive hr) (by rw [csGated_ready hr .host, h])

theorem leaves_csRefuseRead {path : Path} {slot : Nat} (ha : s.alive = true) (hp : pathOk path = true) (hslot : slot < 4) :
    Leaves (.csRefuseRead path slot) s (s.refuseRead path slot) :=
  leaves_effect rfl (and_ok hp (decide_eq_true hslot)) ha (if_pos ha)

/-- Settles O21: ABANDON by the state of the set, the read of STG_CS_REFUSE by its two branches. -/
theorem abandonAndRefuseReadFreeTheSlot : Obligations.AbandonAndRefuseReadFreeTheSlot := by
  refine ⟨fun ticket seq i s hr ht hseq hrec h hst => ?_, fun ticket seq i s hr ht hseq h hst hb => ?_,
    fun ticket seq i s hr ht hseq h hst => ?_, fun path slot s ha hp hslot hrec hst hw => ?_, fun path slot s ha hp hslot hw => ?_⟩
  · obtain ⟨hfree, hothers, hhost, hsteward⟩ := slots_freed s i
    have hleaves := leaves_csAbandon_host hr ht hseq h
    rw [abandonSet_frees hst, freeSlot_eq hrec] at hleaves
    exact Leaves.answers hleaves ⟨(slot_drivePins ..).trans hfree,
      fun j hj => (slot_drivePins ..).trans (hothers j hj), hhost, hsteward, rfl⟩
  · have habandon : s.abandonSet i = s.modSlot i (fun x => { x with abandon := true }) := by
      simp only [State.abandonSet, hst, hb, if_true]
    exact habandon ▸ leaves_csAbandon_host hr ht hseq h
  · have habandon : s.abandonSet i = s := by simp only [State.abandonSet, hst]
    have hleaves := leaves_csAbandon_host hr ht hseq h
    rwa [habandon] at hleaves
  · have hread : s.refuseRead path slot = s.modSlot slot (fun x => { x with state := .free }) :=
      (if_pos ⟨hst, hw⟩).trans (pumpRecords_none hrec)
    exact hread ▸ leaves_csRefuseRead ha hp hslot
  · have hread : s.refuseRead path slot = s := if_neg fun hc => hw hc.2
    have hleaves := leaves_csRefuseRead (path := path) ha hp hslot
    rwa [hread] at hleaves

end Sys2Proof.Scope

namespace Sys2Proof.Scope

open Sys2Proof Sys2Proof.Machine Sys2Proof.Laws

/-! ## The lowest ticket (R77) -/

variable {s : State} {i : Nat}

/-- Of the number kept so far and `i`, the one with the lower key; `i` counts where `p` holds of it. -/
def keepLeast (p : Nat → Prop) [DecidablePred p] (key : Nat → Nat) (m : Option Nat) (i : Nat) : Option Nat :=
  if p i then
    (match m with
    | some j => if key i < key j then some i else m
    | none => some i)
  else m

section
variable {p : Nat → Prop} [DecidablePred p] {key : Nat → Nat} {m : Option Nat} {a n : Nat}

theorem keepLeast_eq_some (h : keepLeast p key m a = some i) : m = some i ∨ p i := by
  unfold keepLeast at h
  split at h
  · next hp =>
    split at h
    · split at h
      · cases h
        exact .inr hp
      · exact .inl h
    · cases h
      exact .inr hp
  · exact .inl h

/-- What is below the key that is kept is below both keys. -/
theorem le_of_le_keepLeast (h : ∀ k ∈ keepLeast p key m a, n ≤ key k) : (p a → n ≤ key a) ∧ ∀ j ∈ m, n ≤ key j := by
  unfold keepLeast at h
  split at h
  · split at h
    · next j =>
      split at h
      · next hlt =>
        have hn := h a rfl
        exact ⟨fun _ => hn, fun j' hj' => Option.mem_some.mp hj' ▸ hn.trans hlt.le⟩
      · next hge => exact ⟨fun _ => (h j rfl).trans (Nat.le_of_not_lt hge), h⟩
    · exact ⟨fun _ => h a rfl, nofun⟩
  · next hp => exact ⟨fun hpa => absurd hpa hp, h⟩

/-- The number that is left satisfies `p`, and none of the list that does has a lower key. -/
theorem foldl_keepLeast (l : List Nat) (h : l.foldl (keepLeast p key) m = some i) :
    (m = some i ∨ p i) ∧ (∀ j ∈ l, p j → key i ≤ key j) ∧ ∀ j ∈ m, key i ≤ key j := by
  induction l generalizing m with
  | nil => exact ⟨.inl h, nofun, fun j hj => (Option.some.inj (h.symm.trans hj) ▸ le_rfl)⟩
  | cons a l ih =>
    obtain ⟨hown, hleast, hkept⟩ := ih h
    obtain ⟨hle, hm⟩ := le_of_le_keepLeast hkept
    exact ⟨hown.elim keepLeast_eq_some .inr, List.forall_mem_cons.mpr ⟨hle, hleast⟩, hm⟩

end

theorem nextCheck_eq (s : State) : s.nextCheck = if s.moot.slots.any (fun x => x.begun) then none
    else (List.range 4).foldl (keepLeast (fun i => (s.slot i).state = .checking) (fun i => (s.slot i).ticket)) none := rfl

/-- The next check is of the set under CHECK with the lowest ticket, while no check runs. -/
theorem nextCheck_eq_some (h : s.nextCheck = some i) : (s.slot i).state = .checking ∧
    (∀ x ∈ s.moot.slots, x.begun = false) ∧ ∀ j, j < 4 → (s.slot j).state = .checking → (s.slot i).ticket ≤ (s.slot j).ticket := by
  rw [nextCheck_eq] at h
  split at h
  · cases h
  · next hidle =>
    obtain ⟨hstate, hleast, -⟩ := foldl_keepLeast _ h
    exact ⟨hstate.resolve_left nofun, by simpa using hidle, fun j hj => hleast j (List.mem_range.mpr hj)⟩

/-! ## The end of a check (R79, R80, R95) -/

/-- A set waits for none where no held set is in conflict with it. -/
theorem waits_none (hn : ∀ y ∈ s.moot.slots, y.state = .pendingScrub → conflicts s (s.slot i) y = false) :
    s.moot.slots.filter (fun y => decide (y.state = .pendingScrub) && conflicts s (s.slot i) y) = [] := by
  rw [List.filter_eq_nil_iff]
  intro y hy
  by_cases hst : y.state = .pendingScrub
  · simp [hn y hy hst]
  · simp [hst]

section
variable (ha : (s.slot i).abandon = false) (hr : (s.slot i).record = false)
include ha hr

theorem endCheck_inconsistent {code detail : Nat}
    (hc : (s.chk (s.slot i)).consistency (s.slot i).overflow = some (code, detail)) :
    s.endCheck i = (s.refuseSet i code detail false).pumpRecords := by
  simp only [State.endCheck, ha, hr, hc, Bool.false_eq_true, if_false]

section
variable (hc : (s.chk (s.slot i)).consistency (s.slot i).overflow = none)
  (hn : ∀ y ∈ s.moot.slots, y.state = .pendingScrub → conflicts s (s.slot i) y = false)
include hc hn

theorem endCheck_inadmissible {code detail : Nat} (hreeve : reeve s.spr (s.slot i).floor (s.chk (s.slot i)).base
      (s.chk (s.slot i)).cand ((s.chk (s.slot i)).evaluated (s.slot i).floor) = some (code, detail)) :
    s.endCheck i = (s.refuseSet i code detail false).pumpRecords := by
  simp only [State.endCheck, ha, hr, hc, waits_none hn, hreeve, Bool.false_eq_true, if_false, List.map_nil, List.isEmpty_nil,
    if_true]

theorem endCheck_passes (hreeve : reeve s.spr (s.slot i).floor (s.chk (s.slot i)).base
      (s.chk (s.slot i)).cand ((s.chk (s.slot i)).evaluated (s.slot i).floor) = none) : s.endCheck i = s.passSet i := by
  simp only [State.endCheck, ha, hr, hc, waits_none hn, hreeve, Bool.false_eq_true, if_false, List.map_nil, List.isEmpty_nil,
    if_true]

end

end

/-- A check that ends with a refusal leaves its slot refused, and the other sets, the clock, the composition and the scheduler as
they were. -/
theorem answers_checkEnd_refused {code detail : Nat} (ha : s.alive = true)
    (hb : s.moot.slots.findIdx? (fun x => x.begun) = some i) (hrec : s.spr.records = []) (hst : (s.slot i).state = .checking)
    (he : s.endCheck i = (s.refuseSet i code detail false).pumpRecords) :
    Answers .checkEnd s (fun t => t.slot i = (s.slot i).refused code detail ∧ (∀ j, j ≠ i → t.slot j = s.slot j) ∧
      t.clock = s.clock ∧ t.comp = s.comp ∧ t.sched = s.sched) := by
  have htold := onlyTold_refuseSet_checking code detail false hst
  have hlen : i < s.moot.slots.length := (List.findIdx?_eq_some_iff_findIdx_eq.mp hb).1
  have hrec' : (s.refuseSet i code detail false).spr.records = [] := by rw [htold]; exact hrec
  have hleaves := leaves_checkEnd ha hb
  rw [he, pumpRecords_none hrec'] at hleaves
  refine Leaves.answers hleaves ⟨?_, fun j hj => ?_, ?_, ?_, ?_⟩
  · rw [slot_drivePins, slot_refuseSet _ _ _ hlen]
  · rw [slot_drivePins, htold.slot, slot_modSlot_ne _ _ hj]
  · rw [drivePins_clock, htold]; rfl
  · rw [drivePins_comp, htold]; rfl
  · rw [drivePins_sched, htold]; rfl

/-! ## T (R83) -/

theorem le_wholeMicroseconds (t : Nat) : t ≤ (t + 999) / 1000 * 1000 := by omega

theorem assignedT_bounds (s : State) (x : CsSlot) : s.clock.gtb + 20000 ≤ assignedT s x ∧ assignedT s x % 1000 = 0 ∧
    ∀ p, s.moot.lastT = some p → p + 50000 ≤ assignedT s x := by
  unfold assignedT
  dsimp only
  refine ⟨?_, Nat.mul_mod_left _ _, fun p hp => ?_⟩
  · refine le_trans ?_ (le_wholeMicroseconds _)
    split <;> split <;> omega
  · refine le_trans ?_ (le_wholeMicroseconds _)
    rw [hp]
    dsimp only
    split <;> omega

/-- Settles O22: the lowest ticket by `foldl_keepLeast`, the end of a check by what `endCheck` finds, T by `assignedT_bounds`. -/
theorem checkRefusesOrPassesTheSet : Obligations.CheckRefusesOrPassesTheSet := by
  refine ⟨fun i s ha h => leaves_checkBegin ha h, fun i s h => nextCheck_eq_some h,
    fun i code detail s ha hb hrec hst hab hr hc => answers_checkEnd_refused ha hb hrec hst (endCheck_inconsistent hab hr hc),
    fun i code detail s ha hb hrec hst hab hr hc hn hreeve => ?_, fun i s ha hb hab hr hc hn hreeve => ?_, assignedT_bounds,
    fun i s hl hi => ?_⟩
  · obtain ⟨t, ht, hslot, hothers, -⟩ :=
      answers_checkEnd_refused ha hb hrec hst (endCheck_inadmissible hab hr hc hn hreeve)
    exact ⟨t, ht, hslot, hothers⟩
  · exact endCheck_passes hab hr hc hn hreeve ▸ leaves_checkEnd ha hb
  · obtain ⟨b, hslot⟩ := slot_assignT (s := s) (i := i) (hl ▸ hi)
    rw [hslot]
    exact ⟨rfl, rfl, rfl⟩

end Sys2Proof.Scope

namespace Sys2Proof.Scope

open Sys2Proof Sys2Proof.Machine Sys2Proof.Laws

/-! ## Acknowledgements and the refusals at a deadline (R84, R85, R89) -/

variable {s : State} {i k : Nat} {kind : StationKind}

theorem leaves_stationAck (ha : s.alive = true) (hk : stationOk kind k = true) (hl : sourceOf kind k ∈ s.clock.locked)
    (h : s.firstPassed (fun x => x.unacked.contains (sourceOf kind k) && decide (s.clock.gtb + 2000 ≤ x.t)) = some i) :
    Leaves (.stationAck kind k) s (s.modSlot i (fun x => { x with unacked := x.unacked.filter (· ≠ sourceOf kind k) })) :=
  leaves_effect rfl hk ha ((if_pos (List.contains_iff_mem.mpr hl)).trans (by rw [h]))

theorem leaves_stationAck_unlocked (hk : stationOk kind k = true) (hl : sourceOf kind k ∉ s.clock.locked) :
    Leaves (.stationAck kind k) s s :=
  leaves_unchanged rfl (if_neg (mt List.contains_iff_mem.mp hl)) hk

/-- A passed or held set is refused at an instant; then the sets that it held go on, and the record sets that waited. -/
def refusedAt (s : State) (n i code detail : Nat) : State :=
  (((s.advanceTo n).refuseSet i code detail true).releaseHeld).pumpRecords

/-- The source that the refusal at T − 1 µs names: the least that is missing, or the Well's. -/
def missingSource (x : CsSlot) : Nat :=
  if x.unacked.isEmpty then 0x0E else x.unacked.foldl (fun (m : Nat) n => min m n) 1000

theorem missingSource_none {x : CsSlot} (h : x.unacked = []) : missingSource x = 0x0E := by
  rw [missingSource, h]
  rfl

theorem missingSource_least {x : CsSlot} {first : Nat} (hm : first ∈ x.unacked) (h1000 : first < 1000)
    (hleast : ∀ n ∈ x.unacked, first ≤ n) : missingSource x = first := by
  have hmin : x.unacked.min? = some first := List.min?_eq_some_iff.mpr ⟨hm, hleast⟩
  rw [missingSource, if_neg (by simpa using List.ne_nil_of_mem hm)]
  exact List.foldl_min.trans (by rw [hmin]; exact min_eq_right h1000.le)

theorem leaves_distributionTimeout (ha : s.alive = true) (h : s.firstPassed CsSlot.incomplete = some i) :
    Leaves .distributionTimeout s (refusedAt s ((s.slot i).t - 1000) i 0x0312 (missingSource (s.slot i))) :=
  leaves_effect rfl rfl ha (by rw [h]; rfl)

theorem leaves_scrubOverrun (ha : s.alive = true) (hi : i < 4) (h : (s.slot i).state = .pendingScrub) :
    Leaves (.scrubOverrun i) s (refusedAt s ((s.slot i).passedAt + 2000000) i 0x0311 0) :=
  leaves_effect rfl (decide_eq_true hi) ha (if_pos h)

theorem gtb_advanceTo_max {n : Nat} (hr : s.clock.running = true) : (s.advanceTo n).clock.gtb = max s.clock.gtb n := by
  rw [State.advanceTo, advance_clock _ _ hr]
  show s.clock.gtb + (n - s.clock.gtb) = max s.clock.gtb n
  omega

/-- Settles O23: the refusal at T − 1 µs by the source that is missing, the slot by what refusing and releasing leave of it. -/
theorem deliveryAcknowledgesOrTimesOut : Obligations.DeliveryAcknowledgesOrTimesOut := by
  refine ⟨fun kind k i s ha hk hl h => leaves_stationAck ha hk hl h, fun kind k s hk hl => leaves_stationAck_unlocked hk hl,
    fun i s ha h => ⟨fun first hm h1000 hleast => ?_, fun hnone => ?_⟩, fun i s ha hi h => leaves_scrubOverrun ha hi h,
    fun i code detail s hi => slot_refuseSet code detail true hi, fun i s h => slot_releaseHeld h, fun n s hr => gtb_advanceTo_max hr⟩
  · exact missingSource_least hm h1000 hleast ▸ leaves_distributionTimeout ha h
  · exact missingSource_none hnone ▸ leaves_distributionTimeout ha h

end Sys2Proof.Scope

namespace Sys2Proof.Scope

open Sys2Proof Sys2Proof.Machine Sys2Proof.Laws

/-! ## Words of contexts, fences and memory objects (R268, R270, R271) -/

variable {s : State}

theorem touch_memobjs (o : Obj) (line : Nat) : (o.touch line).memobjs = o.memobjs := by
  rw [Obj.touch]
  split <;> rfl

theorem touch_memLife (o : Obj) (line : Nat) : (o.touch line).memLife = o.memLife := by
  rw [Obj.touch]
  split <;> rfl

theorem ctxWord_of_contexts {t : State} (h : t.obj.contexts = s.obj.contexts) (c w : Nat) : t.ctxWord c w = s.ctxWord c w := by
  rw [State.ctxWord, h, State.ctxWord]

theorem ctxWord_setCtxWord_same (s : State) (c w : Nat) (v : Word) : (s.setCtxWord c w v).ctxWord c w = v := by
  rw [State.ctxWord, State.setCtxWord, touch_contexts, mapGet_mapSet_same]

theorem ctxWord_setCtxWord_ne (s : State) {c c' w w' : Nat} (v : Word) (h : c' * 512 + w' ≠ c * 512 + w) :
    (s.setCtxWord c w v).ctxWord c' w' = s.ctxWord c' w' := by
  rw [State.ctxWord, State.setCtxWord, touch_contexts, mapGet_mapSet_ne _ _ _ _ h, State.ctxWord]

theorem getBits_putCtx_same (s : State) (c w lo v : Nat) {hi : Nat} (h : hi < 64) :
    getBits hi lo ((s.putCtx c w hi lo v).ctxWord c w) = v % 2 ^ (hi + 1 - lo) := by
  rw [State.putCtx, ctxWord_setCtxWord_same, getBits_setBits_same _ _ _ _ h]

theorem ctxState_setCtxState (s : State) (c v : Nat) : (s.setCtxState c v).ctxState c = v % 8 :=
  getBits_putCtx_same s c 0 61 v (by decide)

theorem qState_setQState (s : State) (q v : Nat) : (s.setQState q v).qState q = v % 8 := getBits_putQ_same s q 0 61 v (by decide)

theorem fWord_setFWord_same (s : State) (f w : Nat) (v : Word) : (s.setFWord f w v).fWord f w = v := by
  rw [State.fWord, State.setFWord, touch_fences, mapGet_mapSet_same]

theorem mWord_setMWord_same (s : State) (o w : Nat) (v : Word) : (s.setMWord o w v).mWord o w = v := by
  rw [State.mWord, State.setMWord, touch_memobjs, mapGet_mapSet_same]

theorem fLife_setFLife (s : State) (f : Nat) (l : Life) : (s.setFLife f l).fLife f = l := mapGet_mapSet_same ..

theorem mLife_setMLife (s : State) (o : Nat) (l : Life) : (s.setMLife o l).mLife o = l := mapGet_mapSet_same ..

end Sys2Proof.Scope

namespace Sys2Proof.Scope

open Sys2Proof Sys2Proof.Machine Sys2Proof.Laws

/-! ## What an entry says at a level (R101, R102, R104) -/

section
variable {w : TableWalk} {e : Word}

theorem walkUse_invalid (hv : kptValid e = false) :
    walkUse w e = { w with last := e, ended := some (.fault 0x0701 w.level e) } := if_pos hv

section
variable (hv : kptValid e = true)
include hv

theorem walkUse_tableMalformed (hl : kptLeaf e = false)
    (h : w.level = 4 ∨ kptKeyid e ≠ 0 ∨ kptCont e ≠ 0 ∨ getBits 4 2 e ≠ 0) :
    walkUse w e = { w with last := e, ended := some (.fault 0x0703 w.level e) } := by
  rw [walkUse, if_neg (by simp [hv]), if_pos hl, if_pos h]

theorem walkUse_table (hl : kptLeaf e = false)
    (h : ¬ (w.level = 4 ∨ kptKeyid e ≠ 0 ∨ kptCont e ≠ 0 ∨ getBits 4 2 e ≠ 0)) :
    walkUse w e = { w with last := e, level := w.level + 1, table := kptAddr e, device := kptLocal e } := by
  rw [walkUse, if_neg (by simp [hv]), if_pos hl, if_neg h]

variable (hl : kptLeaf e = true)
include hl

theorem walkUse_leafMalformed (h : w.level = 1 ∨ 4 < kptCont e ∨ kptAddr e % levelSize w.level ≠ 0) :
    walkUse w e = { w with last := e, ended := some (.fault 0x0703 w.level e) } := by
  rw [walkUse, if_neg (by simp [hv]), if_neg (by simp [hl]), if_pos h]

variable (hw : ¬ (w.level = 1 ∨ 4 < kptCont e ∨ kptAddr e % levelSize w.level ≠ 0))
include hw

theorem walkUse_leafDenied (hp : kptPermits e w.access = false) :
    walkUse w e = { w with last := e, ended := some (.fault 0x0702 w.level e) } := by
  rw [walkUse, if_neg (by simp [hv]), if_neg (by simp [hl]), if_neg hw, if_pos hp]

theorem walkUse_leaf (hp : kptPermits e w.access = true) :
    walkUse w e = { w with last := e, ended := some (.leaf e w.level w.device w.entryAt) } := by
  rw [walkUse, if_neg (by simp [hv]), if_neg (by simp [hl]), if_neg hw, if_neg (by simp [hp])]

end

/-- Of the six things an entry can be, only a well-formed leaf that permits the access ends a walk in a leaf. -/
theorem walkUse_endsInLeaf {e' : Word} {level at_ : Nat} {dev : Bool} (hn : w.ended = none)
    (h : (walkUse w e).ended = some (.leaf e' level dev at_)) :
    kptValid e = true ∧ kptLeaf e = true ∧ ¬ (w.level = 1 ∨ 4 < kptCont e ∨ kptAddr e % levelSize w.level ≠ 0) ∧
      kptPermits e w.access = true ∧ e' = e ∧ level = w.level ∧ dev = w.device ∧ at_ = w.entryAt := by
  cases hv : kptValid e with
  | false =>
    rw [walkUse_invalid hv] at h
    cases h
  | true =>
    cases hl : kptLeaf e with
    | false =>
      by_cases ht : w.level = 4 ∨ kptKeyid e ≠ 0 ∨ kptCont e ≠ 0 ∨ getBits 4 2 e ≠ 0
      · rw [walkUse_tableMalformed hv hl ht] at h
        cases h
      · rw [walkUse_table hv hl ht] at h
        exact absurd (hn.symm.trans h) nofun
    | true =>
      by_cases hw : w.level = 1 ∨ 4 < kptCont e ∨ kptAddr e % levelSize w.level ≠ 0
      · rw [walkUse_leafMalformed hv hl hw] at h
        cases h
      · cases hp : kptPermits e w.access with
        | false =>
          rw [walkUse_leafDenied hv hl hw hp] at h
          cases h
        | true =>
          rw [walkUse_leaf hv hl hw hp] at h
          cases h
          exact ⟨rfl, rfl, hw, rfl, rfl, rfl, rfl, rfl⟩

end

/-! ## The end of a request's walk (R104–R106, R114, R127) -/

section
variable {s : State} {k : Nat} {d : Deferred}

theorem completeWalk_ended {w : TableWalk} {r : WalkEnd} (hw : s.walkFor k d = some w) (he : w.ended = some r) :
    s.completeWalk k d = if w.gen ≠ s.ctxGen d.acc.ctx then s.walkEnd w.id
      else if r.stops s d.acc && s.faultAhead d.acc then s else (s.walkEnd w.id).walkDone k d r := by
  simp only [State.completeWalk, hw, he]

theorem walkFailed_of_walk {w : TableWalk} {id : Nat} (h : s.walkOf id = some w) :
    s.walkFailed id = s.setWalk { w with ended := some (.fault 0x070B w.level w.last) } := by
  simp only [State.walkFailed, h]

theorem walkDone_deviceLeaf {e : Word} (level at_ : Nat) (dev : Bool) (h : kptLocal e = true) :
    s.walkDone k d (.leaf e level dev at_) =
      if s.keyDenied d.acc.slice (kptKeyid e) (kptAddr e + getBits 47 0 d.acc.req.addr % levelSize level) then
        (s.modCluster k (fun c => { c with retry := c.retry.filter (fun x => x.acc.seq ≠ d.acc.seq) })).faultAccess k d.acc
          0x0704 level e
      else (s.tlbFill k (s.fillEntry d.acc.ctx (getBits 47 0 d.acc.req.addr) e level)).reevaluate k d :=
  if_neg (by simp [h])

end

/-- A fill stands first in the TLB of 256 entries, before entries of the old TLB that do not overlap it (R105, R108). -/
theorem tlb_tlbFill (s : State) (k : Nat) (e : TlbEntry) : ((s.tlbFill k e).cluster k).tlb =
    e :: ((s.cluster k).tlb.filter
      (fun x => !(x.ctx == e.ctx && decide (x.va < e.va + e.size) && decide (e.va < x.va + x.size)))).take 255 :=
  congrArg Cluster.tlb (cluster_setCluster s k _)

/-! ## Fault records (R129, R131) -/

theorem seqs_faultStep (s : State) : s.faultStep.xlt.seqs = s.xlt.seqs := by
  unfold State.faultStep
  split
  · rfl
  · dsimp only
    split
    · rfl
    · split <;> rfl

theorem seqs_pumpFaults (s : State) : s.pumpFaults.xlt.seqs = s.xlt.seqs :=
  iterate_rel (fun s t => t.xlt.seqs = s.xlt.seqs) (fun _ => rfl) (fun _ _ _ h k => Eq.trans k h) seqs_faultStep _ s

/-- A posted record takes its context's next SEQ, and the context keeps it. -/
theorem seqs_postFault (s : State) (f : FaultInfo) :
    (s.postFault f).2.xlt.seqs = mapSet 0 s.xlt.seqs f.ctx (s.postFault f).1 := by
  refine (seqs_pumpFaults _).trans ?_
  split
  · rw [err_xlt]
    rfl
  · rfl

/-- Settles O33: an entry's six readings by `walkUse_endsInLeaf` and the equation of each, the fill by `tlb_tlbFill`, SEQ by
`seqs_postFault`. -/
theorem walksEndInALeafOrAFault : Obligations.WalksEndInALeafOrAFault := by
  refine ⟨fun k txn d s ha hk ht h => leaves_walkComplete ha hk ht h, fun s k d w r hw he => ?_,
    fun k txn d w s ha hk ht h hw he hdev => leaves_walkReadTimeout ha hk ht h hw he hdev, fun s w id h => walkFailed_of_walk h,
    fun w e level at_ dev hn h1 _ h => ?_, fun w e hn => ⟨?_, ?_, ?_, ?_⟩, fun s k d code level w => rfl,
    fun s k d e level at_ dev h => walkDone_deviceLeaf level at_ dev h, fun s k e => ?_, fun s f => ⟨rfl, ?_⟩⟩
  · rw [completeWalk_ended hw he]
    refine ⟨fun hg => if_pos hg, fun hg h => ?_, fun hg hstops hahead => ?_⟩
    · rw [if_neg (not_not.mpr hg), if_neg (by rcases h with h | h <;> simp [h])]
    · rw [if_neg (not_not.mpr hg), if_pos (by rw [hstops, hahead]; rfl)]
  · obtain ⟨hv, hl, hw, hp, -, hlevel, -, hat⟩ := walkUse_endsInLeaf hn h
    exact ⟨hv, hl, hlevel, by omega, by omega, by rw [hlevel]; omega, hp, hat⟩
  · exact fun hv => by rw [walkUse_invalid hv]
  · exact fun hv hl h => by rw [walkUse_leafMalformed hv hl h]
  · exact fun hv hl h => by rw [walkUse_tableMalformed hv hl h]
  · exact fun hv hl h4 hk hc hb => walkUse_table hv hl (by simp [h4, hk, hc, hb])
  · refine ⟨_, tlb_tlbFill s k e, List.length_take_le .., fun x hx => ?_⟩
    obtain ⟨hmem, hapart⟩ := List.mem_filter.mp (List.mem_of_mem_take hx)
    exact ⟨hmem, fun hover => by simp [hover] at hapart⟩
  · rw [seqs_postFault, mapGet_mapSet_same]

end Sys2Proof.Scope

namespace Sys2Proof.Scope

open Sys2Proof Sys2Proof.Machine Sys2Proof.Laws

/-! ## Completing invalidations (R124) -/

section
variable {s : State}

/-- The invalidations that a register names: all but that of a KeyID's retirement (R183). -/
def namedInvals (l : List Inval) : List Inval := l.filter (fun i => i.seq != retireSeq)

/-- The invalidations that miss an acknowledgement. -/
def incompleteInvals (s : State) : List Inval := s.xlt.invals.filter (fun i => !i.missing.isEmpty)

/-- Only the incomplete invalidations are left on the list. -/
def withIncomplete (s : State) : State := { s with xlt := { s.xlt with invals := incompleteInvals s } }

theorem invProgress_unnamed (h : (namedInvals (incompleteInvals s)).length = (namedInvals s.xlt.invals).length) :
    s.invProgress = withIncomplete s := if_pos (decide_eq_true h)

/-- Once a named invalidation is complete, DONE follows the oldest left, and the cause is set. -/
theorem invProgress_named (h : (namedInvals (incompleteInvals s)).length ≠ (namedInvals s.xlt.invals).length) :
    ∃ done, s.invProgress = ((withIncomplete s).setFld .XLT_INV_SEQ_DONE 0 done).setCause 0x07 1 ∧
      (namedInvals (incompleteInvals s) = [] → done = s.fld .XLT_INV_SEQ_ISSUED) ∧
      (∀ x rest, namedInvals (incompleteInvals s) = x :: rest → done = (x.seq + 4294967295) % 4294967296) := by
  refine ⟨_, if_neg (mt of_decide_eq_true h), fun hl => ?_, fun x rest hl => ?_⟩
  · simp only [namedInvals, incompleteInvals] at hl
    simp only [hl]
    rfl
  · simp only [namedInvals, incompleteInvals] at hl
    simp only [hl]

theorem invProgress_none_complete (h : ∀ i ∈ s.xlt.invals, i.missing ≠ []) : s.invProgress = s := by
  have hall : incompleteInvals s = s.xlt.invals := List.filter_eq_self.mpr fun i hi => by simp [h i hi]
  rw [invProgress_unnamed (by rw [hall]), withIncomplete, hall]

theorem length_incomplete_of_complete {i : Inval} (hi : i ∈ s.xlt.invals) (hm : i.missing = []) (hseq : i.seq ≠ retireSeq) :
    (namedInvals (incompleteInvals s)).length ≠ (namedInvals s.xlt.invals).length := by
  have hcomm : namedInvals (incompleteInvals s) = (namedInvals s.xlt.invals).filter (fun i => !i.missing.isEmpty) :=
    List.filter_comm ..
  have hlt : (namedInvals (incompleteInvals s)).length < (namedInvals s.xlt.invals).length :=
    hcomm ▸ List.length_filter_lt_length_iff_exists.mpr ⟨i, List.mem_filter.mpr ⟨hi, by simpa using hseq⟩, by simp [hm]⟩
  exact hlt.ne

end

/-! ### The frame of a completion -/

section
variable (s : State)

/-- A completion changes the list of invalidations, DONE and a cause (R124). -/
theorem invProgress_eq : s.invProgress = withIncomplete s ∨ ∃ done,
    s.invProgress = ((withIncomplete s).setFld .XLT_INV_SEQ_DONE 0 done).setCause 0x07 1 := by
  by_cases h : (namedInvals (incompleteInvals s)).length = (namedInvals s.xlt.invals).length
  · exact .inl (invProgress_unnamed h)
  · obtain ⟨done, hprogress, -⟩ := invProgress_named h
    exact .inr ⟨done, hprogress⟩

theorem obj_invProgress : s.invProgress.obj = s.obj := by
  obtain h | ⟨done, h⟩ := invProgress_eq s <;> exact (congrArg State.obj h :)

theorem xlt_invProgress : s.invProgress.xlt = { s.xlt with invals := incompleteInvals s } := by
  obtain h | ⟨done, h⟩ := invProgress_eq s <;> exact (congrArg State.xlt h :)

theorem issued_invProgress : s.invProgress.fld .XLT_INV_SEQ_ISSUED = s.fld .XLT_INV_SEQ_ISSUED := by
  obtain h | ⟨done, h⟩ := invProgress_eq s
  · rw [h]
    rfl
  · rw [h, (keepsRegs_setCause _ 1 (by decide)).fld rfl (by decide),
      fld_setFld_other _ .XLT_INV_SEQ_DONE .XLT_INV_SEQ_ISSUED _ _ rfl (by decide)]
    rfl

theorem done_setCause (done : Nat) :
    ((s.setFld .XLT_INV_SEQ_DONE 0 done).setCause 0x07 1).fld .XLT_INV_SEQ_DONE = done % 2 ^ 32 := by
  rw [(keepsRegs_setCause _ 1 (by decide)).fld rfl (by decide), fld_setFld_same _ _ _ _ (by decide)]
  rfl

end

/-! ## What an invalidation covers and drops (R123, R124, R137) -/

section
variable {s : State} {i : Inval} {ctx va size : Nat}

theorem covers_context (h : i.scope = 3) : covers s i ctx va size = (i.ctx == ctx) := by
  simp [covers, h]

theorem overlap_eq_false {a b c d : Nat} : overlap a b c d = false ↔ d < a ∨ b < c := by
  simp only [overlap, Bool.and_eq_false_imp, decide_eq_true_eq, decide_eq_false_iff_not]
  omega

theorem covers_range (h : i.scope = 1) : covers s i ctx va size =
    (i.ctx == ctx && overlap va (va + size - 1) i.start (i.start + (i.pagesM1 + 1) * 4096 - 1)) := by
  simp [covers, h]

/-- Where it abandons no migration, an invalidation only drops translations and shared-cache entries (R124, R137). -/
theorem dropCovered_eq (h : i.scope ≠ 2 ∨ s.xlt.migrations = []) : ∃ clusters, s.dropCovered i = { s with
    clusters := clusters
    xlt := { s.xlt with cache := s.xlt.cache.filter (fun e =>
      !covers s i e.ctx (e.index * 2 ^ (48 - 9 * e.level)) (2 ^ (48 - 9 * e.level))) } } := by
  have hnone : ∀ p : Migration → Bool, (i.scope ≠ 2 → ∀ m, p m = false) → s.xlt.migrations.filter p = [] := fun p hp =>
    h.elim (fun hs => List.filter_eq_nil_iff.mpr fun m _ => by simp [hp hs m]) (fun hm => by rw [hm, List.filter_nil])
  rw [State.dropCovered]
  dsimp only
  rw [hnone _ fun hs m => by simp [hs]]
  exact ⟨_, rfl⟩

end

/-! ## Issuing an invalidation (R122, R123, R125) -/

section
variable {s : State} {seq scope ctx pasid slice start pagesM1 : Nat} {p : Flight → Bool}

theorem eq_false_of_mem_filter_not {α : Type} {p : α → Bool} {l : List α} {a : α} (h : a ∈ l.filter (fun x => !p x)) :
    p a = false := by
  simpa using List.of_mem_filter h

/-- The invalidation that waits for its acknowledgers, as it is listed. -/
def askedInval (s : State) (seq scope ctx pasid slice start pagesM1 : Nat) (p : Flight → Bool) : Inval :=
  ⟨seq, scope, ctx, pasid, slice, start, pagesM1, (List.range 139).filter (fun n => s.pdOn (ackDomain n)), s.granted p⟩

/-- With the invalidation on the list. -/
def withAsked (s : State) (i : Inval) : State := { s with xlt := { s.xlt with invals := s.xlt.invals ++ [i] } }

theorem awaitAcks_eq (h : scope ≠ 2 ∨ s.xlt.migrations = []) :
    ∃ clusters, s.awaitAcks seq scope ctx pasid slice start pagesM1 p = State.invProgress { s with
      clusters := clusters
      xlt := { s.xlt with
        invals := s.xlt.invals ++ [askedInval s seq scope ctx pasid slice start pagesM1 p]
        cache := s.xlt.cache.filter (fun e => !covers s (askedInval s seq scope ctx pasid slice start pagesM1 p) e.ctx
          (e.index * 2 ^ (48 - 9 * e.level)) (2 ^ (48 - 9 * e.level))) } } := by
  obtain ⟨clusters, hdrop⟩ := dropCovered_eq (s := withAsked s (askedInval s seq scope ctx pasid slice start pagesM1 p))
    (i := askedInval s seq scope ctx pasid slice start pagesM1 p) h
  exact ⟨clusters, congrArg State.invProgress hdrop⟩

theorem issued_awaitAcks (h : scope ≠ 2 ∨ s.xlt.migrations = []) :
    (s.awaitAcks seq scope ctx pasid slice start pagesM1 p).fld .XLT_INV_SEQ_ISSUED = s.fld .XLT_INV_SEQ_ISSUED := by
  obtain ⟨clusters, hawait⟩ := awaitAcks_eq h
  rw [hawait, issued_invProgress]
  rfl

section
variable (h : scope ≠ 2)
include h

theorem obj_awaitAcks : (s.awaitAcks seq scope ctx pasid slice start pagesM1 p).obj = s.obj := by
  obtain ⟨clusters, hawait⟩ := awaitAcks_eq (.inl h)
  rw [hawait, obj_invProgress]

/-- No translation that the invalidation covers is left at a station. -/
theorem not_covers_of_tlb {k : Nat} {e : TlbEntry}
    (he : e ∈ ((s.awaitAcks seq scope ctx pasid slice start pagesM1 p).cluster k).tlb) :
    covers s (askedInval s seq scope ctx pasid slice start pagesM1 p) e.ctx e.va e.size = false := by
  rw [State.awaitAcks, cluster_of_clusters (clusters_invProgress _), tlb_dropCovered h] at he
  exact (eq_false_of_mem_filter_not he :)

/-- No entry that the invalidation covers is left in the shared cache. -/
theorem not_covers_of_cache {e : CacheEntry} (he : e ∈ (s.awaitAcks seq scope ctx pasid slice start pagesM1 p).xlt.cache) :
    covers s (askedInval s seq scope ctx pasid slice start pagesM1 p) e.ctx (e.index * 2 ^ (48 - 9 * e.level))
      (2 ^ (48 - 9 * e.level)) = false := by
  obtain ⟨clusters, hawait⟩ := awaitAcks_eq (.inl h)
  rw [hawait, xlt_invProgress] at he
  exact (eq_false_of_mem_filter_not he :)

end

end

section
variable {s : State} {scope ctx pasid slice pagesM1 : Nat}

/-- ISSUED counts the invalidation. -/
def withIssued (s : State) : State := s.setFld .XLT_INV_SEQ_ISSUED 0 ((s.fld .XLT_INV_SEQ_ISSUED + 1) % 2 ^ 32)

/-- ISSUED counts the invalidation, and the contexts in its scope have advanced their GEN. -/
def gensAdvanced (s : State) (scope ctx slice : Nat) : State :=
  forEach ((withIssued s).genContexts scope ctx slice) (withIssued s) (fun c s => s.bumpGen c)

/-- Two states that differ in the object table only. -/
def OnlyObjects (s t : State) : Prop := t = { s with obj := t.obj }

theorem OnlyObjects.trans {a b c : State} (h : OnlyObjects a b) (k : OnlyObjects b c) : OnlyObjects a c := by
  unfold OnlyObjects at *
  rw [k, h]

theorem onlyObjects_gensAdvanced (s : State) (scope ctx slice : Nat) :
    OnlyObjects (withIssued s) (gensAdvanced s scope ctx slice) :=
  forEach_rel OnlyObjects (fun _ => rfl) (fun _ _ _ => OnlyObjects.trans) (fun c s => s.bumpGen c) (fun _ _ => rfl) _ _

theorem regs_gensAdvanced (s : State) (scope ctx slice : Nat) : (gensAdvanced s scope ctx slice).regs = (withIssued s).regs :=
  (congrArg State.regs (onlyObjects_gensAdvanced s scope ctx slice) :)

theorem gensAdvanced_context (h : scope = 1 ∨ scope = 3) : gensAdvanced s scope ctx slice = (withIssued s).bumpGen ctx := by
  rw [gensAdvanced, State.genContexts, if_pos h, forEach_cons, forEach_nil]

theorem ctxGen_bumpGen (s : State) (c : Nat) : (s.bumpGen c).ctxGen c = (s.ctxGen c + 1) % 2 ^ 32 :=
  getBits_putCtx_same s c 10 32 _ (by decide)

theorem issued_gensAdvanced (s : State) (scope ctx slice : Nat) :
    (gensAdvanced s scope ctx slice).fld .XLT_INV_SEQ_ISSUED = (s.fld .XLT_INV_SEQ_ISSUED + 1) % 2 ^ 32 := by
  rw [fld_of_regs (regs_gensAdvanced s scope ctx slice), withIssued, fld_setFld_same _ _ _ _ (by decide)]
  exact Nat.mod_mod _ _

theorem invalidate_full (h : 8 ≤ (namedInvals s.xlt.invals).length) :
    s.invalidate scope ctx pasid slice pagesM1 = s.setFld .XLT_STATUS_INV_FULL 0 1 := if_pos h

section
variable (h : (namedInvals s.xlt.invals).length < 8)
include h

/-- With fewer than eight outstanding, an invalidation is issued for the range at XLT_INV_ADDR. -/
theorem invalidate_issues : s.invalidate scope ctx pasid slice pagesM1 = (gensAdvanced s scope ctx slice).awaitAcks
    ((s.fld .XLT_INV_SEQ_ISSUED + 1) % 2 ^ 32) scope ctx pasid slice (getBits 63 12 (s.rd .XLT_INV_ADDR 0) * 4096) pagesM1
    (fun _ => true) := by
  have haddr : (gensAdvanced s scope ctx slice).rd .XLT_INV_ADDR 0 = s.rd .XLT_INV_ADDR 0 :=
    (rd_of_regs (regs_gensAdvanced s scope ctx slice) _ _).trans (rd_setFld_ne s .XLT_INV_SEQ_ISSUED _ (by decide))
  rw [← haddr]
  exact if_neg (Nat.not_le.mpr h)

theorem issued_invalidate (hs : scope ≠ 2 ∨ s.xlt.migrations = []) :
    (s.invalidate scope ctx pasid slice pagesM1).fld .XLT_INV_SEQ_ISSUED = (s.fld .XLT_INV_SEQ_ISSUED + 1) % 2 ^ 32 := by
  have hmigrations : (gensAdvanced s scope ctx slice).xlt.migrations = s.xlt.migrations :=
    (congrArg (fun v => v.xlt.migrations) (onlyObjects_gensAdvanced s scope ctx slice) :)
  rw [invalidate_issues h, issued_awaitAcks (hs.imp_right hmigrations.trans), issued_gensAdvanced]

theorem ctxGen_invalidate (hs : scope = 1 ∨ scope = 3) :
    (s.invalidate scope ctx pasid slice pagesM1).ctxGen ctx = (s.ctxGen ctx + 1) % 2 ^ 32 := by
  rw [invalidate_issues h, State.ctxGen, ctxWord_of_contexts (congrArg Obj.contexts (obj_awaitAcks (by omega))),
    gensAdvanced_context hs]
  exact ctxGen_bumpGen (withIssued s) ctx

end

end

section
variable {s : State} {path : Path} {ctx pasid sl pages : Nat}

/-- At READY each of the four scopes is a command to invalidate (R123, R438). -/
theorem leaves_invalidate (hr : s.isReady = true) (hp : pathOk path = true) (hc : contextOk ctx = true) (hpasid : pasid < 2 ^ 20)
    (hsl : sl < 256) (hpages : pages < 2 ^ 20) :
    Leaves (.invDvaRange path ctx pages) s (s.invalidate 1 ctx 0 0 pages) ∧
    Leaves (.invHvaRange path pasid pages) s (s.invalidate 2 0 pasid 0 pages) ∧
    Leaves (.invContext path ctx) s (s.invalidate 3 ctx 0 0 0) ∧ Leaves (.invSlice path sl) s (s.invalidate 4 0 0 sl 0) :=
  ⟨leaves_taken rfl (and_ok (and_ok hp hc) (decide_eq_true hpages)) hr hp rfl,
    leaves_taken rfl (and_ok (and_ok hp (decide_eq_true hpasid)) (decide_eq_true hpages)) hr hp rfl,
    leaves_taken rfl (and_ok hp hc) hr hp rfl, leaves_taken rfl (and_ok hp (decide_eq_true hsl)) hr hp rfl⟩

end

/-- Settles O34: GEN and ISSUED by `invalidate_issues`, what is dropped by `covers`, DONE by `invProgress_named`. -/
theorem invalidationsAdvanceAndComplete : Obligations.InvalidationsAdvanceAndComplete := by
  refine ⟨fun path ctx pasid sl pages s hr hp hc hpasid hsl hpages h => ?_,
    fun path ctx pasid sl pages s hr hp hc hpasid hsl hpages => leaves_invalidate hr hp hc hpasid hsl hpages,
    fun s scope ctx pasid sl pages h hs => issued_invalidate h hs,
    fun s ctx h => ⟨ctxGen_invalidate h (.inr rfl), fun k e he => ?_, fun e he => ?_⟩,
    fun s ctx pages k h => ⟨ctxGen_invalidate h (.inl rfl), fun e he hctx hsize => ?_⟩,
    fun s h => invProgress_none_complete h, fun s i hi hm hseq => ?_,
    fun seq n s ha hn => leaves_effect rfl (decide_eq_true hn) ha rfl⟩
  · have hfull : ∀ scope ctx pasid sl pages, s.invalidate scope ctx pasid sl pages = s.setFld .XLT_STATUS_INV_FULL 0 1 :=
      fun _ _ _ _ _ => invalidate_full h
    simpa only [hfull] using leaves_invalidate hr hp hc hpasid hsl hpages
  · rw [invalidate_issues h] at he
    have hout := not_covers_of_tlb (by decide) he
    rw [covers_context rfl] at hout
    exact fun hctx => by simp [askedInval, hctx] at hout
  · rw [invalidate_issues h] at he
    have hout := not_covers_of_cache (by decide) he
    rw [covers_context rfl] at hout
    exact fun hctx => by simp [askedInval, hctx] at hout
  · rw [invalidate_issues h] at he
    have hout := not_covers_of_tlb (by decide) he
    rw [covers_range rfl] at hout
    simp only [askedInval, hctx, beq_self_eq_true, Bool.true_and, overlap_eq_false] at hout
    omega
  · obtain ⟨done, hprogress, hall, holdest⟩ := invProgress_named (length_incomplete_of_complete hi hm hseq)
    rw [hprogress, done_setCause]
    refine ⟨rfl, bitOf_setCause _ _ (by decide), ?_⟩
    split
    · next hleft =>
      rw [hall hleft]
      exact Nat.mod_eq_of_lt (getBits_lt 63 32 _)
    · next x rest hleft =>
      rw [holdest x rest hleft]
      omega

end Sys2Proof.Scope

namespace Sys2Proof.Scope

open Sys2Proof Sys2Proof.Machine Sys2Proof.Laws

/-! ## The end of a migration (R135, R136) -/

section
variable {s : State} {id : Nat} {m : Migration} (h : s.migrationOf id = some m) (hstage : m.stage = .swap)
include h hstage

/-- At the swap, the end of a migration is its result's. -/
theorem finishMigration_swap (r : CasResult) : s.finishMigration id r = match r with
    | .swapped =>
      let u := (s.dropMigration m).cacheFill m.acc.ctx (getBits 47 0 m.acc.req.addr) 4 (migratedLeaf m)
      (u.postFault (u.accessFault (u.stationOf m.core) m.acc 0x0711 0 (word (m.page.getD (0, 0)).1))).2.unparkTile m.core m.acc.ctx
    | .differs => s.migrationFault m 0x070D
    | .unsupported => s.migrationFault m 0x070F := by
  simp only [State.finishMigration, h]
  exact if_neg (not_not.mpr hstage)

end

/-! ## Completions of host reads (R299, R426) -/

section
variable {s : State} {tag q n : Nat} {st : DmaStatus} {data : List Word}

/-- A completion ends the read of its tag; what is left is to use its words. -/
def readEnded (s : State) (tag : Nat) : State := { s with hif := { s.hif with reads := mapErase s.hif.reads tag } }

theorem completion_unknown (h : s.hif.reads.find? (fun e => e.1 == tag) = none) : s.completion tag st data = s := by
  simp only [State.completion, h]

variable (h : s.hif.reads.find? (fun e => e.1 == tag) = some (tag, .ringFetch q, n))
include h

theorem completion_ringFetch : s.completion tag st data = (readEnded s tag).ringRead q tag st data := by
  simp only [State.completion, h]
  rfl

theorem dmaWords_ringFetch : s.dmaWords tag = (n + 1) / 2 := by
  simp only [State.dmaWords, h]

end

section
variable {s : State} {q tag : Nat} (h : (s.queueRun q).fetchTag = some tag)
include h

theorem ringRead_failed {st : DmaStatus} (data : List Word) (hst : st ≠ .success) :
    s.ringRead q tag st data = s.ringFailed q := by
  rw [State.ringRead, if_neg (not_not.mpr h), if_pos hst]

theorem ringRead_live (data : List Word) (hlive : s.qState q = 2) : s.ringRead q tag .success data =
    s.modQueueRun q (fun r => { r with fetchTag := none, fetched := some data }) := by
  rw [State.ringRead, if_neg (not_not.mpr h), if_neg (not_not.mpr rfl), if_pos hlive]

end

/-- Settles O36: a migration's ends by `finishMigration_swap`, a fetch's by `completion_ringFetch` and `ringRead`. -/
theorem pageMigrationAndHostReadsEnd : Obligations.PageMigrationAndHostReadsEnd := by
  refine ⟨fun core r m s ha hc h => leaves_migrationCasResult ha r hc h,
    fun id m s h hstage => ⟨finishMigration_swap h hstage _, finishMigration_swap h hstage _, finishMigration_swap h hstage _⟩,
    fun core pos t s ha hc h => leaves_extentRetranslate ha pos hc h, fun tag q n data s ht ha h hfetch hlen hlive => ?_,
    fun tag q n st s ht ha hst h hfetch => ?_, fun tag st data s ha ht hidle h => ?_,
    fun q s hq ha h => leaves_ringDmaTimeout ha hq h⟩
  · have hread : s.completion tag .success data = (readEnded s tag).modQueueRun q (fun r =>
        { r with fetchTag := none, fetched := some data }) :=
      (completion_ringFetch h).trans (ringRead_live (s := readEnded s tag) hfetch data hlive)
    exact hread ▸ leaves_hostDmaCompletion ha ht fun _ => hlen.trans (dmaWords_ringFetch h).symm
  · have hread : s.completion tag st [] = (readEnded s tag).ringFailed q :=
      (completion_ringFetch h).trans (ringRead_failed (s := readEnded s tag) hfetch [] hst)
    exact hread ▸ leaves_hostDmaCompletion ha ht fun hsuccess => absurd hsuccess hst
  · refine leaves_effect rfl (decide_eq_true ht) ha ?_
    rw [completion_unknown h, pumpEngines_idle hidle, ite_self]

end Sys2Proof.Scope

namespace Sys2Proof.Scope

open Sys2Proof Sys2Proof.Machine Sys2Proof.Laws

/-! ## The record window (R266, R267) -/

section
variable {s : State} {kind index i : Nat} {v : Word}

/-- What a window write stores: the bits the hardware keeps, and of the value the bits that hold a field (R6, R267). -/
def windowWord (s : State) (kind index i : Nat) (v : Word) : Word :=
  (s.recWord kind index i &&& hardwareBits kind i) ||| (v &&& ~~~ hardwareBits kind i &&& fieldBits kind i)

/-- `t` is `s` with the record DEFINED and the word stored; word 0 of contexts and queues holds the STATE too. -/
def RecordWritten (s : State) (kind index i : Nat) (v : Word) (t : State) : Prop :=
  t.regs = s.regs ∧ t.hif = s.hif ∧ (0 < i ∨ kind = 3 ∨ kind = 4 → t.recWord kind index i = windowWord s kind index i v) ∧
    (kind = 1 → t.ctxState index = 1) ∧ (kind = 2 → t.qState index = 1) ∧ (kind = 3 → t.fLife index = .defined) ∧
    (kind = 4 → t.mLife index = .defined)

theorem kind_of_lt_kindWords (hi : i < kindWords kind) : kind = 1 ∨ kind = 2 ∨ kind = 3 ∨ kind = 4 := by
  unfold kindWords at hi
  split_ifs at hi <;> omega

theorem kindWords_le (kind : Nat) : kindWords kind ≤ 512 := by
  unfold kindWords
  split_ifs <;> omega

theorem recWrite_closed (h : s.fld .OBJ_CTL_ENABLE = 0 ∨ s.recOpen kind index = false) : s.recWrite kind index i v = s :=
  if_pos (h.imp_right fun ho => .inr (.inr ho))

section
variable (hi : i < kindWords kind) (hx : index < kindCount kind)
include hi hx

theorem recWord_inRange (t : State) : t.recWord kind index i =
    if kind = 1 then t.ctxWord index i else if kind = 2 then t.qWord index i else if kind = 3 then t.fWord index i
    else t.mWord index i :=
  if_neg (by omega)

theorem recWrite_open (he : s.fld .OBJ_CTL_ENABLE = 1) (ho : s.recOpen kind index = true) : s.recWrite kind index i v =
    if kind = 1 then (s.setCtxWord index i (windowWord s kind index i v)).setCtxState index 1
    else if kind = 2 then (s.setQWord index i (windowWord s kind index i v)).setQState index 1
    else if kind = 3 then (s.setFWord index i (windowWord s kind index i v)).setFLife index .defined
    else (s.setMWord index i (windowWord s kind index i v)).setMLife index .defined :=
  if_neg (by simp [he, ho, hi, hx])

/-- A write of an open record stores the word and makes the record DEFINED, kind by kind. -/
theorem recordWritten_recWrite (he : s.fld .OBJ_CTL_ENABLE = 1) (ho : s.recOpen kind index = true) :
    RecordWritten s kind index i v (s.recWrite kind index i v) := by
  unfold RecordWritten
  rw [recWrite_open hi hx he ho, recWord_inRange hi hx]
  obtain rfl | rfl | rfl | rfl := kind_of_lt_kindWords hi
  · refine ⟨rfl, rfl, fun hw => ?_, fun _ => ctxState_setCtxState _ index 1, nofun, nofun, nofun⟩
    exact (ctxWord_setCtxWord_ne _ _ (by omega)).trans (ctxWord_setCtxWord_same ..)
  · refine ⟨rfl, rfl, fun hw => ?_, nofun, fun _ => qState_setQState _ index 1, nofun, nofun⟩
    exact (qWord_putQ_ne _ _ _ _ (by omega)).trans (qWord_setQWord_same ..)
  · exact ⟨rfl, rfl, fun _ => fWord_setFWord_same .., nofun, nofun, fun _ => fLife_setFLife .., nofun⟩
  · exact ⟨rfl, rfl, fun _ => mWord_setMWord_same .., nofun, nofun, nofun, fun _ => mLife_setMLife ..⟩

end

theorem leaves_objRecordWrite {path : Path} (hr : s.isReady = true) (hp : pathOk path = true) (hi : i < 512) :
    Leaves (.objRecordWrite path i v) s (s.recWrite (s.fld .OBJ_REC_SEL_KIND) (s.fld .OBJ_REC_SEL_INDEX) i v) :=
  leaves_taken rfl (and_ok hp (decide_eq_true hi)) hr hp rfl

end

/-! ## ENABLE of the object manager (R266) -/

theorem leaves_objEnable_refused {s : State} {path : Path} {g : Nat} (hr : s.isReady = true) (hp : pathOk path = true)
    (he : s.fld .OBJ_CTL_ENABLE = 0)
    (hpa : getBits 55 21 (s.rd .OBJ_TABLE_BASE 0) * 2097152 = s.fld .CMP_CHIPNUM_CHIPNUM * 2 ^ 50 + g * 2097152)
    (hg : g + 20 < 262144) (hown : s.managerOwns g (g + 20) = false) :
    Leaves (.objEnable path true) s (s.objErr 0x020B 0 0 0) := by
  refine leaves_taken rfl hp hr hp ?_
  have hindex : (s.fld .CMP_CHIPNUM_CHIPNUM * 2 ^ 50 + g * 2097152) % 2 ^ 39 / 2097152 = g := by omega
  simp only [hpa, hindex, hown, he]
  rw [if_neg (by decide), if_neg (by decide)]
  exact if_neg (by simp)

/-! ## Teardown and deferred free (R290, R294) -/

section
variable {s : State}

/-- The words of a freed context are zero, those of every other stay (R294). -/
theorem ctxWord_freeContext (s : State) (c x : Nat) {w : Nat} (hw : w < 512) :
    (s.freeContext c).ctxWord x w = if x = c then 0 else s.ctxWord x w := by
  have htouch : ∀ (lines : List Nat) (o : Obj), (lines.foldl Obj.touch o).contexts = o.contexts := fun lines => by
    induction lines with
    | nil => exact fun o => rfl
    | cons l lines ih => exact fun o => (ih _).trans (touch_contexts o l)
  have hkey : (x * 512 + w) / 512 = x := by omega
  rw [State.ctxWord, State.freeContext, htouch,
    mapGet_filter 0 s.obj.contexts _ _ (b := decide (x ≠ c)) fun _ => by simp [hkey]]
  by_cases h : x = c <;> simp [h, State.ctxWord]

theorem heaps_clearHeaps (s : State) {c h g : Nat} (hh : h < 8) (hg : g < 65536) :
    mapGet 0 (s.clearHeaps c).obj.heaps ((c * 8 + h) * 65536 + g) = 0 := by
  have hkey : ((c * 8 + h) * 65536 + g) / 65536 / 8 = c := by omega
  exact mapGet_filter 0 s.obj.heaps _ _ (b := false) fun _ => by simp [hkey]

theorem mLife_freeMemobj (s : State) (o : Nat) : (s.freeMemobj o).mLife o = .free := by
  rw [State.mLife, State.freeMemobj, touch_memLife, mapGet_mapErase_same]

theorem mWord_freeMemobj (s : State) (o : Nat) : (s.freeMemobj o).mWord o 0 = 0 := by
  rw [State.mWord, State.freeMemobj, touch_memobjs]
  exact mapGet_filter 0 s.obj.memobjs _ _ (b := false) fun _ => by simp

theorem leaves_memoryObjectFreed_of {o : Nat} {r : Releasing} (ha : s.alive = true) (ho : o < 262144)
    (h : s.obj.releasing.find? (fun x => x.index == o) = some r) : Leaves (.memoryObjectFreed o) s
      (if s.mPin o = 0 ∧ r.tails.all (fun t => s.tailPassed t.1 t.2) then s.freeReleased o else s) :=
  leaves_effect rfl (decide_eq_true ho) ha (by simp only [h])

end

/-- Settles O45: window writes by `recordWritten_recWrite`, what is freed by reads of the filtered tables. -/
theorem recordWindowTeardownAndDeferredFree : Obligations.RecordWindowTeardownAndDeferredFree := by
  refine ⟨fun path i v s hr hp hi h => ?_, fun path i kind index v s hr hp hi hx he hkind hindex ho => ?_,
    fun path s hr hp => leaves_taken rfl hp hr hp (if_pos rfl), fun path g s hr hp he hpa hg => ?_, fun c s hc h => ?_,
    fun c s ha hc hst ho => leaves_contextTeardownDone ha hc hst ho,
    fun s c => ⟨?_, fun x hx => ?_, fun h g hh hg => heaps_clearHeaps s hh hg⟩,
    fun o r s ha ho h => leaves_memoryObjectFreed_of ha ho h, fun s o => ⟨mLife_freeMemobj s o, mWord_freeMemobj s o⟩,
    fun path index s hr hp hi => leaves_taken rfl (and_ok hp (decide_eq_true hi)) hr hp rfl⟩
  · exact leaves_taken rfl (and_ok hp (decide_eq_true hi)) hr hp (recWrite_closed h)
  · refine answers_of_leaves (leaves_objRecordWrite hr hp (hi.trans_le (kindWords_le kind))) fun t ht => ?_
    rw [hkind, hindex] at ht
    rw [ht]
    exact recordWritten_recWrite hi hx he ho
  · split
    · next hown => exact leaves_objEnable hr hp he hpa hg hown
    · next hown => exact leaves_objEnable_refused hr hp he hpa hg (Bool.eq_false_iff.mpr hown)
  · refine leaves_unchanged (i := .contextTeardownDone c) rfl (if_neg ?_) hc
    rintro ⟨hst, ho⟩
    exact h.elim (· hst) (by simp [ho])
  · rw [State.ctxState, ctxWord_freeContext _ _ _ (by decide), if_pos rfl]
    rfl
  · rw [State.ctxState, ctxWord_freeContext _ _ _ (by decide), if_neg hx, State.ctxState]

end Sys2Proof.Scope

namespace Sys2Proof.Scope

open Sys2Proof Sys2Proof.Machine Sys2Proof.Laws

/-! ## RETRY and KILL, the fault ring and the cache flush (R113, R131–R133) -/

/-- An answer to a fault that is not outstanding is an ERROR with the context and the SEQ it names (R133). -/
theorem resolve_stale {s : State} {ctx seq : Nat} (act : OutFault → State → State)
    (h : s.xlt.faults.find? (fun x => x.ctx == ctx && x.seq == seq) = none) :
    s.resolve ctx seq act = s.err 0x0712 (s.ctxSlice ctx) (word (ctx + seq * 2 ^ 32)) := by
  simp only [State.resolve, h]

/-- Settles O35: RETRY and KILL are both a `resolve`, of a fault that is found or stale. -/
theorem faultResolvesRingAndCacheFlush : Obligations.FaultResolvesRingAndCacheFlush := by
  refine ⟨fun path ctx seq f s hr hp hc hseq h => ?_, fun path ctx seq s hr hp hc hseq h => ?_,
    fun path index s hr hp hi => leaves_taken rfl (and_ok hp (decide_eq_true hi)) hr hp rfl,
    fun s ha h => leaves_faultBatchTimer ha h, fun path s hr hp => leaves_taken rfl hp hr hp rfl,
    fun s ha h => leaves_cacheFlushDone ha h⟩
  · have hok := and_ok (and_ok hp hc) hseq
    exact ⟨leaves_taken rfl hok hr hp (resolve_found _ h), leaves_taken rfl hok hr hp (resolve_found _ h)⟩
  · have hok := and_ok (and_ok hp hc) hseq
    exact ⟨leaves_taken rfl hok hr hp (resolve_stale _ h), leaves_taken rfl hok hr hp (resolve_stale _ h)⟩

end Sys2Proof.Scope

namespace Sys2Proof.Scope

open Sys2Proof Sys2Proof.Machine Sys2Proof.Laws

/-! ## Bytes and sectors of a line -/

theorem testBit_lineGet (l : Line) (off n j : Nat) :
    (lineGet l off n).testBit j = (decide (j < 8 * n) && l.getLsbD (8 * off + j)) := by
  simp [lineGet, Nat.testBit_mod_two_pow, Nat.testBit_shiftRight, BitVec.getLsbD]

theorem lineGet_lt (l : Line) (off n : Nat) : lineGet l off n < 2 ^ (8 * n) := Nat.mod_lt _ (Nat.two_pow_pos _)

/-- A bit of a line with bytes replaced: that of the new value within them, else the old one. -/
theorem getLsbD_linePut (l : Line) (off n v j : Nat) (hj : j < 1024) :
    (linePut l off n v).getLsbD j =
      if 8 * off ≤ j ∧ j < 8 * off + 8 * n then v.testBit (j - 8 * off) else l.getLsbD j := by
  simp only [linePut, BitVec.getLsbD_or, BitVec.getLsbD_and, BitVec.getLsbD_not, BitVec.getLsbD_ofNat, Nat.testBit_shiftLeft,
    Nat.testBit_two_pow_sub_one, hj, decide_true, Bool.true_and]
  by_cases hlo : 8 * off ≤ j
  · by_cases hhi : j < 8 * off + 8 * n
    · have hin : j - 8 * off < 8 * n := by omega
      simp [hlo, hhi, hin]
    · have hout : ¬ j - 8 * off < 8 * n := by omega
      simp [hhi, hout]
  · simp [hlo]

/-- The bytes that were replaced. -/
theorem lineGet_linePut_same (l : Line) {off n : Nat} (v : Nat) (h : off + n ≤ 128) :
    lineGet (linePut l off n v) off n = v % 2 ^ (8 * n) := by
  refine Nat.eq_of_testBit_eq fun j => ?_
  rw [testBit_lineGet, Nat.testBit_mod_two_pow]
  by_cases hj : j < 8 * n
  · rw [getLsbD_linePut _ _ _ _ _ (by omega), if_pos (by omega), Nat.add_sub_cancel_left]
  · simp [hj]

/-- A byte outside those that were replaced. -/
theorem lineGet_linePut_other (l : Line) {off n i : Nat} (v : Nat) (hi : i < 128) (h : i < off ∨ off + n ≤ i) :
    lineGet (linePut l off n v) i 1 = lineGet l i 1 := by
  refine Nat.eq_of_testBit_eq fun j => ?_
  rw [testBit_lineGet, testBit_lineGet]
  by_cases hj : j < 8 * 1
  · rw [getLsbD_linePut _ _ _ _ _ (by omega), if_neg (by omega)]
  · simp [hj]

/-- Values of `w` bits each, one above the other. -/
def packed (w : Nat) (f : Nat → Nat) (n : Nat) : Nat := (List.range n).foldl (fun m i => m + f i * 2 ^ (w * i)) 0

theorem packed_succ (w : Nat) (f : Nat → Nat) (n : Nat) : packed w f (n + 1) = 2 ^ (w * n) * f n + packed w f n := by
  simp [packed, List.range_succ, Nat.mul_comm, Nat.add_comm]

theorem packed_lt {w : Nat} {f : Nat → Nat} (h : ∀ i, f i < 2 ^ w) (n : Nat) : packed w f n < 2 ^ (w * n) := by
  induction n with
  | zero => simp [packed]
  | succ n ih =>
    rw [packed_succ]
    calc 2 ^ (w * n) * f n + packed w f n < 2 ^ (w * n) * (f n + 1) := by rw [Nat.mul_succ]; omega
      _ ≤ 2 ^ (w * n) * 2 ^ w := Nat.mul_le_mul_left _ (h n)
      _ = 2 ^ (w * (n + 1)) := by rw [← Nat.pow_add, Nat.mul_succ]

theorem testBit_packed {w : Nat} (hw : 0 < w) {f : Nat → Nat} (h : ∀ i, f i < 2 ^ w) (n j : Nat) :
    (packed w f n).testBit j = (decide (j < w * n) && (f (j / w)).testBit (j % w)) := by
  induction n with
  | zero => simp [packed]
  | succ n ih =>
    rw [packed_succ, Nat.testBit_two_pow_mul_add _ (packed_lt h n), ih]
    have hsucc : w * (n + 1) = w * n + w := Nat.mul_succ w n
    by_cases hlow : j < w * n
    · simp [hlow, show j < w * (n + 1) by omega]
    rw [if_neg hlow]
    by_cases hhigh : j < w * (n + 1)
    · have hdiv : j / w = n := Nat.div_eq_of_lt_le (by rw [Nat.mul_comm]; omega) (by rw [Nat.mul_comm]; omega)
      have hmod : j % w = j - w * n := by rw [Nat.mod_def, hdiv]
      simp [hhigh, hdiv, hmod]
    · have hbig : f n < 2 ^ (j - w * n) := (h n).trans_le (Nat.pow_le_pow_right (by decide) (by omega))
      simp [hhigh, Nat.testBit_lt_two_pow hbig]

theorem zmapOf_eq_packed (d : Line) : zmapOf d = packed 1 (fun i => if lineGet d (32 * i) 32 = 0 then 1 else 0) 4 := by
  rw [zmapOf, packed]
  congr 1
  funext m i
  split <;> simp

/-- ZMAP has the bits of the zero sectors (R144). -/
theorem testBit_zmapOf (d : Line) (i : Nat) : (zmapOf d).testBit i = decide (i < 4 ∧ lineGet d (32 * i) 32 = 0) := by
  rw [zmapOf_eq_packed, testBit_packed Nat.one_pos (fun i => by split <;> decide)]
  by_cases hz : lineGet d (32 * i) 32 = 0 <;> simp [Nat.mod_one, hz]

/-- A bit of a line whose sectors a map has cleared. -/
theorem getLsbD_clearSectors (z : Nat) (d : Line) (j : Nat) :
    (clearSectors z d).getLsbD j = (!z.testBit (j / 256) && d.getLsbD j) := by
  have hpacked : clearSectors z d =
      BitVec.ofNat 1024 (packed 256 (fun i => if z.testBit i then 0 else lineGet d (32 * i) 32) 4) := by
    rw [clearSectors, packed]
    congr 2
    funext m i
    split <;> simp
  have hlt : ∀ i, (if z.testBit i then 0 else lineGet d (32 * i) 32) < 2 ^ 256 := fun i => by
    split
    · exact Nat.two_pow_pos _
    · exact lineGet_lt ..
  rw [hpacked, BitVec.getLsbD_ofNat, testBit_packed (by decide) hlt]
  by_cases hj : j < 1024
  · have hpos : 8 * (32 * (j / 256)) + j % 256 = j := by omega
    cases z.testBit (j / 256) <;> simp [hj, testBit_lineGet, hpos, Nat.mod_lt]
  · simp [hj, BitVec.getLsbD_of_ge d j (by omega)]

theorem lineGet_clearSectors (z : Nat) (d : Line) (i : Nat) :
    lineGet (clearSectors z d) (32 * i) 32 = if z.testBit i then 0 else lineGet d (32 * i) 32 := by
  refine Nat.eq_of_testBit_eq fun j => ?_
  rw [testBit_lineGet, getLsbD_clearSectors]
  by_cases hj : j < 8 * 32
  · have hsector : (8 * (32 * i) + j) / 256 = i := by omega
    cases hz : z.testBit i <;> simp [hj, hz, hsector, testBit_lineGet]
  · cases z.testBit i <;> simp [hj, testBit_lineGet]

/-- A bit in a zero sector is 0. -/
theorem getLsbD_of_zmapOf {d : Line} {j : Nat} (h : (zmapOf d).testBit (j / 256) = true) : d.getLsbD j = false := by
  rw [testBit_zmapOf, decide_eq_true_eq] at h
  have hpos : 8 * (32 * (j / 256)) + j % 256 = j := by omega
  have hbit := testBit_lineGet d (32 * (j / 256)) 32 (j % 256)
  rw [h.2, Nat.zero_testBit, hpos] at hbit
  simpa [Nat.mod_lt] using hbit.symm

theorem clearSectors_roundTrip (d ks : Line) : clearSectors (zmapOf d) (clearSectors (zmapOf d) (d ^^^ ks) ^^^ ks) = d := by
  refine BitVec.eq_of_getLsbD_eq fun j _ => ?_
  rw [getLsbD_clearSectors, BitVec.getLsbD_xor, getLsbD_clearSectors, BitVec.getLsbD_xor]
  cases hz : (zmapOf d).testBit (j / 256)
  · simp
  · simp [getLsbD_of_zmapOf hz]

theorem zmapOf_lt (d : Line) : zmapOf d < 16 := by
  rw [zmapOf_eq_packed]
  exact packed_lt (fun i => by split <;> decide) 4

/-- A line that is not zero has a sector to store. -/
theorem stored_ne_zero {d : Line} (h : d ≠ 0) : 15 - zmapOf d ≠ 0 := by
  intro hall
  have hz : zmapOf d = 15 := by have := zmapOf_lt d; omega
  refine h (BitVec.eq_of_getLsbD_eq fun j hj => ?_)
  have hsector : j / 256 < 4 := by omega
  have hbit : (zmapOf d).testBit (j / 256) = true := by
    rw [hz, show 15 = 2 ^ 4 - 1 from rfl, Nat.testBit_two_pow_sub_one, decide_eq_true hsector]
  rw [getLsbD_of_zmapOf hbit]
  simp

theorem getD_setMinor {l : List Nat} {i j v : Nat} (h : j < 64) : (setMinor l i v).getD j 0 = if j = i then v else l.getD j 0 := by
  simp [setMinor, List.getD_eq_getElem?_getD, h]

theorem toInt_ofNat_signedOf {n v : Nat} (hn : 0 < n) (h : v < 2 ^ (8 * n)) : (BitVec.ofNat (8 * n) v).toInt = signedOf n v := by
  obtain ⟨m, rfl⟩ : ∃ m, n = m + 1 := ⟨n - 1, by omega⟩
  have hpow : 2 ^ (8 * (m + 1)) = 2 * 2 ^ (8 * (m + 1) - 1) := by
    rw [← Nat.pow_succ']
    congr 1
  rw [signedOf, BitVec.toInt_eq_toNat_cond, BitVec.toNat_ofNat, Nat.mod_eq_of_lt h]
  split <;> split
  · omega
  · rfl
  · push_cast; rfl
  · omega

/-- Settles O29: the signed forms by the two's complement of `signedOf`, the line by `lineGet_linePut_same` and
`lineGet_linePut_other`. -/
theorem atomicOperationsCompute : Obligations.AtomicOperationsCompute := by
  refine ⟨fun n old x c => ⟨rfl, rfl, rfl, rfl, rfl, rfl, rfl, rfl⟩, fun n old x c hn hold hx => ?_,
    fun a off l h => ⟨rfl, fun i hi hout => lineGet_linePut_other l _ hi hout, lineGet_linePut_same l _ h⟩⟩
  have hpos : 0 < n := by omega
  have hsold := toInt_ofNat_signedOf hpos hold
  have hsx := toInt_ofNat_signedOf hpos hx
  by_cases hle : signedOf n old ≤ signedOf n x
  · have hmin : atomicValue 0x7 n old x c = old := if_pos hle
    have hmax : atomicValue 0x8 n old x c = x := if_pos hle
    rw [hmin, hmax, hsold, hsx, min_eq_left hle, max_eq_right hle]
    exact ⟨rfl, rfl⟩
  · have hmin : atomicValue 0x7 n old x c = x := if_neg hle
    have hmax : atomicValue 0x8 n old x c = old := if_neg hle
    rw [hmin, hmax, hsold, hsx, min_eq_right (not_le.mp hle).le, max_eq_left (not_le.mp hle).le]
    exact ⟨rfl, rfl⟩

end Sys2Proof.Scope

namespace Sys2Proof.Scope

open Sys2Proof Sys2Proof.Machine Sys2Proof.Laws

/-! ## Commands on a memory port (R424, R425) -/

section
variable {s t u : State} {q : Nat}

/-- From `s` to `t` nothing changes but the crossing of port `q` and the messages sent. -/
structure OnlyPort (q : Nat) (s t : State) : Prop where
  rest : t = { s with mems := t.mems, out := t.out }
  station : ∃ x, t.memSt q = { s.memSt q with port := x }
  others : ∀ p, p ≠ q → t.memSt p = s.memSt p

theorem OnlyPort.refl (q : Nat) (s : State) : OnlyPort q s s := ⟨rfl, ⟨_, rfl⟩, fun _ _ => rfl⟩

theorem OnlyPort.trans (h : OnlyPort q s t) (k : OnlyPort q t u) : OnlyPort q s u := by
  obtain ⟨x, hx⟩ := h.station
  obtain ⟨y, hy⟩ := k.station
  exact ⟨by rw [k.rest, h.rest], ⟨y, by rw [hy, hx]⟩, fun p hp => (k.others p hp).trans (h.others p hp)⟩

theorem onlyPort_modMem (s : State) {f : MemStation → MemStation} {x : MemPort} (h : f (s.memSt q) = { s.memSt q with port := x }) :
    OnlyPort q s (s.modMem q f) :=
  ⟨rfl, ⟨x, (memSt_setMem ..).trans h⟩, fun _ hp => memSt_setMem_ne _ _ hp⟩

theorem onlyPort_emit (s : State) (o : Output) : OnlyPort q s (s.emit o) := ⟨rfl, ⟨_, rfl⟩, fun _ _ => rfl⟩

theorem onlyPort_portStep (q : Nat) (s : State) : OnlyPort q s (s.portStep q) := by
  unfold State.portStep
  dsimp only
  split
  · exact OnlyPort.refl q s
  · split
    · exact (onlyPort_modMem s rfl).trans (onlyPort_emit ..)
    · exact OnlyPort.refl q s

theorem onlyPort_portCmd (s : State) (q : Nat) (c : PortCmd) : OnlyPort q s (s.portCmd q c) :=
  (onlyPort_modMem s rfl).trans
    (iterate_rel (OnlyPort q) (OnlyPort.refl q) (fun _ _ _ => OnlyPort.trans) (onlyPort_portStep q) _ _)

theorem onlyPort_memWrite (s : State) (q addr smask : Nat) (d : Line) : OnlyPort q s (s.memWrite q addr smask d) := by
  unfold State.memWrite
  split
  · exact OnlyPort.refl q s
  · exact onlyPort_portCmd ..

/-- A write that finds its port idle and room in the FIFOs goes out at once. -/
theorem out_memWrite {addr smask : Nat} (d : Line) (hmask : smask ≠ 0) (hidle : (s.memSt q).port.unsent = [])
    (hcmds : (s.memSt q).port.cmds.length < 64) (hbeats : ((s.memSt q).port.cmds.map (·.2)).sum + beatsOf smask ≤ 128) :
    (s.memWrite q addr smask d).out = s.out ++ [.memCmd q true (addr / 128) smask 0 d] := by
  have hroom : (s.memSt q).port.room ⟨true, addr / 128, smask, 0, d⟩ = true := by
    simp [MemPort.room, hcmds, hbeats]
  have hroom' : MemPort.room { (s.memSt q).port with unsent := [⟨true, addr / 128, smask, 0, d⟩] }
    ⟨true, addr / 128, smask, 0, d⟩ = true := hroom
  simp [State.memWrite, hmask, State.portCmd, State.pumpPort, iterate, State.portStep, hidle, hroom']

end

/-! ## What charging leaves of the memory stations (R403) -/

section
variable (s : State)

theorem charge_frame (c pj : Nat) : (s.charge c pj).mems = s.mems ∧ (s.charge c pj).out = s.out := by
  unfold State.charge
  dsimp only
  split <;> exact ⟨rfl, rfl⟩

theorem chargeWork_frame (ctx core pj : Nat) : (s.chargeWork ctx core pj).mems = s.mems ∧ (s.chargeWork ctx core pj).out = s.out := by
  unfold State.chargeWork
  split
  · exact charge_frame ..
  · dsimp only
    split
    · split <;> exact charge_frame ..
    · exact charge_frame ..

theorem memSt_chargeWork (ctx core pj p : Nat) : (s.chargeWork ctx core pj).memSt p = s.memSt p := by
  rw [State.memSt, (chargeWork_frame ..).1, State.memSt]

theorem out_chargeWork (ctx core pj : Nat) : (s.chargeWork ctx core pj).out = s.out := (chargeWork_frame ..).2

end

/-! ## Versions of lines whose leaf is cached (R151, R154, R156) -/

section
variable {m m' : MemStation} {line l : Nat} {n : Node}

theorem nodeIndex_zero (line : Nat) : nodeIndex line 0 = line := by simp [nodeIndex]
theorem nodeIndex_one (line : Nat) : nodeIndex line 1 = line / 64 := by simp [nodeIndex]

theorem above_of_leaf (h : m.node 1 (line / 64) = some n) : m.above line 0 = (n.major, n.minors) := by
  simp [MemStation.above, nodeIndex_one, h]

theorem version_of_leaf (h : m.node 1 (line / 64) = some n) (hl : l / 64 = line / 64) :
    m.version l 0 = (n.major, n.minors.getD (l % 64) 0) := by
  rw [MemStation.version, above_of_leaf (hl ▸ h), nodeIndex_zero]

/-- The leaf over a line after its major and minors have been replaced. -/
theorem node_setAbove (major : Nat) (minors : List Nat) (h : m.node 1 (line / 64) = some n) :
    (m.setAbove line 0 major minors).node 1 (line / 64) = some { n with major := major, minors := minors, dirty := true } := by
  have hn : n.level = 1 ∧ n.index = line / 64 := by simpa [MemStation.node] using List.find?_some h
  have hsame : ∀ x : Node, (if x.level = 0 + 1 ∧ x.index = nodeIndex line (0 + 1)
      then { x with major := major, minors := minors, dirty := true } else x).level = x.level ∧
      (if x.level = 0 + 1 ∧ x.index = nodeIndex line (0 + 1)
      then { x with major := major, minors := minors, dirty := true } else x).index = x.index := fun x => by
    split <;> exact ⟨rfl, rfl⟩
  simp only [MemStation.node, MemStation.setAbove, if_neg (show ¬ (0 = 5) by decide), List.find?_map, Function.comp_def, hsame]
  rw [show List.find? _ m.nodes = some n from h]
  simp [hn, nodeIndex_one]

theorem node_of_nodes (h : m'.nodes = m.nodes) (level index : Nat) : m'.node level index = m.node level index := by
  rw [MemStation.node, h, MemStation.node]

theorem setAbove_frame (m : MemStation) (line level major : Nat) (minors : List Nat) :
    (m.setAbove line level major minors).patches = m.patches ∧ (m.setAbove line level major minors).port = m.port ∧
      (m.setAbove line level major minors).tagCache = m.tagCache := by
  unfold MemStation.setAbove
  split <;> exact ⟨rfl, rfl, rfl⟩

end

/-! ## Writing a line (R144, R146, R156, R167) -/

section
variable {s : State} {p line keyid : Nat} {n : Node}

/-- The rewrites that a write of the line leaves: all but the line's own re-encryption. -/
def otherPatches (line : Nat) (l : List Patch) : List Patch :=
  l.filter (fun x => match x.kind with
    | .recrypt l _ _ _ _ => l != line
    | _ => true)

def dropRecrypt (s : State) (p line : Nat) : State := s.modMem p (fun m => { m with patches := otherPatches line m.patches })

/-- The minors of a leaf after a write of the line that does not overflow. -/
def raisedMinors (n : Node) (line : Nat) : List Nat := setMinor n.minors (line % 64) (n.minors.getD (line % 64) 0 + 1)

/-- The state in which such a write stores the line: its minor raised, its re-encryption dropped. -/
def prepared (s : State) (p line : Nat) (n : Node) : State :=
  dropRecrypt (s.modMem p (fun m => m.setAbove line 0 n.major (raisedMinors n line))) p line

theorem getD_raisedMinors (n : Node) (line l : Nat) : (raisedMinors n line).getD (l % 64) 0 =
    if l % 64 = line % 64 then n.minors.getD (line % 64) 0 + 1 else n.minors.getD (l % 64) 0 :=
  getD_setMinor (Nat.mod_lt l (by decide))

theorem memSt_prepared (s : State) (p line : Nat) (n : Node) : (prepared s p line n).memSt p =
    { (s.memSt p).setAbove line 0 n.major (raisedMinors n line) with patches := otherPatches line (s.memSt p).patches } := by
  simp [prepared, dropRecrypt, setAbove_frame]

theorem memSt_prepared_ne (s : State) (line : Nat) (n : Node) {q : Nat} (h : q ≠ p) :
    (prepared s p line n).memSt q = s.memSt q :=
  (memSt_setMem_ne _ _ h).trans (memSt_setMem_ne _ _ h)

theorem prepared_frame (s : State) (p line : Nat) (n : Node) :
    ((prepared s p line n).memSt p).port = (s.memSt p).port ∧ ((prepared s p line n).memSt p).tagCache = (s.memSt p).tagCache := by
  rw [memSt_prepared]
  exact (setAbove_frame ..).2

/-- The leaf of the line in that state. -/
theorem node_prepared (h : (s.memSt p).node 1 (line / 64) = some n) : ((prepared s p line n).memSt p).node 1 (line / 64) =
    some { n with minors := raisedMinors n line, dirty := true } := by
  rw [memSt_prepared]
  exact node_setAbove _ _ h

/-- What a line is stored as under a version: the ciphertext of its other sectors, and its tag word. -/
def cipherOf (s : State) (p line keyid major minor : Nat) (d : Line) : Line :=
  clearSectors (zmapOf d) (d ^^^ keystream (s.millKey keyid) keyid p line major minor)

def tagWordOf (s : State) (p line keyid major minor : Nat) (d : Line) : Word :=
  word (lineMac (s.millKey keyid) keyid p line major minor (zmapOf d) (cipherOf s p line keyid major minor d) * 16 + zmapOf d)

/-- The line and its tag word go out under a version, and its sectors are counted and charged. -/
def storeLine (s : State) (p line keyid ctx core : Nat) (d : Line) (version : Nat × Nat) : State :=
  (((s.memWrite p (128 * line) (15 - zmapOf d) (cipherOf s p line keyid version.1 version.2 d)).putTag p line
    (tagWordOf s p line keyid version.1 version.2 d)).bump .MIL_ST_SKIPPED_SECTORS p (zeroSectors (zmapOf d))).chargeSectors
      ctx core (4 - zeroSectors (zmapOf d))

theorem writeLine_keyed (ctx core : Nat) (d : Line) (hk : keyid ≠ 0) : s.writeLine p line keyid ctx core d =
    storeLine (dropRecrypt (s.bumpLine p line keyid) p line) p line keyid ctx core d
      (((dropRecrypt (s.bumpLine p line keyid) p line).memSt p).version line 0) := by
  simp only [State.writeLine, if_neg hk]
  rfl

theorem bumpLine_below (h : (s.memSt p).node 1 (line / 64) = some n) (hv : n.minors.getD (line % 64) 0 < 126) :
    s.bumpLine p line keyid = s.modMem p (fun m => m.setAbove line 0 n.major (raisedMinors n line)) := by
  simp only [State.bumpLine, above_of_leaf h]
  exact if_pos hv

theorem putTag_uncached (v : Word) (h : ∀ e ∈ (s.memSt p).tagCache, e.1 ≠ line / 16) :
    s.putTag p line v = s.addPatch p p (.tagWord line v) := by
  have hnone : (s.memSt p).tagCache.find? (fun e => e.1 == line / 16) = none := by
    simpa [List.find?_eq_none] using h
  simp only [State.putTag, hnone]

end

section
variable {s : State} {p line keyid : Nat} {n : Node} (h : (s.memSt p).node 1 (line / 64) = some n)
  (hv : n.minors.getD (line % 64) 0 < 126) (htag : ∀ e ∈ (s.memSt p).tagCache, e.1 ≠ line / 16) (hk : keyid ≠ 0)
include h hv htag hk

/-- A write under a KeyID of a line whose minor does not overflow and whose tag line is not cached (R145, R156, R167). -/
theorem writeLine_below (ctx core : Nat) (d : Line) : s.writeLine p line keyid ctx core d =
    ((((prepared s p line n).memWrite p (128 * line) (15 - zmapOf d)
        (cipherOf s p line keyid n.major (n.minors.getD (line % 64) 0 + 1) d)).addPatch p p
      (.tagWord line (tagWordOf s p line keyid n.major (n.minors.getD (line % 64) 0 + 1) d))).bump
        .MIL_ST_SKIPPED_SECTORS p (zeroSectors (zmapOf d))).chargeSectors ctx core (4 - zeroSectors (zmapOf d)) := by
  have hver : ((prepared s p line n).memSt p).version line 0 = (n.major, n.minors.getD (line % 64) 0 + 1) := by
    rw [version_of_leaf (node_prepared h) rfl, getD_raisedMinors, if_pos rfl]
  have hcache : ∀ addr smask c, ∀ e ∈ (((prepared s p line n).memWrite p addr smask c).memSt p).tagCache, e.1 ≠ line / 16 :=
    fun addr smask c => by
      obtain ⟨x, hx⟩ := (onlyPort_memWrite (prepared s p line n) p addr smask c).station
      rw [hx]
      exact (prepared_frame s p line n).2.symm ▸ htag
  rw [writeLine_keyed ctx core d hk, bumpLine_below h hv, ← prepared, hver, storeLine, putTag_uncached _ (hcache _ _ _)]
  rfl

/-- The station that stores it, but for its crossing to the port. -/
theorem memSt_writeLine_below (ctx core : Nat) (d : Line) : ∃ x, (s.writeLine p line keyid ctx core d).memSt p =
    { (prepared s p line n).memSt p with
      port := x
      patches := otherPatches line (s.memSt p).patches ++
        [⟨p, .tagWord line (tagWordOf s p line keyid n.major (n.minors.getD (line % 64) 0 + 1) d), [], [], false⟩] } := by
  obtain ⟨x, hx⟩ := (onlyPort_memWrite (prepared s p line n) p (128 * line) (15 - zmapOf d)
    (cipherOf s p line keyid n.major (n.minors.getD (line % 64) 0 + 1) d)).station
  refine ⟨x, ?_⟩
  rw [writeLine_below h hv htag hk, State.chargeSectors, memSt_chargeWork]
  refine (memSt_setMem ..).trans ?_
  rw [hx, memSt_prepared]

theorem memSt_writeLine_below_ne (ctx core : Nat) (d : Line) {q : Nat} (hq : q ≠ p) :
    (s.writeLine p line keyid ctx core d).memSt q = s.memSt q := by
  rw [writeLine_below h hv htag hk, State.chargeSectors, memSt_chargeWork]
  refine (memSt_setMem_ne _ _ hq).trans ?_
  rw [(onlyPort_memWrite ..).others q hq, memSt_prepared_ne s line n hq]

/-- The leaf that it leaves. -/
theorem node_writeLine_below (ctx core : Nat) (d : Line) : ((s.writeLine p line keyid ctx core d).memSt p).node 1 (line / 64) =
    some { n with minors := raisedMinors n line, dirty := true } := by
  obtain ⟨x, hx⟩ := memSt_writeLine_below h hv htag hk ctx core d
  rw [hx]
  exact node_prepared h

/-- It goes out at once where the port's FIFOs have room (R425). -/
theorem out_writeLine_below (ctx core : Nat) {d : Line} (hd : d ≠ 0) (hidle : (s.memSt p).port.unsent = [])
    (hcmds : (s.memSt p).port.cmds.length < 64)
    (hbeats : ((s.memSt p).port.cmds.map (·.2)).sum + beatsOf (15 - zmapOf d) ≤ 128) :
    (s.writeLine p line keyid ctx core d).out = s.out ++ [.memCmd p true line (15 - zmapOf d) 0
      (cipherOf s p line keyid n.major (n.minors.getD (line % 64) 0 + 1) d)] := by
  have hport := (prepared_frame s p line n).1
  rw [writeLine_below h hv htag hk, State.chargeSectors, out_chargeWork]
  refine (out_memWrite _ (stored_ne_zero hd) (hport ▸ hidle) (hport ▸ hcmds) (hport ▸ hbeats)).trans ?_
  rw [Nat.mul_div_cancel_left _ (by decide)]
  rfl

end

/-! ## The overflow of a minor (R156) -/

section
variable {s : State} {p line keyid : Nat} {n : Node}

/-- The minors of a leaf whose line `i` has overflowed: those in use begin again at 1. -/
def overflowMinors (l : List Nat) (i : Nat) : List Nat :=
  (List.range 64).map (fun j => if j = i then 1 else if 1 ≤ l.getD j 0 ∧ l.getD j 0 ≤ 126 then 1 else l.getD j 0)

theorem getD_overflowMinors {l : List Nat} {i j : Nat} (h : j < 64) : (overflowMinors l i).getD j 0 =
    if j = i then 1 else if 1 ≤ l.getD j 0 ∧ l.getD j 0 ≤ 126 then 1 else l.getD j 0 := by
  simp [overflowMinors, List.getD_eq_getElem?_getD, h]

theorem nodes_forEach_addPatch {α : Type} (l : List α) (kind : α → PatchKind) (s : State) :
    ((forEach l s (fun a s => s.addPatch p p (kind a))).memSt p).nodes = (s.memSt p).nodes := by
  induction l generalizing s with
  | nil => rfl
  | cons a l ih => exact (ih _).trans (by simp [State.addPatch])

theorem node_bumpLine_overflow (h : (s.memSt p).node 1 (line / 64) = some n) (hv : n.minors.getD (line % 64) 0 = 126) :
    ((s.bumpLine p line keyid).memSt p).node 1 (line / 64) = some { n with
      major := (n.major + 1) % 2 ^ 64, minors := overflowMinors n.minors (line % 64), dirty := true } := by
  simp only [State.bumpLine, above_of_leaf h, hv, Nat.lt_irrefl, if_false]
  rw [node_of_nodes (nodes_forEach_addPatch ..)]
  simp only [modMem_eq, memSt_setMem]
  exact node_setAbove _ _ h

end

/-- Settles O38: sectors bit by bit, a write by `writeLine_below`, an overflow by `node_bumpLine_overflow`. -/
theorem linesRoundTripUnderTheirVersion : Obligations.LinesRoundTripUnderTheirVersion := by
  refine ⟨fun d i hi => ?_, fun z d i _ => lineGet_clearSectors z d i, clearSectors_roundTrip,
    fun s p line keyid ctx core d n h hv htag hk hd hidle hcmds hbeats => ?_, fun s p line keyid n h hv => ?_⟩
  · rw [testBit_zmapOf, decide_eq_true_eq]
    exact and_iff_right hi
  · have hleaf := node_writeLine_below h hv htag hk ctx core d
    refine ⟨out_writeLine_below h hv htag hk ctx core hd hidle hcmds hbeats, ?_, fun l hl hne => ?_, ?_,
      fun q hq => memSt_writeLine_below_ne h hv htag hk ctx core d hq⟩
    · rw [version_of_leaf hleaf rfl, getD_raisedMinors, if_pos rfl]
    · rw [version_of_leaf hleaf hl, getD_raisedMinors, if_neg (by omega)]
    · obtain ⟨x, hx⟩ := memSt_writeLine_below h hv htag hk ctx core d
      rw [hx]
      rfl
  · have hleaf := node_bumpLine_overflow (keyid := keyid) h hv
    refine ⟨?_, fun l hl hne => ?_⟩
    · rw [version_of_leaf hleaf rfl, getD_overflowMinors (Nat.mod_lt line (by decide)), if_pos rfl]
    · rw [version_of_leaf hleaf hl, getD_overflowMinors (Nat.mod_lt l (by decide)), if_neg (by omega)]

end Sys2Proof.Scope

namespace Sys2Proof.Scope

open Sys2Proof Sys2Proof.Machine Sys2Proof.Laws

/-! ## Acceptance at a memory station (R160, R166, R183) -/

section
variable {s u : State} {p : Nat}

theorem freeSlot_eq_some {m : MemStation} {slot : Nat} (h : m.freeSlot = some slot) : slot < 256 ∧ ∀ e ∈ m.slots, e.1 ≠ slot := by
  have hfree : m.slots.any (fun e => e.1 == slot) = false := by simpa using List.find?_some h
  exact ⟨List.mem_range.mp (List.mem_of_find?_eq_some h), fun e he => by simpa using List.any_eq_false.mp hfree e he⟩

/-- The oldest operation of its line takes the free slot, whatever epoch it carries. -/
theorem leaves_memoryOpAccept_oldest {op slot : Nat} {o : MemOp} (ha : s.alive = true) (hp : p < 72)
    (hon : s.stationOn .memory p = true) (h : (s.memSt p).waiting.find? (fun x => x.id == op) = some o)
    (hslot : (s.memSt p).freeSlot = some slot) (hfirst : ∀ x ∈ (s.memSt p).waiting, x.line = o.line → op ≤ x.id) :
    Leaves (.memoryOpAccept p op) s
      (let o' : MemOp := { o with id := (s.memSt p).nextId, marked := s.mon.marked.contains (domainOf .memory p) }
      let u := s.setMem p { s.memSt p with
        waiting := (s.memSt p).waiting.filter (fun x => x.id ≠ op)
        slots := mapPut (s.memSt p).slots slot o'
        nextId := (s.memSt p).nextId + 1 }
      if o.epoch ≠ (s.memSt p).epoch ∧ o.epoch ≠ (s.memSt p).prevEpoch then u.refuseStaleOp p slot o'
      else if u.keyServes o' then u.runStation p else u.refuseOp p slot 0x0804 o') := by
  have hid : o.id = op := by simpa using List.find?_some h
  have hoff : ¬ s.stationOn .memory p = false := by simp [hon]
  have hlater : ¬ (s.memSt p).waiting.any (fun x => x.line == o.line && decide (x.id < o.id)) = true := by
    rw [List.any_eq_true]
    rintro ⟨x, hx, hearlier⟩
    simp only [Bool.and_eq_true, beq_iff_eq, decide_eq_true_eq] at hearlier
    have := hfirst x hx hearlier.1
    omega
  refine leaves_effect rfl (decide_eq_true hp) ha ?_
  simp only [h, hslot]
  exact if_neg (not_or.mpr ⟨hoff, hlater⟩)

/-! ## Read data (R160, R169, R172) -/

variable {n : Nat} {d : Line} {bad : Bool}

theorem readBack_unknown {tag : Nat} (h : (s.memSt p).port.reads.find? (fun r => r.1 == tag) = none) : s.readBack p tag = (none, s) := by
  simp only [State.readBack, h]

theorem readData_unknown (h : findRead s p n = none) : s.readData p n d bad = s := by
  simp only [State.readData, h]

theorem readData_op {q slot : Nat} {what : Fetch} {o : MemOp} (h : findRead s p n = some (q, some slot, what))
    (ho : (s.memSt q).op slot = some o) : s.readData p n d bad =
      (let o' : MemOp := { o with
        cmds := o.cmds.filter (fun c => !(c.1 == p && c.2.1 == n))
        got := o.got ++ [⟨what, d, bad⟩] }
      if o'.cmds = [] then (State.checkNodes q slot 5 (s.setOp q slot o')).runStation q else s.setOp q slot o') := by
  simp only [State.readData, h, ho, List.isEmpty_iff]

theorem leaves_dramReadReturn_unknown {tag : Nat} (hp : p < 72)
    (h : (s.memSt p).port.reads.find? (fun r => r.1 == tag) = none) : Leaves (.dramReadReturn p tag d bad) s s :=
  leaves_unchanged (i := .dramReadReturn p tag d bad) rfl (by simp only [readBack_unknown h]) (decide_eq_true hp)

end

/-! ## Verdicts of a core's read (R160, R161, R169, R170, R398) -/

section
variable {s : State} {p slot k seq beat : Nat} {o : MemOp}

/-- A count of the station and the event it counts. -/
def countedEvent (s : State) (p : Nat) (f : Fld) (cls : EventClass) (code : Nat) (o : MemOp) : State :=
  (s.bump f p).millEvent cls code p o

theorem onlyEvents_countedEvent (s : State) (p : Nat) (f : Fld) (cls : EventClass) (code : Nat) (o : MemOp) :
    OnlyEvents s (countedEvent s p f cls code o) :=
  (onlyEvents_bump ..).trans ((onlyEvents_wr ..).trans (onlyEvents_raise ..))

theorem fld_countedEvent {f : Fld} (cls : EventClass) (code : Nat) (hp : p < 72) (hreg : f.reg = .MIL_ST_COUNT) (hhi : f.hi < 64)
    (hwidth : f.hi + 1 - f.lo = 16) : (countedEvent s p f cls code o).fld f p = saturate 16 (s.fld f p + 1) := by
  have hidx : ∀ r : Reg, r = .MIL_ST_COUNT ∨ r = .MIL_ST_LAST_FAIL → regIdxOk r p = true := by
    rintro r (rfl | rfl) <;> simp only [regIdxOk_iff, regDef] <;> omega
  have hevent : KeepsRegs (.MIL_ST_LAST_FAIL :: eventRegs) (s.bump f p) (countedEvent s p f cls code o) :=
    (keepsRegs_wr _ _ (List.mem_cons_self ..) (hidx _ (.inr rfl))).trans
      ((keepsRegs_raise _ cls code _ _ (by omega)).mono (List.subset_cons_self ..))
  rw [hevent.fld (hreg ▸ hidx _ (.inl rfl)) (by rw [hreg]; decide), bump_eq, fld_setFld_same _ _ _ _ hhi, hwidth]
  exact Nat.mod_eq_of_lt (by unfold saturate; omega)

theorem op_endOp (s : State) (p slot : Nat) : ((s.endOp p slot).memSt p).op slot = none := by
  have hnone : (mapErase (s.memSt p).slots slot).find? (fun e => e.1 == slot) = none := by
    induction (s.memSt p).slots with
    | nil => rfl
    | cons e l ih =>
      by_cases he : e.1 = slot
      · rw [mapErase, if_pos he, ih]
      · rw [mapErase, if_neg he, List.find?_cons_of_neg (by simpa using he), ih]
  simp [State.endOp, MemStation.op, hnone]

/-- The first mismatch reads the line again (R169). -/
theorem verdict_mismatch (hz : o.zero = false) (hm : s.macOk p o = false) (hr : o.reread = false) :
    s.verdict p slot o = s.rereadLine p slot { o with reread := true } := by
  rw [State.verdict, if_neg (by simp [hz]), if_neg (by simp [hm]), if_pos hr]

section
variable (ho : o.origin = .core k seq beat)
include ho

theorem verdicts_answerVerdict (s : State) (v : Verdict) (code : Nat) :
    ((s.answerVerdict o v code).cluster k).verdicts = (s.cluster k).verdicts ++ [(seq, v, code)] := by
  simp [State.answerVerdict, ho]

theorem answerVerdict_frame (s : State) (v : Verdict) (code : Nat) :
    (s.answerVerdict o v code).mems = s.mems ∧ (s.answerVerdict o v code).regs = s.regs := by
  simp [State.answerVerdict, ho]

theorem verdict_zero (hz : o.zero = true) : ((s.verdict p slot o).cluster k).verdicts =
    (s.cluster k).verdicts ++ [(seq, if o.marked then .replay else .pass, 0)] := by
  rw [State.verdict, if_pos hz]
  exact verdicts_answerVerdict ho _ _ _

variable (hz : o.zero = false)
include hz

variable (hk : o.kind = .read)
include hk

theorem verdict_match (hm : s.macOk p o = true) : s.verdict p slot o =
    ((if o.reread then countedEvent s p .MIL_ST_COUNT_REPLAY .log 0x0808 o else s).endOp p slot).answerVerdict o
      (if o.reread ∨ o.marked then .replay else .pass) 0 := by
  rw [State.verdict, if_neg (by simp [hz]), if_pos hm]
  exact if_pos ⟨hk, by rw [ho]; rfl⟩

theorem verdict_mismatch_again (hm : s.macOk p o = false) (hr : o.reread = true) : s.verdict p slot o =
    ((countedEvent s p .MIL_ST_COUNT_MAC_FAIL .alarm 0x0801 o).endOp p slot).answerVerdict o .fail 0x0801 := by
  have hfill : (match o.origin with
      | .fill _ _ => true
      | _ => false) = false := by rw [ho]
  rw [State.verdict, if_neg (by simp [hz]), if_neg (by simp [hm]), if_neg (by simp [hr])]
  refine (if_pos ⟨hk, hfill⟩).trans (if_neg ?_)
  rw [ho]
  exact Bool.false_ne_true

end

end

/-- Settles O37: acceptance and read data by the branch taken, a verdict by `verdict_match` and the two mismatches. -/
theorem memoryOperationsAreAcceptedAndJudged : Obligations.MemoryOperationsAreAcceptedAndJudged := by
  refine ⟨fun port op slot o s ha hp hon h hslot hfirst => leaves_memoryOpAccept_oldest ha hp hon h hslot hfirst,
    fun m slot h => freeSlot_eq_some h, fun port tag d bad s hp h => leaves_dramReadReturn_unknown hp h,
    fun port tag n d bad s u ha hp h => ?_, fun port slot o s ha hp hslot h hdue hc => leaves_macVerdict ha hp hslot h hdue hc,
    fun p slot k seq beat o s hp ho hk => ?_, fun port line b s ha hp h => leaves_atomicBufferIdle ha hp h⟩
  · have hreturn := leaves_dramReadReturn (d := d) (bad := bad) ha hp h
    exact ⟨fun hn => readData_unknown (d := d) (bad := bad) hn ▸ hreturn, fun q slot what o hfound hop =>
      readData_op (d := d) (bad := bad) hfound hop ▸ hreturn⟩
  · have hcount : ∀ f cls code, ((countedEvent s p f cls code o).cluster k).verdicts = (s.cluster k).verdicts :=
      fun f cls code => congrArg Cluster.verdicts (cluster_of_clusters (congrArg State.clusters (onlyEvents_countedEvent ..)) k)
    refine ⟨verdict_zero ho, fun hz hm hr => ?_, fun hz hm hr => ⟨?_, ?_⟩, fun hz hm hr => verdict_mismatch hz hm hr,
      fun hz hm hr => ⟨?_, ?_, ?_⟩⟩
    · rw [verdict_match ho hz hk hm, verdicts_answerVerdict ho]
      simp only [hr, Bool.false_eq_true, if_false, false_or]
      rfl
    · rw [verdict_match ho hz hk hm, verdicts_answerVerdict ho]
      simp only [hr, if_true, true_or]
      exact congrArg (· ++ _) (hcount ..)
    · rw [verdict_match ho hz hk hm, if_pos hr, fld_of_regs (answerVerdict_frame ho _ _ _).2]
      exact fld_countedEvent .log 0x0808 hp rfl (by decide) rfl
    · rw [verdict_mismatch_again ho hz hk hm hr, verdicts_answerVerdict ho]
      exact congrArg (· ++ _) (hcount ..)
    · rw [verdict_mismatch_again ho hz hk hm hr, State.memSt, (answerVerdict_frame ho _ _ _).1]
      exact op_endOp ..
    · rw [verdict_mismatch_again ho hz hk hm hr, fld_of_regs (answerVerdict_frame ho _ _ _).2]
      exact fld_countedEvent .alarm 0x0801 hp rfl (by decide) rfl

end Sys2Proof.Scope

namespace Sys2Proof.Scope

open Sys2Proof Sys2Proof.Machine Sys2Proof.Laws

/-! ## Scrubs (R159, R403) -/

section
variable {s t u : State}

/-- What one step of a scrub changes: stations, the manager's energy, and its total in the register file. -/
structure OnlyScrub (s t : State) : Prop where
  rest : t = { s with mems := t.mems, mon := t.mon, regs := t.regs }
  regs : KeepsRegs [.MON_ENERGY_TOTAL] s t

theorem OnlyScrub.refl (s : State) : OnlyScrub s s := ⟨rfl, KeepsRegs.refl ..⟩

theorem OnlyScrub.trans (h : OnlyScrub s t) (k : OnlyScrub t u) : OnlyScrub s u :=
  ⟨by rw [k.rest, h.rest], h.regs.trans k.regs⟩

theorem onlyScrub_modMem (s : State) (p : Nat) (f : MemStation → MemStation) : OnlyScrub s (s.modMem p f) :=
  ⟨rfl, keepsRegs_of_regs_eq _ rfl⟩

/-- What is charged to the manager goes into its energy and the total only (R403). -/
theorem onlyScrub_chargeManager (s : State) (core n : Nat) : OnlyScrub s (s.chargeSectors 8192 core n) := by
  have hcharge : ∀ pj, OnlyScrub s (s.charge 8192 pj) := fun pj => by
    obtain ⟨m, v, h⟩ : ∃ m v, s.charge 8192 pj = ({ s with mon := m } : State).wr .MON_ENERGY_TOTAL 0 v := ⟨_, _, rfl⟩
    have hmon : KeepsRegs [.MON_ENERGY_TOTAL] s { s with mon := m } := keepsRegs_of_regs_eq _ rfl
    rw [h]
    exact ⟨rfl, hmon.trans (keepsRegs_wr _ v (List.mem_singleton_self _) rfl)⟩
  unfold State.chargeSectors State.chargeWork
  split
  · exact hcharge _
  · dsimp only
    split
    · exact hcharge _
    · exact hcharge _

/-- The zeros of granule `g` go to its leaves (R159). -/
def granuleScrubbed (s : State) (x : Scrub) (g : Nat) : State :=
  forEach (List.range 256) s (fun i v =>
    match x.block g i with
    | some (p, leaf) => (v.scrubLeaves p leaf leaf).chargeSectors 8192 0x3FF 256
    | none => v)

theorem onlyScrub_granuleScrubbed (s : State) (x : Scrub) (g : Nat) : OnlyScrub s (granuleScrubbed s x g) := by
  refine forEach_rel OnlyScrub OnlyScrub.refl (fun _ _ _ => OnlyScrub.trans) _ (fun i v => ?_) _ s
  split
  · exact (onlyScrub_modMem ..).trans (onlyScrub_chargeManager ..)
  · exact OnlyScrub.refl v

/-- The scrub list without granule `g`. -/
def withoutGranule (g : Nat) (l : List Scrub) : List Scrub :=
  l.flatMap (fun (y : Scrub) =>
    if y.first ≤ g ∧ g ≤ y.last then
      (if y.first < g then [{ y with last := g - 1 }] else []) ++ (if g < y.last then [{ y with first := g + 1 }] else [])
    else [y])

theorem mem_withoutGranule (g : Nat) (l : List Scrub) (h : Nat) : (∃ y ∈ withoutGranule g l, y.first ≤ h ∧ h ≤ y.last) ↔
    h ≠ g ∧ ∃ y ∈ l, y.first ≤ h ∧ h ≤ y.last := by
  have hone : ∀ y : Scrub, (∃ z ∈ (if y.first ≤ g ∧ g ≤ y.last then
      (if y.first < g then [{ y with last := g - 1 }] else []) ++ (if g < y.last then [{ y with first := g + 1 }] else [])
    else [y] : List Scrub), z.first ≤ h ∧ h ≤ z.last) ↔ h ≠ g ∧ y.first ≤ h ∧ h ≤ y.last := fun y => by
    split
    · by_cases hlow : y.first < g <;> by_cases hhigh : g < y.last <;> simp [hlow, hhigh] <;> omega
    · simp
      omega
  constructor
  · rintro ⟨z, hz, hin⟩
    obtain ⟨y, hy, hzy⟩ := List.mem_flatMap.mp hz
    obtain ⟨hne, hyh⟩ := (hone y).mp ⟨z, hzy, hin⟩
    exact ⟨hne, y, hy, hyh⟩
  · rintro ⟨hne, y, hy, hyh⟩
    obtain ⟨z, hzy, hin⟩ := (hone y).mpr ⟨hne, hyh⟩
    exact ⟨z, List.mem_flatMap.mpr ⟨y, hy, hzy⟩, hin⟩

/-- Where no set waits for a scrub, none is released (R84). -/
theorem releaseHeld_none (h : ∀ x ∈ s.moot.slots, x.state ≠ .pendingScrub) : s.releaseHeld = s := by
  have hslot : ∀ i, (s.slot i).state ≠ .pendingScrub := fun i => by
    by_cases hi : i < s.moot.slots.length
    · rw [State.slot, List.getD_eq_getElem _ _ hi]
      exact h _ (List.getElem_mem hi)
    · rw [State.slot, List.getD_eq_default _ _ (by omega)]
      decide
  unfold State.releaseHeld
  induction List.range 4 with
  | nil => rfl
  | cons i l ih => rw [forEach_cons, if_neg (fun hp => hslot i hp.1), ih]

/-- Granule `g` leaves the scrub list, and its zeros go out. -/
def granuleTaken (u : State) (g : Nat) : State :=
  State.emit { u with comp := { u.comp with scrubbing := withoutGranule g u.comp.scrubbing } } (.scrub g)

theorem granuleTaken_frame (g : Nat) (h : OnlyScrub s u) : (granuleTaken u g).out = s.out ++ [.scrub g] ∧
    (granuleTaken u g).moot = s.moot ∧ (granuleTaken u g).comp.scrubbing = withoutGranule g s.comp.scrubbing ∧
    KeepsRegs [.MON_ENERGY_TOTAL] s (granuleTaken u g) :=
  ⟨(congrArg (fun v : State => v.out ++ [.scrub g]) h.rest :), (congrArg State.moot h.rest :),
    (congrArg (fun v : State => withoutGranule g v.comp.scrubbing) h.rest :), h.regs.trans (keepsRegs_of_regs_eq _ rfl)⟩

/-- What the end of a granule's scrub leaves while no set waits for it. -/
def scrubEnded (s : State) (x : Scrub) (g : Nat) : State := granuleTaken (granuleScrubbed s x g) g

theorem scrubEnded_frame (s : State) (x : Scrub) (g : Nat) : (scrubEnded s x g).out = s.out ++ [.scrub g] ∧
    (scrubEnded s x g).moot = s.moot ∧ (scrubEnded s x g).comp.scrubbing = withoutGranule g s.comp.scrubbing ∧
    KeepsRegs [.MON_ENERGY_TOTAL] s (scrubEnded s x g) :=
  granuleTaken_frame g (onlyScrub_granuleScrubbed s x g)

theorem leaves_scrubDone_unheld {x : Scrub} {g : Nat} (ha : s.alive = true) (hg : g < 262144)
    (h : s.comp.scrubbing.find? (fun y => decide (y.first ≤ g) && decide (g ≤ y.last)) = some x)
    (hn : ∀ y ∈ s.moot.slots, y.state ≠ .pendingScrub) : Leaves (.scrubDone g) s (scrubEnded s x g) := by
  have hmoot := (scrubEnded_frame s x g).2.1
  have hdone : Leaves (.scrubDone g) s (scrubEnded s x g).releaseHeld := leaves_scrubDone ha hg h
  rwa [releaseHeld_none (hmoot ▸ hn)] at hdone

end

/-! ## The pound (R177) -/

section
variable {s : State} {path : Path} {port level line : Nat}

theorem leaves_poundClear_ignored (hr : s.isReady = true) (hp : pathOk path = true) (hport : port < 128) (hlevel : level < 8)
    (hline : line < 2 ^ 27) (h : s.fld .CTR_POUND_STATUS_BUSY = 1 ∨ 6 ≤ level) : Leaves (.poundClear path port level line) s s :=
  leaves_taken rfl (and_ok (and_ok (and_ok hp (decide_eq_true hport)) (decide_eq_true hlevel)) (decide_eq_true hline)) hr hp
    (if_pos h)

theorem leaves_poundClear_refused (hr : s.isReady = true) (hp : pathOk path = true) (hport : port < 128) (hlevel : level < 6)
    (hline : line < 2 ^ 27) (hb : s.fld .CTR_POUND_STATUS_BUSY = 0)
    (h : 71 < port ∨ 2 ^ 26 ≤ line ∨ ∃ o ∈ s.poundOwners port level line, o.tag ≠ 0 ∧ o.tag ≠ 0xFF) :
    Leaves (.poundClear path port level line) s
      (((s.setFld .CTR_POUND_STATUS_REASON 0 0x0905).err 0x0905 0 (word line)).setCause 0x09 0) := by
  have hidle : ¬ (s.fld .CTR_POUND_STATUS_BUSY = 1 ∨ 6 ≤ level) := by omega
  have hbad : 71 < port ∨ 2 ^ 26 ≤ line ∨
      (s.poundOwners port level line).any (fun o => decide (o.tag ≠ 0 ∧ o.tag ≠ 0xFF)) = true := by
    simpa only [List.any_eq_true, decide_eq_true_eq] using h
  refine leaves_taken rfl (and_ok (and_ok (and_ok hp (decide_eq_true hport)) (decide_eq_true (by omega))) (decide_eq_true hline))
    hr hp ?_
  rw [if_neg hidle]
  exact if_pos hbad

theorem clearPound_frame (s : State) (port level line : Nat) :
    (s.clearPound port level line).regs = s.regs ∧ (s.clearPound port level line).out = s.out := by
  unfold State.clearPound
  split
  · exact ⟨rfl, rfl⟩
  · dsimp only
    split <;> exact ⟨rfl, rfl⟩

/-- The line or subtree that CTR_POUND_CLEAR names is cleared, and its zeros go out. -/
def poundZeroed (s : State) : State :=
  (s.clearPound (s.fld .CTR_POUND_CLEAR_PORT) (s.fld .CTR_POUND_CLEAR_LEVEL) (s.fld .CTR_POUND_CLEAR_LINE)).emit
    (.scrubLines (s.fld .CTR_POUND_CLEAR_PORT) (s.fld .CTR_POUND_CLEAR_LEVEL) (s.fld .CTR_POUND_CLEAR_LINE))

theorem poundZeroed_frame (s : State) : (poundZeroed s).regs = s.regs ∧ (poundZeroed s).out = s.out ++
    [.scrubLines (s.fld .CTR_POUND_CLEAR_PORT) (s.fld .CTR_POUND_CLEAR_LEVEL) (s.fld .CTR_POUND_CLEAR_LINE)] := by
  obtain ⟨hregs, hout⟩ := clearPound_frame s (s.fld .CTR_POUND_CLEAR_PORT) (s.fld .CTR_POUND_CLEAR_LEVEL)
    (s.fld .CTR_POUND_CLEAR_LINE)
  exact ⟨hregs, congrArg (· ++ _) hout⟩

/-- CTR_POUND_STATUS as the end of a clear leaves it, and the cause. -/
def poundCounted (v : State) : State :=
  (((v.setFld .CTR_POUND_STATUS_DONE 0 (v.fld .CTR_POUND_STATUS_DONE + 1)).setFld .CTR_POUND_STATUS_BUSY 0 0).setFld
    .CTR_POUND_STATUS_REASON 0 0).setCause 0x09 0

theorem fld_poundCounted (v : State) : (poundCounted v).fld .CTR_POUND_STATUS_BUSY = 0 ∧
    (poundCounted v).fld .CTR_POUND_STATUS_REASON = 0 ∧
    (poundCounted v).fld .CTR_POUND_STATUS_DONE = (v.fld .CTR_POUND_STATUS_DONE + 1) % 2 ^ 32 := by
  have hcause : ∀ (w : State) (f : Fld), f.reg = .CTR_POUND_STATUS → (w.setCause 0x09 0).fld f = w.fld f := fun w f hf =>
    (keepsRegs_setCause w 0 (by decide)).fld (by rw [hf]; rfl) (by rw [hf]; decide)
  refine ⟨?_, ?_, ?_⟩
  · rw [poundCounted, hcause _ _ rfl,
      fld_setFld_other _ .CTR_POUND_STATUS_REASON .CTR_POUND_STATUS_BUSY _ _ rfl (by decide), fld_setFld_same _ _ _ _ (by decide)]
    rfl
  · rw [poundCounted, hcause _ _ rfl, fld_setFld_same _ _ _ _ (by decide)]
    rfl
  · rw [poundCounted, hcause _ _ rfl,
      fld_setFld_other _ .CTR_POUND_STATUS_REASON .CTR_POUND_STATUS_DONE _ _ rfl (by decide),
      fld_setFld_other _ .CTR_POUND_STATUS_BUSY .CTR_POUND_STATUS_DONE _ _ rfl (by decide), fld_setFld_same _ _ _ _ (by decide)]
    rfl

end

/-! ## Raw access (R180, R181, R369) -/

section
variable {s : State} {jtag : Bool} {pa p l : Nat}

theorem alive_of_rawAllowed (h : s.rawAllowed jtag = true) : s.alive = true := (Bool.and_eq_true_iff.mp h).1

theorem rawOp_read (h : s.place pa = some (p, l)) : s.rawOp jtag pa .rawRead 0 0 =
    s.present p (MemOp.fresh s.epoch (.raw jtag pa) 0x3FF (s.ownerOf pa).tag 8192 0 l (pa / 128) .rawRead 0 0) := by
  simp only [State.rawOp, h]
  exact if_neg (by decide)

theorem rawOp_write (d : Line) (be : ByteMask) (h : s.place pa = some (p, l)) : s.rawOp jtag pa .write d be =
    s.filterWrite p (MemOp.fresh s.epoch (.raw jtag pa) 0x3FF (s.ownerOf pa).tag 8192 0 l (pa / 128) .write d be) none := by
  simp only [State.rawOp, h, if_true]

section
variable (hpa : pa < 2 ^ 56)
include hpa

theorem leaves_raw_disallowed (d : Line) (be : ByteMask) (h : s.rawAllowed jtag = false) :
    Leaves (.rawRead jtag pa) s s ∧ Leaves (.rawWrite jtag pa d be) s s :=
  ⟨leaves_unchanged (i := .rawRead jtag pa) rfl (if_pos h) (decide_eq_true hpa),
    leaves_unchanged (i := .rawWrite jtag pa d be) rfl (if_pos h) (decide_eq_true hpa)⟩

variable (h : s.rawAllowed jtag = true)
include h

theorem leaves_raw_blocked (d : Line) (be : ByteMask) (hb : s.rawBlocked pa = true) :
    Leaves (.rawRead jtag pa) s (s.rawRefuse jtag pa) ∧ Leaves (.rawWrite jtag pa d be) s (s.rawRefuse jtag pa) := by
  have hall : ¬ s.rawAllowed jtag = false := by simp [h]
  exact ⟨leaves_effect rfl (decide_eq_true hpa) (alive_of_rawAllowed h) ((if_neg hall).trans (if_pos hb)),
    leaves_effect rfl (decide_eq_true hpa) (alive_of_rawAllowed h) ((if_neg hall).trans (if_pos hb))⟩

/-- In a slice's granule a raw master reads what a view covers, and writes nothing (R180, R181). -/
theorem leaves_raw_owned (d : Line) (be : ByteMask) (hb : s.rawBlocked pa = false) (h0 : (s.ownerOf pa).tag ≠ 0)
    (hff : (s.ownerOf pa).tag ≠ 0xFF) :
    Leaves (.rawRead jtag pa) s (if s.viewCovers pa then s.rawOp jtag pa .rawRead 0 0 else s.rawRefuse jtag pa) ∧
    Leaves (.rawWrite jtag pa d be) s (s.rawRefuse jtag pa) := by
  have hall : ¬ s.rawAllowed jtag = false := by simp [h]
  have hopen : ¬ s.rawBlocked pa = true := by simp [hb]
  constructor
  · refine leaves_effect rfl (decide_eq_true hpa) (alive_of_rawAllowed h) ?_
    rw [if_neg hall, if_neg hopen]
    simp only [h0, hff, false_or]
  · refine leaves_effect rfl (decide_eq_true hpa) (alive_of_rawAllowed h) ?_
    rw [if_neg hall, if_neg hopen]
    exact if_neg (not_or.mpr ⟨h0, hff⟩)

end

end

/-- Settles O39: the scrub list by `mem_withoutGranule`, the pound and raw access by the branch taken. -/
theorem scrubsPoundAndRawAccess : Obligations.ScrubsPoundAndRawAccess := by
  refine ⟨fun g s ha hg hx hn => ?_,
    fun path port level line s hr hp hport hlevel hline h => leaves_poundClear_ignored hr hp hport hlevel hline h,
    fun path port level line s hr hp hport hlevel hline hb h => leaves_poundClear_refused hr hp hport hlevel hline hb h,
    fun path port level line s hr hp hport hlevel hline hb ho => leaves_poundClear hr hp hport hlevel hline hb ho,
    fun s ha hb => ?_, fun jtag pa d be s hpa h => leaves_raw_disallowed hpa d be h,
    fun jtag pa d be s hpa h hb => leaves_raw_blocked hpa h d be hb,
    fun jtag pa p l d be s hpa h hb hl ho => ?_, fun jtag pa p l d be s hpa h hb hl h0 hff => ?_⟩
  · obtain ⟨x, hfind⟩ : ∃ x, s.comp.scrubbing.find? (fun y => decide (y.first ≤ g) && decide (g ≤ y.last)) = some x := by
      rw [← Option.isSome_iff_exists, List.find?_isSome]
      simpa using hx
    refine answers_of_leaves (leaves_scrubDone_unheld ha hg hfind hn) fun t ht => ?_
    obtain ⟨hout, hmoot, hscrub, hregs⟩ := scrubEnded_frame s x g
    refine ⟨(congrArg State.out ht :).trans hout, (congrArg State.moot ht :).trans hmoot, fun r i hi hne => ?_, fun k => ?_⟩
    · rw [ht.rd]
      exact hregs.rd hi (by simpa using hne)
    · rw [(congrArg (fun v => v.comp.scrubbing) ht :).trans hscrub]
      exact mem_withoutGranule g _ k
  · refine answers_of_leaves (leaves_poundClearDone ha hb) fun t ht => ?_
    change LeftBy (poundCounted (poundZeroed s)) t at ht
    obtain ⟨hregs, hout⟩ := poundZeroed_frame s
    obtain ⟨hbusy, hreason, hdone⟩ := fld_poundCounted (poundZeroed s)
    rw [fld_of_regs hregs] at hdone
    refine ⟨(ht.fld ..).trans hbusy, (ht.fld ..).trans hreason, (ht.fld ..).trans hdone, ?_, (congrArg State.out ht :).trans hout⟩
    rw [ht.rd]
    exact bitOf_setCause _ _ (by decide)
  · exact ⟨rawOp_read hl ▸ leaves_rawRead (alive_of_rawAllowed h) hpa h hb ho,
      rawOp_write d be hl ▸ leaves_rawWrite (alive_of_rawAllowed h) hpa h hb ho d be⟩
  · exact rawOp_read (jtag := jtag) hl ▸ leaves_raw_owned hpa h d be hb h0 hff

end Sys2Proof.Scope

namespace Sys2Proof.Scope

open Sys2Proof Sys2Proof.Machine Sys2Proof.Laws

/-! ## Rotating pointers (R70, R223, R282) -/

/-- The least element of a list, as the rotating pointers find it. -/
def leastOf (l : List Nat) : Option Nat := l.foldl (fun (m : Option Nat) x =>
  match m with
  | none => some x
  | some y => some (min x y)) none

theorem rotate_eq (last : Nat) (l : List Nat) : rotate last l = match leastOf (l.filter (fun x => decide (last < x))) with
    | some x => some x
    | none => leastOf l := rfl

theorem leastOf_eq_min? (l : List Nat) : leastOf l = l.min? := by
  have hfold : ∀ (l : List Nat) (a : Nat), l.foldl (fun (m : Option Nat) x =>
      match m with
      | none => some x
      | some y => some (min x y)) (some a) = some (l.foldl min a) := fun l => by
    induction l with
    | nil => exact fun a => rfl
    | cons x l ih => exact fun a => by rw [List.foldl_cons, ih, List.foldl_cons, min_comm]
  cases l with
  | nil => rfl
  | cons a l => exact (hfold l a).trans List.min?_cons'.symm

/-- The rotating pointer takes the least candidate above the last, or the least of all. -/
theorem rotate_eq_some (last x : Nat) (l : List Nat) : rotate last l = some x ↔
    x ∈ l ∧ ((last < x ∧ ∀ y ∈ l, last < y → x ≤ y) ∨ (x ≤ last ∧ ∀ y ∈ l, y ≤ last ∧ x ≤ y)) := by
  rw [rotate_eq, leastOf_eq_min?, leastOf_eq_min?]
  cases habove : (l.filter (fun x => decide (last < x))).min? with
  | none =>
    have hle : ∀ y ∈ l, y ≤ last := by simpa using List.min?_eq_none_iff.mp habove
    rw [List.min?_eq_some_iff]
    constructor
    · exact fun ⟨hx, hleast⟩ => ⟨hx, .inr ⟨hle x hx, fun y hy => ⟨hle y hy, hleast y hy⟩⟩⟩
    · rintro ⟨hx, ⟨hlast, -⟩ | ⟨-, hall⟩⟩
      · have := hle x hx
        omega
      · exact ⟨hx, fun y hy => (hall y hy).2⟩
  | some z =>
    obtain ⟨hz, hleast⟩ := List.min?_eq_some_iff.mp habove
    simp only [List.mem_filter, decide_eq_true_eq, and_imp] at hz hleast
    rw [Option.some.injEq]
    constructor
    · rintro rfl
      exact ⟨hz.1, .inl ⟨hz.2, hleast⟩⟩
    · rintro ⟨hx, ⟨hlast, hx'⟩ | ⟨-, hall⟩⟩
      · exact le_antisymm (hleast x hx hlast) (hx' z hz.1 hz.2)
      · have := (hall z hz.1).1
        omega

/-! ## A tile's end (R162, R213, R219–R221, R294) -/

section
variable {s : State} {core : Nat} {t : Tile}

theorem leaves_tileEnd_copying {ns : Nat} (hc : core < 612) (h : s.runningTile core = some t) (ha : s.alive = true)
    (hns : ns ≤ 4 * declNs t.decl) (hcopy : s.copying t.queue = true) : Leaves (.tileEnd core ns) s s := by
  refine leaves_effect rfl (decide_eq_true hc) ha ?_
  simp only [h]
  rw [if_neg (by omega), if_pos hcopy]

theorem leaves_tileEnd_late {ns : Nat} (hc : core < 612) (h : s.runningTile core = some t) (ha : s.alive = true)
    (hns : 4 * declNs t.decl < ns) :
    Leaves (.tileEnd core ns) s ((s.advanceTo (t.startAt + 4 * declNs t.decl)).killTile core).pumpEngines := by
  refine leaves_effect rfl (decide_eq_true hc) ha ?_
  simp only [h]
  exact if_pos hns

theorem leaves_tileKilledAtDecl_spared (hc : core < 612) (h : s.runningTile core = some t) (ha : s.alive = true)
    (hctx : s.ctxState t.ctx ≠ 4) : Leaves (.tileKilledAtDecl core) s s :=
  leaves_effect rfl (decide_eq_true hc) ha (by
    simp only [h]
    exact if_neg hctx)

/-- A tile whose core has a token outstanding does not commit (R162). -/
theorem tryCommit_waits (h : ∃ x ∈ (s.cluster (s.stationOf core)).tokens, x.core = core ∧ x.txn < 4096) : s.tryCommit core = s := by
  have htoken : (s.cluster (s.stationOf core)).tokens.any (fun x => x.ofTile core) = true := by
    simpa [Token.ofTile] using h
  rw [State.tryCommit]
  split
  · rfl
  · simp [htoken]

theorem endTile_waits (h : ∃ x ∈ (s.cluster (s.stationOf core)).tokens, x.core = core ∧ x.txn < 4096) :
    s.endTile core = s.modTile core (fun t => { t with ended := true, ranNs := s.clock.gtb - t.startAt }) :=
  tryCommit_waits h

/-- A busy, departing or failed core chooses no tile (R60, R213, R233). -/
theorem schedule_none (h : (∃ t, s.tileOf core = some t) ∨ s.coreDeparting core = true ∨ s.coreDown core = true) :
    s.schedule core = s := by
  refine if_pos ?_
  rw [Bool.or_eq_true, Bool.or_eq_true, or_assoc]
  refine h.imp_left fun ⟨t, ht⟩ => ?_
  obtain ⟨e, he, -⟩ := Option.map_eq_some_iff.mp ht
  exact List.any_eq_true.mpr ⟨e, List.mem_of_find?_eq_some he, by simpa using List.find?_some he⟩

theorem candidates_serve {slot : Nat} (h : slot ∈ s.candidates core) : ∃ r : Resident, (slot, r) ∈ s.sched.residents ∧
    cfgCoreTag s.regs core = r.slice ∧ r.state ≠ .preloading ∧ r.state ≠ .suspended ∧ r.leaving = false ∧
    s.fld .TEN_SLICE_STATE_STATE r.slice ≤ 1 := by
  obtain ⟨⟨i, r⟩, he, rfl⟩ := List.mem_map.mp h
  obtain ⟨hmem, hok⟩ := List.mem_filter.mp he
  simp only [Bool.and_eq_true, decide_eq_true_eq, beq_iff_eq, Bool.not_eq_true'] at hok
  obtain ⟨⟨⟨⟨⟨hloaded, hserves⟩, hstays⟩, hcore⟩, hslice⟩, -⟩ := hok
  exact ⟨r, hmem, hcore, hloaded, hserves, hstays, hslice⟩

end

/-! ## A preload's end (R228, R229) -/

section
variable {s : State} {slot : Nat} {r : Resident}

theorem leaves_preloadDone_waits (ha : s.alive = true) (hs : slot < 48)
    (h : s.sched.residents.find? (fun e => e.1 == slot) = some (slot, r)) (ho : s.preloadOver r = false) :
    Leaves (.preloadDone slot) s s :=
  leaves_effect rfl (decide_eq_true hs) ha (by
    simp only [h]
    exact if_neg (by simp [ho]))

theorem endPreload_unfailed (h : ∀ p ∈ s.sched.preloads, p.ctx = r.ctx → p.failed = none) :
    s.endPreload r = if r.leaving then (s.dropPreloads r.ctx).leaveStep r.ctx else (s.dropPreloads r.ctx).residentReady r.ctx := by
  have hnone : s.sched.preloads.findSome? (fun p => if p.ctx = r.ctx then p.failed.map (fun x => (p, x)) else none) = none := by
    refine List.findSome?_eq_none_iff.mpr fun p hp => ?_
    split
    · next hctx => rw [h p hp hctx, Option.map_none]
    · rfl
  simp only [State.endPreload, hnone]

/-! ## A share that is zeroed (R229, R235) -/

/-- Dropping preloads changes cluster stations and the preloads. -/
theorem dropPreloads_frame (s : State) (c : Nat) :
    (s.dropPreloads c).sched = { s.sched with preloads := s.sched.preloads.filter (fun p => p.ctx ≠ c) } ∧
      (s.dropPreloads c).obj = s.obj := by
  have hkeeps : ∀ v : State, v = { s with clusters := v.clusters } →
      ({ v.sched with preloads := v.sched.preloads.filter (fun p => p.ctx ≠ c) } : Sched) =
        { s.sched with preloads := s.sched.preloads.filter (fun p => p.ctx ≠ c) } ∧ v.obj = s.obj := fun v hv => by
    rw [hv]
    exact ⟨rfl, rfl⟩
  refine hkeeps _ (forEach_rel (fun v w : State => w = { v with clusters := w.clusters }) (fun _ => rfl) (fun a b c h k => ?_) _
    (fun p v => ?_) _ s)
  · rw [k, h]
  · split <;> rfl

theorem residents_leaveDone (s : State) (c : Nat) :
    (s.leaveDone c).sched.residents = s.sched.residents.filter (fun e => e.2.ctx ≠ c) := by
  have hresidents : (s.dropPreloads c).sched.residents.filter (fun e => e.2.ctx ≠ c) =
      s.sched.residents.filter (fun e => e.2.ctx ≠ c) :=
    congrArg (fun x : Sched => x.residents.filter (fun e => e.2.ctx ≠ c)) (dropPreloads_frame s c).1
  unfold State.leaveDone
  dsimp only
  split <;> exact hresidents

theorem ctxState_of_contexts {u : State} (h : u.obj.contexts = s.obj.contexts) (c : Nat) : u.ctxState c = s.ctxState c :=
  congrArg (getBits 63 61) (ctxWord_of_contexts h c 0)

theorem ctxState_setCtxState_ne (s : State) {c x : Nat} (v : Nat) (h : x ≠ c) : (s.setCtxState c v).ctxState x = s.ctxState x :=
  congrArg (getBits 63 61) (ctxWord_setCtxWord_ne s _ (by omega))

/-- A context that has left is not RESIDENT; no other changes its state (R229). -/
theorem ctxState_leaveDone (s : State) (c : Nat) :
    (s.leaveDone c).ctxState c ≠ 3 ∧ ∀ x, x ≠ c → (s.leaveDone c).ctxState x = s.ctxState x := by
  have hctx : ∀ (v : Sched) x, ({ s.dropPreloads c with sched := v } : State).ctxState x = s.ctxState x := fun v x =>
    ctxState_of_contexts (congrArg Obj.contexts (dropPreloads_frame s c).2) x
  unfold State.leaveDone
  dsimp only
  split
  · refine ⟨?_, fun x hx => ?_⟩
    · rw [ctxState_setCtxState]
      decide
    · exact (ctxState_setCtxState_ne _ 2 hx).trans (hctx _ x)
  · next hst => exact ⟨hst, fun x _ => hctx _ x⟩

end

/-- Settles O41: ends and kills by the branch taken, the pointer by `rotate_eq_some`, residency by what `leaveDone` leaves. -/
theorem tilesEndAndAreKilledByTheirDeclaredTime : Obligations.TilesEndAndAreKilledByTheirDeclaredTime := by
  refine ⟨fun core ns t s ha hc h hns => ⟨leaves_tileEnd ha hc h hns, leaves_tileEnd_copying hc h ha hns⟩,
    fun core ns t s ha hc h hns => leaves_tileEnd_late hc h ha hns, fun core t s ha hc h => leaves_tileWatchdog ha hc h,
    fun core t s ha hc h => ?_, fun s core t _ htoken => endTile_waits htoken, rotate_eq_some, fun s core h => schedule_none h,
    fun s core slot h => candidates_serve h,
    fun slot r s ha hs h hst => ⟨leaves_preloadDone ha hs h hst, leaves_preloadDone_waits ha hs h⟩,
    fun s r h => ⟨fun hl => ?_, fun hl => ?_⟩, fun s r p out h => if_pos h, fun slot r s ha hs h hz => ?_⟩
  · split
    · next hctx => exact leaves_tileKilledAtDecl ha hc h hctx
    · next hctx => exact leaves_tileKilledAtDecl_spared hc h ha hctx
  · rw [endPreload_unfailed h, if_neg (by simp [hl])]
  · rw [endPreload_unfailed h, if_pos hl]
  · refine answers_of_leaves (leaves_shareZeroDone ha hs h hz) fun u hu => ?_
    have hctx : ∀ c, u.ctxState c = (s.leaveDone r.ctx).ctxState c := fun c =>
      ctxState_of_contexts (congrArg (fun v => v.obj.contexts) hu :) c
    obtain ⟨hleft, hothers⟩ := ctxState_leaveDone s r.ctx
    refine ⟨(hctx _).trans_ne hleft, fun e => ?_, fun c hne => (hctx c).trans (hothers c hne)⟩
    rw [(congrArg (fun v => v.sched.residents) hu :).trans (residents_leaveDone s r.ctx), List.mem_filter, decide_eq_true_eq]

end Sys2Proof.Scope

namespace Sys2Proof.Scope

open Sys2Proof Sys2Proof.Machine Sys2Proof.Laws

/-! ## The plan of a dispatch (R191, R192, R194) -/

section
variable {pool : Route → Bool} {fill : List (Nat × Nat)} {cap : Nat → Nat} {routes : List Route}

/-- The routes of each expert that `pool` selects fill its slots 0, 1, 2 in order; `fill` counts them, `cap` bounds them. -/
def PoolFits (pool : Route → Bool) (fill : List (Nat × Nat)) (cap : Nat → Nat) (routes : List Route) : Prop :=
  ∀ e, (routes.filter (fun r => r.expert == e && pool r)).map Route.slot = List.range (mapGet 0 fill e) ∧
    mapGet 0 fill e ≤ cap e

/-- A route placed in its expert's next slot, below the bound. -/
theorem PoolFits.place {r : Route} (h : PoolFits pool fill cap routes) (hpool : pool r = true)
    (hslot : r.slot = mapGet 0 fill r.expert) (hcap : r.slot < cap r.expert) :
    PoolFits pool (mapPut fill r.expert (r.slot + 1)) cap (routes ++ [r]) := by
  intro e
  obtain ⟨hslots, hbound⟩ := h e
  rw [List.filter_append, List.map_append, hslots]
  by_cases he : r.expert = e
  · subst he
    simpa [hpool, List.range_succ, ← hslot] using hcap
  · simp [he, mapGet_mapPut_ne _ _ _ (Ne.symm he), hbound]

/-- A route of another pool. -/
theorem PoolFits.append {r : Route} (h : PoolFits pool fill cap routes) (hpool : pool r = false) :
    PoolFits pool fill cap (routes ++ [r]) := by
  intro e
  rw [List.filter_append, List.map_append]
  simpa [hpool] using h e

theorem PoolFits.count (h : PoolFits pool fill cap routes) (e : Nat) :
    (routes.filter (fun r => r.expert == e && pool r)).length = mapGet 0 fill e := by
  have hlen := congrArg List.length (h e).1
  rwa [List.length_map, List.length_range] at hlen

end

section
variable {ws : List Word} {routing : List (List Word)} {experts : List ExpertWords} {p u : Plan} {t r : Nat}

/-- A plan as it grows: what it has placed stands in the experts' capacity and R_max, and what it has put off is an entry of
ranks 0 to TOPK − 1. -/
structure PlanFits (ws : List Word) (experts : List ExpertWords) (p : Plan) : Prop where
  limit : p.routes.length ≤ rMax ws
  inputs : PoolFits (fun x => x.kind != 1) p.fill (fun e => eCap (experts.getD e [])) p.routes
  spills : PoolFits (fun x => x.kind == 1) p.spill (fun e => eSpillCap (experts.getD e [])) p.routes
  entries : ∀ x ∈ p.routes, x.token < dTokens ws ∧ x.rank < dTopk ws ∧ (dPolicy ws ≠ 1 → x.kind ≠ 1)
  putOff : ∀ x ∈ p.overflowed, x.1 < dTokens ws ∧ x.2 < dTopk ws

/-- What becomes of entry `r` of token `t` once it is decided: it is dropped, placed in an input slot, or spilled. -/
inductive Decided (ws : List Word) (experts : List ExpertWords) (p : Plan) (t r : Nat) : Plan → Prop
  | drop : Decided ws experts p t r p.drop
  | place (e w kind : Nat) (hkind : kind ≠ 1) (hlimit : p.routes.length < rMax ws)
      (hcap : mapGet 0 p.fill e < eCap (experts.getD e [])) : Decided ws experts p t r (p.place t r e w kind)
  | spill (e w : Nat) (hpolicy : dPolicy ws = 1) (hlimit : p.routes.length < rMax ws)
      (hcap : mapGet 0 p.spill e < eSpillCap (experts.getD e [])) : Decided ws experts p t r (p.placeSpill t r e w)

/-- An entry is decided at once, or put off to the end of the plan (R194). -/
theorem planEntry_decided (ws : List Word) (routing : List (List Word)) (experts : List ExpertWords) (r t : Nat) (p : Plan) :
    Decided ws experts p t r (planEntry ws routing experts r t p) ∨
      planEntry ws routing experts r t p = { p with overflowed := p.overflowed ++ [(t, r)] } := by
  unfold planEntry
  dsimp only
  split
  · exact .inl .drop
  split
  · exact .inl .drop
  next hlimit =>
  have hroom := Nat.lt_of_not_le hlimit
  split
  · next hcap => exact .inl (.place _ _ 0 (by decide) hroom hcap)
  split
  · next hspill => exact .inl (.spill _ _ hspill.1 hroom hspill.2)
  split
  · exact .inr rfl
  · exact .inl .drop

/-- An entry put off is rerouted to a usable alternate, or dropped (R194). -/
theorem planOver_decided (ws : List Word) (routing : List (List Word)) (experts : List ExpertWords) (p : Plan) (x : Nat × Nat) :
    Decided ws experts p x.1 x.2 (planOver ws routing experts p x) := by
  unfold planOver
  dsimp only
  split
  · next a ha =>
    have husable := List.find?_some ha
    simp only [altUsable, Bool.and_eq_true, decide_eq_true_eq] at husable
    obtain ⟨⟨-, hcap⟩, hlimit⟩ := husable
    exact .place _ _ 2 (by decide) hlimit hcap
  · exact .drop

theorem PlanFits.decided (h : PlanFits ws experts p) (ht : t < dTokens ws) (hr : r < dTopk ws) (hd : Decided ws experts p t r u) :
    PlanFits ws experts u := by
  have happend : ∀ x : Route, x.token = t → x.rank = r → (dPolicy ws ≠ 1 → x.kind ≠ 1) → ∀ y ∈ p.routes ++ [x],
      y.token < dTokens ws ∧ y.rank < dTopk ws ∧ (dPolicy ws ≠ 1 → y.kind ≠ 1) := by
    rintro x rfl rfl hx y hy
    rcases List.mem_append.mp hy with hy | hy
    · exact h.entries y hy
    · exact List.mem_singleton.mp hy ▸ ⟨ht, hr, hx⟩
  have hlen : ∀ x : Route, p.routes.length < rMax ws → (p.routes ++ [x]).length ≤ rMax ws := fun x hlt => by
    rwa [List.length_append]
  cases hd with
  | drop => exact ⟨h.limit, h.inputs, h.spills, h.entries, h.putOff⟩
  | place e w kind hkind hlimit hcap =>
    exact ⟨hlen _ hlimit, h.inputs.place (bne_iff_ne.mpr hkind) rfl hcap, h.spills.append (beq_eq_false_iff_ne.mpr hkind),
      happend _ rfl rfl (fun _ => hkind), h.putOff⟩
  | spill e w hpolicy hlimit hcap =>
    exact ⟨hlen _ hlimit, h.inputs.append rfl, h.spills.place rfl rfl hcap, happend _ rfl rfl (absurd hpolicy), h.putOff⟩

theorem PlanFits.planEntry (h : PlanFits ws experts p) (ht : t < dTokens ws) (hr : r < dTopk ws) :
    PlanFits ws experts (planEntry ws routing experts r t p) := by
  rcases planEntry_decided ws routing experts r t p with hd | hoff
  · exact h.decided ht hr hd
  · rw [hoff]
    refine ⟨h.limit, h.inputs, h.spills, h.entries, fun x hx => ?_⟩
    rcases List.mem_append.mp hx with hx | hx
    · exact h.putOff x hx
    · exact List.mem_singleton.mp hx ▸ ⟨ht, hr⟩

/-- Every entry of ranks 0 to TOPK − 1 is in the plan, dropped or put off, once. -/
theorem Decided.counts (h : Decided ws experts p t r u) :
    u.routes.length + u.dropped = p.routes.length + p.dropped + 1 ∧ u.overflowed = p.overflowed := by
  cases h <;> exact ⟨by simp [Plan.drop, Plan.place, Plan.placeSpill]; omega, rfl⟩

end

/-- A measure that every round raises by `c` has risen by `c` a round after the loop. -/
theorem foldl_measure {α σ : Type} {f : σ → α → σ} {m : σ → Nat} {c : Nat} (h : ∀ x a, m (f x a) = m x + c) (l : List α) (x : σ) :
    m (l.foldl f x) = m x + l.length * c := by
  induction l generalizing x with
  | nil => simp
  | cons a l ih => rw [List.foldl_cons, ih, h, List.length_cons, Nat.succ_mul, Nat.add_assoc, Nat.add_comm c]

section
variable (ws : List Word) (routing : List (List Word)) (experts : List ExpertWords)

/-- The plan once every entry has been tried with its own expert. -/
def planFirst : Plan :=
  (List.range (dTopk ws)).foldl (fun p r => (List.range (dTokens ws)).foldl (fun p t => planEntry ws routing experts r t p) p)
    ⟨[], [], [], [], 0⟩

theorem planRoutes_eq : planRoutes ws routing experts =
    (planFirst ws routing experts).overflowed.foldl (planOver ws routing experts) (planFirst ws routing experts) := rfl

theorem planFits_planFirst : PlanFits ws experts (planFirst ws routing experts) := by
  refine List.foldlRecOn _ _ ⟨Nat.zero_le _, fun _ => ⟨rfl, Nat.zero_le _⟩, fun _ => ⟨rfl, Nat.zero_le _⟩, nofun, nofun⟩
    fun p hp r hr => ?_
  exact List.foldlRecOn _ _ hp fun u hu t ht => hu.planEntry (List.mem_range.mp ht) (List.mem_range.mp hr)

theorem planFits_planRoutes : PlanFits ws experts (planRoutes ws routing experts) :=
  List.foldlRecOn _ _ (planFits_planFirst ws routing experts) fun _ hp x hx =>
    have hentry := (planFits_planFirst ws routing experts).putOff x hx
    hp.decided hentry.1 hentry.2 (planOver_decided ws routing experts _ x)

/-- The entries that a plan has placed, dropped or put off. -/
def entriesMet (p : Plan) : Nat := p.routes.length + p.dropped + p.overflowed.length

theorem entriesMet_planEntry (r t : Nat) (p : Plan) : entriesMet (planEntry ws routing experts r t p) = entriesMet p + 1 := by
  unfold entriesMet
  rcases planEntry_decided ws routing experts r t p with hd | hoff
  · rw [hd.counts.1, hd.counts.2, Nat.add_right_comm]
  · rw [hoff, List.length_append, List.length_singleton]
    rfl

theorem entriesMet_planFirst : entriesMet (planFirst ws routing experts) = dTokens ws * dTopk ws := by
  have hrank : ∀ p r, entriesMet ((List.range (dTokens ws)).foldl (fun p t => planEntry ws routing experts r t p) p) =
      entriesMet p + dTokens ws := fun p r => by
    rw [foldl_measure (fun p t => entriesMet_planEntry ws routing experts r t p), List.length_range, Nat.mul_one]
  rw [planFirst, foldl_measure hrank, List.length_range, Nat.mul_comm]
  exact Nat.zero_add _

theorem planRoutes_counts : (planRoutes ws routing experts).routes.length + (planRoutes ws routing experts).dropped =
    dTokens ws * dTopk ws := by
  have hover := foldl_measure (m := fun p : Plan => p.routes.length + p.dropped)
    (fun p x => (planOver_decided ws routing experts p x).counts.1) (planFirst ws routing experts).overflowed
    (planFirst ws routing experts)
  rw [planRoutes_eq, hover, Nat.mul_one]
  exact entriesMet_planFirst ws routing experts

end

/-- Settles O42: a plan fits as it grows (`PlanFits`), and every entry is counted once. -/
theorem droverPlansPlaceWithinCapacity : Obligations.DroverPlansPlaceWithinCapacity := by
  intro ws routing experts
  have hfits := planFits_planRoutes ws routing experts
  refine ⟨hfits.limit, planRoutes_counts ws routing experts, fun e => ?_, hfits.entries⟩
  rw [hfits.inputs.count, hfits.spills.count]
  obtain ⟨hinputs, hcap⟩ := hfits.inputs e
  obtain ⟨hspills, hspillCap⟩ := hfits.spills e
  exact ⟨hinputs, hcap, hspills, hspillCap⟩

end Sys2Proof.Scope

namespace Sys2Proof.Scope

open Sys2Proof Sys2Proof.Machine Sys2Proof.Laws

/-! ## The cause bit of an ERROR's code (R407, R408, R413) -/

section
variable {s : State} {n b : Nat}

theorem keepsCause_setCause (hn : 1 ≤ n ∧ n ≤ 21) (hb : b < 64) {m : Nat} (hm : 1 ≤ m ∧ m ≤ 21) (c : Nat)
    (h : bitOf b (s.rd .IRQ_CAUSE n) = true) : bitOf b ((s.setCause m c).rd .IRQ_CAUSE n) = true := by
  rw [State.setCause]
  by_cases he : n = m
  · rw [← he, rd_wr_same, bitOf_orBit _ _ hb, h, Bool.true_or]
  · rwa [rd_wr_ne s _ (fun h => he (regAddr_inj (regIdxOk_irqCause hn) (regIdxOk_irqCause hm) h))]

theorem keepsCause_queueError (hn : 1 ≤ n ∧ n ≤ 21) (hb : b < 64) (code slice source : Nat) (detail : Word)
    (h : bitOf b (s.rd .IRQ_CAUSE n) = true) : bitOf b ((s.queueError code slice source detail).rd .IRQ_CAUSE n) = true := by
  unfold State.queueError
  dsimp only
  split
  · exact h
  · exact keepsCause_setCause hn hb (by decide) 4 h

/-- Counting a dropped event leaves the causes (R415). -/
theorem cause_countOff (s : State) (hn : 1 ≤ n ∧ n ≤ 21) (isError : Bool) :
    (s.countOff isError).rd .IRQ_CAUSE n = s.rd .IRQ_CAUSE n := by
  have hbump : ∀ (v : State) (f : Fld), f.reg = .TRC_OFF_DROPS → (v.bump f 0).rd .IRQ_CAUSE n = v.rd .IRQ_CAUSE n :=
    fun v f hf => rd_wr_other v _ (by simp [hf]) (regIdxOk_irqCause hn) (by rw [hf]; rfl)
  cases isError
  · exact hbump s .TRC_OFF_DROPS_COUNT rfl
  · exact (hbump _ .TRC_OFF_DROPS_ERRORS rfl).trans (hbump s .TRC_OFF_DROPS_COUNT rfl)

/-- An ERROR leaves its code's cause bit set, queued, merged or counted. -/
theorem cause_err {code : Nat} (hcode : causeOfCode code = some (n, b)) (hb : b < 64) (slice : Nat) (detail : Word) :
    bitOf b ((s.err code slice detail).rd .IRQ_CAUSE n) = true := by
  have hn := causeOfCode_range code _ hcode
  have hset := bitOf_setCause s n hb
  simp only [State.err, State.raise, hcode]
  split
  · exact keepsCause_queueError hn hb code slice _ detail hset
  · rwa [cause_countOff _ hn]

end

/-! ## Drover commands and their refusals (R186, R190, R203) -/

section
variable {s : State} {q : Nat} {ws : CmdWords}

theorem takeDispatch_refused (h : s.dispatchCode q ws ≠ 0) :
    s.takeDispatch q ws = s.failDrover q (s.dispatchCode q ws) 0 0xFFFF 0xFFFF := if_pos h

theorem takeDispatch_accepted (h : s.dispatchCode q ws = 0) (hread : s.tableDenied q ws = 0) :
    s.takeDispatch q ws = s.readTables q ws := by
  simp [State.takeDispatch, h, hread]

/-- The plan waits for its reads of the expert map (R192). -/
theorem planDone_waits {routing : List (List Word)} (h : s.engineResult (dExpMap (s.runningWords q))
    (32 * dExperts (s.runningWords q)) (s.mapReads q) = none) : s.planDone q routing = s := by
  simp only [State.planDone, h]

theorem planDone_read {routing : List (List Word)} {bs : List Byte} (h : s.engineResult (dExpMap (s.runningWords q))
    (32 * dExperts (s.runningWords q)) (s.mapReads q) = some (.inr bs)) :
    s.planDone q routing = s.plan q routing (mapEntries (dExperts (s.runningWords q)) bs) := by
  simp only [State.planDone, h]

theorem plan_taken {routing : List (List Word)} {experts : List ExpertWords} {j : Journal}
    (h : s.journal (s.qCtx q) (dJtag (s.runningWords q)) = some j) :
    s.plan q routing experts = s.failDrover q 0x0A0B 0 0xFFFF 0xFFFF := if_pos (Option.isSome_of_mem h)

end

/-! ## Journals and their errors (R201, R205, R208, R211) -/

section
variable {s : State} {ctx jtag : Nat} {j : Journal}

theorem transferRsp_phase {q index : Nat} (row : List Byte) (code : Nat) (hq : j.queue = some q) (h : (index, true) ∉ j.resend) :
    s.transferRsp j index row code = (s.phaseRsp q j index row code).pumpDrover := by
  rw [State.transferRsp, if_neg (by simpa using h)]
  simp only [hq]

theorem journal_freeJournal (s : State) (ctx jtag : Nat) : (s.freeJournal ctx jtag).journal ctx jtag = none := by
  refine List.find?_eq_none.mpr fun j hj hmine => ?_
  have hother := List.of_mem_filter hj
  rw [hmine] at hother
  cases hother

theorem drvErr_eq {code : Nat} (h : code / 256 = 0x0A) (sl sub token expert : Nat) :
    s.drvErr code sl jtag ctx sub token expert =
      ((s.wr .DRV_LAST_ERR 0 (setBits 63 48 code (setBits 47 40 sl (setBits 31 16 jtag (setBits 12 0 ctx 0))))).wr
        .DRV_LAST_ERR_INFO 0 (setBits 63 48 sub (setBits 31 16 token (setBits 15 0 expert 0)))).err code sl (word ctx) := if_pos h

/-- What a Drover error shows (R211). -/
theorem drvErr_shows {code : Nat} (h : code / 256 = 0x0A) (hcode : code < 65536) (sl sub token expert : Nat) :
    let u := s.drvErr code sl jtag ctx sub token expert
    getBits 63 48 (u.rd .DRV_LAST_ERR 0) = code ∧ getBits 47 40 (u.rd .DRV_LAST_ERR 0) = sl % 256 ∧
      getBits 31 16 (u.rd .DRV_LAST_ERR_INFO 0) = token % 65536 ∧ bitOf 0 (u.rd .IRQ_CAUSE 0x0A) = true := by
  have hcause : causeOfCode code = some (0x0A, 0) := by
    rw [causeOfCode, if_neg (by omega), if_neg (by omega), if_neg (by omega), if_pos h]
  dsimp only
  rw [drvErr_eq h]
  refine ⟨?_, ?_, ?_, cause_err hcause (by decide) sl _⟩
  all_goals rw [(keepsRegs_err _ sl _ (by omega)).rd rfl (by decide)]
  · rw [rd_wr_other _ _ (by decide) rfl rfl, rd_wr_same, getBits_setBits_same _ _ _ _ (by decide)]
    exact Nat.mod_eq_of_lt hcode
  · rw [rd_wr_other _ _ (by decide) rfl rfl, rd_wr_same, getBits_setBits_other _ _ _ _ _ _ (by decide),
      getBits_setBits_same _ _ _ _ (by decide)]
    rfl
  · rw [rd_wr_same, getBits_setBits_other _ _ _ _ _ _ (by decide), getBits_setBits_same _ _ _ _ (by decide)]
    rfl

end

/-- Settles O43: commands and events by the branch taken, the error's registers by what raising it keeps. -/
theorem droverCommandsAndJournals : Obligations.DroverCommandsAndJournals :=
  ⟨fun _ _ _ _ hok hf hp hws hc => leaves_startCmd (alive_of_fetchOk hf) ⟨hf, hp, hws⟩ hc (by decide) hok rfl rfl,
    fun _ _ _ => ⟨takeDispatch_refused, takeDispatch_accepted⟩,
    fun _ _ _ _ hok hf hp hws hc => leaves_startCmd (alive_of_fetchOk hf) ⟨hf, hp, hws⟩ hc (by decide) hok rfl rfl,
    fun _ _ _ hq hr hm hop hshape => leaves_planDone (isReady_alive hr) hq hr hm hop hshape,
    fun _ _ _ => ⟨fun _ => planDone_read, planDone_waits⟩, fun _ _ _ _ ⟨_, hj⟩ => plan_taken hj,
    fun _ _ _ _ _ row _ _ ha hc hj hcode h hq hresend =>
      transferRsp_phase row _ hq hresend ▸ leaves_droverTransferRsp ha hc hj h hcode,
    fun _ _ _ _ ha hc hj h hst hf => leaves_journalExpired ha hc hj h hst hf, fun _ _ _ _ ha hc hj h => leaves_journalLost ha hc hj h,
    journal_freeJournal, fun _ _ _ _ _ _ _ _ h hcode => drvErr_shows h hcode ..⟩

end Sys2Proof.Scope

namespace Sys2Proof.Scope

open Sys2Proof Sys2Proof.Machine Sys2Proof.Laws

/-! ## Records of substitutions (R385, R390) -/

theorem fld_wr_same (s : State) (f : Fld) (i : Nat) (v : Word) : (s.wr f.reg i v).fld f i = getBits f.hi f.lo v :=
  congrArg (getBits f.hi f.lo) (rd_wr_same s f.reg i v)

section
variable (s : State) {kind failed subst : Nat}

/-- A substitution is an ERROR, SPR_LAST and a SPARE_NOTICE; nothing else changes (R385). -/
theorem substituted_frame (kind failed subst : Nat) : s.substituted kind failed subst =
    { s with regs := (s.substituted kind failed subst).regs, crier := (s.substituted kind failed subst).crier
             out := s.out ++ [.fmSpare kind failed subst s.clock.gtb] } := by
  unfold State.substituted State.err
  dsimp only
  rw [onlyEvents_raise s .error 0x1001 0 (0x1001 / 256) _]
  rfl

theorem substituted_kind (h : kind < 16) (failed subst : Nat) : (s.substituted kind failed subst).fld .SPR_LAST_KIND = kind :=
  (fld_wr_same _ .SPR_LAST_KIND 0 _).trans ((getBits_setBits_same _ _ _ _ (by decide)).trans (Nat.mod_eq_of_lt h))

theorem substituted_failed (kind subst : Nat) (h : failed < 4096) : (s.substituted kind failed subst).fld .SPR_LAST_FAILED = failed :=
  (fld_wr_same _ .SPR_LAST_FAILED 0 _).trans ((getBits_setBits_other _ _ _ _ _ _ (by decide)).trans
    ((getBits_setBits_same _ _ _ _ (by decide)).trans (Nat.mod_eq_of_lt h)))

theorem substituted_subst (kind failed : Nat) (h : subst < 4096) : (s.substituted kind failed subst).fld .SPR_LAST_SUBST = subst :=
  (fld_wr_same _ .SPR_LAST_SUBST 0 _).trans ((getBits_setBits_other _ _ _ _ _ _ (by decide)).trans
    ((getBits_setBits_other _ _ _ _ _ _ (by decide)).trans
      ((getBits_setBits_same _ _ _ _ (by decide)).trans (Nat.mod_eq_of_lt h))))

theorem substituted_cause (kind failed subst : Nat) : bitOf 0 ((s.substituted kind failed subst).rd .IRQ_CAUSE 0x10) = true :=
  (congrArg (bitOf 0) (rd_wr_other _ _ (by decide) rfl rfl)).trans (cause_err rfl (by decide) 0 _)

/-- Without a spare there is an ERROR and an EXHAUSTED bit (R390). -/
theorem onlyEvents_noSpare (kind failed sl : Nat) : OnlyEvents s (s.noSpare kind failed sl) := by
  unfold State.noSpare
  exact (onlyEvents_wr ..).trans (onlyEvents_raise ..)

theorem noSpare_exhausted (h : kind < 12) (failed sl : Nat) : bitOf kind ((s.noSpare kind failed sl).rd .SPR_STATUS 0) = true := by
  rw [State.noSpare, (keepsRegs_err _ sl _ (by decide)).rd rfl (by decide), rd_wr_same, bitOf_orBit _ _ (by omega),
    decide_eq_true rfl, Bool.or_true]

theorem regs_stageRecord (es : List Entry) : (s.stageRecord es).regs = s.regs := by
  unfold State.stageRecord State.pumpRecords
  dsimp only
  split
  · rfl
  · split <;> rfl

end

/-! ## Cores and their substitutes (R233, R384, R386) -/

section
variable {s : State} {c k q : Nat}

theorem coreFail_failed (h : c ∈ s.spr.badCores) : s.coreFail c = s := if_pos (List.contains_iff_mem.mpr h)

/-- The state in which core `c` counts as failed. -/
def markedCore (s : State) (c : Nat) : State := { s with spr := { s.spr with badCores := s.spr.badCores ++ [c] } }

theorem coreFail_unbound (h : c ∉ s.spr.badCores) (hl : cfgCoreTag s.regs (s.logicalCore c) = 0xFF) :
    s.coreFail c = markedCore s c := (if_neg (by simpa using h)).trans (if_pos hl)

/-- A substitute taken for the core that `c` serves: the substitution under way, and its record. -/
theorem coreFail_substituted (h : c ∉ s.spr.badCores) (hl : cfgCoreTag s.regs (s.logicalCore c) ≠ 0xFF)
    (hq : (markedCore s c).pickCore ((markedCore s c).stationOf (s.logicalCore c)) = some q) :
    ∃ (v : State) (hit : Bool), s.coreFail c = ({ v with spr := { v.spr with
      coreSubs := v.spr.coreSubs.filter (fun x => x.core ≠ s.logicalCore c) ++ [⟨s.logicalCore c, q, hit⟩]
      usedCores := v.spr.usedCores ++ [q] } } : State).substituted 0 (s.logicalCore c) q := by
  unfold State.coreFail
  rw [if_neg (by simpa using h)]
  dsimp only
  rw [if_neg hl]
  split
  · next q' hq' =>
    obtain rfl : q' = q := Option.some.inj (hq'.symm.trans hq)
    exact ⟨_, _, rfl⟩
  · next hnone => cases hnone.symm.trans hq

/-- A substitute is healthy, free and unbound: the cluster's spare core, or a core of a healthy spare cluster (R386). -/
theorem pickCore_spec (h : s.pickCore k = some q) : q ∉ s.spr.badCores ∧ q ∉ s.spr.usedCores ∧ cfgCoreTag s.regs q = 0xFF ∧
    (q = s.spareCoreOf k ∨ ∃ x ∈ s.ledger.otp.spareClusters, q / 9 = x ∧ x ∉ s.spr.badClusters) := by
  have hfit := List.find?_some h
  simp only [Bool.and_eq_true, Bool.not_eq_true', beq_iff_eq, List.contains_eq_mem, decide_eq_false_iff_not] at hfit
  obtain ⟨⟨hbad, hused⟩, htag⟩ := hfit
  refine ⟨hbad, hused, htag, ?_⟩
  rcases List.mem_append.mp (List.mem_of_find?_eq_some h) with hown | hspare
  · split at hown
    · cases hown
    · exact .inl (List.mem_singleton.mp hown)
  · obtain ⟨x, hx, hq⟩ := List.mem_flatMap.mp hspare
    obtain ⟨hx, hok⟩ := List.mem_filter.mp hx
    simp only [Bool.and_eq_true, Bool.not_eq_true', List.contains_eq_mem, decide_eq_false_iff_not] at hok
    obtain ⟨⟨-, hhealthy⟩, -⟩ := hok
    have hcluster : q / 9 = x := by
      rw [List.mem_range'_1] at hq
      omega
    exact .inr ⟨x, hx, hcluster, hhealthy⟩

theorem regIdxOk_coreAlias (h : c < 612) : regIdxOk .SPR_CORE_ALIAS c = true := by
  simp only [regIdxOk_iff, regDef]
  omega

/-- The word that names substitute `q` (R386). -/
def substituteWord (q : Nat) : Word := setBits 63 63 1 (setBits 9 0 q 0)

/-- An index whose register names a substitute is served by it. -/
theorem physical_substituted (s : State) (hc : c < 612) (hq : q < 612) :
    (s.wr .SPR_CORE_ALIAS c (substituteWord q)).physical c = q := by
  have hvalid : (s.wr .SPR_CORE_ALIAS c (substituteWord q)).fld .SPR_CORE_ALIAS_VALID c = 1 :=
    (fld_wr_same _ .SPR_CORE_ALIAS_VALID c _).trans (getBits_setBits_same _ _ _ _ (by decide))
  have hsubst : (s.wr .SPR_CORE_ALIAS c (substituteWord q)).fld .SPR_CORE_ALIAS_SUBST c = q :=
    (fld_wr_same _ .SPR_CORE_ALIAS_SUBST c _).trans ((getBits_setBits_other _ _ _ _ _ _ (by decide)).trans
      ((getBits_setBits_same _ _ _ _ (by decide)).trans (Nat.mod_eq_of_lt (by
        show q < 2 ^ 10
        omega))))
  rw [State.physical, if_neg (by omega), if_pos hvalid, hsubst]

theorem physical_substituted_ne (s : State) {x : Nat} (hc : c < 612) (hx : x < 612) (hne : x ≠ c) :
    (s.wr .SPR_CORE_ALIAS c (substituteWord q)).physical x = s.physical x := by
  have hfld : ∀ f : Fld, f.reg = .SPR_CORE_ALIAS → (s.wr .SPR_CORE_ALIAS c (substituteWord q)).fld f x = s.fld f x := fun f hf =>
    congrArg (getBits f.hi f.lo) (rd_wr_ne _ _ fun he =>
      hne (regAddr_inj (regIdxOk_coreAlias hx) (regIdxOk_coreAlias hc) (hf ▸ he)))
  rw [State.physical, State.physical, hfld _ rfl, hfld _ rfl]

end

/-! ## Stations, movers and Steward cores that fail (R206, R384, R388) -/

section
variable {s : State} {k : Nat}

theorem clusterFail_failed (h : k ∈ s.spr.badClusters) : s.clusterFail k = s := if_pos (List.contains_iff_mem.mpr h)
theorem moverFail_failed (h : k ∈ s.spr.badMovers) : s.moverFail k = s := if_pos (List.contains_iff_mem.mpr h)
theorem stewardFail_failed (h : k ∈ s.spr.badStewards) : s.stewardFail k = s := if_pos (List.contains_iff_mem.mpr h)

/-- Snoops that go out change no cluster station. -/
theorem clusters_snoopAll_cons (s : State) (line : Nat) (t : Nat × Nat) (ts : List (Nat × Nat)) (next : SnoopThen) :
    (s.snoopAll line (t :: ts) next).clusters = s.clusters :=
  clusters_forEach (fun _ v => clusters_sendSnoop v _) (t :: ts) _

/-- Emptying a core's cache sends snoops; no cluster station changes (R258). -/
theorem clusters_emptyCache (s : State) (core : Nat) : (s.emptyCache core).clusters = s.clusters := by
  rw [State.emptyCache, clusters_forEach fun _ v => clusters_snoopAll_cons v _ _ _ _]
  exact clusters_flushLines ..

theorem clusterFail_stops (h : k ∉ s.spr.badClusters) :
    ((s.clusterFail k).cluster k).stopped = true ∧ k ∈ (s.clusterFail k).spr.badClusters := by
  have hstops : ∀ l, ((forEach l (s.modCluster k fun c => { c with stopped := true }) fun c v => v.emptyCache c).cluster k).stopped =
      true := fun l => by
    rw [cluster_of_clusters (clusters_forEach (fun c v => clusters_emptyCache v c) l _), modCluster_eq, cluster_setCluster]
  have hbad : ∀ l : List Nat, k ∈ l ++ [k] := fun l => List.mem_append_right l (List.mem_singleton_self k)
  rw [State.clusterFail, if_neg (by simpa using h)]
  dsimp only
  split
  · rw [substituted_frame]
    exact ⟨hstops _, hbad _⟩
  · rw [onlyEvents_noSpare _ 2 k 0]
    exact ⟨hstops _, hbad _⟩

/-- The first Steward core that fails is served by the fifth (R384). -/
theorem stewardFail_first (hk : k < 4) (h : s.spr.badStewards = []) :
    (s.stewardFail k).fld .SPR_LAST_KIND = 9 ∧ (s.stewardFail k).fld .SPR_LAST_SUBST = 4 := by
  have hfirst : s.stewardFail k =
      (({ s with spr := { s.spr with badStewards := s.spr.badStewards ++ [k] } } : State).substituted 9 k 4).stageRecord [] := by
    have hk4 : k ≠ 4 := by omega
    simp [State.stewardFail, h, hk4]
  rw [hfirst, fld_of_regs (regs_stageRecord _ _), fld_of_regs (regs_stageRecord _ _)]
  exact ⟨substituted_kind _ (by decide) k 4, substituted_subst _ 9 k (by decide)⟩

theorem stewardFail_next (h : k ∉ s.spr.badStewards) (hne : s.spr.badStewards ≠ []) :
    bitOf 9 ((s.stewardFail k).rd .SPR_STATUS 0) = true := by
  rw [State.stewardFail, if_neg (by simpa using h)]
  dsimp only
  rw [if_neg (by simpa using hne)]
  exact noSpare_exhausted _ (by decide) k 0

end

/-! ## Events that find nothing to do (R233, R388, R391) -/

section
variable {s : State}

theorem leaves_coreSubstitutionDone_waits {c : Nat} {bad : List Nat} {x : CoreSub} (hc : c < 612)
    (hbad : bad.all (fun u => decide (u < 96)) = true) (h : s.spr.coreSubs.find? (fun y => y.core == c) = some x)
    (hw : s.cacheEmpty c = false ∨ s.physical c = x.subst) : Leaves (.coreSubstitutionDone c bad) s s := by
  refine leaves_unchanged (i := .coreSubstitutionDone c bad) rfl ?_ (and_ok (decide_eq_true hc) hbad)
  simp only [h]
  refine if_neg fun hgo => ?_
  obtain ⟨hempty, hnew⟩ := Bool.and_eq_true_iff.mp hgo
  exact hw.elim (fun h => by rw [h] at hempty; cases hempty) (bne_iff_ne.mp hnew)

theorem leaves_clusterSubstitutionDone_waits {k x : Nat} (hk : k < 68)
    (h : s.spr.clusterSubs.find? (fun y => y.1 == k) = some (k, x))
    (hw : ¬ (s.coresBehind k).all (fun c => s.atBoundary c && s.cacheEmpty c) = true) : Leaves (.clusterSubstitutionDone k) s s := by
  refine leaves_unchanged (i := .clusterSubstitutionDone k) rfl ?_ (decide_eq_true hk)
  simp only [h]
  exact if_neg hw

section
variable {macLost poisonLost : List Nat} (hall : ∀ l ∈ macLost ++ poisonLost, l < 2 ^ 26 ∧ l / 64 = s.fld .SPR_REBUILD_LEAF)
include hall

theorem rebuildLeaf_inRange : (macLost ++ poisonLost).all (fun l => decide (l < 2 ^ 26)) = true :=
  List.all_eq_true.mpr fun l hl => decide_eq_true (hall l hl).1

theorem leaves_rebuildLeaf_idle (hb : s.fld .SPR_REBUILD_BUSY = 0) : Leaves (.rebuildLeaf macLost poisonLost) s s :=
  leaves_unchanged (i := .rebuildLeaf macLost poisonLost) rfl (if_neg (by simp [hb])) (rebuildLeaf_inRange hall)

theorem leaves_rebuildLeaf_waits
    (h : ∃ e ∈ (s.memSt (s.fld .SPR_REBUILD_FROM)).slots, e.2.line / 64 = s.fld .SPR_REBUILD_LEAF) :
    Leaves (.rebuildLeaf macLost poisonLost) s s := by
  obtain ⟨e, he, hleaf⟩ := h
  refine leaves_unchanged (i := .rebuildLeaf macLost poisonLost) rfl (if_neg fun hgo => ?_) (rebuildLeaf_inRange hall)
  obtain ⟨-, -, -, hfree⟩ := hgo
  have hbusy : (s.memSt (s.fld .SPR_REBUILD_FROM)).slots.any (fun e => e.2.line / 64 == s.fld .SPR_REBUILD_LEAF) = true :=
    List.any_eq_true.mpr ⟨e, he, beq_iff_eq.mpr hleaf⟩
  rw [hbusy] at hfree
  cases hfree

theorem leaves_rebuildLeaf_free (ha : s.alive = true) (hb : s.fld .SPR_REBUILD_BUSY = 1)
    (h : ∀ e ∈ (s.memSt (s.fld .SPR_REBUILD_FROM)).slots, e.2.line / 64 ≠ s.fld .SPR_REBUILD_LEAF)
    (hlt : s.fld .SPR_REBUILD_LEAF + 1 < 1048576) :
    Leaves (.rebuildLeaf macLost poisonLost) s (s.rebuildStep (s.fld .SPR_REBUILD_LCHAN) (s.fld .SPR_REBUILD_FROM)
      (s.fld .SPR_REBUILD_TO) (s.fld .SPR_REBUILD_LEAF) macLost poisonLost) :=
  leaves_rebuildLeaf ha (rebuildLeaf_inRange hall) (List.all_eq_true.mpr fun l hl => beq_iff_eq.mpr (hall l hl).2) hb hlt
    (List.any_eq_false.mpr fun e he hleaf => h e he (beq_iff_eq.mp hleaf))

end

theorem leaf_rebuildStep (s : State) (j p q : Nat) {leaf : Nat} (macLost poisonLost : List Nat) (h : leaf < 1048576) :
    (s.rebuildStep j p q leaf macLost poisonLost).fld .SPR_REBUILD_LEAF = leaf + 1 :=
  (fld_setFld_same _ .SPR_REBUILD_LEAF 0 _ (by decide)).trans (Nat.mod_eq_of_lt (by
    show leaf + 1 < 2 ^ 21
    omega))

end

/-- Settles O56: events by the branch taken, a substitution by what its record shows and what stays as it was. -/
theorem failuresTakeASpareOrSayThereIsNone : Obligations.FailuresTakeASpareOrSayThereIsNone := by
  refine ⟨fun p c s ha hp hc => ⟨leaves_coreUe ha hp hc, leaves_coreHeartbeatTimeout ha hp hc⟩,
    fun k s ha hk => ⟨leaves_checkLogicDisagree ha hk, leaves_moverSelfCheckFail ha hk⟩,
    fun p s ha hp => leaves_memoryCe ha hp,
    fun kind k n s ha hkind hk hn => leaves_aesPipelineFail ha hkind hk hn,
    fun c s ha hc => leaves_stewardHeartbeatTimeout ha hc,
    fun c x bad s ha hc hbad h => ⟨leaves_coreSubstitutionDone ha hc hbad h, leaves_coreSubstitutionDone_waits hc hbad h⟩,
    fun k x s ha hk h => ?_,
    fun macLost poisonLost s ha hall => ⟨leaves_rebuildLeaf_idle hall, fun hb _ => ⟨leaves_rebuildLeaf_waits hall,
      leaves_rebuildLeaf_free hall ha hb⟩⟩,
    fun s j p q leaf macLost poisonLost h => leaf_rebuildStep s j p q macLost poisonLost h,
    fun s kind failed subst hkind hfailed hsubst => ⟨substituted_kind s hkind failed subst, substituted_failed s kind subst hfailed,
      substituted_subst s kind failed hsubst, congrArg State.out (substituted_frame s kind failed subst),
      substituted_cause s kind failed subst⟩,
    fun s kind failed sl hkind => ⟨noSpare_exhausted s hkind failed sl, (congrArg State.out (onlyEvents_noSpare s kind failed sl) :),
      (congrArg State.spr (onlyEvents_noSpare s kind failed sl) :)⟩,
    fun s c => ⟨coreFail_failed, coreFail_unbound, fun q h hl hq => ?_⟩,
    fun s k q => pickCore_spec,
    fun s k => ⟨clusterFail_failed, moverFail_failed, stewardFail_failed, clusterFail_stops, stewardFail_first, stewardFail_next⟩,
    fun s c q hc hq => ⟨physical_substituted _ hc hq, fun x hne hx => physical_substituted_ne _ hc hx hne⟩,
    fun s p h => if_neg (Nat.not_lt.mpr h)⟩
  · split
    · next hall => exact leaves_clusterSubstitutionDone ha hk h hall
    · next hw => exact leaves_clusterSubstitutionDone_waits hk h hw
  · obtain ⟨v, hit, hfail⟩ := coreFail_substituted h hl hq
    rw [hfail]
    refine ⟨substituted_kind _ (by decide) _ q, ?_⟩
    rw [substituted_frame]
    exact ⟨⟨hit, List.mem_append_right _ (List.mem_singleton_self _)⟩, List.mem_append_right _ (List.mem_singleton_self q)⟩

end Sys2Proof.Scope

namespace Sys2Proof.Scope

open Sys2Proof Sys2Proof.Machine Sys2Proof.Laws

/-! ## The filter's entries, snoops and writebacks (R256, R261) -/

section
variable {s : State}

theorem filterEntry_setFilter_same (s : State) (line core : Nat) (st : Option LineState) (tag keyid : Nat) :
    (s.setFilter line core st tag keyid).filterEntry line core = st.map (fun x => ⟨line, core, x, tag, keyid⟩) := by
  have hrest : ∀ tail, (s.coh.filter.filter (fun e => !(e.line == line && e.core == core)) ++ tail).find?
      (fun e => e.line == line && e.core == core) = tail.find? (fun e => e.line == line && e.core == core) := fun tail => by
    rw [List.find?_append, List.find?_eq_none.mpr, Option.none_or]
    intro e he hsame
    exact absurd (List.mem_filter.mp he).2 (by rw [hsame]; decide)
  cases st with
  | none => exact hrest []
  | some x => exact (hrest _).trans (by simp)

theorem pumpSnoops_none (h : s.coh.unsent = []) : s.pumpSnoops = s := by
  simp only [State.pumpSnoops, h]

/-- With no request waiting in the filter, none goes on. -/
theorem filterNext_idle (h : s.coh.queue = []) (line : Nat) : s.filterNext line = s := by
  simp only [State.filterNext, h, List.length_nil, iterate]

/-- With its last answer the group of a flush is struck, and nothing waited for it (R258). -/
theorem groupAnswered_lastOfFlush {group : Nat} {g : SnoopGroup} (hg : s.coh.groups.find? (fun y => y.id == group) = some g)
    (hflush : g.next = .flush) (hlast : g.left = 1) (hqueue : s.coh.queue = []) (dirty : Option Line) :
    s.groupAnswered group dirty =
      { s with coh := { s.coh with groups := s.coh.groups.filter (fun y => y.id ≠ group) } } := by
  simp only [State.groupAnswered, hg, hlast, hflush, le_refl, if_true, State.snoopDone, State.groupResumes]
  rw [filterNext_idle]
  exact hqueue

/-- The state without the snoop of an SID. -/
def withoutSnoop (s : State) (sid : Nat) : State :=
  { s with coh := { s.coh with snoops := s.coh.snoops.filter (fun y => y.sid ≠ sid) } }

/-- An answer without data, no snoop waiting for an SID: the snoop is struck, the entry is of the state left, and the group is
told. -/
theorem endSnoop_clean {x : Snoop} {e : FilterEntry} (he : s.filterEntry x.line x.core = some e) (hunsent : s.coh.unsent = [])
    (left : Option LineState) : s.endSnoop x left none =
      ((withoutSnoop s x.sid).setFilter x.line x.core left e.tag e.keyid).groupAnswered x.group none := by
  have hpump : (withoutSnoop s x.sid).pumpSnoops = withoutSnoop s x.sid := pumpSnoops_none hunsent
  have hentry : (withoutSnoop s x.sid).filterEntry x.line x.core = some e := he
  unfold State.endSnoop
  rw [← withoutSnoop, hpump]
  simp only [hentry]
  split
  · next _ _ hdata => cases hdata
  · rfl

/-- A clean answer to the last snoop of a flush: the snoop and its group are struck, and the entry is of the state left. -/
theorem endSnoop_lastOfFlush {x : Snoop} {g : SnoopGroup} {e : FilterEntry}
    (hg : s.coh.groups.find? (fun y => y.id == x.group) = some g) (hflush : g.next = .flush) (hlast : g.left = 1)
    (he : s.filterEntry x.line x.core = some e) (hqueue : s.coh.queue = []) (hunsent : s.coh.unsent = [])
    (left : Option LineState) :
    s.endSnoop x left none =
      (let u := (withoutSnoop s x.sid).setFilter x.line x.core left e.tag e.keyid
       { u with coh := { u.coh with groups := u.coh.groups.filter (fun y => y.id ≠ x.group) } }) := by
  rw [endSnoop_clean he hunsent]
  exact groupAnswered_lastOfFlush (s := (withoutSnoop s x.sid).setFilter ..) hg hflush hlast hqueue none

/-- A line without a requester goes to a memory station; nothing else changes. -/
theorem presentLine_frame (s : State) (core slice ctx keyid paLine : Nat) (d : Line) :
    s.presentLine core slice ctx keyid paLine d = { s with mems := (s.presentLine core slice ctx keyid paLine d).mems } := by
  rw [State.presentLine]
  split <;> rfl

/-- A writeback that no snoop crosses clears its entry, is written as a line, and is acknowledged (R256). -/
theorem takeWriteback_uncrossed {e : FilterEntry}
    (h : ∀ x ∈ s.coh.snoops ++ s.coh.unsent, ¬ (x.line = e.line ∧ x.core = e.core)) (port core : Nat) (d : Line) :
    s.takeWriteback port core e d =
      (let u := s.setFilter e.line e.core none 0 0
       (u.presentLine e.core e.tag (u.requestCtx ⟨port, 0, 0, 0⟩ e.core e.tag) e.keyid e.line d).wbAck port core) := by
  have hother : ∀ x ∈ s.coh.snoops ++ s.coh.unsent, ¬ (x.line == e.line && x.core == e.core) = true := by simpa using h
  obtain ⟨hsent, hunsent⟩ := List.forall_mem_append.mp hother
  have hnone : (s.setFilter e.line e.core none 0 0).coh.unsent.find? (fun x => x.line == e.line && x.core == e.core) = none :=
    List.find?_eq_none.mpr hunsent
  simp only [State.takeWriteback, List.find?_eq_none.mpr hsent, hnone]

/-! ## Writebacks and evictions of lines the core does not hold (R265) -/

section
variable {port core line : Nat} (ha : s.alive = true) (hp : port < 68) (hc : core < 9) (hl : line < 2 ^ 49)
  (h : s.filterEntry line (s.logicalCore (9 * port + core)) = none)
include ha hp hc hl h

theorem leaves_writeback_notHeld (d : Line) : Leaves (.writeback port core line d) s
    (s.lineErr .error 0x0C02 (s.coreTag (9 * port + core)) (s.logicalCore (9 * port + core)) line) :=
  leaves_effect rfl (line_operands_ok hp hc hl) ha (by simp only [h])

theorem leaves_evict_notHeld : Leaves (.evict port core line) s
    (s.lineErr .error 0x0C02 (s.coreTag (9 * port + core)) (s.logicalCore (9 * port + core)) line) :=
  leaves_effect rfl (line_operands_ok hp hc hl) ha (by simp only [h])

end

end

/-- Settles O32: each command by its branch, the flush's end by `endSnoop_lastOfFlush`, the writeback by `takeWriteback_uncrossed`. -/
theorem snoopAnswersEndTheirSnoops : Obligations.SnoopAnswersEndTheirSnoops := by
  refine ⟨fun _ _ _ _ _ ha hp hc hs h => leaves_ackI ha hp hc hs h, fun _ _ _ _ _ ha hp hc hs h => leaves_ackS ha hp hc hs h,
    fun _ _ _ d _ _ ha hp hc hs h => leaves_dataDirty ha hp hc hs h d,
    fun _ _ _ _ _ ha hp hc hs h hn => leaves_wbPending ha hp hc hs h hn,
    fun s x g e left hg hflush hlast he hqueue hunsent => ?_,
    fun _ _ _ d _ _ ha hp hc hl h hm => leaves_writeback ha d hp hc hl h hm,
    fun port core d e s hcross => ?_,
    fun _ _ _ d _ ha hp hc hl h => leaves_writeback_notHeld ha hp hc hl h d,
    fun _ _ _ _ _ ha hp hc hl h hm => leaves_evict ha hp hc hl h hm,
    fun _ _ _ _ ha hp hc hl h => leaves_evict_notHeld ha hp hc hl h,
    fun _ _ _ ha hs h => leaves_snoopTimeout ha hs h⟩
  · rw [endSnoop_lastOfFlush hg hflush hlast he hqueue hunsent]
    exact ⟨fun _ hy => of_decide_eq_true (List.mem_filter.mp hy).2, fun _ hy => of_decide_eq_true (List.mem_filter.mp hy).2,
      filterEntry_setFilter_same _ x.line x.core left e.tag e.keyid⟩
  · rw [takeWriteback_uncrossed hcross]
    dsimp only
    rw [presentLine_frame]
    exact ⟨filterEntry_setFilter_same s e.line e.core none 0 0, rfl, rfl⟩

end Sys2Proof.Scope

namespace Sys2Proof.Scope

open Sys2Proof Sys2Proof.Machine Sys2Proof.Laws

/-! ## Acceptance of an object command (R266, R272, R273) -/

section
variable {s : State} {path : Path} {kind index : Nat}

theorem objAccept_disabled (he : s.fld .OBJ_CTL_ENABLE = 0) (r : Sum Nat State) : s.objAccept path kind index r = s := if_pos he

section
variable (he : s.fld .OBJ_CTL_ENABLE = 1)
include he

theorem objAccept_busy (hb : s.objBusy path = true) (r : Sum Nat State) :
    s.objAccept path kind index r = s.setFld .OBJ_CMD_STATUS_REJECTED 0 1 :=
  (if_neg (by omega)).trans (if_pos hb)

theorem objAccept_outside (hb : s.objBusy path = false) (hk : kind ≤ 4) (hi : kindCount kind ≤ index) (r : Sum Nat State) :
    s.objAccept path kind index r = s.objDone path 0x020B :=
  (if_neg (by omega)).trans ((if_neg (by simp [hb])).trans (if_pos ⟨hk, hi⟩))

end

/-- What holds of every acceptance holds of each object command. -/
theorem leaves_objCommands {u : State} {slice code op : Nat} {fences : List Nat} (hr : s.isReady = true) (hp : pathOk path = true)
    (hk : kind < 16) (hi : u32Ok index = true) (hsl : slice < 256) (hcode : code < 65536) (hf : fences.all u16Ok = true)
    (hop : op = 0 ∨ (7 ≤ op ∧ op ≤ 15)) (hu : ∀ kind index r, s.objAccept path kind index r = u) :
    ∀ c ∈ [Instr.objCreate path kind index, .objActivate path kind index, .objDeactivate path kind index,
      .objDestroy path kind index slice fences, .objSignal path kind index code, .objReset path kind index,
      .objCmdOpInvalid path op], Leaves c s u := by
  have hok := and_ok (and_ok hp (decide_eq_true hk)) hi
  simp only [List.forall_mem_cons]
  exact ⟨leaves_taken rfl hok hr hp (hu ..), leaves_taken rfl hok hr hp (hu ..), leaves_taken rfl hok hr hp (hu ..),
    leaves_taken rfl (and_ok (and_ok hok (decide_eq_true hsl)) hf) hr hp (hu ..),
    leaves_taken rfl (and_ok hok (decide_eq_true hcode)) hr hp (hu ..), leaves_taken rfl hok hr hp (hu ..),
    leaves_taken rfl (and_ok hp (decide_eq_true hop)) hr hp (hu ..), List.forall_mem_nil _⟩

end

/-! ## The end of an acceptance (R272, R448) -/

section
variable (s : State) (path : Path)

/-- The fields of OBJ_CMD_STATUS after an acceptance are those of the two stores: RESULT, and DONE one up. -/
theorem fld_objDone (code : Nat) {f : Fld} (hf : f.reg = .OBJ_CMD_STATUS) : (s.objDone path code).fld f =
    ((s.setFld .OBJ_CMD_STATUS_RESULT 0 code).count .OBJ_CMD_STATUS_DONE).fld f := by
  have hregs : (s.objDone path code).regs =
      (((s.setFld .OBJ_CMD_STATUS_RESULT 0 code).count .OBJ_CMD_STATUS_DONE).setCause 0x02 1).regs := rfl
  rw [fld_of_regs hregs]
  exact (keepsRegs_setCause _ 1 (by decide)).fld (by rw [hf]; rfl) (by rw [hf]; decide)

theorem result_objDone {code : Nat} (h : code < 65536) : (s.objDone path code).fld .OBJ_CMD_STATUS_RESULT = code := by
  rw [fld_objDone s path code rfl, State.count,
    fld_setFld_other _ .OBJ_CMD_STATUS_DONE .OBJ_CMD_STATUS_RESULT _ _ rfl (by decide), fld_setFld_same _ _ _ _ (by decide)]
  exact Nat.mod_eq_of_lt h

theorem done_objDone (code : Nat) :
    (s.objDone path code).fld .OBJ_CMD_STATUS_DONE = (s.fld .OBJ_CMD_STATUS_DONE + 1) % 2 ^ 32 := by
  have hbefore : (s.setFld .OBJ_CMD_STATUS_RESULT 0 code).fld .OBJ_CMD_STATUS_DONE = s.fld .OBJ_CMD_STATUS_DONE :=
    fld_setFld_other _ _ _ _ _ rfl (by decide)
  rw [fld_objDone s path code rfl, State.count, hbefore]
  exact fld_setFld_same _ _ _ _ (by decide)

theorem cause_objDone (code : Nat) : bitOf 1 ((s.objDone path code).rd .IRQ_CAUSE 0x02) = true := bitOf_setCause _ _ (by decide)

end

/-! ## Records and their notices (R266–R271, R276) -/

theorem touch_heaps (o : Obj) (line : Nat) : (o.touch line).heaps = o.heaps := by
  rw [Obj.touch]
  split <;> rfl

theorem fLife_setFLife_ne (s : State) {f x : Nat} (l : Life) (h : x ≠ f) : (s.setFLife f l).fLife x = s.fLife x :=
  mapGet_mapSet_ne _ _ _ _ h

theorem mLife_setMLife_ne (s : State) {o x : Nat} (l : Life) (h : x ≠ o) : (s.setMLife o l).mLife x = s.mLife x :=
  mapGet_mapSet_ne _ _ _ _ h

theorem mLife_putM (s : State) (o w hi lo v x : Nat) : (s.putM o w hi lo v).mLife x = s.mLife x :=
  congrArg (fun m => mapGet Life.free m x) (touch_memLife ..)

theorem getBits_putF_same (s : State) (f w lo v : Nat) {hi : Nat} (h : hi < 64) :
    getBits hi lo ((s.putF f w hi lo v).fWord f w) = v % 2 ^ (hi + 1 - lo) := by
  rw [State.putF, fWord_setFWord_same, getBits_setBits_same _ _ _ _ h]

theorem getBits_putF_other (s : State) (f w v : Nat) {hi lo hi' lo' : Nat} (h : hi < lo' ∨ hi' < lo) :
    getBits hi lo ((s.putF f w hi' lo' v).fWord f w) = getBits hi lo (s.fWord f w) := by
  rw [State.putF, fWord_setFWord_same, getBits_setBits_other _ _ _ _ _ _ h]

theorem fWord_setFWord_ne (s : State) {f f' w w' : Nat} (v : Word) (h : f' * 2 + w' ≠ f * 2 + w) :
    (s.setFWord f w v).fWord f' w' = s.fWord f' w' := by
  rw [State.fWord, State.setFWord, touch_fences, mapGet_mapSet_ne _ _ _ _ h, State.fWord]

/-- Taking a resident entry changes which records are resident and which are read, nothing else of the fences (R266). -/
theorem touchFence_frame (s : State) (f : Nat) : (s.touchFence f).obj.fences = s.obj.fences ∧
    (s.touchFence f).obj.fenceLife = s.obj.fenceLife ∧ (s.touchFence f).clock = s.clock := by
  rw [State.touchFence]
  dsimp only
  split <;> exact ⟨rfl, rfl, rfl⟩

theorem fWord_touchFence (s : State) (f x w : Nat) : (s.touchFence f).fWord x w = s.fWord x w :=
  congrArg (fun m => mapGet 0 m (x * 2 + w)) (touchFence_frame s f).1

theorem fLife_touchFence (s : State) (f x : Nat) : (s.touchFence f).fLife x = s.fLife x :=
  congrArg (fun m => mapGet Life.free m x) (touchFence_frame s f).2.1

theorem ctxState_freeContext (s : State) (c : Nat) : (s.freeContext c).ctxState c = 0 := by
  rw [State.ctxState, ctxWord_freeContext _ _ _ (by decide), if_pos rfl]
  rfl

theorem qState_freeQueue (s : State) (q : Nat) : (s.freeQueue q).qState q = 0 := by
  have hword : (s.freeQueue q).qWord q 0 = 0 := by
    rw [State.qWord, State.freeQueue, touch_queues]
    exact mapGet_filter 0 s.obj.queues _ _ (b := false) fun _ => by simp
  rw [State.qState, hword]
  rfl

section
variable (s : State) (kind event code slice index : Nat)

theorem ctxState_notice (c : Nat) : (s.notice kind event code slice index).ctxState c = s.ctxState c :=
  ctxState_of_contexts (congrArg (fun v => v.obj.contexts) (onlyNotices_notice s kind event code slice index) :) c

theorem qState_notice (q : Nat) : (s.notice kind event code slice index).qState q = s.qState q :=
  congrArg (getBits 63 61) (qWord_notice s kind event code slice index q 0)

theorem mLife_notice (o : Nat) : (s.notice kind event code slice index).mLife o = s.mLife o :=
  (congrArg (fun v => mapGet Life.free v.obj.memLife o) (onlyNotices_notice s kind event code slice index) :)

end

/-! ## CREATE (R272–R274, R291) -/

section
variable {s : State}

/-- FREE of the heaps is set in the heaps' own words: no context's STATE and no granule changes. -/
theorem initHeaps_frame (s : State) (c : Nat) :
    (∀ x, (s.initHeaps c).ctxState x = s.ctxState x) ∧ (s.initHeaps c).obj.heaps = s.obj.heaps := by
  refine forEach_rel (fun v w : State => (∀ x, w.ctxState x = v.ctxState x) ∧ w.obj.heaps = v.obj.heaps)
    (fun v => ⟨fun _ => rfl, rfl⟩) (fun a b d h k => ⟨fun x => (k.1 x).trans (h.1 x), k.2.trans h.2⟩) _ (fun h v => ?_) _ s
  dsimp only
  split
  · exact ⟨fun x => congrArg (getBits 63 61) (ctxWord_setCtxWord_ne v _ (by omega)), touch_heaps ..⟩
  · exact ⟨fun _ => rfl, rfl⟩

theorem ctxState_clearHeaps (s : State) (c x : Nat) : (s.clearHeaps c).ctxState x = s.ctxState x := ctxState_of_contexts rfl x

/-- What CREATE leaves of a context that passes: LIVE, its fault records counted anew, its heaps empty. -/
def contextCreated (s : State) (c : Nat) : State :=
  ((({ s with xlt := { s.xlt with seqs := mapErase s.xlt.seqs c } } : State).setCtxState c 2).clearHeaps c).initHeaps c

section
variable {c : Nat} (hsl : s.sliceOk (s.ctxSlice c) = true)

theorem objCreate_context_notDefined (h : s.ctxState c ≠ 1) : s.objCreate 1 c = .inl 0x020B :=
  (if_pos rfl).trans (if_pos (.inl h))

include hsl

theorem objCreate_context_unmapped (h : s.ctxState c = 1) (hm : cfgPasidOk s.regs (s.ctxPasid c) (s.ctxSlice c) = false) :
    s.objCreate 1 c = .inl 0x0603 :=
  (if_pos rfl).trans ((if_neg (by simp [h, hsl])).trans (if_pos hm))

theorem objCreate_context (h : s.ctxState c = 1) (hm : cfgPasidOk s.regs (s.ctxPasid c) (s.ctxSlice c) = true) :
    s.objCreate 1 c = .inr (contextCreated s c) :=
  (if_pos rfl).trans ((if_neg (by simp [h, hsl])).trans (if_neg (by simp [hm])))

end

theorem ctxState_contextCreated (s : State) (c : Nat) :
    (contextCreated s c).ctxState c = 2 ∧ ∀ x, x ≠ c → (contextCreated s c).ctxState x = s.ctxState x := by
  obtain ⟨hstate, -⟩ := initHeaps_frame
    ((({ s with xlt := { s.xlt with seqs := mapErase s.xlt.seqs c } } : State).setCtxState c 2).clearHeaps c) c
  refine ⟨?_, fun x hx => ?_⟩
  · rw [contextCreated, hstate, ctxState_clearHeaps, ctxState_setCtxState]
  · rw [contextCreated, hstate, ctxState_clearHeaps, ctxState_setCtxState_ne _ _ hx]
    rfl

theorem heaps_contextCreated (s : State) {c h g : Nat} (hh : h < 8) (hg : g < 65536) :
    mapGet 0 (contextCreated s c).obj.heaps ((c * 8 + h) * 65536 + g) = 0 := by
  rw [contextCreated, (initHeaps_frame _ c).2]
  exact heaps_clearHeaps _ hh hg

theorem objCreate_queue {q : Nat} (hsl : s.sliceOk (s.qSlice q) = true) (hq : s.qState q = 1)
    (hc : s.ctxState (s.qCtx q) = 2 ∨ s.ctxState (s.qCtx q) = 3) (hsq : 6 ≤ s.sqLog2 q ∧ s.sqLog2 q ≤ 16)
    (hcq : 6 ≤ s.cqLog2 q ∧ s.cqLog2 q ≤ 16) : s.objCreate 2 q = .inr (s.setQState q 2) := by
  refine (if_neg (by decide)).trans ((if_pos rfl).trans (if_neg ?_))
  simp [hsl, hq, hc, hsq, hcq]

theorem objCreate_fence {f : Nat} (hsl : s.sliceOk (s.fSlice f) = true) (h : s.fLife f = .defined) :
    s.objCreate 3 f = .inr ((s.setFLife f .live).touchFence f) :=
  (if_neg (by decide)).trans ((if_neg (by decide)).trans ((if_pos rfl).trans (if_neg (by simp [hsl, h]))))

theorem objCreate_memobj {o : Nat} (hsl : s.sliceOk (s.mSlice o) = true) (h : s.mLife o = .defined)
    (hfits : s.mBase o + (s.mPagesM1 o + 1) * 4096 ≤ 2 ^ 48) :
    s.objCreate 4 o = .inr ((s.setMLife o .live).putM o 0 62 61 1) :=
  (if_neg (by decide)).trans ((if_neg (by decide)).trans ((if_neg (by decide)).trans ((if_pos rfl).trans
    (if_neg (by simpa [hsl, h] using hfits)))))

end

/-! ## Fences (R270, R272, R286) -/

section
variable {s : State} {f : Nat}

/-- The state with STATE, CODE and the time of a fence stored (R270). -/
def fenceStored (s : State) (f st code : Nat) (time : Word) : State :=
  ((s.putF f 0 61 60 st).putF f 0 47 32 code).setFWord f 1 time

theorem fState_fenceStored (s : State) (f code : Nat) (time : Word) {st : Nat} (h : st < 4) :
    (fenceStored s f st code time).fState f = st := by
  rw [State.fState, fenceStored, fWord_setFWord_ne _ _ (by omega), getBits_putF_other _ _ _ _ (by decide),
    getBits_putF_same _ _ _ _ _ (by decide)]
  exact Nat.mod_eq_of_lt h

theorem fCode_fenceStored (s : State) (f st : Nat) (time : Word) {code : Nat} (h : code < 65536) :
    (fenceStored s f st code time).fCode f = code := by
  rw [State.fCode, fenceStored, fWord_setFWord_ne _ _ (by omega), getBits_putF_same _ _ _ _ _ (by decide)]
  exact Nat.mod_eq_of_lt h

theorem fWord_fenceStored (s : State) (f st code : Nat) (time : Word) : (fenceStored s f st code time).fWord f 1 = time :=
  fWord_setFWord_same ..

theorem signalFence_unsignalled (code : Nat) (hl : s.fLife f = .live) (h : s.fState f = 0) :
    s.signalFence f code = fenceStored (s.touchFence f) f (if code = 0 then 1 else 2) code (word s.clock.gtb) := by
  have hstate : (s.touchFence f).fState f = 0 := (congrArg (getBits 61 60) (fWord_touchFence s f f 0)).trans h
  rw [State.signalFence, if_pos hl]
  dsimp only
  rw [if_pos hstate, (touchFence_frame s f).2.2, fenceStored]

theorem resetFence_unsignalled (h : s.fState f = 0) : s.resetFence f = fenceStored s f 0 0 0 := by
  rw [State.resetFence, if_pos h, fenceStored]

end

/-! ## ACTIVATE, DEACTIVATE and DESTROY (R272, R287, R294) -/

section
variable {s : State}

theorem objActivate_queue_refused {q : Nat} (h3 : s.qState q ≠ 3) (h4 : s.qState q ≠ 4) : s.objActivate 2 q = .inl 0x020B :=
  (if_neg (by decide)).trans ((if_pos rfl).trans (if_neg (by omega)))

theorem qState_stopQueue (s : State) (q code : Nat) : (s.stopQueue q code).qState q = 3 := by
  rw [State.stopQueue, qState_notice, State.qState, qWord_putQ_ne _ _ _ _ (by omega)]
  exact qState_setQState s q 3

/-- DEACTIVATE of a LIVE queue that runs no command stops it; what it has fetched is dropped (R272, R287). -/
theorem objDeactivate_idle {q : Nat} (h : s.qState q = 2) (hrun : (s.queueRun q).running = none) :
    s.objDeactivate 2 q = .inr ((s.modQueueRun q (fun r => { r with fetched := none, fetchTag := none })).stopQueue q 0) := by
  have hidle : ((s.modQueueRun q (fun r => { r with fetched := none, fetchTag := none })).queueRun q).running = none := by
    rw [State.modQueueRun, queueRun_setQueueRun, hrun]
  refine (if_neg (by decide)).trans ((if_pos rfl).trans ((if_neg (not_not.mpr h)).trans ?_))
  dsimp only
  rw [hidle]
  rfl

section
variable {i : Nat} (slice : Nat) (fences : List Nat)

theorem objDestroy_definedContext (h : s.ctxState i = 1) :
    s.objDestroy 1 i slice fences = .inr ((s.freeContext i).notice 1 1 0 (s.ctxSlice i) i) := by
  rw [State.objDestroy, if_pos rfl, if_pos h]

theorem objDestroy_definedQueue (h : s.qState i = 1) :
    s.objDestroy 2 i slice fences = .inr ((s.freeQueue i).notice 2 1 0 (s.qSlice i) i) := by
  rw [State.objDestroy, if_neg (by decide), if_pos rfl, if_pos h]

theorem objDestroy_freeFence (h : s.fLife i = .free) : s.objDestroy 3 i slice fences = .inl 0x020B := by
  rw [State.objDestroy, if_neg (by decide), if_neg (by decide), if_pos rfl, if_pos h]

theorem objDestroy_definedMemobj (h : s.mLife i = .defined) :
    s.objDestroy 4 i slice fences = .inr ((s.freeMemobj i).notice 4 1 0 (s.mSlice i) i) := by
  rw [State.objDestroy, if_neg (by decide), if_neg (by decide), if_neg (by decide), if_pos rfl, if_pos h]

theorem objDestroy_otherKind {kind : Nat} (h : kind = 0 ∨ 5 < kind) : s.objDestroy kind i slice fences = .inl 0x020B :=
  (if_neg (by omega)).trans ((if_neg (by omega)).trans ((if_neg (by omega)).trans ((if_neg (by omega)).trans (if_neg (by omega)))))

end

end

/-- Settles O44: acceptance by the branches of `objAccept`, each object by the equation of its command and the reads of what that stores. -/
theorem objectCommandsChangeStatesOrAnswer020B : Obligations.ObjectCommandsChangeStatesOrAnswer020B := by
  refine ⟨fun path kind index slice code op fences s hr hp hk hi hsl hcode hf hop he =>
      leaves_objCommands hr hp hk hi hsl hcode hf hop fun _ _ r => objAccept_disabled he r,
    fun path kind index slice code fences s hr hp hk hi hsl hcode hf he hb hin => ?_,
    fun path kind index slice op fences s hr hp hi hsl hf he hb hop hk hout => ?_,
    fun path kind index slice code op fences s hr hp hk hi hsl hcode hf hop he hb =>
      leaves_objCommands hr hp hk hi hsl hcode hf hop fun _ _ r => objAccept_busy he hb r,
    fun s path code h => ⟨result_objDone s path h, done_objDone s path code, cause_objDone s path code, rfl, rfl, rfl⟩,
    fun s c hsl => ⟨objCreate_context_unmapped hsl, fun h hm => ?_, objCreate_context_notDefined⟩,
    fun s q hsl hq hc h6 h16 h6' h16' => ⟨objCreate_queue hsl hq hc ⟨h6, h16⟩ ⟨h6', h16'⟩, qState_setQState s q 2⟩,
    fun s f hsl h => ⟨_, objCreate_fence hsl h, ?_, fun x hx => ?_⟩,
    fun s o hsl h hfits => ⟨_, objCreate_memobj hsl h hfits, ?_, getBits_putM_same _ o 0 61 1 (by decide), fun x hx => ?_⟩,
    fun s q => objActivate_queue_refused, fun s q h hrun => ⟨_, objDeactivate_idle h hrun, qState_stopQueue _ q 0⟩,
    fun s f code hcode hl h => ?_, fun s sl i fs => ⟨fun h => ⟨_, objDestroy_definedContext sl fs h, ?_⟩,
      fun h => ⟨_, objDestroy_definedQueue sl fs h, ?_⟩, fun h => ⟨_, objDestroy_definedMemobj sl fs h, ?_⟩,
      objDestroy_freeFence sl fs, fun kind => objDestroy_otherKind sl fs⟩⟩
  · have hok := and_ok (and_ok hp (decide_eq_true hk)) hi
    exact ⟨leaves_taken rfl hok hr hp (objAccept_taken he hb hin), leaves_taken rfl hok hr hp (objAccept_taken he hb hin),
      leaves_taken rfl hok hr hp (objAccept_taken he hb hin),
      leaves_taken rfl (and_ok (and_ok hok (decide_eq_true hsl)) hf) hr hp (objAccept_taken he hb hin),
      leaves_taken rfl (and_ok hok (decide_eq_true hcode)) hr hp (objAccept_ite he hb hin),
      leaves_taken rfl hok hr hp (objAccept_ite he hb hin)⟩
  · have hok := and_ok (and_ok hp (decide_eq_true (by omega : kind < 16))) hi
    exact ⟨leaves_taken rfl hok hr hp (objAccept_outside he hb hk hout _),
      leaves_taken rfl (and_ok (and_ok hok (decide_eq_true hsl)) hf) hr hp (objAccept_outside he hb hk hout _),
      leaves_taken rfl (and_ok hp (decide_eq_true hop)) hr hp (objAccept_taken he hb (by decide))⟩
  · obtain ⟨hlive, hothers⟩ := ctxState_contextCreated s c
    exact ⟨_, objCreate_context hsl h hm, hlive, hothers, fun _ _ hh hg => heaps_contextCreated s hh hg⟩
  · rw [fLife_touchFence, fLife_setFLife]
  · rw [fLife_touchFence, fLife_setFLife_ne _ _ hx]
  · rw [mLife_putM, mLife_setMLife]
  · rw [mLife_putM, mLife_setMLife_ne _ _ hx]
  · rw [signalFence_unsignalled code hl h, resetFence_unsignalled h]
    exact ⟨fState_fenceStored _ f code _ (by split <;> decide), fCode_fenceStored _ f _ _ hcode, fWord_fenceStored ..,
      fState_fenceStored s f 0 0 (by decide), fCode_fenceStored s f 0 0 (by decide)⟩
  · rw [ctxState_notice, ctxState_freeContext]
  · rw [qState_notice, qState_freeQueue]
  · rw [mLife_notice, mLife_freeMemobj]

end Sys2Proof.Scope

namespace Sys2Proof.Scope

open Sys2Proof Sys2Proof.Machine Sys2Proof.Laws

/-! ## The search for a run of free granules (R291) -/

/-- The granules `h` to `h + n − 1` are all free. -/
def FreeRun (code : Nat → Nat) (n h : Nat) : Prop := ∀ i, i < n → code (h + i) = 0

/-- What the search reports of the granules below `size`: the lowest run that is free, or that there is none. -/
def LowestRun (code : Nat → Nat) (n size : Nat) : Option Nat → Prop
  | some h => h + n ≤ size ∧ FreeRun code n h ∧ ∀ x, x < h → ¬ FreeRun code n x
  | none => ∀ h, h + n ≤ size → ¬ FreeRun code n h

theorem not_freeRun {code : Nat → Nat} {n h : Nat} : ¬ FreeRun code n h ↔ ∃ i, i < n ∧ code (h + i) ≠ 0 := by
  simp [FreeRun]

/-- From granule `g` on, with `run` free granules just below it and no free run that begins below those, the search reports the
lowest run. -/
theorem lowestRun_findRun {code : Nat → Nat} {n fuel g run : Nat} (hrun : run < n) (hg : run ≤ g) (hfree : FreeRun code run (g - run))
    (hbelow : ∀ x, x < g - run → ¬ FreeRun code n x) : LowestRun code n (g + fuel) (findRun code n fuel g run) := by
  induction fuel generalizing g run with
  | zero => exact fun h hh => hbelow h (by omega)
  | succ fuel ih =>
    rw [findRun, show g + (fuel + 1) = g + 1 + fuel by omega]
    by_cases hcode : code g = 0
    · have hlonger : FreeRun code (run + 1) (g - run) := fun i hi => by
        obtain h | rfl : i < run ∨ i = run := by omega
        · exact hfree i h
        · rwa [Nat.sub_add_cancel hg]
      rw [if_pos hcode]
      by_cases hlast : run + 1 = n
      · subst hlast
        rw [if_pos rfl, Nat.add_sub_add_right]
        exact ⟨by omega, hlonger, hbelow⟩
      · rw [if_neg hlast]
        exact ih (by omega) (by omega) (by rwa [Nat.add_sub_add_right]) (by rwa [Nat.add_sub_add_right])
    · rw [if_neg hcode]
      refine ih (by omega) (Nat.zero_le _) (fun i hi => absurd hi (Nat.not_lt_zero i)) fun x hx hxfree => ?_
      by_cases h : x < g - run
      · exact hbelow x h hxfree
      · refine hcode ?_
        have hthere := hxfree (g - x) (by omega)
        rwa [Nat.add_sub_cancel' (by omega)] at hthere

theorem lowestRun_search (code : Nat → Nat) {n : Nat} (size : Nat) (h : 0 < n) : LowestRun code n size (findRun code n size 0 0) := by
  have hsearch := lowestRun_findRun (code := code) (fuel := size) (g := 0) h (Nat.le_refl 0)
    (fun i hi => absurd hi (Nat.not_lt_zero i)) (fun x hx => absurd hx (Nat.not_lt_zero x))
  rwa [Nat.zero_add] at hsearch

/-! ## Granules and words of a heap (R268, R291) -/

section
variable {s t : State}

theorem heapCode_of_heaps (h : t.obj.heaps = s.obj.heaps) (c heap g : Nat) : t.heapCode c heap g = s.heapCode c heap g := by
  rw [State.heapCode, h, State.heapCode]

theorem heapCode_setHeap (s : State) (c heap g v i : Nat) :
    (s.setHeap c heap g v).heapCode c heap i = if i = g then v else s.heapCode c heap i := by
  split
  · next h => exact h ▸ mapGet_mapSet_same ..
  · next h => exact mapGet_mapSet_ne _ _ _ _ (by unfold heapKey; omega)

/-- The granules `g` to `g + n − 1` of a heap with the codes `v 0` to `v (n − 1)`. -/
def withRun (s : State) (c heap g n : Nat) (v : Nat → Nat) : State :=
  forEach (List.range n) s (fun i s => s.setHeap c heap (g + i) (v i))

theorem heapCode_withRun (s : State) (c heap g n : Nat) (v : Nat → Nat) (i : Nat) : (withRun s c heap g n v).heapCode c heap i =
    if g ≤ i ∧ i < g + n then v (i - g) else s.heapCode c heap i := by
  induction n with
  | zero => rw [if_neg (by omega)]; rfl
  | succ n ih =>
    have hlast : withRun s c heap g (n + 1) v = (withRun s c heap g n v).setHeap c heap (g + n) (v n) := by
      simp [withRun, forEach, List.range_succ]
    rw [hlast, heapCode_setHeap, ih]
    by_cases h : i = g + n
    · subst h
      rw [if_pos rfl, if_pos (by omega), Nat.add_sub_cancel_left]
    · rw [if_neg h]
      exact if_congr (by omega) rfl rfl

theorem contexts_withRun (s : State) (c heap g n : Nat) (v : Nat → Nat) :
    (withRun s c heap g n v).obj.contexts = s.obj.contexts :=
  forEach_rel (fun a b : State => b.obj.contexts = a.obj.contexts) (fun _ => rfl) (fun _ _ _ h k => Eq.trans k h)
    (fun i u => u.setHeap c heap (g + i) (v i)) (fun _ _ => rfl) _ s

theorem heapWord_withRun (s : State) (c heap g n : Nat) (v : Nat → Nat) (w : Nat) :
    (withRun s c heap g n v).heapWord c heap w = s.heapWord c heap w := ctxWord_of_contexts (contexts_withRun ..) ..

theorem heapBase_withRun (s : State) (c heap g n : Nat) (v : Nat → Nat) :
    (withRun s c heap g n v).heapBase c heap = s.heapBase c heap := by
  rw [State.heapBase, heapWord_withRun, State.heapBase]

theorem heapCode_addFree (s : State) (c heap : Nat) (d : Int) (g : Nat) : (s.addFree c heap d).heapCode c heap g = s.heapCode c heap g :=
  heapCode_of_heaps (touch_heaps ..) c heap g

theorem free_addFree (s : State) (c heap : Nat) (d : Int) : getBits 31 0 ((s.addFree c heap d).heapWord c heap 2) =
    ((getBits 31 0 (s.heapWord c heap 2) : Int) + d).toNat % 2 ^ 32 := by
  rw [State.addFree, State.heapWord, ctxWord_setCtxWord_same, getBits_setBits_same _ _ _ _ (by decide)]

end

/-! ## Service of a request (R292, R293) -/

section
variable {s : State} {a : PortAccess}

/-- The heap that a request names (R292). -/
def heapOf (a : PortAccess) : Nat := getBits 61 59 a.req.addr

/-- The granules that an ALLOC asks for (R292). -/
def granulesOf (a : PortAccess) : Nat := getBits 55 48 a.req.addr + 1

/-- The granules of the run that begins at a granule: the first and those that continue it (R291). -/
def runAt (s : State) (c heap g : Nat) : Nat := 1 + runTail (s.heapCode c heap) (s.heapGranules c heap - g - 1) (g + 1)

/-- The requests of its heap that wait or are in service when a request comes (R293). -/
def heapQueue (s : State) (a : PortAccess) : List Nat :=
  (mapGet [] s.obj.served (a.ctx * 8 + heapOf a)).filter (fun t => decide (s.clock.gtb < t))

theorem heapService_full (h : 24 ≤ (heapQueue s a).length) : s.heapService a = (heapReply 2 0, s) := if_pos h

theorem heapService_serves (h : (heapQueue s a).length < 24) :
    ∃ l, s.heapService a = ({ s with obj := { s.obj with served := l } } : State).serveHeap a := ⟨_, if_neg (Nat.not_le.mpr h)⟩

theorem serveHeap_noHeap (h : 8192 ≤ a.ctx ∨ s.heapValid a.ctx (heapOf a) = false) : s.serveHeap a = s.heapBad a := if_pos h

section
variable (hc : a.ctx < 8192) (hv : s.heapValid a.ctx (heapOf a) = true)
include hc hv

theorem heap_there : ¬ (8192 ≤ a.ctx ∨ s.heapValid a.ctx (heapOf a) = false) := by simp [hc, hv]

theorem serveHeap_alloc (hop : a.req.heapOp = 1) : s.serveHeap a =
    match findRun (s.heapCode a.ctx (heapOf a)) (granulesOf a) (s.heapGranules a.ctx (heapOf a)) 0 0 with
    | none => (heapReply 1 0, s)
    | some g =>
      let u := withRun s a.ctx (heapOf a) g (granulesOf a) (fun i => if i = 0 then 1 else 2)
      (heapReply 0 (u.heapBase a.ctx (heapOf a) + g * 65536), u.addFree a.ctx (heapOf a) (-(granulesOf a : Int))) :=
  (if_neg (heap_there hc hv)).trans (if_pos hop)

theorem serveHeap_alloc_none (hop : a.req.heapOp = 1)
    (h : findRun (s.heapCode a.ctx (heapOf a)) (granulesOf a) (s.heapGranules a.ctx (heapOf a)) 0 0 = none) :
    s.serveHeap a = (heapReply 1 0, s) := by
  rw [serveHeap_alloc hc hv hop, h]

theorem serveHeap_alloc_some (hop : a.req.heapOp = 1) {g : Nat}
    (h : findRun (s.heapCode a.ctx (heapOf a)) (granulesOf a) (s.heapGranules a.ctx (heapOf a)) 0 0 = some g) :
    s.serveHeap a = (heapReply 0 (s.heapBase a.ctx (heapOf a) + g * 65536),
      (withRun s a.ctx (heapOf a) g (granulesOf a) (fun i => if i = 0 then 1 else 2)).addFree a.ctx (heapOf a)
        (-(granulesOf a : Int))) := by
  rw [serveHeap_alloc hc hv hop, h]
  dsimp only
  rw [heapBase_withRun]

/-- An ALLOC with a run marks its granules first and continuing, and no other (R291, R292). -/
theorem heapCode_serveHeap_alloc (hop : a.req.heapOp = 1) {g : Nat}
    (h : findRun (s.heapCode a.ctx (heapOf a)) (granulesOf a) (s.heapGranules a.ctx (heapOf a)) 0 0 = some g) (i : Nat) :
    (s.serveHeap a).2.heapCode a.ctx (heapOf a) i =
      if i = g then 1 else if g < i ∧ i < g + granulesOf a then 2 else s.heapCode a.ctx (heapOf a) i := by
  have hsome : 0 < granulesOf a := Nat.succ_pos _
  rw [serveHeap_alloc_some hc hv hop h]
  refine (heapCode_addFree ..).trans ((heapCode_withRun ..).trans ?_)
  obtain rfl | hcont | hout : i = g ∨ (g < i ∧ i < g + granulesOf a) ∨ ¬ (g ≤ i ∧ i < g + granulesOf a) := by omega
  · rw [if_pos (by omega), if_pos rfl, if_pos (Nat.sub_self i)]
  · rw [if_pos (by omega), if_neg (by omega), if_neg (by omega), if_pos hcont]
  · rw [if_neg hout, if_neg (by omega), if_neg (by omega)]

/-- FREE of the heap falls by the granules an ALLOC took (R292). -/
theorem free_serveHeap_alloc (hop : a.req.heapOp = 1) {g : Nat}
    (h : findRun (s.heapCode a.ctx (heapOf a)) (granulesOf a) (s.heapGranules a.ctx (heapOf a)) 0 0 = some g)
    (hfree : granulesOf a ≤ getBits 31 0 (s.heapWord a.ctx (heapOf a) 2)) :
    getBits 31 0 ((s.serveHeap a).2.heapWord a.ctx (heapOf a) 2) =
      getBits 31 0 (s.heapWord a.ctx (heapOf a) 2) - granulesOf a := by
  have hlt := getBits_lt 31 0 (s.heapWord a.ctx (heapOf a) 2)
  rw [serveHeap_alloc_some hc hv hop h]
  refine (free_addFree ..).trans ?_
  rw [heapWord_withRun]
  omega

theorem serveHeap_free_bad (hop : a.req.heapOp = 2)
    (h : getBits 47 0 a.req.addr < s.heapBase a.ctx (heapOf a) ∨ getBits 47 0 a.req.addr % 65536 ≠ 0) :
    s.serveHeap a = s.heapBad a :=
  (if_neg (heap_there hc hv)).trans ((if_neg (by omega)).trans ((if_pos hop).trans (if_pos (h.imp_right .inl))))

theorem serveHeap_free (hop : a.req.heapOp = 2) {g : Nat}
    (hdva : getBits 47 0 a.req.addr = s.heapBase a.ctx (heapOf a) + g * 65536) (halign : getBits 47 0 a.req.addr % 65536 = 0)
    (hg : g < s.heapGranules a.ctx (heapOf a)) (hfirst : s.heapCode a.ctx (heapOf a) g = 1) : s.serveHeap a =
    (heapReply 0 0, (withRun s a.ctx (heapOf a) g (runAt s a.ctx (heapOf a) g) (fun _ => 0)).addFree a.ctx (heapOf a)
      (runAt s a.ctx (heapOf a) g)) := by
  have hbase : ¬ getBits 47 0 a.req.addr < s.heapBase a.ctx (heapOf a) := by omega
  obtain rfl : (getBits 47 0 a.req.addr - s.heapBase a.ctx (heapOf a)) / 65536 = g := by omega
  refine (if_neg (heap_there hc hv)).trans ((if_neg (by omega)).trans ((if_pos hop).trans (if_neg ?_)))
  rintro (h | h | h | h)
  · exact hbase h
  · exact h halign
  · exact Nat.not_le.mpr hg h
  · exact h hfirst

/-- A FREE of a run's first granule frees that granule and those that continue it, and no other (R291, R292). -/
theorem heapCode_serveHeap_free (hop : a.req.heapOp = 2) {g : Nat}
    (hdva : getBits 47 0 a.req.addr = s.heapBase a.ctx (heapOf a) + g * 65536) (halign : getBits 47 0 a.req.addr % 65536 = 0)
    (hg : g < s.heapGranules a.ctx (heapOf a)) (hfirst : s.heapCode a.ctx (heapOf a) g = 1) (i : Nat) :
    (s.serveHeap a).2.heapCode a.ctx (heapOf a) i =
      if g ≤ i ∧ i < g + runAt s a.ctx (heapOf a) g then 0 else s.heapCode a.ctx (heapOf a) i := by
  rw [serveHeap_free hc hv hop hdva halign hg hfirst]
  exact (heapCode_addFree ..).trans (heapCode_withRun ..)

end

end

/-! ## An allocator request on a port (R292) -/

theorem hedge_of_allocator {s : State} {k : Nat} {a : PortAccess} (hf : a.req.formatBad = false) (hslice : a.slice ≠ 0xFF)
    (hopc : a.req.opc = 6) : s.hedge k a = .grant ⟨0, 0, none⟩ none := by
  rw [State.hedge, if_neg (by simp [hf]), if_neg hslice, if_pos (.inr hopc)]

/-- The reply of a heap, sent and entered in the tile's log (R252, R292). -/
def heapAnswer (r : Req) (a : PortAccess) (u : State) : State :=
  ((u.heapService a).2.answer r.port r.txn a.core 0 0 (u.heapService a).1).fillLog a.core a.slot (u.heapService a).1 []

theorem heapRequest_granted {s : State} {r : Req} (hr : s.accepts r = true) (hf : r.formatBad = false)
    (hslice : (s.stamp r [] 0 0).slice ≠ 0xFF) (hopc : r.opc = 6) : s.heapRequest r =
      (((s.numbered r.port).emit (.hdgAns r.port r.txn 1)).throughLog r.port (s.stamp r [] 0 0) true 0 (heapAnswer r)).pumpEngines := by
  have hgrant := hedge_of_allocator (s := s.numbered r.port) (k := r.port) (a := s.stamp r [] 0 0) hf hslice hopc
  rw [State.heapRequest, if_neg (by simp [hr])]
  dsimp only
  rw [hgrant]
  rfl

/-- Settles O30: the search by its invariant `lowestRun_findRun`, requests by the Hedge's grant, the service by the equation of each
operation and the codes of the granules it marks. -/
theorem allocatorTakesTheLowestRun : Obligations.AllocatorTakesTheLowestRun := by
  refine ⟨fun code n size hn => ?_,
    fun r s hok hopc hr hf hslice => ?_,
    fun r s hok hopc hr hf hslice => ?_,
    fun a s => ⟨heapService_full, heapService_serves⟩, fun a s hc hv hop => ⟨serveHeap_alloc_none hc hv hop, fun g h => ?_⟩,
    fun a s g hc hv hop hdva halign hg hfirst => ?_, fun a s hc hv hop h => serveHeap_free_bad hc hv hop h,
    fun a s h => serveHeap_noHeap h⟩
  · have hlowest := lowestRun_search code size hn
    refine ⟨fun g hg => ?_, fun hnone h hh => ?_⟩
    · rw [hg] at hlowest
      obtain ⟨hfits, hfree, hleast⟩ := hlowest
      exact ⟨hfits, hfree, fun h hh => not_freeRun.mp (hleast h hh)⟩
    · rw [hnone] at hlowest
      exact not_freeRun.mp (hlowest h hh)
  · exact leaves_effect rfl hok (alive_of_accepts hr) (heapRequest_granted hr hf hslice hopc)
  · exact leaves_effect rfl hok (alive_of_accepts hr) (heapRequest_granted hr hf hslice hopc)
  · exact ⟨congrArg Prod.fst (serveHeap_alloc_some hc hv hop h), heapCode_serveHeap_alloc hc hv hop h,
      free_serveHeap_alloc hc hv hop h⟩
  · refine ⟨congrArg Prod.fst (serveHeap_free hc hv hop hdva halign hg hfirst), fun i => ?_⟩
    rw [Nat.add_assoc]
    exact heapCode_serveHeap_free hc hv hop hdva halign hg hfirst i

end Sys2Proof.Scope

namespace Sys2Proof.Scope

open Sys2Proof Sys2Proof.Machine Sys2Proof.Laws

/-! ## The stations' records and registers of a port (R331, R336–R338) -/

section
variable {s t : State} {p : Nat}

theorem regIdxOk_port (hp : p < 16) {r : Reg} (hr : r ∈ stationRegs .link) : regIdxOk r p = true :=
  regIdxOk_station (kind := .link) (decide_eq_true hp) hr

theorem link_of_links (h : t.links = s.links) (q : Nat) : t.link q = s.link q :=
  congrArg (fun m => mapGet LinkStation.init m q) h

theorem LeftBy.link (h : LeftBy s t) (q : Nat) : t.link q = s.link q := link_of_links (congrArg State.links h :) q

theorem keepsRegs_port {l : List Reg} (s : State) {f : Fld} (v : Nat) (hp : p < 16) (hf : f.reg ∈ l)
    (hr : f.reg ∈ stationRegs .link) : KeepsRegs l s (s.setFld f p v) :=
  keepsRegs_setFld s v hf (regIdxOk_port hp hr)

theorem KeepsRegs.port {l : List Reg} (h : KeepsRegs l s t) {f : Fld} (hp : p < 16) (hr : f.reg ∈ stationRegs .link)
    (hf : f.reg ∉ l) : t.fld f p = s.fld f p := h.fld (regIdxOk_port hp hr) hf

/-- Whether a port carries traffic rests on its domain and its state (R29, R336). -/
theorem linkOpen_of_keepsRegs {l : List Reg} (h : KeepsRegs l s t) (hpower : t.power = s.power) (hp : p < 16)
    (hpd : .GLB_PD_STATUS ∉ l) (hst : .LNK_PORT_STATUS ∉ l) : t.linkOpen p = s.linkOpen p := by
  unfold State.linkOpen State.stationOn State.pdOn
  rw [h.rd rfl hpd, h.port (f := .LNK_PORT_STATUS_STATE) hp (by decide) hst, hpower]

end

/-! ## Flit groups (R324–R326) -/

section
variable {s : State} {p : Nat} {f : Flit} {fs : List Flit}

/-- Only the next flit in FSN order is accepted, at an open port (R326). -/
theorem leaves_klfFlit_outOfOrder (hp : p < 16) (hf : flitOk f = true)
    (h : s.linkOpen p = false ∨ f.fsn ≠ (s.link p).fsnRx + (s.link p).partialRx.length) : Leaves (.klfFlit p f) s s :=
  leaves_unchanged (i := .klfFlit p f) rfl (if_pos h) (and_ok (decide_eq_true hp) hf)

/-- A flit out of its place in the group, or an eighth that is not the last, fails the group (R324). -/
theorem leaves_klfFlit_misplaced (ha : s.alive = true) (hp : p < 16) (hf : flitOk f = true) (ho : s.linkOpen p = true)
    (hfsn : f.fsn = (s.link p).fsnRx + (s.link p).partialRx.length)
    (h : f.index ≠ (s.link p).partialRx.length ∨ (f.last = false ∧ (s.link p).partialRx.length = 7)) :
    Leaves (.klfFlit p f) s (s.groupFails p (s.link p).fsnRx) := by
  have horder : ¬ (s.linkOpen p = false ∨ f.fsn ≠ (s.link p).fsnRx + (s.link p).partialRx.length) := by simp [ho, hfsn]
  refine leaves_effect rfl (and_ok (decide_eq_true hp) hf) ha ((if_neg horder).trans (if_pos ?_))
  rw [List.length_append, List.length_singleton]
  exact h.imp_right (And.imp_right (congrArg (· + 1)))

theorem openGroup_unknownClass (h : ∃ f ∈ fs, 4 < f.cls) : s.openGroup p fs = none := by
  cases fs with
  | nil => rfl
  | cons g l =>
    obtain ⟨f, hf, hcls⟩ := h
    exact if_pos (List.any_eq_true.mpr ⟨f, hf, decide_eq_true hcls⟩)

/-- Without a receiving key of its phase a group does not open (R331). -/
theorem openGroup_keyless (h : ∀ e ∈ (s.link p).keys, e.1 ≠ 2 + bit01 f.phase) : s.openGroup p (f :: fs) = none := by
  have hnone : (s.link p).keys.find? (fun e => e.1 == 2 + bit01 f.phase) = none :=
    List.find?_eq_none.mpr fun e he => by simpa using h e he
  simp only [State.openGroup, hnone]
  exact ite_self _

theorem groupDone_unopened (h : s.openGroup p fs = none) : s.groupDone p fs = s.groupFails p (s.link p).fsnRx := by
  simp only [State.groupDone, h]

theorem groupFails_first {fsn : Nat} (h : (s.link p).failedFsn ≠ some fsn) : s.groupFails p fsn =
    (s.modLink p (fun l => { l with failedFsn := some fsn, partialRx := [] })).ctl p 4 fsn [] := if_neg h

theorem groupFails_again {fsn : Nat} (h : (s.link p).failedFsn = some fsn) : s.groupFails p fsn =
    (s.raise .alarm 0x0D01 (s.portSlice p) (172 + p)).portDown p := if_pos h

theorem groupMessages_wrongTag (plain : List Byte) (h : ∃ f ∈ fs, s.wireBad p f = true) : s.groupMessages p fs plain =
    (((s.raise .error 0x0D04 (s.portSlice p) (172 + p)).denyInbound p).settleTxns p).pumpEngines := by
  unfold State.groupMessages
  rw [if_pos (List.any_eq_true.mpr h)]

theorem wireBad_iff (s : State) (p : Nat) (f : Flit) : s.wireBad p f = true ↔
    (f.cls = 1 ∨ f.cls = 3) ∧ (cfgLinkOwner s.regs p = 0xFF ∨ f.wireTag ≠ cfgLinkOwner s.regs p) := by
  simp [State.wireBad]

end

/-! ## Inbound requests (R332, R333) -/

section
variable {s : State} {p pa keyid : Nat}

/-- A granted access is of this chip, and of the port's owner under a KeyID of its own, or a read of a commons (R333). -/
theorem inbound_granted {read : Bool} {o : Owner} {k : Nat} (h : s.inbound p read pa keyid = .inr (o, k)) :
    pa / 2 ^ 50 = s.fld .CMP_CHIPNUM_CHIPNUM ∧ pa % 2 ^ 50 < 2 ^ 39 ∧ o = s.ownerOf pa ∧ o.tag ≠ 0xFF ∧
    ((o.tag = cfgLinkOwner s.regs p ∧ o.tag ≠ 0xFE ∧ cfgKeyOwner s.regs keyid = cfgLinkOwner s.regs p ∧ k = keyid) ∨
      (o.tag = 0xFE ∧ read = true ∧ cfgMember s.regs o.cid (cfgLinkOwner s.regs p) = true ∧ keyid = 0)) := by
  unfold State.inbound at h
  dsimp only at h
  split at h
  · cases h
  next hchip =>
  split at h
  · cases h
  next hlocal =>
  split at h
  · cases h
  next howned =>
  refine ⟨not_not.mp hchip, by omega, ?_⟩
  split at h
  next hcommons =>
    split at h
    · cases h
    next hread =>
    split at h
    · cases h
    next hmember =>
    split at h
    · cases h
    next hkey =>
    obtain ⟨rfl, rfl⟩ := Prod.mk.inj (Sum.inr.inj h)
    exact ⟨rfl, howned, .inr ⟨hcommons, by simpa using hread, by simpa using hmember, not_not.mp hkey⟩⟩
  next hown =>
    split at h
    · cases h
    next htag =>
    split at h
    · cases h
    next hkey =>
    obtain ⟨rfl, rfl⟩ := Prod.mk.inj (Sum.inr.inj h)
    exact ⟨rfl, howned, .inl ⟨not_not.mp htag, hown, not_not.mp hkey, rfl⟩⟩

theorem inboundReq_denied {txn n code : Nat} {kind : MemKind} (d : Line) (be : ByteMask)
    (h : s.inbound p (decide (kind = .read)) pa keyid = .inl code) : s.inboundReq p txn pa n keyid kind d be = s.denyInbound p := by
  simp only [State.inboundReq, h]

end

/-! ## Replays (R326, R338) -/

section
variable {s : State} {p fsn : Nat}

/-- A group of the replay buffer as it is sent (R324, R332). -/
def replayOf (s : State) (p : Nat) (g : Group) : Output :=
  .linkTx p g.cls (if g.cls = 1 ∨ g.cls = 3 then s.fld .LNK_PORT_CFG_WIRE_TAG p else 0) g.fsn g.flits g.phase

theorem resend_eq (s : State) (p fsn : Nat) : s.resend p fsn =
    { s with out := s.out ++ ((s.link p).replay.filter (fun g => decide (fsn ≤ g.fsn))).map (replayOf s p) } :=
  forEach_emit _ s _ (replayOf s p) fun _ _ => rfl

theorem leaves_linkReplayRequest_closed (hp : p < 16) (h : s.linkOpen p = false) : Leaves (.linkReplayRequest p fsn) s s :=
  leaves_unchanged (i := .linkReplayRequest p fsn) rfl (if_pos h) (decide_eq_true hp)

/-- During a window the earliest FSN asked for waits for its end (R338). -/
theorem leaves_linkReplayRequest_window (ha : s.alive = true) (hp : p < 16) (ho : s.linkOpen p = true)
    (hw : (s.link p).window = true) : Leaves (.linkReplayRequest p fsn) s
      (s.modLink p (fun l => { l with replayFrom := some (min fsn (l.replayFrom.getD fsn)) })) :=
  leaves_effect rfl (decide_eq_true hp) ha ((if_neg (by simp [ho])).trans (if_pos hw))

end

/-! ## The limits of a phase (R327) -/

section
variable {s t : State} {p : Nat} (hp : p < 16)
include hp

theorem keepsRegs_groupsReach (s : State) (n : Nat) : KeepsRegs [.LNK_COUNT] s (s.groupsReach p n) :=
  (keepsRegs_port s (f := .LNK_COUNT_GROUPS) _ hp (List.mem_singleton_self _) (by decide)).trans (keepsRegs_of_regs_eq _ rfl)

omit hp in
theorem groups_groupsReach (s : State) {n : Nat} (h : n < 2 ^ 40) : (s.groupsReach p n).fld .LNK_COUNT_GROUPS p = n := by
  refine (fld_setFld_same s .LNK_COUNT_GROUPS p _ (by decide)).trans ?_
  rw [saturate, Nat.min_eq_left (by omega)]
  exact Nat.mod_eq_of_lt h

/-- At 2^39 groups the port asks for a new phase and goes on. -/
theorem rekeyDue_shows (ht : LeftBy ((s.groupsReach p (2 ^ 39)).setCause 0x0D 0) t) :
    t.fld .LNK_COUNT_GROUPS p = 2 ^ 39 ∧ bitOf 0 (t.rd .IRQ_CAUSE 0x0D) = true ∧
      t.fld .LNK_PORT_STATUS_STATE p = s.fld .LNK_PORT_STATUS_STATE p := by
  have hcause := keepsRegs_setCause (s.groupsReach p (2 ^ 39)) (n := 0x0D) 0 (by decide)
  refine ⟨?_, ?_, ?_⟩
  · rw [ht.fld, hcause.port hp (by decide) (by decide), groups_groupsReach s (by decide)]
  · rw [ht.rd]
    exact bitOf_setCause _ _ (by decide)
  · rw [ht.fld, hcause.port hp (by decide) (by decide), (keepsRegs_groupsReach hp s _).port hp (by decide) (by decide)]

/-- At 2^40 groups the port holds, and what waits there goes on waiting. -/
theorem sealLimit_shows (ht : LeftBy
      (let u := (s.groupsReach p (2 ^ 40)).modLink p (fun l => { l with sealHold := true })
      (u.setFld .LNK_PORT_STATUS_STATE p 3).raise .error 0x0D07 (u.portSlice p) (172 + p)) t) :
    t.fld .LNK_PORT_STATUS_STATE p = 3 ∧ (t.link p).sealHold = true ∧ (t.link p).txns = (s.link p).txns ∧
      (t.link p).outq = (s.link p).outq ∧ t.clusters = s.clusters := by
  dsimp only at ht
  have hlink : t.link p = { s.link p with
      fsnTx := (s.link p).fsnTx + (2 ^ 40 - s.fld .LNK_COUNT_GROUPS p), sealHold := true } := by
    rw [ht.link, link_of_links (raise_links ..)]
    simp [State.groupsReach, link_of_links (setFld_links ..)]
  refine ⟨?_, by rw [hlink], by rw [hlink], by rw [hlink], (congrArg State.clusters ht :).trans (raise_clusters ..)⟩
  rw [ht.fld, (keepsRegs_raise _ _ _ _ _ (by omega)).port hp (by decide) (by decide), fld_setFld_same _ _ _ _ (by decide)]
  rfl

end

/-! ## The end of an exchange, and DOWN (R329, R336, R337) -/

section
variable {s t : State} {p result : Nat}

/-- No port's state lies in the status of the exchanges or in a cause register. -/
theorem state_kxOver (s : State) (result q : Nat) :
    (s.kxOver result).fld .LNK_PORT_STATUS_STATE q = s.fld .LNK_PORT_STATUS_STATE q := by
  have hstatus : regAddr .LNK_PORT_STATUS q ≠ regAddr .LNK_KX_STATUS 0 := by
    simp only [regAddr, regDef]
    omega
  have hcause : regAddr .LNK_PORT_STATUS q ≠ regAddr .IRQ_CAUSE 0x0D := by
    simp only [regAddr, regDef]
    omega
  have hrd : (s.kxOver result).rd .LNK_PORT_STATUS q = s.rd .LNK_PORT_STATUS q := by
    unfold State.kxOver
    dsimp only
    rw [State.setCause, rd_wr_ne _ _ hcause, count_eq, rd_setFld_ne _ .LNK_KX_STATUS_DONE _ hstatus,
      rd_setFld_ne _ .LNK_KX_STATUS_RESULT _ hstatus, rd_setFld_ne _ .LNK_KX_STATUS_BUSY _ hstatus]
    rfl
  exact congrArg (getBits 63 62) hrd

/-- An exchange's end shows its result, is counted, and sets its cause bit. -/
theorem kxOver_shows (s : State) (h : result < 65536) : (s.kxOver result).fld .LNK_KX_STATUS_BUSY = 0 ∧
    (s.kxOver result).fld .LNK_KX_STATUS_RESULT = result ∧
    (s.kxOver result).fld .LNK_KX_STATUS_DONE = (s.fld .LNK_KX_STATUS_DONE + 1) % 2 ^ 32 ∧
    bitOf 1 ((s.kxOver result).rd .IRQ_CAUSE 0x0D) = true := by
  have hstatus : ∀ f : Fld, f.reg = .LNK_KX_STATUS → (s.kxOver result).fld f =
      (((({ s with kx := none } : State).setFld .LNK_KX_STATUS_BUSY 0 0).setFld .LNK_KX_STATUS_RESULT 0 result).count
        .LNK_KX_STATUS_DONE).fld f := fun f hf =>
    (keepsRegs_setCause _ 1 (by decide)).fld (by rw [hf]; rfl) (by rw [hf]; decide)
  refine ⟨?_, ?_, ?_, bitOf_setCause _ _ (by decide)⟩
  · rw [hstatus _ rfl, count_eq, fld_setFld_other _ .LNK_KX_STATUS_DONE .LNK_KX_STATUS_BUSY _ _ rfl (by decide),
      fld_setFld_other _ .LNK_KX_STATUS_RESULT .LNK_KX_STATUS_BUSY _ _ rfl (by decide), fld_setFld_same _ _ _ _ (by decide)]
    rfl
  · rw [hstatus _ rfl, count_eq, fld_setFld_other _ .LNK_KX_STATUS_DONE .LNK_KX_STATUS_RESULT _ _ rfl (by decide),
      fld_setFld_same _ _ _ _ (by decide)]
    exact Nat.mod_eq_of_lt h
  · rw [hstatus _ rfl, count_eq, fld_setFld_same _ _ _ _ (by decide),
      fld_setFld_other _ .LNK_KX_STATUS_RESULT .LNK_KX_STATUS_DONE _ _ rfl (by decide),
      fld_setFld_other _ .LNK_KX_STATUS_BUSY .LNK_KX_STATUS_DONE _ _ rfl (by decide)]
    rfl

/-- A port that has gone DOWN keeps of its station what the link controller and the commit give it (R337). -/
def downStation (l : LinkStation) : LinkStation :=
  { LinkStation.init with up := l.up, laneCe := l.laneCe, pendingMap := l.pendingMap,
                          epoch := l.epoch, prevEpoch := l.prevEpoch, stub := l.stub }

/-- The state with port `p` DOWN, before its transactions and its exchange are ended. -/
def portCleared (s : State) (p : Nat) : State :=
  ((s.setLink p (downStation (s.link p))).setFld .LNK_PORT_STATUS_STATE p 0).setCause 0x0D 2

theorem portDown_idle (htxns : (s.link p).txns = []) (houtq : (s.link p).outq = []) : s.portDown p =
    match s.kxOn p with
    | some _ => (portCleared s p).kxOver 0x0D06
    | none => portCleared s p := by
  unfold State.portDown
  simp only [htxns, houtq, List.filterMap_nil, List.append_nil, forEach_nil]
  rfl

theorem state_portCleared (s : State) (hp : p < 16) : (portCleared s p).fld .LNK_PORT_STATUS_STATE p = 0 := by
  rw [portCleared, (keepsRegs_setCause _ 2 (by decide)).port hp (by decide) (by decide), fld_setFld_same _ _ _ _ (by decide)]
  rfl

theorem link_portDown_idle (htxns : (s.link p).txns = []) (houtq : (s.link p).outq = []) (q : Nat) :
    (s.portDown p).link q = (s.setLink p (downStation (s.link p))).link q := by
  rw [portDown_idle htxns houtq]
  split <;> rfl

theorem state_portDown_idle (hp : p < 16) (htxns : (s.link p).txns = []) (houtq : (s.link p).outq = []) :
    (s.portDown p).fld .LNK_PORT_STATUS_STATE p = 0 := by
  rw [portDown_idle htxns houtq]
  split
  · rw [state_kxOver, state_portCleared s hp]
  · exact state_portCleared s hp

/-- DOWN ends the exchange of its port (R329). -/
theorem portDown_endsExchange {x : Kx} (htxns : (s.link p).txns = []) (houtq : (s.link p).outq = []) (hk : s.kx = some x)
    (hx : x.port = p) : s.portDown p = (portCleared s p).kxOver 0x0D06 := by
  have hon : s.kxOn p = some x := by simp [State.kxOn, hk, hx]
  rw [portDown_idle htxns houtq, hon]

end

/-- Settles O50: flits by the branch taken, the limits and DOWN by what the registers and the station show afterwards. -/
theorem flitGroupsVerifyBeforeTheirMessages : Obligations.FlitGroupsVerifyBeforeTheirMessages := by
  refine ⟨fun p f s ha hp hf => ⟨leaves_klfFlit_outOfOrder hp hf, fun ho hfsn => ⟨leaves_klfFlit_misplaced ha hp hf ho hfsn,
      leaves_klfFlit_last ha hp ho hf hfsn, leaves_klfFlit_next ha hp ho hf hfsn⟩⟩,
    fun s p fs => ⟨openGroup_unknownClass, fun f l h hk => h ▸ openGroup_keyless hk, groupDone_unopened⟩,
    fun s p fsn h => ?firstFailure, fun s p fsn h => groupFails_again h, fun s p fs plain h => groupMessages_wrongTag plain h,
    wireBad_iff, fun s p pa keyid k read o h => inbound_granted h, fun s p txn pa n keyid code kind d be h => inboundReq_denied d be h,
    fun p fsn s ha hp => ⟨leaves_linkReplayRequest_closed hp, fun ho hw => resend_eq s p fsn ▸ leaves_linkReplayRequest ha hp ho hw,
      leaves_linkReplayRequest_window ha hp⟩,
    fun p s ha hp ho => ⟨fun h => answers_of_leaves (leaves_rekeyDue ha hp ho h) fun _ => rekeyDue_shows hp,
      fun h => answers_of_leaves (leaves_sealLimit ha hp ho h) fun _ => sealLimit_shows hp⟩,
    fun p s ha hp h => leaves_effect rfl (decide_eq_true hp) ha (if_pos h),
    fun p s ha hp h => leaves_effect rfl (decide_eq_true hp) ha (if_neg (not_not.mpr h)),
    fun p s hp htxns houtq => ?down⟩
  case firstFailure =>
    rw [groupFails_first h]
    have hlink : ∀ q, ((s.modLink p (fun l => { l with failedFsn := some fsn, partialRx := [] })).ctl p 4 fsn []).link q =
        (s.setLink p { s.link p with failedFsn := some fsn, partialRx := [] }).link q := fun _ => rfl
    refine ⟨?_, ?_, rfl, rfl, fun q hq => (hlink q).trans (link_setLink_ne s _ hq)⟩ <;> rw [hlink, link_setLink]
  case down =>
    have hlink := link_portDown_idle htxns houtq p
    rw [link_setLink] at hlink
    refine ⟨state_portDown_idle hp htxns houtq, congrArg LinkStation.keys hlink, congrArg LinkStation.replay hlink,
      congrArg LinkStation.fsnTx hlink, congrArg LinkStation.fsnRx hlink, (congrArg LinkStation.epoch hlink :),
      fun q hq => (link_portDown_idle htxns houtq q).trans (link_setLink_ne s _ hq), fun x hk hx => ?_⟩
    rw [portDown_endsExchange htxns houtq hk hx]
    exact ⟨rfl, (kxOver_shows _ (by decide)).2.1⟩

end Sys2Proof.Scope

namespace Sys2Proof.Scope

open Sys2Proof Sys2Proof.Machine Sys2Proof.Laws

/-! ## The start of an exchange (R328, R337) -/

section
variable {s t : State} {p tx rx : Nat} {up : Bool}

/-- A statement takes a draw of the random source, and nothing else of the block changes (R359). -/
theorem statement_keeps {kind sl : Nat} {nonce st : List Byte} (h : s.statement kind sl nonce = .inr (st, t)) :
    ∃ w : Well, w.slots = s.well.slots ∧ t = { s with well := w } := by
  unfold State.statement at h
  split at h
  · cases h
  split at h
  · cases h
  split at h
  · cases h
  dsimp only [State.draw] at h
  split at h
  · obtain ⟨-, rfl⟩ := Prod.mk.inj (Sum.inr.inj h)
    exact ⟨s.draw.2.well, rfl, rfl⟩
  · cases h

/-- The state in which exchange `x` runs, its HELLO sent. -/
def kxStarted (s : State) (x : Kx) : State :=
  let u : State := { s with kx := some x }
  let v := if s.fld .LNK_PORT_STATUS_STATE x.port = 0 then u.setFld .LNK_PORT_STATUS_STATE x.port 1 else u
  ((v.setFld .LNK_KX_STATUS_BUSY 0 1).setFld .LNK_KX_STATUS_RESULT 0 0).ctl x.port 0 0 x.ownHello

theorem kx_kxStarted (s : State) (x : Kx) : (kxStarted s x).kx = some x := by
  unfold kxStarted
  split <;> rfl

theorem well_kxStarted (s : State) (x : Kx) : (kxStarted s x).well = s.well := by
  unfold kxStarted
  split <;> rfl

/-- A running exchange is BUSY without a result, and a port that was DOWN is in KEYING (R337). -/
theorem kxStarted_shows (s : State) {x : Kx} (hp : x.port < 16) : (kxStarted s x).fld .LNK_KX_STATUS_BUSY = 1 ∧
    (kxStarted s x).fld .LNK_KX_STATUS_RESULT = 0 ∧ (kxStarted s x).fld .LNK_PORT_STATUS_STATE x.port =
      (if s.fld .LNK_PORT_STATUS_STATE x.port = 0 then 1 else s.fld .LNK_PORT_STATUS_STATE x.port) := by
  have hstatus : ∀ v : State, KeepsRegs [.LNK_KX_STATUS] v
      (((v.setFld .LNK_KX_STATUS_BUSY 0 1).setFld .LNK_KX_STATUS_RESULT 0 0).ctl x.port 0 0 x.ownHello) := fun v =>
    ((keepsRegs_setFld v _ (by decide) rfl).trans (keepsRegs_setFld _ _ (by decide) rfl)).trans (keepsRegs_of_regs_eq _ rfl)
  refine ⟨?_, fld_setFld_same _ .LNK_KX_STATUS_RESULT 0 0 (by decide), ?_⟩
  · refine (fld_setFld_other _ .LNK_KX_STATUS_RESULT .LNK_KX_STATUS_BUSY _ _ rfl (by decide)).trans ?_
    exact fld_setFld_same _ .LNK_KX_STATUS_BUSY 0 1 (by decide)
  · unfold kxStarted
    rw [(hstatus _).port hp (by decide) (by decide)]
    split
    · exact fld_setFld_same _ .LNK_PORT_STATUS_STATE x.port 1 (by decide)
    · rfl

/-- Without LPk_UP, power or two free slots the exchange ends at once (R328, R337, R346). -/
theorem kxBegin_refused (h : up = false ∨ s.stationOn .link p = false ∨ s.kxSlotsOk tx rx = false) :
    s.kxBegin p tx rx up = (s.modLink p (fun l => { l with up := up })).kxOver 0x0D06 := if_pos h

/-- An exchange ends at once, or runs for the port and the slots it was asked for. -/
theorem kxBegin_ends_or_starts (s : State) (p tx rx : Nat) (up : Bool) :
    s.kxBegin p tx rx up = (s.modLink p (fun l => { l with up := up })).kxOver 0x0D06 ∨
    ∃ (w : Well) (x : Kx), w.slots = s.well.slots ∧ x.port = p ∧ x.slotTx = tx ∧ x.slotRx = rx ∧ x.startAt = s.clock.gtb ∧
      s.kxBegin p tx rx up = kxStarted { s.modLink p (fun l => { l with up := up }) with well := w } x := by
  unfold State.kxBegin
  dsimp only [State.drawPair]
  split
  · exact .inl rfl
  split
  · exact .inl rfl
  next st u hst =>
    obtain ⟨w, hw, rfl⟩ := statement_keeps hst
    exact .inr ⟨w, ⟨p, tx, rx, s.well.draws, decide (2 ≤ s.fld .LNK_PORT_STATUS_STATE p), s.clock.gtb,
      ephPublic s.well.draws ++ st, none, [], [], none⟩, hw, rfl, rfl, rfl, rfl, rfl⟩

theorem kxBegin_shows (hp : p < 16) (s : State) (tx rx : Nat) (up : Bool) :
    (s.kxBegin p tx rx up).kx = none ∧ (s.kxBegin p tx rx up).fld .LNK_KX_STATUS_RESULT = 0x0D06 ∨
    ∃ x, (s.kxBegin p tx rx up).kx = some x ∧ x.port = p ∧ x.slotTx = tx ∧ x.slotRx = rx ∧ x.startAt = s.clock.gtb ∧
      (s.kxBegin p tx rx up).fld .LNK_KX_STATUS_BUSY = 1 ∧ (s.kxBegin p tx rx up).fld .LNK_KX_STATUS_RESULT = 0 ∧
      (s.kxBegin p tx rx up).fld .LNK_PORT_STATUS_STATE p =
        (if s.fld .LNK_PORT_STATUS_STATE p = 0 then 1 else s.fld .LNK_PORT_STATUS_STATE p) := by
  obtain h | ⟨w, x, -, rfl, htx, hrx, hat, h⟩ := kxBegin_ends_or_starts s p tx rx up
  · rw [h]
    exact .inl ⟨rfl, (kxOver_shows _ (by decide)).2.1⟩
  · rw [h]
    exact .inr ⟨x, kx_kxStarted .., rfl, htx, hrx, hat, kxStarted_shows _ hp⟩

/-- A start leaves the Well's slots as they are. -/
theorem slots_kxBegin (s : State) (p tx rx : Nat) (up : Bool) : (s.kxBegin p tx rx up).well.slots = s.well.slots := by
  obtain h | ⟨w, x, hw, -, -, -, -, h⟩ := kxBegin_ends_or_starts s p tx rx up
  · rw [h]
    rfl
  · rw [h, well_kxStarted]
    exact hw

theorem leaves_kxStart_busy {path : Path} (hr : s.isReady = true) (hpath : pathOk path = true) (hp : p < 16)
    (htx : slotOk tx = true) (hrx : slotOk rx = true) (h : s.kx.isSome = true) : Leaves (.kxStart path p tx rx up) s s :=
  leaves_taken rfl (and_ok (and_ok (and_ok hpath (decide_eq_true hp)) htx) hrx) hr hpath (if_pos h)

end

/-! ## The messages of an exchange (R328–R330) -/

section
variable {s : State} {p : Nat} {x : Kx}

/-- A rekey that fails leaves its port as it is (R337). -/
theorem kxFail_keepsPort (h : x.rekey = true ∨ s.fld .LNK_PORT_STATUS_STATE x.port ≠ 1) : s.kxFail x = s.kxOver 0x0D06 := by
  refine if_neg fun ⟨hrekey, hstate⟩ => ?_
  rw [state_kxOver] at hstate
  exact h.elim (by simp [hrekey]) (· hstate)

/-- R329's conditions that the statement shows by itself. -/
theorem helloOk_false {st : PeerStatement} {pub : List Byte} (h : stLc st ≠ s.ledger.lc ∨
    stChip st ≠ s.fld .LNK_PORT_CFG_PEER_CHIP p ∨ stNonce st ≠ sha384 (fit 1665 pub) ∨ s.allows .LNK_PEER_ALLOW st = false) :
    s.helloOk p st pub = false := by
  rcases h with h | h | h | h <;> simp [State.helloOk, h]

theorem onHello_refused {st : PeerStatement} {pub : List Byte} (h : s.helloOk x.port st pub = false) :
    s.onHello x st pub = s.kxFail x := if_pos (.inl h)

/-- The keys of an exchange go into its two slots, with the attributes of R330. -/
theorem kxStore_eq (s : State) (x : Kx) (keys : List Byte) : ∃ send receive : Key, s.kxStore x keys =
    (s.setKeySlot x.slotTx (filledSlot 1 6 0x1FF 0 0 send)).setKeySlot x.slotRx (filledSlot 2 6 0x1FF 0 0 receive) :=
  ⟨_, _, rfl⟩

theorem keySlot_setKeySlot_ne (s : State) {m n : Nat} (k : KeySlot) (h : m ≠ n) : (s.setKeySlot n k).keySlot m = s.keySlot m :=
  mapGet_mapSet_ne _ _ _ _ h

theorem kxStore_shows (s : State) (keys : List Byte) (h : x.slotTx ≠ x.slotRx) :
    ((s.kxStore x keys).keySlot x.slotTx).state = .full ∧ ((s.kxStore x keys).keySlot x.slotTx).attr = 1 ∧
    ((s.kxStore x keys).keySlot x.slotRx).state = .full ∧ ((s.kxStore x keys).keySlot x.slotRx).attr = 2 ∧
    (∀ n, n ≠ x.slotTx → n ≠ x.slotRx → (s.kxStore x keys).keySlot n = s.keySlot n) := by
  obtain ⟨send, receive, hstore⟩ := kxStore_eq s x keys
  rw [hstore, keySlot_setKeySlot_ne _ _ h, keySlot_setKeySlot, keySlot_setKeySlot]
  exact ⟨rfl, rfl, rfl, rfl, fun n htx hrx => (keySlot_setKeySlot_ne _ _ hrx).trans (keySlot_setKeySlot_ne _ _ htx)⟩

section
variable (hp : p < 16) (hon : s.stationOn .link p = true) (hk : s.kx = some x) (hx : x.port = p)
include hp hon hk hx

theorem leaves_kxHello_again (st : PeerStatement) (pub : List Byte) (h : x.peerHello ≠ none) : Leaves (.kxHello p st pub) s s := by
  refine leaves_unchanged (i := .kxHello p st pub) rfl ?_ (decide_eq_true hp)
  simp only [kxTakes_exchange hk hx hon]
  exact if_neg fun hc => h (Option.isNone_iff_eq_none.mp hc.1)

theorem leaves_kxFinish_keyless (ha : s.alive = true) {cipher h : List Byte} (hh : x.peerHello = some h) (hc : x.peerCipher = none)
    (hkeys : s.kxKeys x h (fit 1568 cipher) = none) : Leaves (.kxFinish p cipher) s (s.kxFail x) := by
  refine leaves_effect rfl (decide_eq_true hp) ha ?_
  simp only [kxTakes_exchange hk hx hon, hh, hc, hkeys]

theorem leaves_kxConfirm_keyless (ha : s.alive = true) {mac h c : List Byte} (hh : x.peerHello = some h) (hc : x.peerCipher = some c)
    (hkeys : s.kxKeys x h c = none) : Leaves (.kxConfirm p mac) s (s.kxFail x) := by
  refine leaves_effect rfl (decide_eq_true hp) ha ?_
  simp only [kxTakes_exchange hk hx hon, hh, hc, hkeys]

theorem leaves_kxConfirm_wrong (ha : s.alive = true) {mac h c keys : List Byte} (hh : x.peerHello = some h)
    (hc : x.peerCipher = some c) (hkeys : s.kxKeys x h c = some keys)
    (hn : ¬ (fit 48 mac = s.kxMac x keys h c ∧ s.kxSlotsOk x.slotTx x.slotRx = true)) :
    Leaves (.kxConfirm p mac) s (s.kxFail x) := by
  refine leaves_effect rfl (decide_eq_true hp) ha ?_
  simp only [kxTakes_exchange hk hx hon, hh, hc, hkeys]
  exact if_neg hn

end

end

/-! ## Retiring a phase (R331) -/

section
variable {s t : State} {p : Nat} {phase : Bool}

theorem leaves_linkRetire_off {path : Path} (hr : s.isReady = true) (hpath : pathOk path = true) (hp : p < 16) (phase : Bool)
    (h : s.stationOn .link p = false) : Leaves (.linkRetire path p phase) s s :=
  leaves_taken rfl (and_ok hpath (decide_eq_true hp)) hr hpath (if_neg (by simp [h]))

theorem leaves_linkRetireDone_waits (hp : p < 16) (h : (s.link p).retire = some phase) (hm : s.mayRetire p phase = false) :
    Leaves (.linkRetireDone p) s s := by
  refine leaves_unchanged (i := .linkRetireDone p) rfl ?_ (decide_eq_true hp)
  simp only [h]
  exact if_neg (by simp [hm])

theorem mayRetire_iff (s : State) (p : Nat) (phase : Bool) : s.mayRetire p phase = true ↔
    s.fld .LNK_PORT_CFG_TX_PHASE p ≠ bit01 phase ∧ (∀ g ∈ (s.link p).replay, g.phase ≠ phase) ∧ (s.link p).sawPhase = true ∧
      (s.link p).failedFsn = none := by
  simp [State.mayRetire, and_assoc]

theorem mem_mapErase_iff {α : Type} {m : List (Nat × α)} {k : Nat} {e : Nat × α} : e ∈ mapErase m k ↔ e ∈ m ∧ e.1 ≠ k := by
  induction m with
  | nil => simp [mapErase]
  | cons a m ih =>
    by_cases ha : a.1 = k
    · rw [mapErase, if_pos ha, ih, List.mem_cons]
      exact ⟨fun h => ⟨.inr h.1, h.2⟩, fun h => ⟨h.1.resolve_left (fun he => h.2 (he ▸ ha)), h.2⟩⟩
    · rw [mapErase, if_neg ha, List.mem_cons, ih, List.mem_cons]
      exact ⟨fun h => h.elim (fun he => ⟨.inl he, he ▸ ha⟩) (fun h => ⟨.inr h.1, h.2⟩),
        fun h => h.1.imp_right (fun hm => ⟨hm, h.2⟩)⟩

/-- A retired phase loses its two entries and no other, is counted, and sets its cause bit. -/
theorem retireDone_shows (hp : p < 16) (ht : LeftBy
      (((s.modLink p (fun l => { l with retire := none, keys := (phaseEntries phase).foldl mapErase l.keys })).count
        .LNK_PORT_STATUS_RETIRE_DONE p).setCause 0x0D 3) t) :
    (t.link p).retire = none ∧
    (∀ e, e ∈ (t.link p).keys ↔ e ∈ (s.link p).keys ∧ e.1 ≠ bit01 phase ∧ e.1 ≠ 2 + bit01 phase) ∧
    t.fld .LNK_PORT_STATUS_RETIRE_DONE p = (s.fld .LNK_PORT_STATUS_RETIRE_DONE p + 1) % 2 ^ 32 ∧
    bitOf 3 (t.rd .IRQ_CAUSE 0x0D) = true := by
  have hlink : t.link p = { s.link p with
      retire := none, keys := mapErase (mapErase (s.link p).keys (bit01 phase)) (2 + bit01 phase) } :=
    (ht.link p).trans (link_setLink s p _)
  refine ⟨?_, fun e => ?_, ?_, ?_⟩
  · rw [hlink]
  · rw [hlink]
    simp only [mem_mapErase_iff, and_assoc]
  · rw [ht.fld, (keepsRegs_setCause _ 3 (by decide)).port hp (by decide) (by decide), count_eq, fld_setFld_same _ _ _ _ (by decide)]
    rfl
  · rw [ht.rd]
    exact bitOf_setCause _ _ (by decide)

end

/-! ## Lanes and windows (R338) -/

section
variable {s t : State} {p n : Nat}

theorem leaves_laneLost_known (hp : p < 16) (hn : n < 9) (h : s.laneBad p n = true) : Leaves (.laneLost p n) s s :=
  leaves_unchanged (i := .laneLost p n) rfl (if_pos (.inr h)) (and_ok (decide_eq_true hp) (decide_eq_true hn))

theorem laneBad_eq (s : State) (p : Nat) (h : n < 64) : s.laneBad p n = (s.fld .LNK_LANE_FAILED p).testBit n := by
  rw [State.laneBad, bitOf, word, BitVec.toNat_ofNat, Nat.testBit_mod_two_pow, decide_eq_true h, Bool.true_and]

/-- The state with lane `n` marked as failed and the peer told. -/
def laneMarked (s : State) (p n : Nat) : State :=
  let u := s.setFld .LNK_LANE_FAILED p (s.fld .LNK_LANE_FAILED p + 2 ^ n)
  (u.ctl p 3 n []).raise .log 0x0D08 (u.portSlice p) (172 + p) (word n)

/-- A data lane that fails while lane 8 is free waits for the next window, as a substitution that is recorded (R338, R385). -/
theorem laneFail_spared (hn : n < 8) (hbad : s.laneBad p n = false) (hfree : s.laneFree p = true) : s.laneFail p n =
    (((laneMarked s p n).modLink p (fun l => { l with pendingMap := some n })).substituted 4 p 8).stageRecord [] := by
  unfold State.laneFail
  rw [if_neg (by simp [hbad])]
  dsimp only
  rw [if_pos ⟨hn, hfree⟩]
  rfl

theorem stageRecord_frame (s : State) (es : List Entry) : s.stageRecord es =
    { s with spr := (s.stageRecord es).spr, moot := (s.stageRecord es).moot } := by
  unfold State.stageRecord State.pumpRecords
  dsimp only
  split
  · rfl
  · split <;> rfl

/-- The record of a substitution leaves the lanes' registers. -/
theorem lane_recorded (s : State) (hp : p < 16) {f : Fld} (hf : f.reg = .LNK_LANE) :
    ((s.substituted 4 p 8).stageRecord []).fld f p = s.fld f p := by
  have herr : ∀ detail, KeepsRegs (.SPR_LAST :: eventRegs) s (s.err 0x1001 0 detail) := fun detail =>
    (keepsRegs_err s 0 detail (by decide)).mono (List.subset_cons_self ..)
  have hlast : KeepsRegs (.SPR_LAST :: eventRegs) s (s.substituted 4 p 8) :=
    ((herr _).trans (keepsRegs_wr _ _ (List.mem_cons_self ..) rfl)).trans (keepsRegs_of_regs_eq _ rfl)
  exact (hlast.trans (keepsRegs_of_regs_eq _ (regs_stageRecord ..))).port hp (by rw [hf]; decide) (by rw [hf]; decide)

theorem failed_laneMarked (s : State) (hp : p < 16) (n : Nat) :
    (laneMarked s p n).fld .LNK_LANE_FAILED p = (s.fld .LNK_LANE_FAILED p + 2 ^ n) % 2 ^ 9 := by
  rw [laneMarked, (keepsRegs_raise _ _ _ _ _ (by omega)).port hp (by decide) (by decide)]
  exact fld_setFld_same s .LNK_LANE_FAILED p _ (by decide)

theorem laneFail_shows (hp : p < 16) (hn : n < 8) (hbad : s.laneBad p n = false) (hfree : s.laneFree p = true) :
    (s.laneFail p n).laneBad p n = true ∧ ((s.laneFail p n).link p).pendingMap = some n ∧
      .linkCtl p 3 n [] ∈ (s.laneFail p n).out := by
  rw [laneFail_spared hn hbad hfree]
  refine ⟨?_, ?_, ?_⟩
  · rw [laneBad_eq s p (by omega)] at hbad
    rw [laneBad_eq _ p (by omega), lane_recorded _ hp rfl]
    have hmarked : ((laneMarked s p n).fld .LNK_LANE_FAILED p).testBit n = true := by
      rw [failed_laneMarked s hp, Nat.testBit_mod_two_pow, Nat.add_comm, Nat.testBit_two_pow_add_eq, hbad]
      simpa using Nat.lt_succ_of_lt hn
    exact hmarked
  · rw [stageRecord_frame, substituted_frame]
    exact congrArg LinkStation.pendingMap (link_setLink ..)
  · rw [stageRecord_frame, substituted_frame]
    simp [laneMarked, State.ctl]

/-- The state in a window in which lane 8 stands for lane `n`. -/
def windowed (s : State) (p n : Nat) : State :=
  (s.setFld .LNK_LANE_MAPPED_OUT p n).modLink p (fun l => { l with window := true, pendingMap := none })

theorem keepsRegs_windowed (s : State) (hp : p < 16) (n : Nat) : KeepsRegs [.LNK_LANE] s (windowed s p n) :=
  (keepsRegs_port s (f := .LNK_LANE_MAPPED_OUT) n hp (List.mem_singleton_self _) (by decide)).trans (keepsRegs_of_regs_eq _ rfl)

/-- A window takes the lane that waits for it, and pauses the port if that is open. -/
theorem openWindow_pending (hp : p < 16) (h : (s.link p).pendingMap = some n) : ∃ lane, s.openWindow p =
    (if s.linkOpen p then (windowed s p n).setFld .LNK_PORT_STATUS_STATE p 3 else windowed s p n).emit (.retrain p lane) := by
  have hopen : (windowed s p n).linkOpen p = s.linkOpen p :=
    linkOpen_of_keepsRegs (keepsRegs_windowed s hp n) rfl hp (by decide) (by decide)
  unfold State.openWindow
  rw [h, ← hopen]
  exact ⟨_, rfl⟩

theorem openWindow_shows (hp : p < 16) (hn : n < 16) (h : (s.link p).pendingMap = some n) :
    (s.openWindow p).fld .LNK_LANE_MAPPED_OUT p = n ∧ ((s.openWindow p).link p).window = true ∧
    ((s.openWindow p).link p).pendingMap = none ∧
    (s.linkOpen p = true → (s.openWindow p).fld .LNK_PORT_STATUS_STATE p = 3) := by
  obtain ⟨lane, hwindow⟩ := openWindow_pending hp h
  have hlink : (s.openWindow p).link p = { s.link p with window := true, pendingMap := none } := by
    rw [hwindow]
    refine Eq.trans ?_ (link_setLink (s.setFld .LNK_LANE_MAPPED_OUT p n) p _)
    split <;> rfl
  have hmapped : (windowed s p n).fld .LNK_LANE_MAPPED_OUT p = n :=
    (fld_setFld_same s .LNK_LANE_MAPPED_OUT p n (by decide)).trans (Nat.mod_eq_of_lt hn)
  refine ⟨?_, by rw [hlink], by rw [hlink], fun ho => ?_⟩
  · rw [hwindow]
    split
    · exact ((keepsRegs_port (windowed s p n) (l := [.LNK_PORT_STATUS]) (f := .LNK_PORT_STATUS_STATE) 3 hp (List.mem_singleton_self _)
        (by decide)).port hp (by decide) (by decide)).trans hmapped
    · exact hmapped
  · rw [hwindow, if_pos ho]
    exact fld_setFld_same (windowed s p n) .LNK_PORT_STATUS_STATE p 3 (by decide)

theorem pumpLink_empty (h : (s.link p).outq = []) : s.pumpLink p = s := by
  rw [State.pumpLink, h]
  rfl

/-- The state in which the traffic of a port goes on after a window. -/
def resumed (s : State) (p : Nat) : State :=
  (s.setLink p { s.link p with window := false, replayFrom := none }).setFld .LNK_PORT_STATUS_STATE p 2

theorem link_resumed (s : State) (p : Nat) : (resumed s p).link p = { s.link p with window := false, replayFrom := none } :=
  link_setLink ..

/-- With nothing waiting, the end of a window sends only what a replay asks for. -/
theorem leaves_retrainAck_idle (ha : s.alive = true) (hp : p < 16) (hw : (s.link p).window = true)
    (hstate : s.fld .LNK_PORT_STATUS_STATE p = 3) (hseal : (s.link p).sealHold = false) (houtq : (s.link p).outq = []) :
    ∃ out, Leaves (.retrainAck p) s { resumed s p with out := out } := by
  have hack := leaves_retrainAck ha hp hw
  dsimp only at hack
  have hhold : (s.setLink p { s.link p with window := false, replayFrom := none }).fld .LNK_PORT_STATUS_STATE p = 3 ∧
      (s.link p).sealHold = false := ⟨hstate, hseal⟩
  rw [if_pos hhold] at hack
  have hidle : ∀ out, ({ resumed s p with out := out } : State).pumpLink p = { resumed s p with out := out } := fun out =>
    pumpLink_empty ((congrArg LinkStation.outq (link_resumed s p)).trans houtq)
  cases hfrom : (s.link p).replayFrom with
  | none =>
    rw [hfrom] at hack
    exact ⟨_, hidle s.out ▸ hack⟩
  | some fsn =>
    rw [hfrom] at hack
    dsimp only at hack
    rw [resend_eq] at hack
    exact ⟨_, hidle _ ▸ hack⟩

theorem resumed_shows {out : List Output} (ht : LeftBy { resumed s p with out := out } t) :
    t.fld .LNK_PORT_STATUS_STATE p = 2 ∧ (t.link p).window = false ∧ (t.link p).replayFrom = none ∧ t.clusters = s.clusters ∧
      t.mems = s.mems := by
  have hlink : t.link p = { s.link p with window := false, replayFrom := none } := (ht.link p).trans (link_resumed s p)
  refine ⟨?_, by rw [hlink], by rw [hlink], (congrArg State.clusters ht :), (congrArg State.mems ht :)⟩
  rw [ht.fld]
  exact fld_setFld_same _ .LNK_PORT_STATUS_STATE p 2 (by decide)

end

/-- Settles O51: a start by its two outcomes, each message by the branch it takes, lanes and windows by what their stations and
registers show afterwards. -/
theorem exchangesFillSlotsAndLanesAreSpared : Obligations.ExchangesFillSlotsAndLanesAreSpared := by
  refine ⟨fun path p tx rx up s hr hpath hp _ _ htx hrx => ⟨leaves_kxStart_busy hr hpath hp htx hrx,
      leaves_kxStart hr hpath hp up htx hrx, kxBegin_refused, kxBegin_shows hp s tx rx up, slots_kxBegin s p tx rx up⟩,
    fun s result h => ?ends, fun p x st pub cipher mac s ha hon hp hk hx => ?messages,
    fun s x st pub h => onHello_refused (helloOk_false h), fun s x => kxFail_keepsPort, fun s x keys => kxStore_shows s keys,
    fun path p phase s hr hpath hp => ⟨leaves_linkRetire hr hpath hp phase, leaves_linkRetire_off hr hpath hp phase⟩,
    fun p phase s ha hp h => ⟨leaves_linkRetireDone_waits hp h,
      fun hm => answers_of_leaves (leaves_linkRetireDone ha hp h hm) fun _ => retireDone_shows hp⟩,
    mayRetire_iff, fun p n s ha hp hn hon => ⟨leaves_laneCe ha hp hon hn, leaves_laneLost_known hp hn,
      leaves_laneLost ha hp hon hn, leaves_laneMap ha hp hon⟩,
    fun s p n hp hn => laneFail_shows hp hn, fun p s ha hp hon => leaves_retrainingWindow ha hp hon,
    fun s p n hp hn => openWindow_shows hp hn, fun p s ha hp hw hstate hseal houtq => ?resumes⟩
  case ends =>
    obtain ⟨hbusy, hresult, hdone, hcause⟩ := kxOver_shows s h
    exact ⟨rfl, hbusy, hresult, rfl, hdone, hcause⟩
  case messages =>
    refine ⟨leaves_kxHello ha hp hk hx hon st pub, leaves_kxHello_again hp hon hk hx st pub, fun h hh hc => ?_, fun h c hh hc => ?_,
      leaves_kxTimeout ha hp hk hx⟩
    · cases hkeys : s.kxKeys x h (fit 1568 cipher) with
      | none => exact leaves_kxFinish_keyless hp hon hk hx ha hh hc hkeys
      | some keys => exact leaves_kxFinish ha hp hk hx hon hh hc hkeys
    · cases hkeys : s.kxKeys x h c with
      | none => exact leaves_kxConfirm_keyless hp hon hk hx ha hh hc hkeys
      | some keys =>
        dsimp only
        split
        next hright => exact leaves_kxConfirm ha hp hk hx hon hh hc hkeys hright.1 hright.2
        next hwrong => exact leaves_kxConfirm_wrong hp hon hk hx ha hh hc hkeys hwrong
  case resumes =>
    obtain ⟨out, h⟩ := leaves_retrainAck_idle ha hp hw hstate hseal houtq
    exact answers_of_leaves h fun _ => resumed_shows

end Sys2Proof.Scope

namespace Sys2Proof.Scope

open Sys2Proof Sys2Proof.Machine Sys2Proof.Laws

/-! ## GO at STEP 5 (R433, R436) -/

/-- The host's GO at STEP 5 stores the PASID and starts the fetch. -/
theorem leaves_go_waitImage {s : State} {pasid : Nat} (ha : s.alive = true) (hstep : s.step = 5) (hpasid : pasid < 2 ^ 20) :
    Leaves (.go .host pasid) s ((s.setFld .STW_IMG_CTL_PASID 0 pasid).startFetch) := by
  have htaken : s.taken .host 0xA80020 = true := by simp [State.taken, ha, hstep, earlyBlock]
  refine leaves_effect rfl (and_ok rfl (decide_eq_true hpasid)) ha ((gated_of_taken _ htaken).trans ?_)
  have hkept : (s.setFld .STW_IMG_CTL_PASID 0 pasid).step = 5 :=
    (fld_setFld_ne s .STW_IMG_CTL_PASID .GLB_BOOT_STEP pasid (by decide)).trans hstep
  exact (if_neg (by omega)).trans (if_pos hkept)

/-- STEP 5 with the length of an Opgar image whose body is empty: 64 + 0 + 4,723 bytes, no multiple of 4 (R437). -/
def unevenImage : State :=
  ({ State.reset with boot := { State.reset.boot with porHeld := false } } : State).setFld .GLB_BOOT_STEP 0 5
    |>.setFld .STW_IMG_LEN_VALUE 0 4787

theorem unevenImage_waits : unevenImage.alive = true ∧ unevenImage.step = 5 := by decide +kernel

/-- The fetch reads all of it: 1,197 DW. -/
theorem out_startFetch_unevenImage : ((unevenImage.setFld .STW_IMG_CTL_PASID 0 0).startFetch).out =
    [.hostRead 0 0 1197 (some 0), .hostRead 1 0 0 (some 0)] := by decide +kernel

/-- Refutes O15: the statement reads LEN div 4 DW, the block LEN / 4 rounded up. Of an image of 4,787 bytes, the length of one with
an empty body, that is 1,197 DW where the statement says 1,196. -/
theorem not_imagesBringTheBlockToReady : ¬ Obligations.ImagesBringTheBlockToReady := by
  rintro ⟨hgo, -⟩
  obtain ⟨halive, hstep⟩ := unevenImage_waits
  obtain ⟨t, hexec, -, -, -, -, hout⟩ := hgo 0 unevenImage halive hstep (by decide)
  have hleft := Host.Outcome.next.inj (hexec.symm.trans (leaves_go_waitImage halive hstep (by decide)))
  have hsent : t.out = [.hostRead 0 0 1197 (some 0), .hostRead 1 0 0 (some 0)] :=
    (congrArg State.out hleft).trans out_startFetch_unevenImage
  exact absurd (hsent.symm.trans hout) (by decide)

end Sys2Proof.Scope

namespace Sys2Proof.Scope

open Sys2Proof Sys2Proof.Machine Sys2Proof.Laws

/-! ## What becomes of a KEY_CMD write (R340, R349, R368) -/

/-- A command that has its SEED, or is ENROLL, is not refused for a missing one (R340). -/
theorem not_seedless {s : State} {op : Nat} (hseed : s.well.seed.isSome = true ∨ op = 11) : ¬ (s.well.seed = none ∧ ¬ op = 11) :=
  fun h => hseed.elim (by simp [h.1]) h.2

section
variable {s t : State} {path : Path} {op n : Nat} {r : KeyResult} {out : List Byte} (hr : s.isReady = true) (hp : pathOk path = true)
include hr hp

theorem keyCmd_busy (h : s.well.run.isSome = true) : s.keyCmd path op n r = s.setFld .KEY_STATUS_REJECTED 0 1 :=
  (gated_of_ready hr hp _ _).trans (if_pos h)

variable (hrun : s.well.run = none)
include hrun

theorem keyCmd_notFunctional (hf : s.functional = false) : s.keyCmd path op n r = s.keyRuns op n 0x0F02 0 := by
  simp [State.keyCmd, gated_of_ready hr hp, hrun, hf, State.keyRuns]

variable (hf : s.functional = true)
include hf

theorem keyCmd_seedless (hseed : s.well.seed = none) (hop : op ≠ 11) : s.keyCmd path op n r = s.keyRuns op n 0x0E01 0 := by
  simp [State.keyCmd, gated_of_ready hr hp, hrun, hf, hseed, hop, State.keyRuns]

variable (hseed : s.well.seed.isSome = true ∨ op = 11)
include hseed

/-- The command is refused neither for its life-cycle state nor for a missing SEED, so its own result counts. -/
theorem keyCmd_refused {code : Nat} : s.keyCmd path op n (.inl code) = s.keyRuns op n code 0 := by
  simp [State.keyCmd, gated_of_ready hr hp, hrun, hf, not_seedless hseed, State.keyRuns]

theorem keyCmd_takesEffect : s.keyCmd path op n (.inr (t, out)) =
    (if out.isEmpty then t else t.putKeyBuf out).keyRuns op n 0 out.length := by
  simp [State.keyCmd, gated_of_ready hr hp, hrun, hf, not_seedless hseed, State.keyRuns]

end

/-- How a KEY_CMD ends, for a command with its OP, its TARGET and the result it would have (R349). -/
def KeyCmdOutcomes (target : Nat) (s : State) (x : Instr × Nat × Nat × KeyResult) : Prop :=
  (s.well.run.isSome = true → Leaves x.1 s (s.setFld .KEY_STATUS_REJECTED 0 1)) ∧
  (s.well.run = none → s.functional = false → Leaves x.1 s (s.keyRuns x.2.1 x.2.2.1 0x0F02 0)) ∧
  (s.well.run = none → s.functional = true → s.well.seed = none → x.2.1 ≠ 11 →
    Leaves x.1 s (s.keyRuns x.2.1 x.2.2.1 0x0E01 0)) ∧
  (s.well.run = none → s.functional = true → s.well.seed.isSome = true ∨ x.2.1 = 11 →
    Leaves x.1 s (match x.2.2.2 with
      | .inl code => if x.2.1 = 7 ∧ code = 0x0E05 then (s.keyRuns 7 target code 0).setKeySlot target KeySlot.init
          else s.keyRuns x.2.1 x.2.2.1 code 0
      | .inr (t, out) => (if out.isEmpty then t else t.putKeyBuf out).keyRuns x.2.1 x.2.2.1 0 out.length))

section
variable {s : State} {path : Path} (hr : s.isReady = true) (hp : pathOk path = true)
include hr hp

/-- A command other than ACCEPT is its KEY_CMD write and nothing more. -/
theorem keyCmdOutcomes_of {i : Instr} {ok : Bool} {op n : Nat} {r : KeyResult} (target : Nat)
    (h : exec i s = onUnit s ok (s.keyCmd path op n r)) (hok : ok = true) (hop : op ≠ 7) :
    KeyCmdOutcomes target s (i, op, n, r) := by
  have hleaves : ∀ {u : State}, s.keyCmd path op n r = u → Leaves i s u := leaves_effect h hok (isReady_alive hr)
  refine ⟨fun hbusy => hleaves (keyCmd_busy hr hp hbusy), fun hrun hf => hleaves (keyCmd_notFunctional hr hp hrun hf),
    fun hrun hf hseed h11 => hleaves (keyCmd_seedless hr hp hrun hf hseed h11), fun hrun hf hseed => hleaves ?_⟩
  cases r with
  | inl code => exact (keyCmd_refused hr hp hrun hf hseed).trans (if_neg fun h7 => hop h7.1).symm
  | inr done => exact keyCmd_takesEffect hr hp hrun hf hseed

/-- An ACCEPT whose decapsulation fails also empties its slot (R351). -/
theorem keyCmdOutcomes_accept {target : Nat} (htarget : slotOk target = true) :
    KeyCmdOutcomes target s (.accept path target, 7, target, s.accept target) := by
  have hleaves : ∀ {u : State}, (if s.taken path 0x700000 ∧ s.well.run.isNone ∧ s.functional ∧ s.well.seed.isSome ∧
      (s.accept target).getLeft? = some 0x0E05 then (s.keyCmd path 7 target (s.accept target)).setKeySlot target KeySlot.init
      else s.keyCmd path 7 target (s.accept target)) = u → Leaves (.accept path target) s u :=
    leaves_effect rfl (and_ok hp htarget) (isReady_alive hr)
  refine ⟨fun hbusy => hleaves ?_, fun hrun hf => hleaves ?_, fun hrun hf hseed h11 => hleaves ?_, fun hrun hf hseed => hleaves ?_⟩
  · rw [if_neg (by simp [Option.isSome_iff_ne_none.mp hbusy]), keyCmd_busy hr hp hbusy]
  · rw [if_neg (by simp [hf]), keyCmd_notFunctional hr hp hrun hf]
  · rw [if_neg (by simp [hseed]), keyCmd_seedless hr hp hrun hf hseed h11]
  · have hsome : s.well.seed.isSome = true := hseed.resolve_right fun h : (7 : Nat) = 11 => absurd h (by decide)
    have htaken := taken_of_ready hr hp 0x700000
    cases hresult : s.accept target with
    | inl code =>
      rw [keyCmd_refused hr hp hrun hf hseed]
      simp [htaken, hrun, hf, hsome]
    | inr done =>
      rw [if_neg (by simp)]
      exact keyCmd_takesEffect hr hp hrun hf hseed

end

/-! ## The end of a KEY_CMD (R349, R357, R366) -/

/-- The command is over, and KEY_STATUS shows it (R349). -/
def keyRunShown (s : State) (r : KeyRun) : State :=
  ((({ s with well := { s.well with run := none } } : State).setFld .KEY_STATUS_BUSY 0 0).setFld .KEY_STATUS_RESULT 0 r.result).setFld
    .KEY_STATUS_OUT_LEN 0 r.outLen

/-- The same with KEY_BUF zeroed after a command that took a secret from it (R349). -/
def keyBufLeft (s : State) (r : KeyRun) : State := if r.zeroBuf then (keyRunShown s r).zeroKeyBuf else keyRunShown s r

/-- The same after the record of R366 and CMD_DONE. -/
def keyRunReported (s : State) (r : KeyRun) : State :=
  (if r.result = 0x0E05 ∨ r.result = 0x0E06 ∨ r.result = 0x0E07 then (keyBufLeft s r).err r.result else keyBufLeft s r).setCause 0x0E 0

section
variable {s t : State} {r : KeyRun}

theorem leaves_keyCmdDone_reported (ha : s.alive = true) (h : s.well.run = some r) : Leaves .keyCmdDone s (keyRunReported s r) := by
  refine leaves_effect rfl rfl ha ?_
  rw [h]
  rfl

theorem clears_zeroKeyBuf (s : State) : Clears [.KEY_BUF] s s.zeroKeyBuf := clears_clearArray s rfl rfl rfl

theorem keepsRegs_keyRunReported (s : State) (r : KeyRun) : KeepsRegs eventRegs (keyBufLeft s r) (keyRunReported s r) := by
  unfold keyRunReported
  split
  next h => exact (keepsRegs_err _ 0 0 (by omega)).trans (keepsRegs_setCause _ 0 (by decide))
  next => exact keepsRegs_setCause _ 0 (by decide)

theorem well_keyBufLeft (s : State) (r : KeyRun) : (keyBufLeft s r).well = { s.well with run := none } := by
  unfold keyBufLeft
  split
  · exact congrArg State.well (clears_zeroKeyBuf (keyRunShown s r)).onlyRegs
  · rfl

theorem well_keyRunReported (s : State) (r : KeyRun) : (keyRunReported s r).well = { s.well with run := none } := by
  unfold keyRunReported
  split
  · exact (raise_well ..).trans (well_keyBufLeft s r)
  · exact well_keyBufLeft s r

/-- KEY_STATUS stands as the end of the command has set it. -/
theorem keyStatus_keyRunReported (s : State) (r : KeyRun) {f : Fld} (hf : f.reg = .KEY_STATUS) :
    (keyRunReported s r).fld f = (keyRunShown s r).fld f := by
  refine ((keepsRegs_keyRunReported s r).fld (by rw [hf]; rfl) (by rw [hf]; decide)).trans ?_
  unfold keyBufLeft
  split
  · exact congrArg (getBits f.hi f.lo) (((clears_zeroKeyBuf _).rd f.reg 0 (by rw [hf]; rfl)).trans (if_neg (by rw [hf]; decide)))
  · rfl

theorem keyBuf_keyRunReported (s : State) (r : KeyRun) {i : Nat} (hi : i < 2048) :
    (keyRunReported s r).rd .KEY_BUF i = if r.zeroBuf then 0 else s.rd .KEY_BUF i := by
  have hidx : regIdxOk .KEY_BUF i = true := by
    simp only [regIdxOk_iff, regDef]
    omega
  have hstatus : ∀ (u : State) (f : Fld) (v : Nat), f.reg = .KEY_STATUS → (u.setFld f 0 v).rd .KEY_BUF i = u.rd .KEY_BUF i :=
    fun u f v hf => (keepsRegs_setFld (l := [.KEY_STATUS]) u v (by simp [hf]) (by rw [hf]; rfl)).rd hidx (by decide)
  rw [(keepsRegs_keyRunReported s r).rd hidx (by decide), keyBufLeft]
  split
  · exact ((clears_zeroKeyBuf _).rd .KEY_BUF i hidx).trans (if_pos (List.mem_singleton_self _))
  · rw [keyRunShown, hstatus _ _ _ rfl, hstatus _ _ _ rfl, hstatus _ _ _ rfl]
    rfl

theorem keyRunShown_shows (s : State) (hresult : r.result < 65536) (hlen : r.outLen < 65536) :
    (keyRunShown s r).fld .KEY_STATUS_BUSY = 0 ∧ (keyRunShown s r).fld .KEY_STATUS_RESULT = r.result ∧
      (keyRunShown s r).fld .KEY_STATUS_OUT_LEN = r.outLen := by
  refine ⟨?_, ?_, ?_⟩
  · rw [keyRunShown, fld_setFld_other _ .KEY_STATUS_OUT_LEN .KEY_STATUS_BUSY _ _ rfl (by decide),
      fld_setFld_other _ .KEY_STATUS_RESULT .KEY_STATUS_BUSY _ _ rfl (by decide), fld_setFld_same _ _ _ _ (by decide)]
    rfl
  · rw [keyRunShown, fld_setFld_other _ .KEY_STATUS_OUT_LEN .KEY_STATUS_RESULT _ _ rfl (by decide),
      fld_setFld_same _ _ _ _ (by decide)]
    exact Nat.mod_eq_of_lt hresult
  · rw [keyRunShown, fld_setFld_same _ _ _ _ (by decide)]
    exact Nat.mod_eq_of_lt hlen

theorem keyRunReported_shows (hresult : r.result < 65536) (hlen : r.outLen < 65536) (ht : LeftBy (keyRunReported s r) t) :
    t.well = { s.well with run := none } ∧ t.fld .KEY_STATUS_BUSY = 0 ∧ t.fld .KEY_STATUS_RESULT = r.result ∧
      t.fld .KEY_STATUS_OUT_LEN = r.outLen ∧ bitOf 0 (t.rd .IRQ_CAUSE 0x0E) = true ∧
      (r.zeroBuf = true → ∀ i, i < 2048 → t.rd .KEY_BUF i = 0) ∧
      (r.zeroBuf = false → ∀ i, i < 2048 → t.rd .KEY_BUF i = s.rd .KEY_BUF i) := by
  obtain ⟨hbusy, hshown, houtLen⟩ := keyRunShown_shows s hresult hlen
  have hstatus : ∀ f : Fld, f.reg = .KEY_STATUS → t.fld f = (keyRunShown s r).fld f := fun f hf =>
    (ht.fld f 0).trans (keyStatus_keyRunReported s r hf)
  have hbuf : ∀ i, i < 2048 → t.rd .KEY_BUF i = if r.zeroBuf then 0 else s.rd .KEY_BUF i := fun i hi =>
    (ht.rd .KEY_BUF i).trans (keyBuf_keyRunReported s r hi)
  refine ⟨(congrArg State.well ht).trans (well_keyRunReported s r), (hstatus _ rfl).trans hbusy, (hstatus _ rfl).trans hshown,
    (hstatus _ rfl).trans houtLen, ?_, fun hz i hi => (hbuf i hi).trans (if_pos hz), fun hz i hi => (hbuf i hi).trans (if_neg ?_)⟩
  · rw [ht.rd]
    exact bitOf_setCause _ _ (by decide)
  · simp [hz]

end

/-! ## Filling slots (R346, R350) -/

section
variable {s : State} {attr parent target : Nat}

theorem noSlot_iff (s : State) (n : Nat) : s.noSlot n = true ↔
    256 ≤ (s.well.slots.filter (fun e => e.2.occupied)).length ∨ (s.keySlot n).state ≠ .empty := by
  simp only [State.noSlot, Bool.or_eq_true, decide_eq_true_iff]
  exact Iff.rfl

theorem noSlot_eq_false (hempty : (s.keySlot target).state = .empty)
    (hspace : (s.well.slots.filter (fun e => e.2.occupied)).length < 256) : s.noSlot target = false :=
  Bool.eq_false_iff.mpr fun h => ((noSlot_iff s target).mp h).elim (Nat.not_le.mpr hspace) (fun hne => hne hempty)

theorem attrMakes_iff (a : Nat) : attrMakes a = true ↔ a = 0 ∨ a = 3 ∨ a = 4 := by simp [attrMakes, or_assoc]

theorem parentOk_iff (s : State) (n attr : Nat) : s.parentOk n attr = true ↔
    n < 272 ∧ (s.keySlot n).state = .full ∧ (s.keySlot n).attr = attr ∧ (s.keySlot n).depth < 7 := by
  simp only [State.parentOk, Bool.and_eq_true, decide_eq_true_iff, beq_iff_eq, and_assoc]
  exact Iff.rfl

theorem generate_badOperands (h : 272 ≤ target ∨ attr ≠ 0 ∧ attr ≠ 3 ∧ attr ≠ 4) : s.generate attr target = .inl 0x0E02 := by
  refine if_pos (h.imp_right fun hattr => Bool.eq_false_iff.mpr fun hmakes => ?_)
  have := (attrMakes_iff attr).mp hmakes
  omega

theorem derive_badParent (h : s.parentOk parent 4 = false) : s.derive attr parent target = .inl 0x0E02 :=
  if_pos (.inr (.inl h))

section
variable (htarget : target < 272) (hattr : attr = 0 ∨ attr = 3 ∨ attr = 4)
include htarget hattr

theorem makes_inRange : ¬ (slotCount ≤ target ∨ attrMakes attr = false) := by
  simp [slotCount, htarget, (attrMakes_iff attr).mpr hattr]

theorem generate_noSlot (h : s.noSlot target = true) : s.generate attr target = .inl 0x0E04 := by
  rw [State.generate, if_neg (makes_inRange htarget hattr), if_pos h]

theorem generate_stopped (hslot : s.noSlot target = false) (h : s.well.entropyOk = false) :
    s.generate attr target = .inl 0x0E0A := by
  rw [State.generate, if_neg (makes_inRange htarget hattr), hslot, if_neg Bool.false_ne_true, if_pos h]

theorem generate_fills (hslot : s.noSlot target = false) (h : s.well.entropyOk = true) : s.generate attr target =
    .inr (s.draw.2.setKeySlot target (filledSlot attr 1 0x1FF 0 0 (Config.random s.well.draws)), []) := by
  rw [State.generate, if_neg (makes_inRange htarget hattr), hslot, if_neg Bool.false_ne_true, h, if_neg (by decide)]
  rfl

theorem derive_inRange (h : s.parentOk parent 4 = true) :
    ¬ (slotCount ≤ target ∨ s.parentOk parent 4 = false ∨ attrMakes attr = false) := by
  simp [slotCount, htarget, h, (attrMakes_iff attr).mpr hattr]

theorem derive_noSlot (h : s.parentOk parent 4 = true) (hslot : s.noSlot target = true) :
    s.derive attr parent target = .inl 0x0E04 := by
  rw [State.derive, if_neg (derive_inRange htarget hattr h), if_pos hslot]

/-- A child records its parent and stands one deeper (R350). -/
theorem derive_fills (h : s.parentOk parent 4 = true) (hslot : s.noSlot target = false) : ∃ key, s.derive attr parent target =
    .inr (s.setKeySlot target (filledSlot attr 2 parent ((s.keySlot parent).depth + 1) 0 key), []) := by
  rw [State.derive, if_neg (derive_inRange htarget hattr h), hslot, if_neg Bool.false_ne_true]
  exact ⟨_, rfl⟩

end

end

/-! ## Destroying slots (R357) -/

/-- A table lists what it holds at a key, unless that is what an unlisted key stands for. -/
theorem mem_of_mapGet_ne {α : Type} {d : α} {m : List (Nat × α)} {k : Nat} (h : mapGet d m k ≠ d) : (k, mapGet d m k) ∈ m := by
  induction m with
  | nil => exact absurd rfl h
  | cons e m ih =>
    obtain ⟨j, v⟩ := e
    rw [mapGet] at h ⊢
    split
    next hj => exact hj ▸ List.mem_cons_self ..
    next hj =>
      rw [if_neg hj] at h
      exact List.mem_cons_of_mem _ (ih h)

section
variable {s : State} {l : List Nat} {target n : Nat}

theorem subset_descendants (s : State) (k : Nat) (l : List Nat) : l ⊆ s.descendants k l := by
  induction k generalizing l with
  | zero => exact List.Subset.refl l
  | succ k ih =>
    rw [State.descendants]
    split
    · exact List.Subset.refl l
    · exact List.Subset.trans (List.subset_append_left ..) (ih _)

theorem child_mem_descendants (k : Nat) (hocc : (s.keySlot n).occupied = true) (hparent : (s.keySlot n).parent ∈ l) :
    n ∈ s.descendants (k + 1) l := by
  by_cases hn : n ∈ l
  · exact subset_descendants s _ l hn
  have hslot : (n, s.keySlot n) ∈ s.well.slots := mem_of_mapGet_ne fun hinit => by
    rw [State.keySlot, hinit] at hocc
    exact absurd hocc (by decide)
  have hmore : n ∈ (s.well.slots.filter (fun e => e.2.occupied && l.contains e.2.parent && !l.contains e.1)).map (·.1) :=
    List.mem_map.mpr ⟨_, List.mem_filter.mpr ⟨hslot, by simp [hocc, hparent, hn]⟩, rfl⟩
  rw [State.descendants, if_neg (by simpa using List.ne_nil_of_mem hmore)]
  exact subset_descendants s k _ (List.mem_append_right l hmore)

/-- The slots of `l` are emptied. -/
def emptied (s : State) (l : List Nat) : State := forEach l s (fun n s => s.setKeySlot n KeySlot.init)

theorem keySlot_emptied (s : State) (l : List Nat) (n : Nat) :
    (emptied s l).keySlot n = if n ∈ l then KeySlot.init else s.keySlot n := by
  induction l generalizing s with
  | nil => rfl
  | cons m l ih =>
    have htail : (emptied s (m :: l)).keySlot n = (emptied (s.setKeySlot m KeySlot.init) l).keySlot n := rfl
    rw [htail, ih]
    by_cases hl : n ∈ l
    · rw [if_pos hl, if_pos (List.mem_cons_of_mem m hl)]
    rw [if_neg hl]
    by_cases hm : n = m
    · rw [hm, keySlot_setKeySlot, if_pos (List.mem_cons_self ..)]
    · rw [keySlot_setKeySlot_ne _ _ hm, if_neg (by simp [hm, hl])]

variable (htarget : target < 272)
include htarget

theorem not_slotCount_le : ¬ slotCount ≤ target := Nat.not_le.mpr htarget

theorem keyDestroy_named (h : s.slotNamed (s.descendants 8 [target]) = true) : s.keyDestroy target = .inl 0x0E08 := by
  rw [State.keyDestroy, if_neg (not_slotCount_le htarget), if_pos h]

theorem keyDestroy_empties (h : s.slotNamed (s.descendants 8 [target]) = false) : s.keyDestroy target =
    .inr (emptied s ((s.descendants 8 [target]).filter (fun n => decide ((s.keySlot n).state ≠ .bad))), []) := by
  rw [State.keyDestroy, if_neg (not_slotCount_le htarget), h, if_neg Bool.false_ne_true]
  rfl

end

/-! ## ACCEPT, ESTABLISH and ENROLL (R342, R345, R351) -/

section
variable {s : State}

theorem accept_notEstablished {target : Nat} (h : (s.keySlot target).state ≠ .established) : s.accept target = .inl 0x0E02 :=
  if_pos (.inr h)

theorem establish_stopped (sl target : Nat) (h : s.well.entropyOk = false) : ∃ code, s.establish sl target = .inl code := by
  rw [State.establish]
  by_cases htarget : slotCount ≤ target
  · exact ⟨_, if_pos htarget⟩
  rw [if_neg htarget]
  by_cases hslot : s.noSlot target = true
  · exact ⟨_, if_pos hslot⟩
  · exact ⟨_, (if_neg hslot).trans (if_pos h)⟩

theorem enroll_refused (readings : List PufReading) (h : s.ledger.lc ≠ 4 ∨ s.ledger.otp.helper.isEmpty = false) :
    s.enroll readings = .inl 0x0E09 := if_pos h

/-- Enrolment writes helper data and the check value of SEED, and draws one codeword for each block. -/
def enrolled (s : State) (readings : List PufReading) : State :=
  let blocks := (List.range 64).map (majorityBlock readings)
  ({ s with
      ledger := { s.ledger with otp := { s.ledger.otp with
        helper := helperData s.well.draws blocks, check := seedCheck (seedOf blocks) } }
      well := { s.well with draws := s.well.draws + 64, requests := s.well.requests + 64 } } : State).setFld .KEY_STATUS_UNENROLLED 0 0

theorem enroll_eq (readings : List PufReading) (hlc : s.ledger.lc = 4) (hblank : s.ledger.otp.helper.isEmpty = true)
    (hok : s.well.entropyOk = true) : s.enroll readings = .inr (enrolled s readings, []) := by
  rw [State.enroll]
  dsimp only
  rw [if_neg (by simp [hlc, hblank]), if_neg (by simp [hok])]
  rfl

theorem length_helperData (d : Nat) (blocks : List (BitVec 255)) : (helperData d blocks).length = blocks.length := by
  simp [helperData]

theorem enrolled_shows (s : State) (readings : List PufReading) : (enrolled s readings).ledger.otp.helper.length = 64 ∧
    (enrolled s readings).fld .KEY_STATUS_UNENROLLED = 0 ∧ (enrolled s readings).well.slots = s.well.slots := by
  refine ⟨?_, fld_setFld_same _ .KEY_STATUS_UNENROLLED 0 0 (by decide), rfl⟩
  exact (length_helperData _ _).trans (by simp)

end

/-! ## A health test fails (R345, R412) -/

/-- The latch of a source's first ALARM (R412). -/
def latched (s : State) (code slice source : Nat) (detail : Word) : State :=
  (((s.wr .TRC_ALARM_CODES source (setBits 63 63 1 (setBits 55 48 slice (setBits 47 32 code (setBits 31 16 code (setBits 15 0 1 0)))))).wr
    .TRC_ALARM_FIRST_GTB source (word s.clock.gtb)).wr .TRC_ALARM_LAST_GTB source (word s.clock.gtb)).wr .TRC_ALARM_DETAIL source detail

/-- An ALARM of a source without one pending is latched, and queued while PD23 is on. -/
theorem regs_queueAlarm_first {s : State} {source : Nat} (code slice : Nat) (detail : Word)
    (h : s.fld .TRC_ALARM_CODES_PENDING source = 0) :
    (s.queueAlarm code slice source detail).regs = (latched s code slice source detail).regs := by
  unfold State.queueAlarm
  dsimp only
  rw [if_pos h]
  split <;> rfl

theorem firstCode_latched (s : State) {code source : Nat} (slice : Nat) (detail : Word) (hcode : code < 65536) (hsource : source < 188) :
    (latched s code slice source detail).fld .TRC_ALARM_CODES_FIRST_CODE source = code := by
  obtain ⟨hcodes, hfirst, hlast, hdetail, -⟩ := regIdxOk_latch hsource
  have hword : (latched s code slice source detail).rd .TRC_ALARM_CODES source =
      setBits 63 63 1 (setBits 55 48 slice (setBits 47 32 code (setBits 31 16 code (setBits 15 0 1 0)))) := by
    rw [latched, rd_wr_other _ _ (by decide) hcodes hdetail, rd_wr_other _ _ (by decide) hcodes hlast,
      rd_wr_other _ _ (by decide) hcodes hfirst, rd_wr_same]
  refine (congrArg (getBits 47 32) hword).trans ?_
  rw [getBits_setBits_other _ _ _ _ _ _ (by decide), getBits_setBits_other _ _ _ _ _ _ (by decide),
    getBits_setBits_same _ _ _ _ (by decide)]
  exact Nat.mod_eq_of_lt hcode

theorem firstCode_entropyAlarm (s : State) (h : s.fld .TRC_ALARM_CODES_PENDING 0x0E = 0) :
    (s.alarm 0x0E0A).fld .TRC_ALARM_CODES_FIRST_CODE 0x0E = 0x0E0A :=
  (congrArg (fun m => fldGet m .TRC_ALARM_CODES_FIRST_CODE 0x0E) (regs_queueAlarm_first 0x0E0A 0 0 h)).trans
    (firstCode_latched s 0 0 (by decide) (by decide))

/-- Settles O52: a KEY_CMD by what becomes of its write, its end by `keyRunReported_shows`, each command by the branch taken. -/
theorem keyCommandsKeepTheSlotRules : Obligations.KeyCommandsKeepTheSlotRules := by
  refine ⟨fun path attr parent target sl readings s hr hp hattr hparent htarget hsl hlength hrows => ?writes,
    fun r s ha hrun hresult hlen => answers_of_leaves (leaves_keyCmdDone_reported ha hrun) fun _ => keyRunReported_shows hresult hlen,
    fun s attr target => ⟨generate_badOperands, fun htarget hattr => ?generates⟩,
    fun s attr parent target htarget hpar hattr => ⟨fun h => ?badParent, fun hfull hkind hdepth => ?derives⟩,
    fun s target htarget => ⟨keyDestroy_named htarget, fun h => ⟨_, keyDestroy_empties htarget h, ?emptied, ?kept⟩,
      subset_descendants s 8 [target] (List.mem_singleton_self _),
      fun n hocc hparent => child_mem_descendants 7 hocc (hparent ▸ List.mem_singleton_self _)⟩,
    fun s target sl readings => ⟨accept_notEstablished, establish_stopped sl target, enroll_refused readings,
      fun hlc hblank hok => ⟨_, enroll_eq readings hlc hblank hok, enrolled_shows s readings⟩⟩,
    fun s ha hok => ⟨answers_of_leaves (leaves_entropyFail ha hok) fun t ht => ?fails, leaves_reseed ha hok⟩⟩
  case writes =>
    have hslots : (pathOk path && decide (attr < 8)) = true := and_ok hp (decide_eq_true hattr)
    have hrowsOk : readings.all (fun r => r.length == 64) = true := by simpa using hrows
    have hof := @keyCmdOutcomes_of s path hr hp
    have hall : ∀ x ∈ ([(.generate path attr target, 1, target, s.generate attr target),
        (.derive path attr parent target, 2, target, s.derive attr parent target),
        (.unwrap path attr parent target, 3, target, s.unwrap attr parent target), (.seal path parent, 4, parent, s.seal parent),
        (.unseal path target, 5, target, s.unseal target), (.establish path sl target, 6, target, s.establish sl target),
        (.accept path target, 7, target, s.accept target), (.keyDestroy path target, 8, target, s.keyDestroy target),
        (.keyAttest path sl, 9, 0, s.keyAttest sl), (.endorse path, 10, 0, s.endorse),
        (.enroll path readings, 11, 0, s.enroll readings)] : List (Instr × Nat × Nat × KeyResult)), KeyCmdOutcomes target s x := by
      simp only [List.forall_mem_cons, List.not_mem_nil, false_implies, implies_true, and_true]
      exact ⟨hof _ rfl (and_ok hslots htarget) (by decide), hof _ rfl (and_ok (and_ok hslots hparent) htarget) (by decide),
        hof _ rfl (and_ok (and_ok hslots hparent) htarget) (by decide), hof _ rfl (and_ok hp hparent) (by decide),
        hof _ rfl (and_ok hp htarget) (by decide), hof _ rfl (and_ok (and_ok hp (decide_eq_true hsl)) htarget) (by decide),
        keyCmdOutcomes_accept hr hp htarget, hof _ rfl (and_ok hp htarget) (by decide),
        hof _ rfl (and_ok hp (decide_eq_true hsl)) (by decide), hof _ rfl hp (by decide),
        hof _ rfl (and_ok (and_ok hp (by simp [hlength])) hrowsOk) (by decide)⟩
    exact hall
  case generates =>
    refine ⟨fun hstate => generate_noSlot htarget hattr ((noSlot_iff s target).mpr (.inr hstate)),
      fun hfull => generate_noSlot htarget hattr ((noSlot_iff s target).mpr (.inl hfull)), fun hempty hspace =>
        ⟨generate_stopped htarget hattr (noSlot_eq_false hempty hspace), fun hok =>
          ⟨_, generate_fills htarget hattr (noSlot_eq_false hempty hspace) hok, keySlot_setKeySlot .., fun n hn => ?_, rfl⟩⟩⟩
    exact keySlot_setKeySlot_ne _ _ hn
  case badParent =>
    refine derive_badParent (Bool.eq_false_iff.mpr fun hok => ?_)
    obtain ⟨-, hstate, hkind, hdepth⟩ := (parentOk_iff s parent 4).mp hok
    rcases h with h | h | h
    · exact h hstate
    · exact h hkind
    · omega
  case derives =>
    have hparent : s.parentOk parent 4 = true := (parentOk_iff s parent 4).mpr ⟨hpar, hfull, hkind, hdepth⟩
    refine ⟨fun hstate => derive_noSlot htarget hattr hparent ((noSlot_iff s target).mpr (.inr hstate)), fun hempty hspace => ?_⟩
    obtain ⟨key, hderive⟩ := derive_fills htarget hattr hparent (noSlot_eq_false hempty hspace)
    refine ⟨_, hderive, ?_⟩
    rw [keySlot_setKeySlot]
    exact ⟨rfl, rfl, rfl, rfl, fun n hn => keySlot_setKeySlot_ne _ _ hn⟩
  case emptied =>
    intro n hn hgood
    rw [keySlot_emptied, if_pos (List.mem_filter.mpr ⟨hn, decide_eq_true hgood⟩)]
  case kept =>
    intro n hn
    refine (keySlot_emptied ..).trans (if_neg fun hmem => ?_)
    obtain ⟨hdesc, hgood⟩ := List.mem_filter.mp hmem
    exact hn.elim (fun h => h hdesc) (by simpa using hgood)
  case fails =>
    refine ⟨(congrArg State.well ht).trans (alarm_well ..), (congrArg State.hif ht).trans (alarm_hif ..),
      (congrArg State.clusters ht).trans (alarm_clusters ..), fun h => ?_⟩
    rw [ht.fld]
    exact firstCode_entropyAlarm _ h

end Sys2Proof.Scope

namespace Sys2Proof.Scope

open Sys2Proof Sys2Proof.Machine Sys2Proof.Laws

/-! ## Distances between words and the state codes (R370, R371) -/

theorem length_filter_xor_le {α : Type} (p q : α → Bool) (l : List α) :
    (l.filter (fun i => p i ^^ q i)).length ≤ (l.filter p).length + (l.filter q).length := by
  induction l with
  | nil => exact Nat.zero_le _
  | cons a l ih =>
    simp only [List.filter_cons]
    cases p a <;> cases q a <;> simp <;> omega

theorem popCount_xor_le (v w : Word) : popCount (v ^^^ w) ≤ popCount v + popCount w := by
  simp only [popCount, BitVec.toNat_xor, Nat.testBit_xor]
  exact length_filter_xor_le ..

/-- The triangle inequality of the number of differing bits. -/
theorem popCount_distance (w x y : Word) : popCount (x ^^^ y) ≤ popCount (w ^^^ x) + popCount (w ^^^ y) := by
  have hxy : x ^^^ y = (w ^^^ x) ^^^ (w ^^^ y) := by
    rw [BitVec.xor_comm w x, BitVec.xor_assoc, ← BitVec.xor_assoc w w y, BitVec.xor_self, BitVec.zero_xor]
  exact hxy ▸ popCount_xor_le ..

theorem codes_weight : ∀ x ∈ lcCodes, popCount x.2 = 32 := by decide +kernel

theorem codes_distance : ∀ x ∈ lcCodes, ∀ y ∈ lcCodes, x.1 ≠ y.1 → popCount (x.2 ^^^ y.2) = 32 := by decide +kernel

theorem code_of_state : ∀ x ∈ lcCodes, ∀ y ∈ lcCodes, x.1 = y.1 → x = y := by decide +kernel

/-- Two codes whose distances from one word add up to less than 32 are one code. -/
theorem code_unique {w : Word} {x y : Nat × Word} (hx : x ∈ lcCodes) (hy : y ∈ lcCodes)
    (h : popCount (w ^^^ x.2) + popCount (w ^^^ y.2) < 32) : x = y := by
  by_contra hne
  have hdist := codes_distance x hx y hy (fun he => hne (code_of_state x hx y hy he))
  have := popCount_distance w x.2 y.2
  omega

/-- A word of weight at most 7 is more than 7 bits from every code. -/
theorem far_of_blank {w : Word} (h : popCount w ≤ 7) : ∀ x ∈ lcCodes, 7 < popCount (w ^^^ x.2) := by
  intro x hx
  have hweight := codes_weight x hx
  have htri : popCount (0#64 ^^^ x.2) ≤ popCount (w ^^^ 0#64) + popCount (w ^^^ x.2) := popCount_distance w _ x.2
  rw [BitVec.zero_xor, BitVec.xor_zero] at htri
  omega

/-! ## What a copy decodes to (R371) -/

/-- A copy within 7 bits of a code decodes to its state: the search finds that code, no other being so near. -/
theorem decodeCopy_near {w : Word} {x : Nat × Word} (hx : x ∈ lcCodes) (h : popCount (w ^^^ x.2) ≤ 7) :
    decodeCopy w = .state x.1 := by
  unfold decodeCopy
  split
  · rename_i y hy
    have hnear : popCount (w ^^^ y.2) ≤ 7 := by simpa using List.find?_some hy
    rw [code_unique (w := w) (List.mem_of_find?_eq_some hy) hx (by omega)]
  · rename_i hnone
    exact absurd (decide_eq_true h) (List.find?_eq_none.mp hnone x hx)

/-- A copy more than 7 bits from every code decodes by its weight. -/
theorem decodeCopy_far {w : Word} (h : ∀ x ∈ lcCodes, 7 < popCount (w ^^^ x.2)) :
    decodeCopy w = if popCount w ≤ 7 then .blank else .undecodable := by
  have hnone : lcCodes.find? (fun c => decide (popCount (w ^^^ c.2) ≤ 7)) = none :=
    List.find?_eq_none.mpr fun x hx => by simpa using h x hx
  rw [decodeCopy, hnone]

/-- A copy lies within 7 bits of a code, or of none. -/
theorem near_or_far (w : Word) : (∃ x ∈ lcCodes, popCount (w ^^^ x.2) ≤ 7) ∨ ∀ x ∈ lcCodes, 7 < popCount (w ^^^ x.2) := by
  by_cases h : ∃ x ∈ lcCodes, popCount (w ^^^ x.2) ≤ 7
  · exact .inl h
  · exact .inr fun x hx => Nat.lt_of_not_le fun hle => h ⟨x, hx, hle⟩

theorem decodeCopy_eq_state (w : Word) (lc : Nat) :
    decodeCopy w = .state lc ↔ ∃ code, (lc, code) ∈ lcCodes ∧ popCount (w ^^^ code) ≤ 7 := by
  constructor
  · intro h
    rcases near_or_far w with ⟨⟨a, code⟩, hmem, hnear⟩ | hfar
    · obtain rfl : a = lc := CopyValue.state.inj ((decodeCopy_near hmem hnear).symm.trans h)
      exact ⟨code, hmem, hnear⟩
    · rw [decodeCopy_far hfar] at h
      split at h <;> cases h
  · rintro ⟨code, hmem, hnear⟩
    exact decodeCopy_near hmem hnear

theorem decodeCopy_eq_blank (w : Word) : decodeCopy w = .blank ↔ popCount w ≤ 7 := by
  constructor
  · intro h
    rcases near_or_far w with ⟨x, hmem, hnear⟩ | hfar
    · cases (decodeCopy_near hmem hnear).symm.trans h
    · by_contra hw
      rw [decodeCopy_far hfar, if_neg hw] at h
      cases h
  · intro hw
    rw [decodeCopy_far (far_of_blank hw), if_pos hw]

theorem decodeCopy_eq_undecodable (w : Word) :
    decodeCopy w = .undecodable ↔ 7 < popCount w ∧ ∀ x ∈ lcCodes, 7 < popCount (w ^^^ x.2) := by
  constructor
  · intro h
    rcases near_or_far w with ⟨x, hmem, hnear⟩ | hfar
    · cases (decodeCopy_near hmem hnear).symm.trans h
    · refine ⟨Nat.lt_of_not_le fun hw => ?_, hfar⟩
      rw [decodeCopy_far hfar, if_pos hw] at h
      cases h
  · rintro ⟨hw, hfar⟩
    rw [decodeCopy_far hfar, if_neg (Nat.not_le_of_lt hw)]

/-! ## What a generation's copies vote for (R371) -/

/-- Two selections that exclude each other select no more than there is. -/
theorem length_filter_add_le {α : Type} {p q : α → Bool} {l : List α} (h : ∀ a ∈ l, p a = true → q a = false) :
    (l.filter p).length + (l.filter q).length ≤ l.length := by
  rw [List.length_eq_length_filter_add (l := l) p]
  refine Nat.add_le_add_left ?_ _
  rw [← List.countP_eq_length_filter, ← List.countP_eq_length_filter]
  refine List.countP_mono_left fun a ha hq => ?_
  cases hp : p a
  · rfl
  · rw [h a ha hp] at hq
    exact hq

/-- Of three copies at least two hold one state only. -/
theorem voted_unique {g : Generation} {a b : Nat} (hlen : g.state.length = 3)
    (ha : 2 ≤ (g.state.filter (fun w => decide (decodeCopy w = .state a))).length)
    (hb : 2 ≤ (g.state.filter (fun w => decide (decodeCopy w = .state b))).length) : a = b := by
  by_contra hne
  have := length_filter_add_le (l := g.state) (p := fun w => decide (decodeCopy w = .state a))
    (q := fun w => decide (decodeCopy w = .state b)) (fun w _ hw => by
      rw [of_decide_eq_true hw]
      exact decide_eq_false fun he => hne (CopyValue.state.inj he))
  omega

theorem votedState_eq_some {g : Generation} (lc : Nat) (hlen : g.state.length = 3) :
    votedState g = some lc ↔ (∃ code, (lc, code) ∈ lcCodes) ∧
      2 ≤ (g.state.filter (fun w => decide (decodeCopy w = .state lc))).length := by
  have hmem : ∀ a, a ∈ lcCodes.map (·.1) ↔ ∃ code, (a, code) ∈ lcCodes := by simp
  constructor
  · intro h
    exact ⟨(hmem lc).mp (List.mem_of_find?_eq_some h), of_decide_eq_true (List.find?_some h :)⟩
  · rintro ⟨hcode, hvotes⟩
    obtain ⟨a, ha⟩ := Option.isSome_iff_exists.mp
      (List.find?_isSome (p := fun a => decide (2 ≤ (g.state.filter (fun w => decide (decodeCopy w = .state a))).length)).mpr
        ⟨lc, (hmem lc).mpr hcode, decide_eq_true hvotes⟩)
    rw [votedState, ha, voted_unique hlen (of_decide_eq_true (List.find?_some ha :)) hvotes]

/-- Settles O54: the codes' weight and distance of 32 keep blank copies, copies near one code and copies near another apart. -/
theorem otpCopiesDecodeWithMargin : Obligations.OtpCopiesDecodeWithMargin := by
  refine ⟨decodeCopy_eq_state, decodeCopy_eq_blank, decodeCopy_eq_undecodable, fun g lc => votedState_eq_some lc,
    fun g => by rw [genDone, decide_eq_true_eq], fun g => by simp [doneBad],
    fun x hx => ⟨codes_weight x hx, codes_distance x hx⟩, fun w x a b hx hfaults hb => ?_⟩
  obtain ⟨code, hcode, hnear⟩ := (decodeCopy_eq_state w b).mp hb
  have hsame : (b, code) = (a, x) := code_unique (w := w) hcode hx (by dsimp only; omega)
  exact congrArg Prod.fst hsame

end Sys2Proof.Scope

namespace Sys2Proof.Scope

open Sys2Proof Sys2Proof.Machine Sys2Proof.Laws

/-! ## The interrupt lines (R405–R407) -/

/-- The number whose bit `i`, for `i < n`, is `p i`. -/
theorem testBit_bitSum (p : Nat → Bool) (n : Nat) : ((List.range n).map (fun i => bit01 (p i) * 2 ^ i)).sum < 2 ^ n ∧
    ∀ k, ((List.range n).map (fun i => bit01 (p i) * 2 ^ i)).sum.testBit k = (decide (k < n) && p k) := by
  induction n with
  | zero => simp
  | succ n ih =>
    obtain ⟨hlt, hbits⟩ := ih
    have hsum : ((List.range (n + 1)).map (fun i => bit01 (p i) * 2 ^ i)).sum =
        2 ^ n * bit01 (p n) + ((List.range n).map (fun i => bit01 (p i) * 2 ^ i)).sum := by
      simp [List.range_succ, Nat.mul_comm, Nat.add_comm]
    have hbit : bit01 (p n) ≤ 1 := by unfold bit01; split <;> decide
    refine ⟨?_, fun k => ?_⟩
    · have := Nat.mul_le_mul_left (2 ^ n) hbit
      rw [hsum, Nat.pow_succ]
      omega
    · rw [hsum, Nat.testBit_two_pow_mul_add _ hlt, hbits]
      rcases Nat.lt_trichotomy k n with hk | rfl | hk
      · simp [hk, Nat.lt_succ_of_lt hk]
      · cases hp : p k <;> simp [bit01]
      · obtain ⟨d, rfl⟩ := Nat.exists_eq_add_of_lt hk
        have hd : bit01 (p n) < 2 ^ (d + 1) := Nat.lt_of_le_of_lt hbit (Nat.one_lt_two_pow (by omega))
        rw [if_neg (by omega), show n + d + 1 - n = d + 1 by omega, Nat.testBit_lt_two_pow hd]
        simp

theorem getLsbD_bitWord {n : Nat} (hn : n ≤ 64) (p : Nat → Bool) (k : Nat) :
    (bitWord n p).getLsbD k = (decide (k < n) && p k) := by
  rw [bitWord, word, BitVec.getLsbD_ofNat, (testBit_bitSum p n).2]
  by_cases hk : k < n
  · rw [decide_eq_true (Nat.lt_of_lt_of_le hk hn), Bool.true_and]
  · simp [hk]

theorem ne_zero_iff_getLsbD (w : Word) : w ≠ 0 ↔ ∃ k, w.getLsbD k = true := by
  constructor
  · intro h
    by_contra hall
    exact h (BitVec.eq_of_getLsbD_eq fun k _ => by simpa using not_exists.mp hall k)
  · rintro ⟨k, hk⟩ rfl
    simp at hk

/-- A line with the enables `e` is asserted by an unmasked cause of an enabled subsystem. -/
theorem line_asserted_iff (t : State) (e : Word) : (t.irqPending &&& e != 0) = true ↔
    ∃ n, 1 ≤ n ∧ n ≤ 21 ∧ t.cause n &&& t.rd .IRQ_CAUSE_MASK n ≠ 0 ∧ e.getLsbD n = true := by
  rw [bne_iff_ne, ne_zero_iff_getLsbD]
  refine exists_congr fun n => ?_
  simp only [BitVec.getLsbD_and, State.irqPending, getLsbD_bitWord (show 22 ≤ 64 by decide), State.irqLine, Bool.and_eq_true,
    decide_eq_true_eq, bne_iff_ne]
  constructor
  · rintro ⟨⟨hlt, hone, hcause⟩, he⟩
    exact ⟨hone, Nat.le_of_lt_succ hlt, hcause, he⟩
  · rintro ⟨hone, hle, hcause, he⟩
    exact ⟨⟨Nat.lt_succ_of_le hle, hone, hcause⟩, he⟩

/-! ## The queue and the lines after a command (R405–R407, log 2) -/

/-- The lines depend neither on themselves nor on the queue. -/
theorem linesDriven_drivePins (u : State) (q : List Instr) : State.linesDriven { u.drivePins with pending := q } :=
  congrArg₂ Pins.mk ((intN_withQueue u.drivePins q).trans (intN_withPins u _)).symm
    ((stewardInt_withQueue u.drivePins q).trans (stewardInt_withPins u _)).symm

/-- Every next state of a command drives the lines from what it holds, and keeps the queue. -/
theorem exec_next {i : Instr} {s t : State} (h : exec i s = .next t) :
    i.wf = true ∧ t.linesDriven ∧ t.pending = s.pending := by
  rcases exec_shape i s with ⟨u, hu⟩ | ⟨-, hfault⟩
  · obtain ⟨hwf, rfl⟩ := onBlock_next (hu.symm.trans h)
    exact ⟨hwf, linesDriven_drivePins u s.pending, rfl⟩
  · cases hfault.symm.trans h

/-- Settles O5, by what `drivePins` makes of the effect. -/
theorem interruptLinesFollowCauses : Obligations.InterruptLinesFollowCauses := by
  intro i s t h
  obtain ⟨-, hlines, -⟩ := exec_next h
  rw [hlines]
  exact ⟨line_asserted_iff t _, line_asserted_iff t _⟩

/-- Settles O4: a command's outcome takes its queue from the state the command ran on. -/
theorem commandLeavesQueueAlone : Obligations.CommandLeavesQueueAlone :=
  fun _ _ _ h => (exec_next h).2.2

/-! ## A step on a queue of commands (log 2) -/

theorem step_front {s : State} {c : Instr} {rest : List Instr} (h : s.pending = c :: rest) :
    step s = exec c { s with pending := rest } := by
  rw [step, h]

/-- Settles O1: the step's own branch for a queue that is not empty. -/
theorem stepRunsFrontCommand : Obligations.StepRunsFrontCommand := fun _ _ _ => step_front rfl

/-- A well-formed command at the front is run, and leaves the lines driven and the queue's rest. -/
theorem step_front_next {s : State} {c : Instr} {rest : List Instr} (h : s.pending = c :: rest) (hwf : c.wf = true) :
    ∃ t, exec c { s with pending := rest } = .next t ∧ step s = .next t ∧ t.linesDriven ∧ t.pending = rest := by
  obtain ⟨t, ht⟩ := (exec_completes_iff_wf c { s with pending := rest }).1.mpr hwf
  obtain ⟨-, hlines, hqueue⟩ := exec_next ht
  exact ⟨t, ht, (step_front h).trans ht, hlines, hqueue⟩

/-- Settles O6: the cycle of an empty queue drives the lines; otherwise the front command is run and drives them. -/
theorem soundStateStaysSoundUnderStep : Obligations.SoundStateStaysSoundUnderStep := by
  rintro s ⟨-, hwf⟩
  cases hq : s.pending with
  | nil =>
    have hidle : (idle s).pending = [] := hq
    exact ⟨idle s, step_empty hq, ⟨linesDriven_drivePins _ _, by simp [hidle]⟩, hidle⟩
  | cons c rest =>
    rw [hq] at hwf
    obtain ⟨t, -, hstep, hlines, hqueue⟩ := step_front_next hq (hwf c (List.mem_cons_self ..))
    exact ⟨t, hstep, ⟨hlines, fun x hx => hwf x (List.mem_cons_of_mem _ (hqueue ▸ hx))⟩, hqueue⟩

theorem run_succ (M : Host.Core) {s u : M.State} (n : Nat) (h : M.step s = .next u) : M.run (n + 1) s = M.run n u := by
  rw [Host.Core.run, h]

/-- Settles O8, by induction on the commands: each step takes the front one and leaves the rest. -/
theorem queueDrainsInOrder : Obligations.QueueDrainsInOrder := by
  intro cs rest s hwf hq
  induction cs generalizing s with
  | nil => exact ⟨s, rfl, hq, rfl⟩
  | cons c cs ih =>
    obtain ⟨u, hexec, hstep, -, hqueue⟩ := step_front_next hq (hwf c (List.mem_cons_self ..))
    obtain ⟨t, hrun, hrest, horder⟩ := ih u (fun x hx => hwf x (List.mem_cons_of_mem _ hx)) hqueue
    refine ⟨t, ?_, hrest, u, ?_, horder⟩
    · exact (run_succ core cs.length hstep).trans hrun
    · rw [hq]
      exact hexec

end Sys2Proof.Scope

namespace Sys2Proof.Scope

open Sys2Proof Sys2Proof.Machine Sys2Proof.Laws

/-! ## The I3C target (R428, log 78) -/

/-- The registers that the target gives are those of R428 and the three readouts. -/
theorem i3cGives_iff (r : Reg) :
    i3cGives r = true ↔ r ∈ [Reg.GLB_INVENTORY, .LCS_STATE, .SPR_STATUS, .MON_TEMP, .MON_VOLT, .MON_CLOCK] := by
  have h : ∀ r ∈ allRegs, (i3cGives r = true ↔
      r ∈ [Reg.GLB_INVENTORY, .LCS_STATE, .SPR_STATUS, .MON_TEMP, .MON_VOLT, .MON_CLOCK]) := by decide +kernel
  exact h r (mem_allRegs r)

section
variable {s : State} {off : Nat} {r : Reg} {i : Nat} (ha : s.alive = true) (haddr : s.mon.i3cAddr ≠ none) (hoff : off < 2 ^ 24)
include ha haddr hoff

/-- A read through the assigned address leaves the answer for what stands at the offset. -/
theorem leaves_i3cRead : Leaves (.i3cRead off) s (match regAt off with
    | some (r, _) => if i3cGives r then s.emit (.i3cData (if isReadout r ∧ s.pdOn 23 = false then 0 else s.readReg .steward off))
      else s.emit .i3cNack
    | none => s.emit .i3cNack) := by
  refine leaves_effect rfl (decide_eq_true hoff) ha ((if_pos ⟨ha, Option.isSome_iff_ne_none.mpr haddr⟩).trans ?_)
  rfl

theorem leaves_i3cRead_given (hreg : regAt off = some (r, i)) (hgives : i3cGives r = true) : Leaves (.i3cRead off) s
    (s.emit (.i3cData (if isReadout r ∧ s.pdOn 23 = false then 0 else s.readReg .steward off))) := by
  have h := leaves_i3cRead ha haddr hoff
  simp only [hreg] at h
  rwa [if_pos hgives] at h

theorem leaves_i3cRead_nack (h : ∀ r i, regAt off = some (r, i) → i3cGives r = false) :
    Leaves (.i3cRead off) s (s.emit .i3cNack) := by
  have hread := leaves_i3cRead ha haddr hoff
  cases hreg : regAt off with
  | none => simpa only [hreg] using hread
  | some x =>
    simp only [hreg] at hread
    rwa [if_neg (by simp [h x.1 x.2 hreg])] at hread

theorem leaves_i3cWrite (v : Word) : Leaves (.i3cWrite off v) s (s.emit .i3cNack) :=
  leaves_effect rfl (decide_eq_true hoff) ha (if_pos ⟨ha, Option.isSome_iff_ne_none.mpr haddr⟩)

end

/-- Settles O18: each read by the register at its offset, a readout by whether PD23 is on. -/
theorem i3cTargetGivesReadOnlyRegisters : Obligations.I3cTargetGivesReadOnlyRegisters := by
  refine ⟨fun address s ha haddr => leaves_effect rfl (decide_eq_true haddr) ha (if_pos ha),
    fun off s r i ha haddr hoff hreg hr => ?plain, fun off s r i ha haddr hoff hreg hr => ?readout,
    fun off s ha haddr hoff hno => ?other, fun off v s ha haddr hoff => leaves_i3cWrite ha haddr hoff v⟩
  case plain =>
    have hread : isReadout r = false ∧ i3cGives r = true := by
      simp only [List.mem_cons, List.not_mem_nil, or_false] at hr
      rcases hr with rfl | rfl | rfl <;> exact ⟨rfl, rfl⟩
    obtain ⟨hplain, hgives⟩ := hread
    have h := leaves_i3cRead_given ha haddr hoff hreg hgives
    rwa [if_neg (by simp [hplain])] at h
  case readout =>
    have hread : isReadout r = true ∧ i3cGives r = true := by
      simp only [List.mem_cons, List.not_mem_nil, or_false] at hr
      rcases hr with rfl | rfl | rfl <;> exact ⟨rfl, rfl⟩
    obtain ⟨hreadout, hgives⟩ := hread
    have h := leaves_i3cRead_given ha haddr hoff hreg hgives
    cases hon : s.pdOn 23 <;> simpa [hreadout, hon] using h
  case other =>
    refine leaves_i3cRead_nack ha haddr hoff fun r i hreg => Bool.eq_false_iff.mpr fun hgives => ?_
    exact hno r i hreg ((i3cGives_iff r).mp hgives)

end Sys2Proof.Scope

namespace Sys2Proof.Scope

open Sys2Proof Sys2Proof.Machine Sys2Proof.Laws

/-! ## The first element that matches is changed -/

section
variable {α β : Type} {p : α → Bool} {f : α → α}

/-- What the change leaves alone is as it was in every element. -/
theorem map_modifyFirst {g : α → β} (h : ∀ a, g (f a) = g a) (l : List α) : (modifyFirst p f l).map g = l.map g := by
  induction l with
  | nil => rfl
  | cons a l ih =>
    rw [modifyFirst]
    split
    · simp [h]
    · simp [ih]

/-- Where an element matches, the changed list holds the change of one that does. -/
theorem exists_mem_modifyFirst {l : List α} (h : l.any p = true) : ∃ a, p a = true ∧ f a ∈ modifyFirst p f l := by
  induction l with
  | nil => cases h
  | cons a l ih =>
    rw [modifyFirst]
    split
    · rename_i ha
      exact ⟨a, ha, List.mem_cons_self ..⟩
    · rename_i ha
      rw [List.any_cons, Bool.or_eq_true] at h
      obtain ⟨b, hb, hmem⟩ := ih (h.resolve_left ha)
      exact ⟨b, hb, List.mem_cons_of_mem _ hmem⟩

end

/-! ## Records that merge (R412, R413) -/

section
variable {p : Rec → Bool} {r : Rec} {now : Nat} {q : List Rec}

theorem mergeOrAppend_merges (h : q.any p = true) : mergeOrAppend p r now q = modifyFirst p (fun x => x.merge now) q := if_pos h

theorem mergeOrAppend_appends (h : q.any p = false) : mergeOrAppend p r now q = q ++ [r] := if_neg (Bool.eq_false_iff.mp h)

/-- A record of the selected kind stands in the queue afterwards. -/
theorem exists_mem_mergeOrAppend (hr : p r = true) (hp : ∀ x, p (x.merge now) = p x) : ∃ x ∈ mergeOrAppend p r now q, p x = true := by
  cases h : q.any p with
  | true =>
    rw [mergeOrAppend_merges h]
    obtain ⟨x, hx, hmem⟩ := exists_mem_modifyFirst (f := fun x : Rec => x.merge now) h
    exact ⟨_, hmem, (hp x).trans hx⟩
  | false =>
    rw [mergeOrAppend_appends h]
    exact ⟨r, by simp, hr⟩

/-- A record that waits still waits, at most with another event counted. -/
theorem mem_mergeOrAppend {β : Type} {g : Rec → β} (hg : ∀ x : Rec, g (x.merge now) = g x) {x : Rec} (hx : x ∈ q) :
    ∃ y ∈ mergeOrAppend p r now q, g y = g x := by
  have hmap : g x ∈ (mergeOrAppend p r now q).map g := by
    have hq := List.mem_map_of_mem (f := g) hx
    cases h : q.any p with
    | true => rwa [mergeOrAppend_merges h, map_modifyFirst hg]
    | false =>
      rw [mergeOrAppend_appends h, List.map_append]
      exact List.mem_append_left _ hq
  simpa using hmap

/-- A queue with one record for each source keeps one for each source. -/
theorem nodup_sources_mergeOrAppend (hq : (q.map Rec.source).Nodup) :
    ((mergeOrAppend (fun x => x.source == r.source) r now q).map Rec.source).Nodup := by
  cases h : q.any (fun x => x.source == r.source) with
  | true => rwa [mergeOrAppend_merges h, map_modifyFirst (f := fun x : Rec => x.merge now) fun _ => rfl]
  | false =>
    rw [mergeOrAppend_appends h, List.map_append, List.map_singleton, List.nodup_append]
    refine ⟨hq, List.nodup_singleton _, fun a ha b hb => ?_⟩
    obtain ⟨x, hx, rfl⟩ := List.mem_map.mp ha
    have hne := List.any_eq_false.mp h x hx
    rw [List.mem_singleton.mp hb]
    simpa using hne

end

/-! ## Causes that are set stay set while an event is recorded (R407) -/

/-- From `s` to `t` no bit of a cause register is cleared; nor is one at the offset of element 0, which no register has. -/
structure KeepsCauses (s t : State) : Prop where
  bit : ∀ {n b : Nat}, n < 22 → b < 64 → bitOf b (s.rd .IRQ_CAUSE n) = true → bitOf b (t.rd .IRQ_CAUSE n) = true

section
variable {s t u : State}

theorem KeepsCauses.trans (h : KeepsCauses s t) (k : KeepsCauses t u) : KeepsCauses s u :=
  ⟨fun hn hb hbit => k.bit hn hb (h.bit hn hb hbit)⟩

theorem keepsCauses_of_regs_eq (h : t.regs = s.regs) : KeepsCauses s t := ⟨fun _ _ hbit => by rwa [rd_of_regs h]⟩

theorem keepsCauses_ite {c : Prop} [Decidable c] (ht : KeepsCauses s t) (hu : KeepsCauses s u) :
    KeepsCauses s (if c then t else u) := by
  split
  · exact ht
  · exact hu

/-- The event registers but the causes stand above them. -/
theorem keepsCauses_wr (s : State) {r : Reg} (i : Nat) (v : Word) (hr : 0x980000 ≤ (regDef r).base) : KeepsCauses s (s.wr r i v) := by
  refine ⟨fun {n b} hn hb hbit => ?_⟩
  have hcause : regAddr .IRQ_CAUSE n = 0x901000 + 0x10 * n := rfl
  have hbase : (regDef r).base ≤ regAddr r i := Nat.le_add_right ..
  rwa [rd_wr_ne s v (by omega)]

theorem keepsCauses_setCause (s : State) (m c : Nat) : KeepsCauses s (s.setCause m c) := by
  refine ⟨fun {n b} hn hb hbit => ?_⟩
  rw [State.setCause]
  by_cases he : n = m
  · rw [← he, rd_wr_same, bitOf_orBit _ _ hb, hbit, Bool.true_or]
  · have haddr : regAddr .IRQ_CAUSE n ≠ regAddr .IRQ_CAUSE m := by
      simp only [regAddr, regDef]
      omega
    rwa [rd_wr_ne s _ haddr]

theorem keepsCauses_withCause (s : State) (code : Nat) : KeepsCauses s (withCause s code) := by
  unfold withCause
  split
  · exact keepsCauses_setCause ..
  · exact keepsCauses_of_regs_eq rfl

theorem keepsCauses_countOff (s : State) (isError : Bool) : KeepsCauses s (s.countOff isError) := by
  have h : ∀ (v : State) (f : Fld), f.reg = .TRC_OFF_DROPS → KeepsCauses v (v.bump f 0) :=
    fun v f hf => keepsCauses_wr v 0 _ (by rw [hf]; decide)
  cases isError
  · exact h s .TRC_OFF_DROPS_COUNT rfl
  · exact (h s .TRC_OFF_DROPS_COUNT rfl).trans (h _ .TRC_OFF_DROPS_ERRORS rfl)

end

/-! ## What recording an event leaves, class by class (R412, R413, R415) -/

section
variable (s : State) (code slice source : Nat) (detail : Word)

/-- The queue of ERRORs replaced. -/
def withErrors (q : List Rec) : State := { s with crier := { s.crier with errorQ := q } }

/-- The record of an event of class `cls` that occurs now. -/
def eventRecord (cls : EventClass) : Rec := ⟨cls, code, false, slice, source, s.clock.gtb, detail, 1, s.clock.gtb, false⟩

variable {s code slice source}

theorem queueError_taken (h : s.crier.errorQ.any (fun x => x.matches code slice source) = true ∨ s.crier.errorQ.length < 3584) :
    s.queueError code slice source detail = withErrors s (mergeOrAppend (fun x => x.matches code slice source)
      (eventRecord s code slice source detail .error) s.clock.gtb s.crier.errorQ) := if_pos h

/-- Without space the ERRORs of one code share one MERGED record, and LOSS is set. -/
theorem queueError_gathered
    (h : ¬ (s.crier.errorQ.any (fun x => x.matches code slice source) = true ∨ s.crier.errorQ.length < 3584)) :
    s.queueError code slice source detail = (withErrors s (mergeOrAppend (fun x => x.merged && x.code == code)
      { eventRecord s code 0 0xFF detail .error with merged := true } s.clock.gtb s.crier.errorQ)).setCause 0x13 4 := if_neg h

variable (s code slice source)

/-- The latch of a source after another ALARM (R412). -/
def relatched : State :=
  ((s.setFld .TRC_ALARM_CODES_LAST_CODE source code).bump .TRC_ALARM_CODES_COUNT source).wr .TRC_ALARM_LAST_GTB source (word s.clock.gtb)

/-- The queue of ALARMs replaced. -/
def withAlarms (q : List Rec) : State := { s with crier := { s.crier with alarmQ := q } }

/-- What an ALARM leaves of its source's latch. -/
def alarmLatched : State :=
  if s.fld .TRC_ALARM_CODES_PENDING source = 0 then latched s code slice source detail else relatched s code source

/-- An ALARM is recorded in its source's latch, and while PD23 is on in the queue. -/
theorem queueAlarm_eq : s.queueAlarm code slice source detail =
    if (alarmLatched s code slice source detail).pdOn 23 then
      withAlarms (alarmLatched s code slice source detail) (mergeOrAppend (fun x => x.source == source)
        (eventRecord s code slice source detail .alarm) s.clock.gtb (alarmLatched s code slice source detail).crier.alarmQ)
    else alarmLatched s code slice source detail := rfl

/-- A LOG or TRACE is dropped, counted at its source with LOSS set, or it is the last record of its queue. -/
theorem queueLog_cases (trace : Bool) :
    (∃ c : Crier, s.queueLog trace code slice source detail = (({ s with crier := c } : State).bump
      (if trace then .TRC_DROP_TRACE else .TRC_DROP_LOG) source).setCause 0x13 4 ∧ c.logQ = s.crier.logQ) ∨
    ∃ c : Crier, s.queueLog trace code slice source detail = { s with crier := c } ∧ (trace = false →
      c.logQ.getLast? = some (eventRecord s code slice source detail .log) ∧ s.crier.logQ.length < 836) := by
  unfold State.queueLog
  cases trace <;> simp only [Bool.false_eq_true, if_true, if_false] <;> split
  case false.isTrue => exact .inl ⟨_, rfl, rfl⟩
  case false.isFalse hspace =>
    simp only [not_or, decide_eq_true_eq, Nat.not_le] at hspace
    exact .inr ⟨_, rfl, fun _ => ⟨List.getLast?_concat .., hspace.2⟩⟩
  case true.isTrue => exact .inl ⟨_, rfl, rfl⟩
  case true.isFalse => exact .inr ⟨_, rfl, nofun⟩

end

/-! ### The causes (R407) -/

section
variable {s : State} (code slice source : Nat) (detail : Word)

theorem keepsCauses_queueError : KeepsCauses s (s.queueError code slice source detail) := by
  have herrors : ∀ q, KeepsCauses s (withErrors s q) := fun q => keepsCauses_of_regs_eq rfl
  by_cases h : s.crier.errorQ.any (fun x => x.matches code slice source) = true ∨ s.crier.errorQ.length < 3584
  · rw [queueError_taken detail h]
    exact herrors _
  · rw [queueError_gathered detail h]
    exact (herrors _).trans (keepsCauses_setCause ..)

theorem keepsCauses_queueAlarm : KeepsCauses s (s.queueAlarm code slice source detail) := by
  have hwr : ∀ r : Reg, 0x980000 ≤ (regDef r).base → ∀ {u : State} {v : Word}, KeepsCauses u (u.wr r source v) :=
    fun r hr u v => keepsCauses_wr u source v hr
  have hlatch : KeepsCauses s (alarmLatched s code slice source detail) :=
    keepsCauses_ite ((((hwr .TRC_ALARM_CODES (by decide)).trans (hwr .TRC_ALARM_FIRST_GTB (by decide))).trans
        (hwr .TRC_ALARM_LAST_GTB (by decide))).trans (hwr .TRC_ALARM_DETAIL (by decide)))
      (((hwr .TRC_ALARM_CODES (by decide)).trans (hwr .TRC_ALARM_CODES (by decide))).trans (hwr .TRC_ALARM_LAST_GTB (by decide)))
  rw [queueAlarm_eq]
  exact keepsCauses_ite (hlatch.trans (keepsCauses_of_regs_eq rfl)) hlatch

theorem keepsCauses_queueLog (trace : Bool) : KeepsCauses s (s.queueLog trace code slice source detail) := by
  rcases queueLog_cases s code slice source detail trace with ⟨c, h, -⟩ | ⟨c, h, -⟩
  all_goals
    rw [h]
    have hcrier : KeepsCauses s { s with crier := c } := keepsCauses_of_regs_eq rfl
  · exact (hcrier.trans (keepsCauses_wr _ _ _ (by cases trace <;> decide))).trans (keepsCauses_setCause ..)
  · exact hcrier

/-- Once its cause is set, recording an event by its class clears none. -/
theorem keepsCauses_recorded (s : State) (cls : EventClass) : KeepsCauses (withCause s code) (s.raise cls code slice source detail) := by
  cases cls with
  | alarm => exact keepsCauses_queueAlarm ..
  | error => exact keepsCauses_ite (keepsCauses_queueError ..) (keepsCauses_countOff ..)
  | log => exact keepsCauses_ite (keepsCauses_queueLog ..) (keepsCauses_countOff ..)
  | trace =>
    exact keepsCauses_ite (keepsCauses_ite (keepsCauses_queueLog ..) (keepsCauses_countOff ..)) (keepsCauses_of_regs_eq rfl)

/-- Each cause bit of R408 is below 8. -/
theorem causeOfCode_bit (code : Nat) : ∀ x ∈ causeOfCode code, x.2 < 64 := by
  unfold causeOfCode
  repeat refine forall_mem_ite_some (by decide) ?_
  nofun

theorem cause_raise (s : State) (cls : EventClass) {n b : Nat} (h : causeOfCode code = some (n, b)) :
    bitOf b ((s.raise cls code slice source detail).rd .IRQ_CAUSE n) = true := by
  have hb := causeOfCode_bit code _ h
  refine (keepsCauses_recorded code slice source detail s cls).bit (Nat.lt_succ_of_le (causeOfCode_range code _ h).2) hb ?_
  rw [withCause, h]
  exact bitOf_setCause s n hb

end

/-! ### The class of a raised event (R407, R415) -/

section
variable (s : State) (code slice source : Nat) (detail : Word)

theorem keepsRegs_setCause_only (s : State) {n : Nat} (b : Nat) (h : 1 ≤ n ∧ n ≤ 21) : KeepsRegs [.IRQ_CAUSE] s (s.setCause n b) :=
  keepsRegs_wr s _ (List.mem_singleton_self _) (regIdxOk_irqCause h)

theorem keepsRegs_withCause_only : KeepsRegs [.IRQ_CAUSE] s (withCause s code) := by
  unfold withCause
  split
  · rename_i n b h
    exact keepsRegs_setCause_only s b (causeOfCode_range code (n, b) h)
  · exact KeepsRegs.refl ..

theorem onlyRegs_withCause : OnlyRegs s (withCause s code) := by
  unfold withCause
  split
  · exact onlyRegs_wr ..
  · exact OnlyRegs.refl s

@[simp] theorem withCause_crier : (withCause s code).crier = s.crier := by rw [onlyRegs_withCause s code]

@[simp] theorem withCause_clock : (withCause s code).clock = s.clock := by rw [onlyRegs_withCause s code]

@[simp] theorem withCause_pdOn (n : Nat) : (withCause s code).pdOn n = s.pdOn n :=
  congrArg (bitOf n) ((keepsRegs_withCause_only s code).rd rfl (by decide))

theorem raise_alarm : s.raise .alarm code slice source detail = (withCause s code).queueAlarm code slice source detail := rfl

variable {s}

theorem raise_error_on (h : s.pdOn 23 = true) :
    s.raise .error code slice source detail = (withCause s code).queueError code slice source detail :=
  if_pos ((withCause_pdOn s code 23).trans h)

theorem raise_error_off (h : s.pdOn 23 = false) : s.raise .error code slice source detail = (withCause s code).countOff true :=
  if_neg (Bool.eq_false_iff.mp ((withCause_pdOn s code 23).trans h))

theorem raise_log_on (h : s.pdOn 23 = true) :
    s.raise .log code slice source detail = (withCause s code).queueLog false code slice source detail :=
  if_pos ((withCause_pdOn s code 23).trans h)

theorem raise_log_off (h : s.pdOn 23 = false) : s.raise .log code slice source detail = (withCause s code).countOff false :=
  if_neg (Bool.eq_false_iff.mp ((withCause_pdOn s code 23).trans h))

theorem raise_trace_disabled (h : bitOf (code / 256) (s.rd .TRC_TRACE_EN 0) = false) :
    s.raise .trace code slice source detail = withCause s code :=
  if_neg (Bool.eq_false_iff.mp ((congrArg (bitOf (code / 256)) ((keepsRegs_withCause_only s code).rd rfl (by decide))).trans h))

end

/-! ### The latch of an ALARM (R412) -/

section
variable (s : State) {code slice source : Nat} (detail : Word)

/-- A field that saturates after a count. -/
theorem fld_bump_same (f : Fld) (i n : Nat) (h : f.hi < 64) :
    (s.bump f i n).fld f i = saturate (f.hi + 1 - f.lo) (s.fld f i + n) := by
  rw [bump_eq, fld_setFld_same _ _ _ _ h]
  exact Nat.mod_eq_of_lt (Nat.lt_of_le_of_lt (Nat.min_le_right ..) (Nat.sub_lt (Nat.two_pow_pos _) Nat.one_pos))

theorem crier_alarmLatched : (alarmLatched s code slice source detail).crier = s.crier := by
  unfold alarmLatched
  split <;> rfl

/-- The word of a latch that an ALARM has reached for the first time. -/
def firstAlarmWord (code slice : Nat) : Word :=
  setBits 63 63 1 (setBits 55 48 slice (setBits 47 32 code (setBits 31 16 code (setBits 15 0 1 0))))

theorem firstAlarmWord_shows (hcode : code < 65536) (hslice : slice < 256) :
    getBits 63 63 (firstAlarmWord code slice) = 1 ∧ getBits 15 0 (firstAlarmWord code slice) = 1 ∧
      getBits 47 32 (firstAlarmWord code slice) = code ∧ getBits 55 48 (firstAlarmWord code slice) = slice := by
  simp (disch := decide) only [firstAlarmWord, getBits_setBits_same, getBits_setBits_other]
  omega

variable (hsource : source < 188)
include hsource

theorem rd_latched : (latched s code slice source detail).rd .TRC_ALARM_CODES source = firstAlarmWord code slice ∧
    (latched s code slice source detail).rd .TRC_ALARM_FIRST_GTB source = word s.clock.gtb ∧
    (latched s code slice source detail).rd .TRC_ALARM_DETAIL source = detail := by
  obtain ⟨hcodes, hfirst, hlast, hdetail, -⟩ := regIdxOk_latch hsource
  refine ⟨?_, ?_, rd_wr_same ..⟩
  · rw [latched, rd_wr_other _ _ (by decide) hcodes hdetail, rd_wr_other _ _ (by decide) hcodes hlast,
      rd_wr_other _ _ (by decide) hcodes hfirst, rd_wr_same]
    rfl
  · rw [latched, rd_wr_other _ _ (by decide) hfirst hdetail, rd_wr_other _ _ (by decide) hfirst hlast, rd_wr_same]

/-- A further ALARM replaces the last code and time, and counts. -/
theorem relatched_shows (hcode : code < 65536) :
    (relatched s code source).fld .TRC_ALARM_CODES_PENDING source = s.fld .TRC_ALARM_CODES_PENDING source ∧
    (relatched s code source).fld .TRC_ALARM_CODES_COUNT source = min (s.fld .TRC_ALARM_CODES_COUNT source + 1) 65535 ∧
    (relatched s code source).fld .TRC_ALARM_CODES_FIRST_CODE source = s.fld .TRC_ALARM_CODES_FIRST_CODE source ∧
    (relatched s code source).fld .TRC_ALARM_CODES_LAST_CODE source = code ∧
    (relatched s code source).rd .TRC_ALARM_FIRST_GTB source = s.rd .TRC_ALARM_FIRST_GTB source ∧
    (relatched s code source).rd .TRC_ALARM_LAST_GTB source = word s.clock.gtb := by
  obtain ⟨hcodes, hfirst, hlast, -, -⟩ := regIdxOk_latch hsource
  have htime : KeepsRegs [.TRC_ALARM_LAST_GTB] ((s.setFld .TRC_ALARM_CODES_LAST_CODE source code).bump .TRC_ALARM_CODES_COUNT source)
      (relatched s code source) := keepsRegs_wr _ _ (List.mem_singleton_self _) hlast
  have hword : ∀ f : Fld, f.reg = .TRC_ALARM_CODES → (relatched s code source).fld f source =
      ((s.setFld .TRC_ALARM_CODES_LAST_CODE source code).bump .TRC_ALARM_CODES_COUNT source).fld f source :=
    fun f hf => htime.fld (by rw [hf]; exact hcodes) (by rw [hf]; decide)
  refine ⟨?_, ?_, ?_, ?_, ?_, rd_wr_same ..⟩
  · rw [hword _ rfl]
    simp (disch := decide) only [bump_eq, fld_setFld_other]
  · rw [hword _ rfl, fld_bump_same _ _ _ _ (by decide)]
    simp (disch := decide) only [fld_setFld_other]
    rfl
  · rw [hword _ rfl]
    simp (disch := decide) only [bump_eq, fld_setFld_other]
  · rw [hword _ rfl]
    simp (disch := decide) only [bump_eq, fld_setFld_other, fld_setFld_same]
    exact Nat.mod_eq_of_lt hcode
  · rw [htime.rd hfirst (by decide), bump_eq]
    exact (rd_wr_other _ _ (by decide) hfirst hcodes).trans (rd_wr_other _ _ (by decide) hfirst hcodes)

theorem keepsRegs_alarmLatched : KeepsRegs eventRegs s (alarmLatched s code slice source detail) := by
  obtain ⟨hcodes, hfirst, hlast, hdetail, -⟩ := regIdxOk_latch hsource
  exact keepsRegs_ite ((((keepsRegs_wr _ _ (by decide) hcodes).trans (keepsRegs_wr _ _ (by decide) hfirst)).trans
      (keepsRegs_wr _ _ (by decide) hlast)).trans (keepsRegs_wr _ _ (by decide) hdetail))
    (((keepsRegs_setFld _ (f := .TRC_ALARM_CODES_LAST_CODE) _ (by decide) hcodes).trans
      (keepsRegs_setFld _ (f := .TRC_ALARM_CODES_COUNT) _ (by decide) hcodes)).trans (keepsRegs_wr _ _ (by decide) hlast))

/-- The latches of the other sources keep their words. -/
theorem rd_alarmLatched_ne {x : Nat} (hne : x ≠ source) (hx : x < 188) :
    (alarmLatched s code slice source detail).rd .TRC_ALARM_CODES x = s.rd .TRC_ALARM_CODES x := by
  obtain ⟨hcodes, hfirst, hlast, hdetail, -⟩ := regIdxOk_latch hsource
  have hxcodes := (regIdxOk_latch hx).1
  have hown : ∀ (u : State) (v : Word), (u.wr .TRC_ALARM_CODES source v).rd .TRC_ALARM_CODES x = u.rd .TRC_ALARM_CODES x :=
    fun u v => rd_wr_ne u v fun he => hne (regAddr_inj hxcodes hcodes he)
  unfold alarmLatched
  split
  · rw [latched, rd_wr_other _ _ (by decide) hxcodes hdetail, rd_wr_other _ _ (by decide) hxcodes hlast,
      rd_wr_other _ _ (by decide) hxcodes hfirst, hown]
  · rw [relatched, rd_wr_other _ _ (by decide) hxcodes hlast]
    exact (hown _ _).trans (hown _ _)

end

section
variable {s : State} {code slice source : Nat} (detail : Word)

theorem regs_queueAlarm :
    (s.queueAlarm code slice source detail).regs = (alarmLatched s code slice source detail).regs := by
  rw [queueAlarm_eq]
  split <;> rfl

theorem alarmQ_queueAlarm (hsource : source < 188) (h : s.pdOn 23 = true) : (s.queueAlarm code slice source detail).crier.alarmQ =
    mergeOrAppend (fun x => x.source == source) (eventRecord s code slice source detail .alarm) s.clock.gtb s.crier.alarmQ := by
  have hpd : (alarmLatched s code slice source detail).pdOn 23 = true :=
    (congrArg (bitOf 23) ((keepsRegs_alarmLatched s detail hsource).rd rfl (by decide))).trans h
  rw [queueAlarm_eq, if_pos hpd, crier_alarmLatched]
  rfl

variable (hsource : source < 188)
include hsource

/-- The first ALARM of an acknowledged latch (R412). -/
theorem alarm_first (hcode : code < 65536) (hslice : slice < 256) (h : s.fld .TRC_ALARM_CODES_PENDING source = 0) :
    (s.raise .alarm code slice source detail).fld .TRC_ALARM_CODES_PENDING source = 1 ∧
    (s.raise .alarm code slice source detail).fld .TRC_ALARM_CODES_COUNT source = 1 ∧
    (s.raise .alarm code slice source detail).fld .TRC_ALARM_CODES_FIRST_CODE source = code ∧
    (s.raise .alarm code slice source detail).fld .TRC_ALARM_CODES_SLICE source = slice ∧
    (s.raise .alarm code slice source detail).rd .TRC_ALARM_FIRST_GTB source = word s.clock.gtb ∧
    (s.raise .alarm code slice source detail).rd .TRC_ALARM_DETAIL source = detail := by
  have hpending := ((keepsRegs_withCause_only s code).fld (f := .TRC_ALARM_CODES_PENDING) (regIdxOk_latch hsource).1 (by decide)).trans h
  have hregs : (s.raise .alarm code slice source detail).regs = (latched (withCause s code) code slice source detail).regs :=
    regs_queueAlarm_first code slice detail hpending
  obtain ⟨hword, hfirst, hdetail⟩ := rd_latched (code := code) (slice := slice) (withCause s code) detail hsource
  obtain ⟨hset, hone, hfirstCode, hsl⟩ := firstAlarmWord_shows hcode hslice
  rw [withCause_clock] at hfirst
  have hfld : ∀ f : Fld, f.reg = .TRC_ALARM_CODES → (s.raise .alarm code slice source detail).fld f source =
      getBits f.hi f.lo (firstAlarmWord code slice) := fun f hf => by
    rw [fld_of_regs hregs, ← hword, ← hf]
    rfl
  exact ⟨(hfld _ rfl).trans hset, (hfld _ rfl).trans hone, (hfld _ rfl).trans hfirstCode, (hfld _ rfl).trans hsl,
    (rd_of_regs hregs ..).trans hfirst, (rd_of_regs hregs ..).trans hdetail⟩

/-- A further ALARM before the latch is acknowledged (R412). -/
theorem alarm_again (hcode : code < 65536) (h : s.fld .TRC_ALARM_CODES_PENDING source = 1) :
    (s.raise .alarm code slice source detail).fld .TRC_ALARM_CODES_PENDING source = 1 ∧
    (s.raise .alarm code slice source detail).fld .TRC_ALARM_CODES_COUNT source = min (s.fld .TRC_ALARM_CODES_COUNT source + 1) 65535 ∧
    (s.raise .alarm code slice source detail).fld .TRC_ALARM_CODES_FIRST_CODE source = s.fld .TRC_ALARM_CODES_FIRST_CODE source ∧
    (s.raise .alarm code slice source detail).fld .TRC_ALARM_CODES_LAST_CODE source = code ∧
    (s.raise .alarm code slice source detail).rd .TRC_ALARM_FIRST_GTB source = s.rd .TRC_ALARM_FIRST_GTB source ∧
    (s.raise .alarm code slice source detail).rd .TRC_ALARM_LAST_GTB source = word s.clock.gtb := by
  obtain ⟨hcodes, hfirst, -⟩ := regIdxOk_latch hsource
  have hkept := keepsRegs_withCause_only s code
  have hword : ∀ f : Fld, f.reg = .TRC_ALARM_CODES → (withCause s code).fld f source = s.fld f source :=
    fun f hf => hkept.fld (by rw [hf]; exact hcodes) (by rw [hf]; decide)
  have hne : (withCause s code).fld .TRC_ALARM_CODES_PENDING source ≠ 0 := by
    rw [hword _ rfl, h]
    decide
  have hregs : (s.raise .alarm code slice source detail).regs = (relatched (withCause s code) code source).regs := by
    rw [raise_alarm, regs_queueAlarm, alarmLatched, if_neg hne]
  have hshows := relatched_shows (withCause s code) hsource hcode
  rw [hword _ rfl, hword _ rfl, hword _ rfl, hkept.rd hfirst (by decide), withCause_clock, h] at hshows
  simpa only [fld_of_regs hregs, rd_of_regs hregs] using hshows

theorem alarm_other {x : Nat} (hne : x ≠ source) (hx : x < 188) :
    (s.raise .alarm code slice source detail).rd .TRC_ALARM_CODES x = s.rd .TRC_ALARM_CODES x := by
  rw [raise_alarm, rd_of_regs (regs_queueAlarm detail), rd_alarmLatched_ne _ _ hsource hne hx]
  exact (keepsRegs_withCause_only s code).rd (regIdxOk_latch hx).1 (by decide)

/-- While PD23 is on an ALARM waits as a record, one for each source, and none that waits is lost (R412). -/
theorem alarm_waits (h : s.pdOn 23 = true) : (∃ r ∈ (s.raise .alarm code slice source detail).crier.alarmQ, r.source = source) ∧
    ((s.crier.alarmQ.map Rec.source).Nodup → ((s.raise .alarm code slice source detail).crier.alarmQ.map Rec.source).Nodup) ∧
    ∀ r ∈ s.crier.alarmQ, ∃ r' ∈ (s.raise .alarm code slice source detail).crier.alarmQ, r'.source = r.source ∧ r'.code = r.code ∧
      r'.first = r.first := by
  rw [raise_alarm, alarmQ_queueAlarm detail hsource ((withCause_pdOn s code 23).trans h), withCause_crier]
  refine ⟨?_, nodup_sources_mergeOrAppend (r := eventRecord (withCause s code) code slice source detail .alarm), fun r hr => ?_⟩
  · simpa only [beq_iff_eq] using
      exists_mem_mergeOrAppend (p := fun x : Rec => x.source == source) (by simp [eventRecord]) fun _ => rfl
  · simpa only [Prod.mk.injEq] using mem_mergeOrAppend (g := fun x : Rec => (x.source, x.code, x.first)) (fun _ => rfl) hr

end

/-! ### ERRORs and LOGs while PD23 is on, and off (R413, R415) -/

section
variable {s : State} (code slice source : Nat) (detail : Word)

/-- An ERROR merges, takes an entry of its own, or is gathered with those of its code. -/
theorem error_on (h : s.pdOn 23 = true) :
    ((∃ r ∈ s.crier.errorQ, r.matches code slice source = true) → (s.raise .error code slice source detail).crier.errorQ =
      modifyFirst (fun r => r.matches code slice source) (fun r => r.merge s.clock.gtb) s.crier.errorQ) ∧
    ((∀ r ∈ s.crier.errorQ, r.matches code slice source = false) →
      (s.crier.errorQ.length < 3584 → (s.raise .error code slice source detail).crier.errorQ =
        s.crier.errorQ ++ [⟨.error, code, false, slice, source, s.clock.gtb, detail, 1, s.clock.gtb, false⟩]) ∧
      (3584 ≤ s.crier.errorQ.length →
        (∃ r ∈ (s.raise .error code slice source detail).crier.errorQ, r.merged = true ∧ r.code = code) ∧
        bitOf 4 ((s.raise .error code slice source detail).rd .IRQ_CAUSE 0x13) = true)) := by
  rw [raise_error_on code slice source detail h]
  refine ⟨fun hmatch => ?merges, fun hnone => ?_⟩
  case merges =>
    have hany : (withCause s code).crier.errorQ.any (fun x => x.matches code slice source) = true := by
      simpa only [withCause_crier, List.any_eq_true] using hmatch
    rw [queueError_taken detail (.inl hany), withErrors, mergeOrAppend_merges hany, withCause_crier, withCause_clock]
  have hany : (withCause s code).crier.errorQ.any (fun x => x.matches code slice source) = false := by
    simpa only [withCause_crier, List.any_eq_false, Bool.not_eq_true] using hnone
  refine ⟨fun hspace => ?appends, fun hfull => ?gathers⟩
  case appends =>
    rw [queueError_taken detail (.inr (by rwa [withCause_crier])), withErrors, mergeOrAppend_appends hany, withCause_crier,
      eventRecord, withCause_clock]
  case gathers =>
    rw [queueError_gathered detail (by rw [hany, withCause_crier]; simpa using hfull)]
    refine ⟨?_, bitOf_setCause _ _ (by decide)⟩
    obtain ⟨x, hx, hgathered⟩ := exists_mem_mergeOrAppend (p := fun x : Rec => x.merged && x.code == code)
      (r := { eventRecord (withCause s code) code 0 0xFF detail .error with merged := true })
      (now := (withCause s code).clock.gtb) (q := (withCause s code).crier.errorQ) (by simp [eventRecord]) fun _ => rfl
    exact ⟨x, hx, by simpa only [Bool.and_eq_true, beq_iff_eq] using hgathered⟩

/-- What counting a dropped event leaves (R415). -/
theorem countOff_shows (s : State) (isError : Bool) : (s.countOff isError).crier = s.crier ∧
    (s.countOff isError).fld .TRC_OFF_DROPS_ERRORS =
      (if isError then min (s.fld .TRC_OFF_DROPS_ERRORS + 1) 0xFFFFFFFF else s.fld .TRC_OFF_DROPS_ERRORS) ∧
    (s.countOff isError).fld .TRC_OFF_DROPS_COUNT = min (s.fld .TRC_OFF_DROPS_COUNT + 1) 0xFFFFFFFF := by
  have hcount : (s.bump .TRC_OFF_DROPS_COUNT 0).fld .TRC_OFF_DROPS_COUNT = min (s.fld .TRC_OFF_DROPS_COUNT + 1) 0xFFFFFFFF :=
    fld_bump_same s .TRC_OFF_DROPS_COUNT 0 1 (by decide)
  have herrors : (s.bump .TRC_OFF_DROPS_COUNT 0).fld .TRC_OFF_DROPS_ERRORS = s.fld .TRC_OFF_DROPS_ERRORS :=
    fld_setFld_other _ _ _ _ _ rfl (by decide)
  cases isError
  · exact ⟨rfl, herrors, hcount⟩
  · refine ⟨rfl, ?_, (fld_setFld_other _ .TRC_OFF_DROPS_ERRORS .TRC_OFF_DROPS_COUNT _ _ rfl (by decide)).trans hcount⟩
    exact (fld_bump_same _ .TRC_OFF_DROPS_ERRORS 0 1 (by decide)).trans (by rw [herrors]; rfl)

/-- While PD23 is off an ERROR and a LOG are counted (R415). -/
theorem dropped_off (h : s.pdOn 23 = false) :
    (s.raise .error code slice source detail).crier = s.crier ∧
    (s.raise .error code slice source detail).fld .TRC_OFF_DROPS_ERRORS = min (s.fld .TRC_OFF_DROPS_ERRORS + 1) 0xFFFFFFFF ∧
    (s.raise .error code slice source detail).fld .TRC_OFF_DROPS_COUNT = min (s.fld .TRC_OFF_DROPS_COUNT + 1) 0xFFFFFFFF ∧
    (s.raise .log code slice source detail).crier = s.crier ∧
    (s.raise .log code slice source detail).fld .TRC_OFF_DROPS_ERRORS = s.fld .TRC_OFF_DROPS_ERRORS ∧
    (s.raise .log code slice source detail).fld .TRC_OFF_DROPS_COUNT = min (s.fld .TRC_OFF_DROPS_COUNT + 1) 0xFFFFFFFF := by
  have hcounts : ∀ f : Fld, f.reg = .TRC_OFF_DROPS → (withCause s code).fld f = s.fld f :=
    fun f hf => (keepsRegs_withCause_only s code).fld (by rw [hf]; rfl) (by rw [hf]; decide)
  obtain ⟨hcrier, herrors, hcount⟩ := countOff_shows (withCause s code) true
  obtain ⟨hcrier', herrors', hcount'⟩ := countOff_shows (withCause s code) false
  rw [raise_error_off code slice source detail h, raise_log_off code slice source detail h]
  rw [withCause_crier] at hcrier hcrier'
  rw [hcounts _ rfl] at herrors hcount herrors' hcount'
  exact ⟨hcrier, herrors, hcount, hcrier', herrors', hcount'⟩

/-- While PD23 is on a LOG is the last of its queue, or is dropped and counted at its source (R415). -/
theorem log_on (h : s.pdOn 23 = true) (hsource : source < 188) :
    ((s.raise .log code slice source detail).crier.logQ.getLast? =
        some ⟨.log, code, false, slice, source, s.clock.gtb, detail, 1, s.clock.gtb, false⟩ ∧ s.crier.logQ.length < 836 ∧
        (s.raise .log code slice source detail).fld .TRC_DROP_LOG source = s.fld .TRC_DROP_LOG source ∨
      (s.raise .log code slice source detail).crier.logQ = s.crier.logQ ∧
        (s.raise .log code slice source detail).fld .TRC_DROP_LOG source = min (s.fld .TRC_DROP_LOG source + 1) 0xFFFFFFFF ∧
        bitOf 4 ((s.raise .log code slice source detail).rd .IRQ_CAUSE 0x13) = true) := by
  have hdrop := (regIdxOk_latch hsource).2.2.2.2
  have hkept : (withCause s code).fld .TRC_DROP_LOG source = s.fld .TRC_DROP_LOG source :=
    (keepsRegs_withCause_only s code).fld hdrop (by decide)
  rw [raise_log_on code slice source detail h]
  rcases queueLog_cases (withCause s code) code slice source detail false with ⟨c, heq, hlogs⟩ | ⟨c, heq, hqueued⟩ <;> rw [heq]
  · refine .inr ⟨hlogs.trans (by rw [withCause_crier]), ?_, bitOf_setCause _ _ (by decide)⟩
    rw [(keepsRegs_setCause_only _ 4 (by decide)).fld hdrop (by decide), ← hkept]
    exact fld_bump_same _ .TRC_DROP_LOG source 1 (by decide)
  · obtain ⟨hlast, hlength⟩ := hqueued rfl
    rw [eventRecord, withCause_clock] at hlast
    rw [withCause_crier] at hlength
    exact .inl ⟨hlast, hlength, hkept⟩

theorem log_full (h : s.pdOn 23 = true) (hfull : s.crier.logQ.length ≥ 836) :
    (s.raise .log code slice source detail).crier.logQ = s.crier.logQ := by
  rw [raise_log_on code slice source detail h]
  rcases queueLog_cases (withCause s code) code slice source detail false with ⟨c, heq, hlogs⟩ | ⟨c, -, hqueued⟩
  · rw [heq]
    exact hlogs.trans (by rw [withCause_crier])
  · have hlength := (hqueued rfl).2
    rw [withCause_crier] at hlength
    omega

end

/-- Settles O57: a raised event sets its code's cause, then is recorded by its class. -/
theorem raisedEventsAreRecordedByClass : Obligations.RaisedEventsAreRecordedByClass := by
  refine ⟨fun s cls code sl src d => ⟨onlyEvents_raise .., fun n b h _ => cause_raise code sl src d s cls h,
      fun n b hn hb hbit _ => ((keepsCauses_withCause s code).trans (keepsCauses_recorded code sl src d s cls)).bit hn hb hbit⟩,
    fun s code sl src d hsrc hcode hsl => ⟨alarm_first d hsrc hcode hsl, alarm_again d hsrc hcode, fun x => alarm_other d hsrc,
      alarm_waits d hsrc⟩,
    fun s code sl src d _ => error_on code sl src d, fun s code sl src d => dropped_off code sl src d,
    fun s code sl src d hon hsrc => ⟨log_on code sl src d hon hsrc, log_full code sl src d hon⟩, fun s code sl src d h => ?_⟩
  rw [raise_trace_disabled code sl src d h, withCause_crier]

end Sys2Proof.Scope

namespace Sys2Proof.Scope

open Sys2Proof Sys2Proof.Machine Sys2Proof.Laws

/-! ## The record that a ring writes next (R411, R412, R414, R416) -/

section
variable {s : State} {r : Rec} {q : List Rec}

theorem nextRecord_alarm (h : s.crier.alarmQ = r :: q) : s.nextRecord 0 = some (r, { s.crier with alarmQ := q }) := by
  simp [State.nextRecord, h]

/-- Without an ALARM the oldest ERROR is next, once its hold has passed. -/
theorem nextRecord_error (halarm : s.crier.alarmQ = []) (h : s.crier.errorQ = r :: q) : s.nextRecord 0 =
    if r.held = true ∨ min 1000 (s.fld .TRC_CTL_HOLD_US) = 0 then some (r, { s.crier with errorQ := q }) else none := by
  simp [State.nextRecord, State.holdUs, halarm, h]

theorem nextRecord_log (h : s.crier.logQ = r :: q) : s.nextRecord 1 = some (r, { s.crier with logQ := q }) := by
  simp [State.nextRecord, h]

theorem nextRecord_trace (h : s.crier.traceQ = r :: q) : s.nextRecord 2 = some (r, { s.crier with traceQ := q }) := by
  simp [State.nextRecord, h]

end

/-! ### A record counts as written (R416) -/

section
variable (s : State) (i : Nat)

/-- A record counted at its ring, whose HEAD advances; the time of the first since the cause bit was cleared is kept. -/
def recordCounted : State :=
  { s.setFld .TRC_RING_HEAD_INDEX i (ringNext (ringSize 6 16 (s.rd .TRC_RING_BASE i)) (s.fld .TRC_RING_HEAD_INDEX i)) with
    crier := { s.crier with
      written := mapSet 0 s.crier.written i (mapGet 0 s.crier.written i + 1)
      writtenAt := mapSet 0 s.crier.writtenAt i
        (if mapGet 0 s.crier.written i + 1 = 1 then s.clock.gtb else mapGet 0 s.crier.writtenAt i) } }

theorem crierWritten_eq : s.crierWritten i =
    if (recordCounted s i).fld .TRC_CTL_IRQ_THRESHOLD ≤ mapGet 0 s.crier.written i + 1 then
      (recordCounted s i).setCause 0x13 (1 + i)
    else recordCounted s i := rfl

theorem crierWritten_crier : (s.crierWritten i).crier = (recordCounted s i).crier := by
  rw [crierWritten_eq]
  split <;> rfl

theorem crierWritten_hif : (s.crierWritten i).hif = s.hif := by
  rw [crierWritten_eq]
  split <;> rfl

variable {s i}

theorem crierWritten_first (h : mapGet 0 s.crier.written i = 0) : mapGet 0 (s.crierWritten i).crier.writtenAt i = s.clock.gtb := by
  rw [crierWritten_crier]
  exact (mapGet_mapSet_same ..).trans (if_pos (by rw [h]))

variable (hi : i < 3)
include hi

theorem threshold_recordCounted : (recordCounted s i).fld .TRC_CTL_IRQ_THRESHOLD = s.fld .TRC_CTL_IRQ_THRESHOLD :=
  fld_setFld_ne s .TRC_RING_HEAD_INDEX .TRC_CTL_IRQ_THRESHOLD _
    (regAddr_ne (by decide) rfl (by simp only [regIdxOk_iff, regDef]; omega))

theorem crierWritten_cause (h : s.fld .TRC_CTL_IRQ_THRESHOLD ≤ mapGet 0 s.crier.written i + 1) :
    bitOf (1 + i) ((s.crierWritten i).rd .IRQ_CAUSE 0x13) = true := by
  rw [crierWritten_eq, if_pos (by rwa [threshold_recordCounted hi])]
  exact bitOf_setCause _ _ (by omega)

end

/-! ### Writing it (R411, R426) -/

section
variable {s : State} {i size h : Nat} {r : Rec} {c : Crier}

/-- Where record `h` of the ring stands. -/
def recordAt (s : State) (i h : Nat) : Nat := getBits 63 12 (s.rd .TRC_RING_BASE i) * 4096 + 32 * h

theorem writeRecord_disabled (hsize : ringSize 6 16 (s.rd .TRC_RING_BASE i) = none) : s.writeRecord i = s := by
  simp only [State.writeRecord, hsize]

variable (hsize : ringSize 6 16 (s.rd .TRC_RING_BASE i) = some size) (hrec : s.nextRecord i = some (r, c))
include hsize hrec

theorem writeRecord_full (hslot : ringSlot size (s.fld .TRC_RING_HEAD_INDEX i) (s.fld .TRC_RING_TAIL_INDEX i)
    (s.inFlight (fun u => decide (u = .crier i))) = none) : s.writeRecord i = s := by
  simp only [State.writeRecord, hsize, hrec, hslot]

variable (hslot : ringSlot size (s.fld .TRC_RING_HEAD_INDEX i) (s.fld .TRC_RING_TAIL_INDEX i)
  (s.inFlight (fun u => decide (u = .crier i))) = some h)
include hslot

/-- A ring in host memory takes a record by a posted write. -/
theorem writeRecord_host (htarget : bitOf 5 (s.rd .TRC_RING_BASE i) = false) : s.writeRecord i =
    ({ s with crier := c } : State).postWrite (.crier i) (recordAt s i h) none r.words := by
  simp only [State.writeRecord, hsize, hrec, hslot, htarget]
  rfl

/-- A ring in the Steward's memory takes it at once. -/
theorem writeRecord_steward (htarget : bitOf 5 (s.rd .TRC_RING_BASE i) = true) : s.writeRecord i =
    (({ s with crier := c } : State).emit (.stewardWrite (recordAt s i h) r.words)).crierWritten i := by
  simp only [State.writeRecord, hsize, hrec, hslot, htarget]
  rfl

/-- A record that is written leaves its queue. -/
theorem writeRecord_queues : (s.writeRecord i).crier.alarmQ = c.alarmQ ∧ (s.writeRecord i).crier.errorQ = c.errorQ := by
  cases htarget : bitOf 5 (s.rd .TRC_RING_BASE i) with
  | false =>
    rw [writeRecord_host hsize hrec hslot htarget]
    exact ⟨rfl, rfl⟩
  | true =>
    rw [writeRecord_steward hsize hrec hslot htarget, crierWritten_crier]
    exact ⟨rfl, rfl⟩

theorem writeRecord_steward_shows (hi : i < 3) (htarget : bitOf 5 (s.rd .TRC_RING_BASE i) = true) :
    (s.writeRecord i).hif = s.hif ∧
      (s.writeRecord i).fld .TRC_RING_HEAD_INDEX i = (s.fld .TRC_RING_HEAD_INDEX i + 1) % size := by
  rw [writeRecord_steward hsize hrec hslot htarget, crierWritten_hif, fld_crierWritten _ hi]
  exact ⟨rfl, congrArg (fun n => ringNext n (s.fld .TRC_RING_HEAD_INDEX i)) hsize⟩

end

/-- The words of a record hold its fields (R410). -/
theorem recWords_show (r : Rec) (hcode : r.code < 65536) (hslice : r.slice < 256) (hsource : r.source < 256)
    (hcount : r.count < 2 ^ 32) :
    getBits 63 48 (r.words.getD 0 0) = r.code ∧ getBits 47 46 (r.words.getD 0 0) = EventClass.code r.cls ∧
    getBits 39 32 (r.words.getD 0 0) = r.slice ∧ getBits 31 24 (r.words.getD 0 0) = r.code / 256 ∧
    getBits 23 16 (r.words.getD 0 0) = r.source ∧ r.words.getD 1 0 = word r.first ∧ r.words.getD 2 0 = r.detail ∧
    getBits 63 32 (r.words.getD 3 0) = r.count ∧ getBits 31 0 (r.words.getD 3 0) = r.last % 2 ^ 32 ∧ r.words.length = 4 := by
  have hclass : EventClass.code r.cls < 4 := by cases r.cls <;> decide
  simp (disch := decide) only [Rec.words, List.getD_cons_zero, List.getD_cons_succ, getBits_setBits_same, getBits_setBits_other,
    List.length_cons, List.length_nil, true_and, and_true]
  omega

/-! ## The Bell's commands and the Crier's timers (R408, R412, R414, R416) -/

section
variable {s : State}

/-- An acknowledged latch. -/
def acknowledged (s : State) (l : Nat) : State := (s.setFld .TRC_ALARM_CODES_PENDING l 0).setFld .TRC_ALARM_CODES_COUNT l 0

theorem acknowledged_shows (s : State) (l : Nat) :
    (acknowledged s l).fld .TRC_ALARM_CODES_PENDING l = 0 ∧ (acknowledged s l).fld .TRC_ALARM_CODES_COUNT l = 0 ∧
    (acknowledged s l).fld .TRC_ALARM_CODES_FIRST_CODE l = s.fld .TRC_ALARM_CODES_FIRST_CODE l ∧
    (acknowledged s l).fld .TRC_ALARM_CODES_LAST_CODE l = s.fld .TRC_ALARM_CODES_LAST_CODE l := by
  simp (disch := decide) only [acknowledged, fld_setFld_same, fld_setFld_other, Nat.zero_mod, and_self]

theorem sameRegsBut_acknowledged (s : State) (l : Nat) : SameRegsBut [regAddr .TRC_ALARM_CODES l] s (acknowledged s l) := by
  intro off hoff d
  have hne : off ≠ regAddr .TRC_ALARM_CODES l := fun he => hoff (List.mem_singleton.mpr he)
  exact (mapGet_mapSet_ne _ _ _ _ hne).trans (mapGet_mapSet_ne _ _ _ _ hne)

theorem leaves_alarmAck {path : Path} {l : Nat} (hr : s.isReady = true) (hp : pathOk path = true) (hl : l < 188) :
    Leaves (.alarmAck path l) s (acknowledged s l) := leaves_taken rfl (and_ok hp (decide_eq_true hl)) hr hp rfl

/-- A command that changes registers only answers a state that differs in them and the lines. -/
theorem answers_onlyRegs {i : Instr} {u : State} {P : State → Prop} (h : Leaves i s u) (hu : OnlyRegs s u)
    (hp : ∀ t, LeftBy u t → P t) : Answers i s (fun t => P t ∧ t = { s with regs := t.regs, pins := t.pins }) := by
  refine ⟨_, h, hp _ (leftBy_drivePins u s.pending), ?_⟩
  rw [hu]
  rfl

theorem leaves_crierRecordWrite_off {i : Nat} (hi : i < 3) (h : s.pdOn 23 = false) : Leaves (.crierRecordWrite i) s s :=
  leaves_nothing (congrArg (onUnit s _) (if_neg fun hon => by rw [h] at hon; exact Bool.false_ne_true hon.2)) (decide_eq_true hi)

theorem leaves_ringIrqTimer_none {i : Nat} (hi : i < 3) (h : mapGet 0 s.crier.written i = 0) : Leaves (.ringIrqTimer i) s s :=
  leaves_nothing (congrArg (onUnit s _) (if_neg (by omega))) (decide_eq_true hi)

/-- The oldest ERROR that is held is released. -/
def holdEnded (u : State) : State := { u with crier := { u.crier with
  errorQ := modifyFirst (fun x => !x.held) (fun x => { x with held := true }) u.crier.errorQ } }

theorem holdEnded_errorQ (u : State) : (holdEnded u).crier.errorQ =
    modifyFirst (fun x => !x.held) (fun x => { x with held := true }) u.crier.errorQ := rfl

theorem holdEnded_alarmQ (u : State) : (holdEnded u).crier.alarmQ = u.crier.alarmQ := rfl

theorem errorHoldExpired_answers {r : Rec} (ha : s.alive = true) (h : s.crier.errorQ.find? (fun x => !x.held) = some r) :
    Answers .errorHoldExpired s (fun t =>
      t.clock = (s.advanceTo (r.first + 1000 * min 1000 (s.fld .TRC_CTL_HOLD_US))).clock ∧
      t.crier.errorQ = modifyFirst (fun x => !x.held) (fun x => { x with held := true }) s.crier.errorQ ∧
      t.crier.alarmQ = s.crier.alarmQ) := by
  have hleaves : Leaves .errorHoldExpired s (holdEnded (s.advanceTo (r.first + 1000 * s.holdUs))) := leaves_errorHoldExpired ha h
  refine answers_of_leaves hleaves fun t ht => ?_
  have hcrier : t.crier = (holdEnded (s.advanceTo (r.first + 1000 * s.holdUs))).crier := (congrArg State.crier ht :)
  have htime : (s.advanceTo (r.first + 1000 * s.holdUs)).crier = s.crier := advance_crier ..
  rw [hcrier, holdEnded_errorQ, holdEnded_alarmQ, htime]
  exact ⟨(congrArg State.clock ht :), rfl, rfl⟩

end

/-- Settles O58: the next record by the queues, its write by the ring's slot and target, each command by its effect. -/
theorem crierRingsLatchesAndTheTestCause : Obligations.CrierRingsLatchesAndTheTestCause := by
  refine ⟨fun path s hr hp => ⟨leaves_taken rfl hp hr hp rfl, leaves_taken rfl hp hr hp rfl⟩, fun path l s hr hp hl => ?acknowledge,
    fun i s hi ha hon => leaves_crierRecordWrite ha hi hon, fun i s hi hoff => leaves_crierRecordWrite_off hi hoff,
    fun s r q => ⟨nextRecord_alarm, nextRecord_error, nextRecord_log, nextRecord_trace⟩,
    fun s i size r c hi hsize hrec => ⟨fun h hslot => ?write, writeRecord_full hsize hrec⟩, fun s i => writeRecord_disabled,
    recWords_show, fun r s => errorHoldExpired_answers,
    fun i s hi => ⟨fun ha hwritten => leaves_ringIrqTimer ha hi hwritten, leaves_ringIrqTimer_none hi⟩,
    fun s i hi => crierWritten_cause hi, fun s i _ => crierWritten_first, fun path i v s hr hp hi hv => ?tail⟩
  case acknowledge =>
    obtain ⟨hpending, hcount, hfirst, hlast⟩ := acknowledged_shows s l
    obtain ⟨t, hexec, hshows, hframe⟩ := answers_onlyRegs (leaves_alarmAck hr hp hl)
      ((onlyRegs_wr s ..).trans (onlyRegs_wr ..)) (fun t ht => And.intro ht ht.regs)
    obtain ⟨ht, hregs⟩ := hshows
    refine ⟨t, hexec, (ht.fld ..).trans hpending, (ht.fld ..).trans hcount, (ht.fld ..).trans hfirst, (ht.fld ..).trans hlast,
      fun off hoff d => ?_, hframe⟩
    rw [hregs]
    exact sameRegsBut_acknowledged s l off hoff d
  case write =>
    obtain ⟨halarms, herrors⟩ := writeRecord_queues hsize hrec hslot
    refine ⟨halarms, herrors, fun htarget => ?_, writeRecord_steward_shows hsize hrec hslot hi⟩
    rw [writeRecord_host hsize hrec hslot htarget]
    exact ⟨rfl, rfl⟩
  case tail =>
    exact ⟨leaves_taken rfl (and_ok (and_ok hp (decide_eq_true hi)) (decide_eq_true hv)) hr hp rfl,
      (fld_setFld_same s .TRC_RING_TAIL_INDEX i v (by decide)).trans (Nat.mod_eq_of_lt hv)⟩

end Sys2Proof.Scope
